-- ==== Sys2Proof/Word.lean ====
section
/-! DEFINITION. The word types of the module and their plainest arithmetic. -/

namespace Sys2Proof

/-- A 32-bit register of the diagnostic window. -/
abbrev Word := BitVec 32

/-- A byte of memory. -/
abbrev Byte := BitVec 8

/-- One of the four actuators A0 to A3 (R3), and of the engines that carry its index (R7). -/
abbrev Act := Fin 4

/-- One of the two host ports P0 and P1, and of the controllers behind them (R6). -/
abbrev Port := Fin 2

/-- One of the 24 surface positions S00 to S23 (R4). -/
abbrev Surf := Fin 24

end Sys2Proof
end

