-- ==== Sys2Proof/Config.lean ====
section
/-! DEFINITION. What is fixed outside the state: the free values the spec leaves open, the names of the image
settings, and the shapes of the image, the firmware part, the package and the calibration record. -/

namespace Sys2Proof

namespace Config

/-- A value the spec leaves open. The step applies it to the state's counter of free values, so that each use is a
fresh value about which nothing can be proved (log entry 1). -/
opaque freeValue : Nat → Nat

/-- The region class of a DRAM address, 0 to 5 (R677): the spec names the content of each class and gives none an address. -/
opaque dramClass : Nat → Fin 6

/-- The first of the seven consecutive powers of 2 that are the roots of the DRAM code (R689), which the spec does not give. -/
opaque dramFirstRoot : Nat

/-- What the decoder of a DRAM line makes of a codeword with five bad symbols or more (R690): the spec promises detection of four. -/
opaque dramMisread : Nat → Option (Nat × Fin 4)

/-- The boot ROM's content, which the spec does not list, by offset (R36). -/
opaque bootRomByte : Nat → Nat

/-- SHA-384 of a message of a length in bytes (R51, R90). The spec names the function and defines none of its values. -/
opaque sha384 (bytes msg : Nat) : Nat

/-- ECDSA P-384 verification of a signature over a digest under a public key (R51, R90). -/
opaque ecdsaVerify (key digest sig : Nat) : Bool

/-- The SHA-384 digest of the boot ROM's content (R91). -/
opaque bootRomDigest : Nat

/-- The digest of the Birgeash firmware key held in fuses (R90): an implementation's constant. -/
opaque birgeashKey : Nat

/-- AES-256-XTS of a data unit (R87): encryption and decryption, of a length in bytes, a 512-bit key, a 128-bit tweak and the unit.
The spec names the cipher and lists none of its values: nothing is known of the pair but that decryption undoes encryption, and
that a unit's ciphertext has the unit's length. -/
opaque xts : { p : (Nat → Nat → Nat → Nat → Nat) × (Nat → Nat → Nat → Nat → Nat) //
    ∀ n k t x, p.2 n k t (p.1 n k t x) = x ∧ (x < 2 ^ (8 * n) → p.1 n k t x < 2 ^ (8 * n)) } :=
  ⟨⟨fun _ _ _ x => x, fun _ _ _ x => x⟩, fun _ _ _ _ => ⟨rfl, id⟩⟩

/-- The key-encryption key that is derived from the fused device secret (R88). -/
opaque deviceKek : Nat → Nat

/-- The device metadata key (R87), from the fused device secret. -/
opaque metadataKey : Nat → Nat

/-- Draw number n of the deterministic random bit generator (R88). -/
opaque drbg : Nat → Nat

/-- AES-256 key wrap under a key-encryption key, and its unwrapping (R88), of which nothing is known but that unwrapping undoes it. -/
opaque keyWrap : { p : (Nat → Nat → Nat) × (Nat → Nat → Nat) // ∀ k x, p.2 k (p.1 k x) = x } :=
  ⟨⟨fun _ x => x, fun _ x => x⟩, fun _ _ => rfl⟩

/-- The hash by which key possession is proved for factory unlock (R92). -/
opaque possessionProof (keyHash challenge response : Nat) : Bool

/-- The torque in 10^-15 N·m that 1 mA of phase current gives at a back-EMF constant `SPD.KE` (R159, R161): the spec
takes the torque constant from `SPD.KE` and gives no formula. -/
opaque torqueConstant : Nat → Nat

/-- The electrical angle, in 1/65536, of a flux given by its projections on the three phase axes (R151, R152): SPE's arithmetic is
not in the spec. -/
opaque fluxAngle (a b c : Int) : Nat

/-- By how much the torque reference may rise in one control step after a catch, less one, in 10^-15 N·m (R162): the spec says that
it rises from 0 and gives no rate. -/
opaque torqueRise : Nat

/-- A sine of amplitude 2^15, by its phase in 1/65536 (R221). -/
opaque sine (phase : Nat) : Int

/-- The frequency in 0.1 Hz of a logarithmic sweep from 10 Hz to an end frequency, at wedge n of a sweep of N wedges (R221). -/
opaque sweepFreq (n total half : Nat) : Nat

/-- Bit n of the pseudo-random binary sequence of length 2^15 − 1 (R221), whose polynomial the spec does not give. -/
opaque prbs (n : Nat) : Bool

/-- State i of a law reinitialised from the model's states (R226): the spec does not say how. -/
opaque lawState (model : List Nat) (i : Nat) : Nat

/-- The model-estimated milliactuator displacement that the servo law takes as its second input (R191): from
`SRV.MA_GAIN`, the model states and the last milliactuator command, as binary32 patterns; the spec gives no formula. -/
opaque milliDisplacement (gain : Nat) (model : List Nat) (cmd : Nat) : Nat

/-- The Birgeash base microprogram: the word at a control-store address (R328). -/
opaque baseProgram : Nat → Nat

/-- The base program's dispatch entries (R330, R368). -/
opaque baseDispatch : Nat → Nat

/-- The sample that a replay slot holds at an index: of a channel, a slot, the number of the read that filled it, and
the index (R325). What the reader gave is not in the spec. -/
opaque replaySample (act slot filled idx : Nat) : Nat

/-- An address of the preamp's own register map (R249): 0 and 1 the biases of reader L and T, 2 the write current, 3 the status, 4 and
5 the assist and heater settings. Address 0 is the safe-state register, so that the map lies above it. -/
opaque preampReg (n : Nat) : Nat

/-- The wavelength of the 2T preamble in a recording zone, in 0.01 nm (R256): it depends on the zone's radius, which the spec does not
give. -/
opaque preambleWave (baud zone : Nat) : Nat

/-- The first row of a circulant of the LDPC code's generator (R290), 128 bits: for a parity circulant and an information circulant. The
spec gives the code's dimensions and not its matrix. -/
opaque ldpcCirculant (parity info : Nat) : Nat

/-- The estimated access time of a media request (R554): from the present head and track to the request's; the servo
model's seek time and the rotational wait are not given as numbers. -/
opaque accessTime (act head track toHead toTrack first at_ : Nat) : Nat

/-- The frame-table entry that firmware builds for a sector position of an unskewed track of a recording zone (R330): START_WEDGE,
START_OFS, SPLITS and SPLIT_BIT. How far before a wedge a frame pauses and after it resumes is not in the spec, so neither is where a
position lies; the track's skew, DEFECT and LAST are computed. -/
opaque frameEntry (zone position : Nat) : Nat

/-- GAP of a recording zone's frame table (R330), which the same margins fix. -/
opaque frameGap (zone : Nat) : Nat

/-- A distance along the track in nm expressed in bits of a recording zone (R288): it depends on the zone's radius, which
the spec does not give. -/
opaque zoneBits (nm baud zone : Nat) : Nat

/-- The number of SRAM banks of the arrays that R686 describes as built: the spec gives 1 per 16 KiB and no sizes. -/
opaque otherSramBanks : Nat

/-- The header of a request of a port that a command does not give (R516, log entry 165), by the time at which it came. -/
opaque tlpHeader (port at_ : Nat) : Nat

/-- The 64-bit module identifier burnt into the fuses (R503). -/
opaque moduleId : Nat

/-- A byte of a firmware part's code, by the part's digest and offset (R58): the spec lists no code. -/
opaque firmwareByte (digest off : Nat) : Nat

/-- A byte of sector 0 of a bank, by what the descriptor holds and the offset (R59): the spec gives the descriptor's content and not its
layout. -/
opaque descriptorByte (seq : Option Nat) (revoke : Nat) (bad : List (Nat × Nat)) (repairs off : Nat) : Nat

/-- A byte of a sector whose program or erase was cut (R68), by the bank, the address and the operation's time. -/
opaque tornByte (bank addr : Nat) : Nat

end Config

/-- The record types of R49. -/
inductive RecordType where
  | header
  | platform
  | heads
  | format
  | servo
  | spindle
  | assist
  | channel
  | overlay
  | translation
  | nand
  | host
  | memory
  | recorder
  | thermal
  | nimbus
  | security
  | calibration
  deriving DecidableEq, Repr

/-- An image setting: one field of one record of the image, under the manual's name `REC.FIELD` with the point
written as an underscore. -/
inductive Setting where
  | HDR_IMAGE_ID
  | HDR_IMAGE_VER
  | HDR_IMAGE_LEN
  | HDR_FW_MIN
  | HDR_KEY_SLOT
  | HDR_PUBKEY
  | HDR_SIG
  | PLT_SURFACES
  | PLT_ACTUATORS
  | PLT_ASSIST
  | PLT_PLATTERS
  | PLT_NATIVE_GB
  | PLT_MODEL
  | PLT_SERIAL
  | SEC_SVN
  | SEC_UNLOCK_EN
  | SEC_UNLOCK_MIN
  | SEC_FMT_CRYPTO
  | SEC_UNLOCK_KEY
  | SPD_SET_RPM
  | SPD_POLE_PAIRS
  | SPD_FALLBACK
  | SPD_R_LL
  | SPD_L_LL
  | SPD_KE
  | SPD_INERTIA
  | SPD_SPINUP_PMAX
  | SPD_SPINUP_TMAX
  | SPD_HANDOVER
  | SPD_IPH_MAX
  | SPD_MIN_WINDOW
  | SPD_FLUX_BAND
  | SPD_TORQUE_BAND
  | SPD_FW_MIN
  | SPD_FW_IDMAX
  | SPD_KP
  | SPD_KI
  | SPD_EDGE_STEPS
  | SPD_UNLOAD_ERR
  | SPD_PLAUS_LIM
  | SPD_PLAUS_N
  | SPD_ZC_LOSS
  | SPD_CATCH_MIN
  | SPD_BRAKE_PMAX
  | SPD_CLAMP_TEST_H
  | SPD_SHORT_IMAX
  | SRV_WEDGES
  | SRV_VCM_IMAX
  | SRV_MA_VMAX
  | SRV_MA_GAIN
  | SRV_STROKE_TRK
  | SRV_SERVO_RATIO
  | SRV_WU_ZONES
  | SRV_WU_CLEAR
  | SRV_WU_TH
  | SRV_RD_TH
  | SRV_SETTLE_N
  | SRV_RDSETTLE_N
  | SRV_PLAUS_LIM
  | SRV_PLAUS_CONSEC
  | SRV_PLAUS_WIN
  | SRV_INT_LIM_VCM
  | SRV_INT_LIM_MA
  | SRV_RET_BEMF
  | SRV_RET_IMAX
  | SRV_LOAD_BEMF
  | SRV_COIL_R
  | SRV_TBL0_LOOP
  | SRV_TBL0_INDEX
  | SRV_TBL1_LOOP
  | SRV_TBL1_INDEX
  | SRV_XFF_EN
  | SRV_CTRL_N
  | SRV_INT_IDX_VCM
  | SRV_INT_IDX_MA
  | SRV_NOTCH
  | SRV_SEEK_IMAX
  | SRV_RRO_MU
  | SRV_TBL0
  | SRV_TBL1
  | HDS_HEAD_OFS
  | HDS_RDL_DT
  | HDS_RDT_DT
  | HDS_RDT_XT
  | HDS_BIAS_L
  | HDS_BIAS_T
  | HDS_HTR_MAX
  | HDS_CLR_TGT
  | HDS_ASSIST_MAX
  | HDS_LTH_NOM
  | HDS_JOG
  | HDS_IW
  | HDS_ASSIST_NOM
  | ASR_DB
  | ASR_STEP_UP
  | ASR_STEP_DN
  | ASR_TRIM_SAT
  | ASR_TRIM_MAX
  | ASR_PREHEAT
  | ASR_HTR_DB
  | ASR_HTR_STEP
  | ASR_TD_BACKOFF
  | ASR_TD_MAX
  | ASR_VFAIL_N
  | ASR_TC
  | ASR_THR_INTV_H
  | ASR_AG_LEAD
  | CHN_PRE_BITS
  | CHN_PAD_BITS
  | CHN_PM_W
  | CHN_PM_PAT
  | CHN_SM_PAT
  | CHN_PM_ERR
  | CHN_SM_ERR
  | CHN_WIDE_W
  | CHN_SM_W
  | CHN_OTF_ITER
  | CHN_DEEP_ITER
  | CHN_RETRY_REVS
  | CHN_RR_OFS
  | CHN_RAW_MODE
  | CHN_RAW_MARGIN
  | CHN_RAW_RETRY
  | CHN_TA_TH
  | CHN_DEF_TH
  | CHN_DEF_N
  | CHN_FREEZE_HOLD
  | CHN_MU_GAIN
  | CHN_MU_OFS
  | CHN_MU_ASYM
  | CHN_MU_FIR
  | CHN_MU_TR
  | CHN_SLOT_RSV
  | CHN_CTLE_BOOST
  | CHN_CTLE_FC
  | CHN_FIR_INIT
  | TSO_IFACE
  | TSO_WORDS
  | TSO_SG_LEAD
  | TSO_DISPATCH
  | TSO_WORD
  | FMT_RPM
  | FMT_ZONES
  | FMT_BAND_TRK
  | FMT_TRACKS
  | FMT_CAL_TRK
  | FMT_SKEW_TRK
  | FMT_SKEW_HEAD
  | FMT_Z_TRACK
  | FMT_Z_BAUD
  | FMT_Z_SPT
  | FMT_Z_GAP
  | FMT_Z_SPARE_BANDS
  | FMT_Z_SPARE_SECT
  | FMT_Z_KIND
  | XLT_MAX_ACTIVE
  | XLT_CONV_WIDTH
  | XLT_CONV_OP
  | XLT_MC_HIGH
  | XLT_MC_LOW
  | XLT_WEAK_RUNG
  | XLT_WEAK_N
  | XLT_RET_DT
  | XLT_RET_H
  | XLT_DIST_LIM
  | XLT_DIST_TRK
  | XLT_COPY_SHARE
  | XLT_COPY_MAX_H
  | XLT_WEAR_SPREAD_H
  | XLT_COLD_H
  | XLT_FR_BANDS
  | XLT_RO_HYST
  | XLT_RUN_WAIT
  | XLT_GC_LOW
  | NND_BYPASS_KIB
  | NND_STAGE_BLOCKS
  | NND_JRNL_BLOCKS
  | NND_SEP_BLOCKS
  | NND_SPARE_PCT
  | NND_WL_SPREAD
  | NND_GC_FREE
  | NND_REFRESH_BE
  | NND_RET_H
  | NND_RT_RETRY
  | NND_CKPT_MIB
  | NND_RT_TABLE
  | HST_SVID
  | HST_SSID
  | HST_MAX_RATE
  | HST_MAX_WIDTH
  | HST_PORTS
  | HST_CLKREQ
  | HST_L1_IDLE_US
  | HST_LTR_ACTIVE_US
  | HST_LTR_IDLE_US
  | HST_FETCH_KEPS
  | HST_FETCH_BURST
  | HST_MRRS_CAP
  | HST_TAG_MODE
  | HST_ATS
  | HST_WAKE_EN
  | THR_T1
  | THR_T2
  | THR_T3
  | THR_HYST
  | THR_TOK1
  | THR_TOK2
  | THR_CAP_PS
  | THR_RESUME_C
  | THR_RESUME_S
  | THR_DRAM_MAX
  | THR_NAND_MAX
  | THR_PREAMP_MAX
  | THR_ASSIST_H
  | THR_WRITER_H
  | THR_ITH_RISE
  | THR_CLR_DRIFT
  | THR_RDR_DRIFT
  | THR_COIL_RISE
  | THR_PIVOT_RISE
  | THR_SPN_RISE
  | THR_DRAM_CE
  | THR_SRAM_CE
  | THR_WINDOW_D
  | REC_RATE
  | REC_BURST
  | REC_FLUSH_SEV
  | REC_OVR_N
  | REC_OVR
  | NIM_EN
  | NIM_SRAM_D
  | NIM_CORE_IDLE_US
  | NIM_MEDIA_IDLE_MS
  | NIM_CORE_INTV_H
  | NIM_LOOP_INTV_H
  | NIM_NAND_PATROL_H
  | NIM_CLR_INTV_H
  | NIM_PATROL_D
  | MEM_CARVE_WAYS
  | MEM_DX_ALIGN_MODE
  | MEM_CMB_KIB
  | MEM_SRAM_SCRUB_S
  | MEM_DRAM_SCRUB_H
  | MEM_POL
  | CHN_PRECOMP1
  | CHN_PRECOMP2
  | SRV_CTRL_A
  | SRV_CTRL_B
  | SRV_CTRL_C
  | SRV_CTRL_D
  | SRV_SAFE_A
  | SRV_SAFE_B
  | SRV_SAFE_C
  | SRV_SAFE_D
  | SRV_SAFE_N
  | SRV_SAFE_INT_VCM
  | SRV_SAFE_INT_MA
  | SRV_MODEL_N
  | SRV_MODEL_A
  | SRV_MODEL_B
  | SRV_MODEL_C
  deriving DecidableEq, Repr

/-- One record of an image (R48). The typed values stand in `Image.vals`; the header's own fields stand here, and the bytes that are
not 0 of those that no field of `Image.vals` covers, by offset. -/
structure ImgRecord where
  type : Nat
  /-- bit 0 CRITICAL -/
  flags : Nat
  major : Nat
  minor : Nat
  length : Nat
  inst : Nat
  rsvd : Nat
  crc : Nat
  extra : List (Nat × Nat)
  deriving DecidableEq, Repr

/-- The record's CRITICAL flag. -/
def ImgRecord.critical (r : ImgRecord) : Bool := decide (r.flags % 2 = 1)

/-- An integrator's image (R48 to R52): its records in order and the settings they carry. A setting is listed under
its constructor's index, its record's instance and its index within the field; an unlisted setting reads as its
default. -/
structure Image where
  records : List ImgRecord
  vals : List (Nat × Int)
  deriving DecidableEq, Repr

/-- A Birgeash firmware part: version coded as in `ID_FWVER`, security version, the oldest firmware that may hand
over to it (R81), the sequencer interface version (R354), the supported record versions as type, major version and the highest minor
version known (R50), its size in bytes, and its digest and signature (R90). -/
structure FwPart where
  version : Nat
  svn : Nat
  minPrior : Nat
  iface : Nat
  majors : List (Nat × Nat × Nat)
  size : Nat
  digest : Nat
  sig : Nat
  deriving DecidableEq, Repr

/-- A firmware-and-image package; either part may be absent. -/
structure Package where
  fw : Option FwPart
  img : Option Image
  deriving DecidableEq, Repr

/-- The calibration record (R74, R75). `vals` lists the items' values by item, subject and index; `accepted` gives
each item's time of last acceptance. `crc` is the header's check word. -/
structure CalRecord where
  crc : Nat
  count : Nat
  time : Nat
  accepted : List (Nat × Nat)
  vals : List (Nat × Int)
  deriving DecidableEq, Repr

end Sys2Proof
end

