-- ==== Sys2Proof/Syntax.lean ====
section
/-! DEFINITION. The commands of the block: one constructor of `Instr` for each row of the opcode table, and the data their
operands carry. A command's operands are what reaches the block from outside with it: a host's fields, a measurement,
or the outcome of something that the spec leaves to the physics (log entry 3). -/

namespace Sys2Proof

/-- Who accesses the register space: a control core over the register ring, or a host through BAR4 of a port. -/
inductive Agent where
  | core
  | port (p : Port)
  deriving DecidableEq, Repr

/-- The 28 engines (R17). -/
inductive Engine where
  | cc (n : Fin 12) | ts (a : Act) | se (a : Act) | spe | ae (a : Act) | le (p : Port) | sv
  deriving DecidableEq, Repr

/-- The obligations of R29 that have a monitor (R31). -/
inductive Obligation where
  | servoStep (a : Act) | milliUpdate (a : Act) | exchange (a : Act)
  | seqReaction (a : Act) | trapEntry (a : Act) | wuToGate (a : Act)
  | spindleStep | assistStep (a : Act) | powerLoss | retract
  deriving DecidableEq, Repr

/-- One measurement of a calibration run (R74, R76): the item's bit, the subject within it (an ADC, a reference, a
sensor, a current sense, the curve, an ordered pair 4·source + target, or a head and zone 64·head + zone), the values
in order, and for a pair the target's PES response to the source's test signal with the new taps and without feed-forward (R200). -/
structure CalResult where
  item : Nat
  subject : Nat
  vals : List Int
  withTaps : Nat
  without : Nat
  deriving DecidableEq, Repr

/-- What the Uluantane die returns to SPE at one control step (R147): the legs whose low side conducted as their current was sampled
(bit 0 phase a), the phase currents, the terminal voltages and the bus voltage as 12-bit codes; and the input power from 12 V, in
0.1 W, that R161 limits. -/
structure SpnSample where
  low : Fin 8
  ia : Fin 4096
  ib : Fin 4096
  ic : Fin 4096
  va : Fin 4096
  vb : Fin 4096
  vc : Fin 4096
  bus : Fin 4096
  power : Nat
  deriving DecidableEq, Repr

/-- What the demodulator and the sense bus give SEa at one wedge (R187 to R190, R202): whether the address mark was
found, index, Gray-coded track and parity bits as read, burst and preamble amplitudes, the burst phase in 1/65536 of a
servo track, the wedge interval in ns, the rotor angle in 1/1024 revolution and its fraction in 1/65536, the measured
coil currents of the four actuators in mA, and the actuator's coil voltage in mV. -/
structure ServoSample where
  mark : Bool
  index : Nat
  gray : Nat
  parity : Nat
  burstN : Nat
  burstQ : Nat
  preamble : Nat
  phase : Nat
  interval : Nat
  angle : Nat
  angleFrac : Nat
  currents : List Int
  coilMv : Int
  deriving DecidableEq, Repr


/-- The bits that the channel detects around a sector's marks (R295, R296, R299): 160 bits from 64 before the primary mark's expected
position, and 144 bits from 64 before the secondary mark's, the first in time most significant; the bits stored before the expected
primary mark, of at most 38,400 in all (R297). Then the thermal asperities and defect regions flagged on each reader (R286). -/
structure MarkScan where
  pm : Nat
  sm : Nat
  lead : Nat
  taL : Nat
  taT : Nat
  defL : Nat
  defT : Nat
  deriving DecidableEq, Repr

/-- What a stripe row belongs to: a zone, a conventional group, or a media-cache row (R428). -/
inductive RowOwner where
  | zone (nsid zslba : Nat)
  | conv (group : Nat)
  | mcache (row : Nat)
  deriving DecidableEq, Repr

/-- A NAND erase on a die (R462, R476, R482): issued to one block of each plane, by its index there, or ended with the planes that
failed. -/
inductive EraseEvent where
  | issue (i0 i1 i2 i3 : Nat)
  | ended (fails : Fin 16)
  deriving DecidableEq, Repr

/-- What the protection-information check of a transfer finds (R573, R589). -/
inductive PiCheck where
  | ok | guard | app | ref
  deriving DecidableEq, Repr


/-- What a DOE object of the SPDM protocols does (R91, R92, R526): it asks for the versions supported, or for a measurement block (0
for their number, 0xFF for all); opens or ends a session; proves possession of the unlock key in one; or has no effect here. -/
inductive SpdmOp where
  | other
  | version
  | measurements (block : Nat)
  | openSession (id : Nat)
  | endSession (id : Nat)
  | unlock (id challenge response : Nat)
  deriving DecidableEq, Repr

/-- Whose data is poisoned (R695): code of an engine; tables; host write data not fully received; the data of a frame left
unwritten, staged in the NAND, mirrored, or with both copies poisoned; host read data; an open row's accumulator, by its place in
the list; the data of a band copy or of a NAND copy, the first time or again. -/
inductive PoisonOwner where
  | code (e : Engine)
  | tables
  | partialWrite (p : Port) (sq cid : Nat)
  | staged
  | mirrored
  | bothCopies
  | readData (p : Port) (sq cid : Nat)
  | openRow (i : Nat)
  | bandCopy (a : Act) (again : Bool)
  | nandCopy (die : Fin 2) (again : Bool)
  deriving DecidableEq, Repr

/-- The commands, each under its row's mnemonic. -/
inductive Instr where
  /-- REGISTER_WRITE (R10): A write to a register field that has no row of its own acts according to the field's access type. -/
  | registerWrite (w : Agent) (off : Nat) (vals : List Word) (hdr : Nat)
  /-- DIAG_ACCESS_BAD_SIZE (R38): A diagnostic-window access of a wrong size or alignment is refused with Unsupported Request, logged in AER and counted in PX_RXERR.UR. -/
  | diagAccessBadSize (p : Port) (write : Bool) (off size : Nat) (hdr : Nat)
  /-- DIAG_WRITE_DISCARDED (R40): A well-formed diagnostic-window write made without factory unlock on its port is discarded and counted in SYS_DIAG_WDROP. -/
  | diagWriteDiscarded (p : Port) (off : Nat) (vals : List Word)
  /-- COUNTER_LOW_READ (R41): A read of the low word of a counter wider than 32 bits latches the high word into the reading port's shadow. -/
  | counterLowRead (p : Port) (off : Nat)
  /-- COUNTER_HIGH_READ (R41): A read of a counter's high word returns the port's shadow if a low-word read preceded it, and otherwise the live high word. -/
  | counterHighRead (p : Port) (off : Nat)
  /-- FAB_RTWAIT_CLR (R46): Writing 1 to FAB_RTWAIT.CLR under factory unlock restarts the record of the longest real-time wait. -/
  | fabRtwaitClr (w : Agent)
  /-- VCORE_SAG (R26): When the core supply has been below 0.63 V for 10 µs, SV deasserts the write gates of all four channels. -/
  | vcoreSag
  /-- VCORE_RESTORED (R26): After the core supply has stayed at or above 0.65 V for 100 µs, SV releases the write gates. -/
  | vcoreRestored
  /-- DEADLINE_MISS (R31): A deadline monitor whose result is late takes its monitor action, counts the miss in SYS_DLMISS and reports it to SV. -/
  | deadlineMiss (o : Obligation)
  /-- ENGINE_WATCHDOG (R32): When an engine's heartbeat stops, SV forces the engine's safe state and then resets, reloads and restarts it. -/
  | engineWatchdog (e : Engine)
  /-- SYS_RATE_REFRESH (R43): Every 1 ms the measured issue rate and the core supply are refreshed in SYS_RATE. -/
  | sysRateRefresh (rate vcore wait : Nat)
  /-- FCS_READ (R66): fcs_read copies bytes from a bank, and it is a bus fault when it targets the bank that is programming or erasing. -/
  | fcsRead (bank : Fin 2) (addr len dst : Nat)
  /-- FCS_PROGRAM (R64): fcs_program checks its request in order and starts a page program or returns an error code. -/
  | fcsProgram (bank : Fin 2) (addr : Nat) (data : List Byte)
  /-- FCS_ERASE (R64): fcs_erase checks its request in order and starts a sector erase or returns an error code. -/
  | fcsErase (bank : Fin 2) (addr : Nat)
  /-- FCS_STATUS (R62): fcs_status returns the FCS state that FCS_STAT reports. -/
  | fcsStatus
  /-- FCS_OPERATION_DONE (R65): A program or erase ends; on a failed verification the sector is remapped to a spare and FCS_VERIFY or FCS_NO_SPARE is returned. -/
  | fcsOperationDone (verified : Bool) (sector : Nat)
  /-- V12_STABLE (R116): When 12 V has been at or above 10.8 V for 100 ms after a HOLDUP without warm return, BOOT starts. -/
  | v12Stable
  /-- AUX_SUPPLY_CHANGE (R717): 3.3 V aux becomes valid or is removed, and the retention domain changes its source accordingly. -/
  | auxSupplyChange (valid : Bool)
  /-- BOOT_START (R69): BOOT begins when 12 V is valid and the auxiliary rail is valid or derived; SV and CC0 start from the boot ROM. -/
  | bootStart (fusesOk bootMemOk : Bool) (dualPort : Bool)
  /-- DRAM_TRAINING_DONE (R72): DRAM training ends, and a failure sends the module into recovery mode. -/
  | dramTrainingDone (ok : Bool)
  /-- BOOT_DESCRIPTORS_READ (R71): Both bank descriptors are read, the candidate bank is chosen and the repair lists are applied. -/
  | bootDescriptorsRead
  /-- BOOT_BANK_VERIFIED (R71): The firmware and image of the chosen bank have been checked; a rejection is recorded and the other candidate is tried. -/
  | bootBankVerified (readOk : Bool)
  /-- ENGINES_START (R70): The engines start, and configuration requests are then answered normally instead of with CRS. -/
  | enginesStart
  /-- BOOT_END (R100): BOOT ends, and the mode passes to SPINUP or to PARK. -/
  | bootEnd
  /-- JOURNAL_REPLAY_DONE (R471): Journal replay from the newest good checkpoint to the seal completes, and any gap is scanned for and recorded. -/
  | journalReplayDone (ms : Nat) (gap : Option Nat)
  /-- HOLDUP_ENTRY (R113): The 12 V comparator trips; the input is isolated, HOLDUP is entered, write gates fall and links go down. -/
  | holdupEntry
  /-- PENDING_LIST_PROGRAMMED (R123): The parity-pending list and the journal head are programmed to the NAND, and the dirty-DRAM flush starts. -/
  | pendingListProgrammed
  /-- HOLDUP_FLUSH_END (R114): The dirty-DRAM flush to the NAND ends, and the Sepia buffer, Device Time and the journal seal follow. -/
  | holdupFlushEnd (energy : Nat) (poisoned : List Nat)
  /-- HOLDUP_SHORTFALL (R120): The rotor falls below 30 % of set speed before the seal; the flush stops at a block boundary and the shortfall is recorded. -/
  | holdupShortfall (blocks energy : Nat)
  /-- HOLDUP_END (R116): The journal is sealed and the outcome recorded; the module makes a warm return or switches off all supplies except the retention domain. -/
  | holdupEnd (energy : Nat)
  /-- SHORT_BRAKE_END (R116): After HOLDUP, the short brake ends when the bus falls below 5.0 V or 1 s has passed, and the bridge floats. -/
  | shortBrakeEnd
  /-- PWDIS_ASSERT (R126): PWDIS has been high for 1 ms, and the orderly power-down through PARK begins. -/
  | pwdisAssert
  /-- PWDIS_DEASSERT (R127): PWDIS is deasserted, and BOOT starts within 1 ms once any power-down in progress has completed. -/
  | pwdisDeassert
  /-- SPINDLE_BELOW_60RPM (R100): The spindle falls below 60 rpm, and the pending transition to PARK completes. -/
  | spindleBelow60rpm
  /-- APST_IDLE_EXPIRY (R108): A controller's APST idle time expires, and its power-state request changes. -/
  | apstIdleExpiry (p : Port)
  /-- DEVICE_TIME_SAVE (R137): The 10-minute timer saves Device Time to the NAND. -/
  | deviceTimeSave
  /-- PENDING_ROW_COMPLETE (R431): The parity tracks of a pending row pass read-after-write, and the row leaves the pending list. -/
  | pendingRowComplete (o : RowOwner) (row : Nat) (lost : List Nat)
  /-- PERST_ASSERT (R515): PERST# is asserted; the port's link goes down and port state resets, or the function part is deferred during an activation. -/
  | perstAssert (p : Port)
  /-- PERST_DEASSERT (R501): PERST# is deasserted, and link training starts. -/
  | perstDeassert (p : Port)
  /-- HOT_RESET (R515): A hot reset is received, and the port acts as for PERST# assertion. -/
  | hotReset (p : Port)
  /-- LINK_DISABLE (R515): Link disable is received; the port resets and its link stays down until the partner re-enables it. -/
  | linkDisable (p : Port)
  /-- INITIATE_FLR (R515): Initiate FLR is written; the function acts as for a clear of Bus Master Enable and then clears its queues. -/
  | initiateFlr (p : Port)
  /-- FLR_COMPLETE (R515): The FLR ends, and configuration requests are answered normally again. -/
  | flrComplete (p : Port)
  /-- CC_EN_SET (R547): CC.EN is written from 0 to 1, and CSTS.RDY becomes 1. -/
  | ccEnSet (p : Port) (ams : Fin 8) (asqSize acqSize : Nat)
  /-- CC_EN_CLEAR (R547): CC.EN is written from 1 to 0; the controller's commands end under R133 and CSTS.RDY becomes 0. -/
  | ccEnClear (p : Port)
  /-- CC_SHUTDOWN (R548): A shutdown notification stops I/O fetch and lets the commands in execution complete. -/
  | ccShutdown (p : Port) (abrupt : Bool)
  /-- SHUTDOWN_DEADLINE (R548): 1 s after a shutdown notification, the commands still running are ended, a checkpoint is written and SHST is set. -/
  | shutdownDeadline (p : Port)
  /-- NVM_SUBSYSTEM_RESET (R547): NSSR.NSSRC written with the key resets both controllers. -/
  | nvmSubsystemReset (p : Port) (key : Word)
  /-- SPINUP_INDUCED_VOLTAGE_MEASURED (R160): After 5 ms of floating measurement at SPINUP entry, SPE catches the motor, short-brakes it or starts from standstill. -/
  | spinupInducedVoltageMeasured (speed : Nat) (crossing : Bool)
  /-- SHORT_BRAKE_STANDSTILL (R160): No zero-crossing has been seen for 100 ms of SHORT, and a start from standstill begins. -/
  | shortBrakeStandstill
  /-- LOCATE_DONE (R161): The six LOCATE test pulses end with the rotor angle found, and FORCED commutation begins. -/
  | locateDone (rises : List Nat)
  /-- SPINDLE_CONTROL_STEP (R152): At each phase-current sample, SPE runs one control step and applies a new switch state. -/
  | spindleControlStep (x : SpnSample)
  /-- SIXSTEP_ZERO_CROSSING (R155): A back-EMF zero-crossing of the floating phase is seen, and the next commutation is timed from it. -/
  | sixstepZeroCrossing (intervalNs floatMv busMv : Nat)
  /-- ZERO_CROSSING_LOST (R165): No zero-crossing is seen within 1.5 expected sectors; after ZC_LOSS losses in a row, the bridge floats and CATCH begins. -/
  | zeroCrossingLost
  /-- CATCH_MEASURED (R162): The catch measurement ends and sets the observer, measures again, or short-brakes to a start from standstill. -/
  | catchMeasured (intervals : List Nat)
  /-- SPINUP_ATTEMPT_TIMEOUT (R163): A spin-up attempt sees no zero-crossing within 3 s or no lock within SPINUP_TMAX, and it fails. -/
  | spinupAttemptTimeout
  /-- SPINUP_RETRY_WAIT_END (R163): The 2 s wait after a failed spin-up attempt ends, and the next attempt starts. -/
  | spinupRetryWaitEnd
  /-- SPEED_ERROR_UNLOAD (R166): The speed error has exceeded UNLOAD_ERR for 20 ms, and SPE requests unload of every loaded actuator. -/
  | speedErrorUnload
  /-- CLAMP_COMPARATOR (R168): The bus crosses 13.6 V or 13.2 V, and the Uluantane comparator closes or opens the clamp switch. -/
  | clampComparator (high : Bool) (busMv : Nat)
  /-- CLAMP_FAULT_TIMEOUT (R170): The bus is still rising 50 µs after the clamp closed; the clamp is declared faulty and SPE brakes in SHORT. -/
  | clampFaultTimeout (rising : Bool) (busMv : Nat)
  /-- CLAMP_TEST (R169): At SPINUP entry or when the interval of hours in RUN and IDLE is reached, the clamp is closed for 20 µs and tested. -/
  | clampTest (currentMa busMv : Nat)
  /-- SPN_BRAKE_TEST (R181): Writing 1 to SPN_BRAKE.TEST under factory unlock starts a clamp test. -/
  | spnBrakeTest (w : Agent)
  /-- BUS_OVERVOLTAGE (R171): The bus exceeds 15.0 V; all switches open and SPE enters COAST. -/
  | busOvervoltage (busMv : Nat)
  /-- BUS_OVERVOLTAGE_CLEARED (R171): The bus has stayed below 14.0 V for 10 ms; SPE resumes braking in SHORT, or catches the motor. -/
  | busOvervoltageCleared (busMv : Nat)
  /-- SPINDLE_OVERCURRENT (R721): A spindle switch carries more than 6.0 A; all switches open, and the motor is caught or, on the third trip in 10 s, left to coast. -/
  | spindleOvercurrent
  /-- SERVO_CONTROL_STEP (R191): At each position sample, SEa runs the control law, feed-forward and plausibility check and issues new commands. -/
  | servoControlStep (a : Act) (x : ServoSample)
  /-- MID_WEDGE_TICK (R193): Half a wedge after each position sample, SEa sets the interpolated milliactuator command. -/
  | midWedgeTick (a : Act)
  /-- LOOP_FAULT_REACQUIRE_TIMEOUT (R210): No re-acquisition is made within 20 ms of a loop fault, and the actuator is unloaded for a reload. -/
  | loopFaultReacquireTimeout (a : Act)
  /-- WRITE_UNSAFE_CLEAR (R207): No cause has held for WU_CLEAR consecutive wedges, and write-unsafe is lowered. -/
  | writeUnsafeClear (a : Act)
  /-- SETTLE_REACHED (R214): PES has stayed below the threshold for the required wedges, and read settle or write settle is reached. -/
  | settleReached (a : Act)
  /-- ACTUATOR_DISPATCH (R554): When Aa becomes free, it takes the next eligible media request in rank order. -/
  | actuatorDispatch (a : Act)
  /-- LOAD_START (R217): The actuator moves off its ramp under back-EMF velocity control and searches for address marks. -/
  | loadStart (a : Act)
  /-- LOAD_WEDGE_LIMIT (R217): No address mark is found within 64 wedge periods, the load fails and the actuator returns to its ramp. -/
  | loadWedgeLimit (a : Act)
  /-- LOAD_RETRY_TIMER (R217): 200 ms after a failed load, the load is tried again. -/
  | loadRetryTimer (a : Act)
  /-- UNLOAD_REQUEST (R218): A normal unload seeks to the outer guard band and climbs the ramp, ending any seek in progress. -/
  | unloadRequest (a : Act)
  /-- UNLOAD_COMPLETE (R218): The actuator is on its ramp after a normal unload. -/
  | unloadComplete (a : Act)
  /-- RETRACT_PARKED (R219): Back-EMF has stayed below 20 % of target for 2 ms at the current limit, and the actuator is declared parked. -/
  | retractParked (a : Act) (bemfMv : Nat)
  /-- RETRACT_LATCH_DONE (R219): After 50 ms of latch seating, the retract controller opens the coil. -/
  | retractLatchDone (a : Act)
  /-- INTERNAL_BUS_LOSS (R219): The internal bus falls below 6.0 V while an actuator is loaded, and retract starts. -/
  | internalBusLoss
  /-- SRV_INJECTION_ENABLE (R234): Writing SRV_INJ_CTL.EN under factory unlock starts test-signal injection in FOLLOW, and write-unsafe is held. -/
  | srvInjectionEnable (w : Agent) (a : Act) (val : Word)
  /-- SRV_CAPTURE_START (R236): Writing 1 to SRV_CAP_CTL.START under factory unlock starts a capture of the chosen signals. -/
  | srvCaptureStart (w : Agent) (a : Act) (val : Word)
  /-- SRV_CAPTURE_FULL (R223): The capture buffer is full; the capture stops, DONE is set and START clears. -/
  | srvCaptureFull (a : Act)
  /-- MILLIACTUATOR_CURRENT_LIMIT (R721): A milliactuator output has been at its current limit for 1 ms; it is held at 0 V with write-unsafe raised. -/
  | milliactuatorCurrentLimit (a : Act)
  /-- PSL_WRITE_FRAME (R244): AEa sends a WRITE frame to a preamp register and checks the acknowledge. -/
  | pslWriteFrame (a : Act) (head addr data : Nat) (ack1 ack2 : Fin 4)
  /-- PSL_READ_FRAME (R244): AEa sends a READ frame and accepts the response when its CRC is correct. -/
  | pslReadFrame (a : Act) (head addr : Nat) (rsp1 rsp2 : Word)
  /-- PSL_FAST_FRAME (R244): AEa sends a FAST frame carrying new assist and heater settings. -/
  | pslFastFrame (a : Act) (head assist heater : Nat) (ack1 ack2 : Fin 4)
  /-- PSL_REINIT (R246): After PSL_SEL# has been high for 1 µs, AEa rewrites every head's settings; three failures make every head write-failed. -/
  | pslReinit (a : Act) (ok : Bool)
  /-- ASSIST_LOOP_STEP (R252): A verify metric arrives, and AEa updates the trim and sends a FAST frame when the setting changes. -/
  | assistLoopStep (a : Act) (ack1 ack2 : Fin 4)
  /-- HEATER_LOOP_STEP (R256): Once per revolution in which the head reads or writes, AEa steps the heater setting toward the target clearance. -/
  | heaterLoopStep (a : Act) (amplL amplT : Nat) (temp : Int) (ack1 ack2 : Fin 4)
  /-- WRITE_READY (R257): The preheat time has elapsed, and AEa reports write ready to TSa. -/
  | writeReady (a : Act)
  /-- WRITE_RETRIM_DONE (R258): The spot re-trim on the calibration track ends; writes resume with the trim chosen, or the head becomes write-failed. -/
  | writeRetrimDone (a : Act) (h : Fin 6) (zone : Nat) (fails : List Nat)
  /-- TOUCHDOWN (R260): The preamp detects contact; the heater is cut, WG and AG fall and the heater settings back off. -/
  | touchdown (a : Act) (h : Fin 6)
  /-- TOUCHDOWN_REAPPLY (R260): After one revolution without contact, the heater settings are reapplied and writes are allowed again. -/
  | touchdownReapply (a : Act) (h : Fin 6)
  /-- PREAMP_FAULT (R262): FLT# goes low; WG and AG fall, the status byte is read and the cause is handled. -/
  | preampFault (a : Act) (h : Fin 6) (status : Fin 256) (readers : Fin 4)
  /-- PREAMP_FAULT_RETRY (R263): One revolution after a retry cause, the head is allowed to write again. -/
  | preampFaultRetry (a : Act) (h : Fin 6)
  /-- PREAMP_SUPPLY_FAULT (R262): A preamp supply is at its limit or out of regulation; writes on the actuator wait. -/
  | preampSupplyFault (a : Act)
  /-- PREAMP_SUPPLY_GOOD (R263): The preamp supply has been good for 1 ms, and writes on the actuator resume. -/
  | preampSupplyGood (a : Act)
  /-- CHANNEL_READY (R284): The retune completes, and channel ready is reported to TSa. -/
  | channelReady (a : Act)
  /-- SECTOR_READ (R295): A read frame starts, and the primary mark is searched for on the fly. -/
  | sectorRead (a : Act) (x : MarkScan)
  /-- FREEZE_HOLD_END (R286): FREEZE_HOLD bits after the flag ended, adaptation of the reader resumes. -/
  | freezeHoldEnd (a : Act)
  /-- ONTHEFLY_DECODE_DONE (R293): The on-the-fly decode ends; the sector is accepted, or it goes to the retry ladder. -/
  | ontheflyDecodeDone (a : Act) (index : Nat) (unsat info : Nat)
  /-- REPLAY_DECODE_DONE (R299): A replay decode of a candidate alignment ends; the sector is accepted, or the next candidate or rung follows. -/
  | replayDecodeDone (a : Act) (index : Nat) (unsat info : Nat)
  /-- DEEP_DECODE_DONE (R300): A deep decoder finishes a candidate and takes the next request. -/
  | deepDecodeDone (d : Fin 2) (unsat info : Nat)
  /-- SECTOR_REREAD (R298): A media re-read of rungs 5 to 7 reads the sector again with the rung's settings. -/
  | sectorReread (a : Act) (index : Nat) (x : MarkScan)
  /-- SECTOR_WRITE (R303): CHa writes a sector frame, or keeps write gate low across it when the data is poisoned. -/
  | sectorWrite (a : Act)
  /-- POISON_OWNER_RECOVERY (R695): The owner of poisoned data recovers it or fails it according to the data's kind. -/
  | poisonOwnerRecovery (o : PoisonOwner) (consumer : Fin 8) (addr : Nat)
  /-- VERIFY_RESULT (R310): Reader T's metric and verify result for a written sector arrive; a failure is queued for rewrite. -/
  | verifyResult (a : Act) (index : Nat) (x : MarkScan) (power err : Nat) (decode : Option (Nat × Nat)) (skipped : Bool)
  /-- CH_SMP_CTL_WRITE (R325): A write to CH_SMP_CTL under factory unlock holds a replay slot or forces single-reader mode. -/
  | chSmpCtlWrite (w : Agent) (a : Act) (val : Word)
  /-- MICROWORD_STEP (R334): TSa executes one microword: it waits, samples its branches, applies its fields and forms the next address. -/
  | microwordStep (a : Act) (dt : Nat) (buf : Fin 8) (lo hi : Nat)
  /-- BIT_TIMER_EXPIRY (R337): BT reaches zero, and the island applies the pending armed set under the gate rules. -/
  | bitTimerExpiry (a : Act)
  /-- FRAME_END (R339): A frame's last bit passes, and the island lowers its gate unless an armed set raises it again. -/
  | frameEnd (a : Act)
  /-- SERVO_PREAMBLE_DUE (R341): A servo preamble is due while RG or WG is high or SG is low; the servo island corrects the gates. -/
  | servoPreambleDue (a : Act)
  /-- WEDGE_TRAP_REQUEST (R342): SG_LEAD before each expected servo preamble, the WEDGE trap is requested. -/
  | wedgeTrapRequest (a : Act)
  /-- TRAP_ENTRY (R343): A pending trap is taken at a word boundary; the PC and loop counters are saved and the vector is entered. -/
  | trapEntry (a : Act)
  /-- STOP_REQUEST (R346): A control core requests a stop, which is taken at the first SAFE word. -/
  | stopRequest (a : Act)
  /-- HARD_STOP (R346): No SAFE point has been reached 50 µs after a stop request; the island cuts the frame and forces the STOP trap. -/
  | hardStop (a : Act)
  /-- SEQUENCER_RESTART (R348): A control core reloads the control store, restarts TSa at dispatch and requeues the job. -/
  | sequencerRestart (a : Act)
  /-- CONTROL_STORE_WRITE (R351): A control core writes the TS control store, which is a bus fault while the sequencer runs. -/
  | controlStoreWrite (a : Act) (word : Fin 4096) (data : BitVec 128)
  /-- WRITE_DATA_RECEIVED (R383): A write's data is fully in DRAM; the write pointer moves and the completion is posted when durable. -/
  | writeDataReceived (p : Port) (sq cid : Nat) (data : List Nat) (poison : Bool) (pi : PiCheck)
  /-- RUN_WAIT_EXPIRY (R380): Part of a data track's data has waited RUN_WAIT ms, and the partial track is written. -/
  | runWaitExpiry (o : RowOwner)
  /-- BAND_COPY_START (R396): A band due for a copy has a target chosen, and copying begins. -/
  | bandCopyStart (a : Act)
  /-- BAND_COPY_COMMIT (R396): Every target track has passed; one journal entry maps the target in place of the source. -/
  | bandCopyCommit (a : Act)
  /-- BAND_COPY_TARGET_FAIL (R397): A copy target fails; it is retired and the copy restarts on the next free band. -/
  | bandCopyTargetFail (a : Act)
  /-- MEDIA_CACHE_DESTAGE (R390): The NAND media-cache share exceeds MC_HIGH, and the oldest cached blocks move to media-cache rows. -/
  | mediaCacheDestage
  /-- CLEANING_MERGE (R391): Cleaning merges an extent's cached blocks and writes the whole extent at the log head. -/
  | cleaningMerge (nsid ext : Nat)
  /-- GROUP_COMPACTION (R391): Free groups are below GC_LOW, and the group with the least valid data is compacted. -/
  | groupCompaction
  /-- WEAR_SPREAD_REFRESH (R400): The hourly refresh recomputes the head-wear spread and starts or ends levelling. -/
  | wearSpreadRefresh
  /-- READ_ONLY_EXIT (R405): Free bands reach the reserve plus hysteresis with the NAND not exhausted, and read-only ends. -/
  | readOnlyExit
  /-- RECONSTRUCTION_SOLVE (R437): All sources of a row are read; the engine solves the missing tracks and checks them. -/
  | reconstructionSolve (id : Nat) (read : List (Nat × Nat))
  /-- ZONE_DESCRIPTOR_CHANGED_NOTICE (R436): A Zone Descriptor Changed notice is sent for the zones whose capacity or recommendation changed. -/
  | zoneDescriptorChangedNotice
  /-- ZONE_REBUILD_COMMIT (R449): A rebuilt zone's new layout has passed, and one journal entry binds it. -/
  | zoneRebuildCommit (nsid k : Nat)
  /-- NAND_PAGE_PROGRAM (R473): A NAND program is checked against the block table in the island and issued or refused. -/
  | nandPageProgram (role : Fin 7) (blk page : Nat) (fails : Fin 16) (scan : Nat) (poison : Option Nat)
  /-- NAND_PAGE_READ (R478): A NAND slot is read with the table offset and retried with further offsets when the decode fails. -/
  | nandPageRead (blk slot : Nat) (tries : List (Nat × Nat))
  /-- NAND_ERASE (R482): A NAND erase is issued, and a read may suspend it once. -/
  | nandErase (die : Fin 2) (ev : EraseEvent)
  /-- GC_START (R474): A die has fewer than GC_FREE free superblocks, and garbage collection copies the superblock with the least valid data. -/
  | gcStart (die : Fin 2)
  /-- GC_COPY_COMMIT (R474): A verified garbage-collection copy moves its map entries in one journal entry. -/
  | gcCopyCommit (die : Fin 2) (errors : Nat)
  /-- GC_TARGET_FAIL (R475): A copy target block fails; it is retired and a replacement in the same plane is filled. -/
  | gcTargetFail (die : Fin 2) (plane : Fin 4) (programFailed : Bool)
  /-- WEAR_LEVEL_MOVE (R477): The erase-count spread exceeds WL_SPREAD, and cold slots are moved to a high-count block. -/
  | wearLevelMove (die : Fin 2)
  /-- BLOCK_REFRESH (R479): A block due for refresh is copied and erased ahead of ordinary garbage collection. -/
  | blockRefresh (die : Fin 2)
  /-- CHECKPOINT_WRITE (R470): CKPT_MIB of journal, or an hour in RUN, triggers a checkpoint on both dies. -/
  | checkpointWrite
  /-- RESERVE_REPLENISH (R466): At RUN after a flush, fresh erased superblocks are taken into the HOLDUP reserve. -/
  | reserveReplenish
  /-- LINK_UP_L0 (R501): Link training reaches L0. -/
  | linkUpL0 (p : Port) (rate : Fin 7) (width : Fin 3) (flit rev : Bool)
  /-- LINK_RATE_CHANGE (R497): The downstream port changes the link rate or width, with equalisation. -/
  | linkRateChange (p : Port) (rate : Fin 7) (width : Fin 3) (flit : Bool)
  /-- CONFIG_READ (R70): A configuration read is answered with CRS before the engines start, and otherwise with the fixed layout. -/
  | configRead (p : Port) (off : Nat)
  /-- CONFIG_WRITE (R503): A configuration write updates the writable capability fields. -/
  | configWrite (p : Port) (off : Nat) (v : Word) (enables : Fin 16)
  /-- BME_CLEAR (R513): Bus Master Enable is cleared; new requests stop, arriving completions are discarded and commands are held. -/
  | bmeClear (p : Port)
  /-- BME_SET (R514): Bus Master Enable returns to 1; held transfers resume and held completions are posted in order. -/
  | bmeSet (p : Port)
  /-- D3HOT_ENTRY (R518): The port enters D3hot and holds its host transfers and completions. -/
  | d3hotEntry (p : Port)
  /-- D3HOT_EXIT (R519): The port returns to D0 and the held traffic resumes. -/
  | d3hotExit (p : Port)
  /-- PME_REPEAT (R519): Every 100 ms until PME_Status is cleared, the PME message is sent again. -/
  | pmeRepeat (p : Port)
  /-- PME_TURN_OFF (R520): PME_Turn_Off is received; fetching stops and PME_TO_Ack is sent within 1 ms. -/
  | pmeTurnOff (p : Port)
  /-- ASPM_L1_ENTRY (R521): The port has been idle for L1_IDLE_US, and it enters ASPM L1. -/
  | aspmL1Entry (p : Port) (sub : Fin 3)
  /-- MEMORY_REQUEST_REFUSED (R527): A BAR, I/O or atomic request outside the accepted forms is refused without changing state. -/
  | memoryRequestRefused (p : Port) (read : Bool) (hdr : Nat)
  /-- MALFORMED_TLP (R517): A malformed, overflowing or internally failed TLP is dropped at the MAC and logged. -/
  | malformedTlp (p : Port) (kind : Fin 3) (hdr : Nat)
  /-- COMPLETION_RECEIVED (R510): A completion arrives and ends its request, or is discarded as unexpected or failed. -/
  | completionReceived (p : Port) (tag : Nat) (status : Fin 3) (poison : Bool) (hdr : Nat)
  /-- COMPLETION_TIMEOUT (R509): A read request times out; it is logged, its tag is quarantined and its command fails. -/
  | completionTimeout (p : Port) (tag hdr : Nat)
  /-- TAG_QUARANTINE_END (R510): 2 × T after a timeout, the quarantined tag becomes free. -/
  | tagQuarantineEnd (p : Port) (tag : Nat)
  /-- SQ_FETCH_RETRY (R512): 1 ms after a failed entry read, the fetch is issued again; after a third failure CSTS.CFS is set. -/
  | sqFetchRetry (p : Port) (sq : Nat)
  /-- SQ_ENTRY_FETCH (R552): The link engine chooses the next submission queue by arbitration and fetches entries within the token bucket. -/
  | sqEntryFetch (p : Port)
  /-- SQ_TAIL_DOORBELL (R558): A submission-queue tail doorbell write is stamped with the module doorbell sequence. -/
  | sqTailDoorbell (p : Port) (sq value : Nat)
  /-- CQ_HEAD_DOORBELL (R528): A completion-queue head doorbell write is applied, or ignored and counted when invalid. -/
  | cqHeadDoorbell (p : Port) (cq value : Nat)
  /-- TRANSLATION_COMPLETION (R523): An ATS translation completion fills the cache, or fails the command on denial. -/
  | translationCompletion (p : Port) (page : Nat) (read write needWrite : Bool) (sq cid : Nat)
  /-- INVALIDATION_REQUEST (R524): An ATS invalidation stops the use of the covered entries at once. -/
  | invalidationRequest (p : Port) (page pages : Nat)
  /-- INVALIDATE_COMPLETION (R524): After the drains end, the port sends the Invalidate Completion. -/
  | invalidateCompletion (p : Port)
  /-- DOE_REQUEST (R525): A DOE request object is taken and answered under Discovery, CMA/SPDM or Secured SPDM. -/
  | doeRequest (p : Port) (protocol : Fin 4) (length : Nat) (op : SpdmOp)
  /-- DOE_ABORT (R525): DOE Abort ends the object in progress and empties both mailboxes. -/
  | doeAbort (p : Port)
  /-- FACTORY_UNLOCK_EXPIRY (R92): Factory unlock ends after UNLOCK_MIN minutes. -/
  | factoryUnlockExpiry (p : Port)
  /-- DELETE_IO_SUBMISSION_QUEUE (R571): The queue is deleted and its commands are ended as under Queue Recovery. -/
  | deleteIoSubmissionQueue (p : Port) (cid qid : Nat) (unfetched : List Nat)
  /-- DELETE_IO_COMPLETION_QUEUE (R571): An I/O completion queue is deleted. -/
  | deleteIoCompletionQueue (p : Port) (cid qid : Nat)
  /-- CREATE_IO_SUBMISSION_QUEUE (R545): An I/O submission queue is created in host memory or the CMB. -/
  | createIoSubmissionQueue (p : Port) (cid qid size cqid : Nat) (prio : Fin 4) (pc cmb : Bool)
  /-- CREATE_IO_COMPLETION_QUEUE (R546): An I/O completion queue is created with its vector. -/
  | createIoCompletionQueue (p : Port) (cid qid size vector : Nat) (ien pc : Bool)
  /-- GET_LOG_PAGE (R602): A log page is returned, from a snapshot for vendor pages at a nonzero offset. -/
  | getLogPage (p : Port) (cid nsid lid off len : Nat) (rae : Bool)
  /-- IDENTIFY (R544): Identify returns the controller, namespace or list data selected by CNS. -/
  | identify (p : Port) (cid cns nsid csi cntid : Nat)
  /-- ABORT (R564): Abort ends its target command according to the target's state. -/
  | abort (p : Port) (cid sq target : Nat)
  /-- SET_FEATURES_ARBITRATION (R552): Sets the arbitration burst and weights. -/
  | setFeaturesArbitration (p : Port) (cid : Nat) (v : Word) (save : Bool)
  /-- SET_FEATURES_POWER_MANAGEMENT (R568): Sets the issuing controller's power-state request. -/
  | setFeaturesPowerManagement (p : Port) (cid ps hint : Nat) (save : Bool)
  /-- SET_FEATURES_TEMPERATURE_THRESHOLD (R627): Sets an over or under temperature threshold of a sensor. -/
  | setFeaturesTemperatureThreshold (p : Port) (cid sensor : Nat) (under : Bool) (v : Nat) (save : Bool)
  /-- SET_FEATURES_ERROR_RECOVERY (R572): Sets Error Recovery, with TLER 0 only. -/
  | setFeaturesErrorRecovery (p : Port) (cid tler : Nat) (dulbe save : Bool)
  /-- SET_FEATURES_NUMBER_OF_QUEUES (R545): Grants up to 127 I/O queues of each kind, once after each C reset. -/
  | setFeaturesNumberOfQueues (p : Port) (cid nsq ncq : Nat) (save : Bool)
  /-- SET_FEATURES_INTERRUPT_COALESCING (R546): Sets interrupt coalescing for I/O completion queues. -/
  | setFeaturesInterruptCoalescing (p : Port) (cid time threshold : Nat) (save : Bool)
  /-- SET_FEATURES_INTERRUPT_VECTOR_CONFIG (R572): Sets coalescing disable for vectors 1 to 129. -/
  | setFeaturesInterruptVectorConfig (p : Port) (cid vector : Nat) (disable save : Bool)
  /-- SET_FEATURES_ASYNC_EVENT_CONFIG (R572): Sets which asynchronous events are reported. -/
  | setFeaturesAsyncEventConfig (p : Port) (cid : Nat) (v : Word) (save : Bool)
  /-- SET_FEATURES_APST (R108): Configures autonomous power state transitions. -/
  | setFeaturesApst (p : Port) (cid : Nat) (enable : Bool) (table : List (Nat × Nat)) (save : Bool)
  /-- SET_FEATURES_TIMESTAMP (R136): Sets the host timestamp; a backward setting is recorded as a discontinuity. -/
  | setFeaturesTimestamp (p : Port) (cid ms : Nat) (save : Bool)
  /-- SET_FEATURES_HOST_IDENTIFIER (R570): Sets the 128-bit extended Host Identifier; EXHID 0 fails. -/
  | setFeaturesHostIdentifier (p : Port) (cid : Nat) (exhid : Bool) (id : Nat) (save : Bool)
  /-- SET_FEATURES_RESERVATION_NOTIF_MASK (R572): Sets the reservation notification mask. -/
  | setFeaturesReservationNotifMask (p : Port) (cid nsid mask : Nat) (save : Bool)
  /-- SET_FEATURES_RESERVATION_PERSISTENCE (R570): Sets Persist Through Power Loss. -/
  | setFeaturesReservationPersistence (p : Port) (cid nsid : Nat) (ptpl save : Bool)
  /-- SET_FEATURES_VOLATILE_WRITE_CACHE (R556): Volatile Write Cache fails with Invalid Field in Command. -/
  | setFeaturesVolatileWriteCache (p : Port) (cid : Nat)
  /-- SET_FEATURES_JOB_EVENT_ROUTING (R609): Sets whether this controller also receives Job Ended events for jobs of the other controller. -/
  | setFeaturesJobEventRouting (p : Port) (cid v : Nat) (save : Bool)
  /-- SET_FEATURES_HEALTH_NOTICE_THRESHOLD (R609): Sets the percent used at which an indicator raises a health notice. -/
  | setFeaturesHealthNoticeThreshold (p : Port) (cid v : Nat) (save : Bool)
  /-- GET_FEATURES (R572): Returns a feature's current, default or saved value. -/
  | getFeatures (p : Port) (cid fid sel : Nat) (select : Fin 4)
  /-- ASYNCHRONOUS_EVENT_REQUEST (R571): Holds one of up to 8 requests outstanding for a later event. -/
  | asynchronousEventRequest (p : Port) (cid : Nat)
  /-- NAMESPACE_CREATE (R590): Creates a zoned or conventional namespace with a profile, or fails without change. -/
  | namespaceCreate (p : Port) (cid csi nsze ncap flbas dps nmic profile : Nat)
  /-- NAMESPACE_DELETE (R591): Detaches and deletes a namespace, destroying its key and freeing its bands. -/
  | namespaceDelete (p : Port) (cid nsid : Nat)
  /-- NAMESPACE_ATTACH (R569): Attaches a namespace to one or both controllers. -/
  | namespaceAttach (p : Port) (cid nsid : Nat) (ids : List Nat)
  /-- NAMESPACE_DETACH (R569): Detaches a namespace once the controller's commands to it are done. -/
  | namespaceDetach (p : Port) (cid nsid : Nat) (ids : List Nat)
  /-- FIRMWARE_IMAGE_DOWNLOAD (R79): Places a 4 KiB-granular piece of the package in DRAM staging, in offset order. -/
  | firmwareImageDownload (p : Port) (cid off len : Nat) (parts : Package)
  /-- FIRMWARE_COMMIT_REPLACE (R80): Commit action 0b000 verifies the staged package and writes it to the slot without activation. -/
  | firmwareCommitReplace (p : Port) (cid slot : Nat)
  /-- FIRMWARE_COMMIT_REPLACE_ACTIVATE (R80): Commit action 0b001 writes the package and activates it after the next C, N or P reset. -/
  | firmwareCommitReplaceActivate (p : Port) (cid slot : Nat)
  /-- FIRMWARE_COMMIT_ACTIVATE (R80): Commit action 0b010 activates the slot's contents after the next C, N or P reset. -/
  | firmwareCommitActivate (p : Port) (cid slot : Nat)
  /-- FIRMWARE_COMMIT_IMMEDIATE (R80): Commit action 0b011 writes the package if present and starts a rolling activation at once. -/
  | firmwareCommitImmediate (p : Port) (cid slot : Nat)
  /-- ACTIVATION_PHASE_END (R82): A rolling-activation phase completes and the next begins; a failed start check rolls back. -/
  | activationPhaseEnd (ok : Bool)
  /-- DEVICE_SELF_TEST_SHORT (R662): Self-test code 0x1 runs loopback and a clearance check on one head per actuator. -/
  | deviceSelfTestShort (p : Port) (cid : Nat) (loopFail clearFail : Fin 16)
  /-- DEVICE_SELF_TEST_EXTENDED (R593): Self-test code 0x2 starts an Extended Self-Test job. -/
  | deviceSelfTestExtended (p : Port) (cid : Nat)
  /-- FORMAT_NVM (R89): Formats a namespace, with cryptographic erase as its Secure Erase Settings select. -/
  | formatNvm (p : Port) (cid nsid lbaf ses dps : Nat)
  /-- SECURITY_SEND (R571): Security Send delivers a security protocol payload. -/
  | securitySend (p : Port) (cid protocol len : Nat)
  /-- SECURITY_RECEIVE (R571): Security Receive returns a security protocol payload. -/
  | securityReceive (p : Port) (cid protocol len : Nat)
  /-- SANITIZE_CRYPTO_ERASE (R89): Replaces every namespace media key and resets every zone within 10 s. -/
  | sanitizeCryptoErase (p : Port) (cid : Nat)
  /-- START_JOB_MEDIA_PATROL (R593): Starts job type 0x01, reading every sector once. -/
  | startJobMediaPatrol (p : Port) (cid nsid d12 d13 d14 rsvd : Nat)
  /-- START_JOB_SURFACE_RETIRE (R446): Starts job type 0x02, retiring the surfaces of a mask. -/
  | startJobSurfaceRetire (p : Port) (cid nsid d12 d13 d14 rsvd : Nat)
  /-- START_JOB_PARITY_REBUILD (R445): Starts job type 0x03, restoring degraded rows. -/
  | startJobParityRebuild (p : Port) (cid nsid d12 d13 d14 rsvd : Nat)
  /-- START_JOB_ACTUATOR_RECALIBRATION (R203): Starts job type 0x04, re-measuring one actuator's feed-forward pairs. -/
  | startJobActuatorRecalibration (p : Port) (cid nsid d12 d13 d14 rsvd : Nat)
  /-- START_JOB_ASSIST_RECHARACTERISE (R266): Starts job type 0x05, re-measuring item 6 for the heads of a mask. -/
  | startJobAssistRecharacterise (p : Port) (cid nsid d12 d13 d14 rsvd : Nat)
  /-- START_JOB_CONVENTIONAL_COMPACT (R391): Starts job type 0x06, running cleaning to completion. -/
  | startJobConventionalCompact (p : Port) (cid nsid d12 d13 d14 rsvd : Nat)
  /-- START_JOB_SEPIA_EXTRACT (R657): Starts job type 0x07, staging Sepia records for log page 0xC1. -/
  | startJobSepiaExtract (p : Port) (cid nsid d12 d13 d14 rsvd : Nat)
  /-- START_JOB_EXTENDED_SELF_TEST (R662): Starts job type 0x08, running each Nimbus kind once. -/
  | startJobExtendedSelfTest (p : Port) (cid nsid d12 d13 d14 rsvd : Nat)
  /-- JOB_RUNNING (R595): A QUEUED job whose activation or resources have cleared becomes RUNNING after its state checks. -/
  | jobRunning (slot : Nat)
  /-- QUERY_JOB (R592): Returns the state, result and progress of a job whose handle matches. -/
  | queryJob (p : Port) (cid handle rsvd : Nat)
  /-- CANCEL_JOB (R592): Sets a job CANCELLING, or fails when it has ended or the handle does not match. -/
  | cancelJob (p : Port) (cid handle rsvd : Nat)
  /-- JOB_CANCEL_STOP (R597): A cancelled job reaches its safe point and ends. -/
  | jobCancelStop (slot : Nat)
  /-- JOB_ENDED (R600): A job ends, and the Job Ended asynchronous event is raised. -/
  | jobEnded (slot : Nat) (rs : List CalResult)
  /-- CALIBRATION_RUN_END (R76): A calibration run ends; passing items are written to the record in the bank that is not running. -/
  | calibrationRunEnd (rs : List CalResult)
  /-- QUEUE_RECOVERY (R566): Ends every covered command of the named queues within 250 ms. -/
  | queueRecovery (p : Port) (cid mask : Nat) (unfetched : List (Nat × Nat))
  /-- FLUSH (R556): Flush completes as soon as it is fetched. -/
  | flush (p : Port) (sq cid nsid : Nat)
  /-- WRITE (R383): A write is checked against the zone or namespace rules and its data is fetched. -/
  | write (p : Port) (sq cid nsid slba nlb : Nat) (cmb : Option Nat)
  /-- READ (R555): A read looks up the translation and queues media requests per track. -/
  | read (p : Port) (sq cid nsid slba nlb : Nat) (pi : PiCheck)
  /-- WRITE_ZEROES (R573): Writes zeroes, at the write pointer only on a zoned namespace. -/
  | writeZeroes (p : Port) (sq cid nsid slba nlb : Nat)
  /-- DATASET_MANAGEMENT_DEALLOCATE (R573): Deallocates ranges, without effect on a zoned namespace. -/
  | datasetManagementDeallocate (p : Port) (sq cid nsid : Nat) (ranges : List (Nat × Nat)) (ad : Bool)
  /-- VERIFY (R573): Reads and checks the media without transfer. -/
  | verify (p : Port) (sq cid nsid slba nlb : Nat) (pi : PiCheck)
  /-- RESERVATION_REGISTER (R570): Registers a host key. -/
  | reservationRegister (p : Port) (sq cid nsid action : Nat) (ignore : Bool) (cur new change : Nat)
  /-- RESERVATION_REPORT (R570): Returns the reservation status. -/
  | reservationReport (p : Port) (sq cid nsid : Nat)
  /-- RESERVATION_ACQUIRE (R570): Acquires or preempts a reservation. -/
  | reservationAcquire (p : Port) (sq cid nsid : Nat) (preempt ignore : Bool) (cur prKey kind : Nat)
  /-- RESERVATION_PREEMPT_AND_ABORT (R570): Preempts and ends the preempted hosts' commands as by Abort within 100 ms. -/
  | reservationPreemptAndAbort (p : Port) (sq cid nsid : Nat) (ignore : Bool) (cur prKey kind : Nat)
  /-- RESERVATION_RELEASE (R570): Releases or clears a reservation. -/
  | reservationRelease (p : Port) (sq cid nsid action : Nat) (ignore : Bool) (cur kind : Nat)
  /-- COPY (R573): Copies source ranges, to the write pointer on a zoned namespace. -/
  | copy (p : Port) (sq cid nsid slba : Nat) (ranges : List (Nat × Nat))
  /-- ZONE_OPEN (R585): Opens a zone against the active and open limits. -/
  | zoneOpen (p : Port) (sq cid nsid slba : Nat) (all : Bool)
  /-- ZONE_CLOSE (R585): Closes a zone, keeping its accumulators in DRAM. -/
  | zoneClose (p : Port) (sq cid nsid slba : Nat) (all : Bool)
  /-- ZONE_FINISH (R585): Fills the open row, writes its parity and sets the zone Full. -/
  | zoneFinish (p : Port) (sq cid nsid slba : Nat) (all : Bool)
  /-- ZONE_RESET (R387): Advances the band write generations and returns the zone to Empty. -/
  | zoneReset (p : Port) (sq cid nsid slba : Nat) (all : Bool)
  /-- ZONE_OFFLINE (R585): Moves a Read Only zone to Offline and frees its bands. -/
  | zoneOffline (p : Port) (sq cid nsid slba : Nat) (all : Bool)
  /-- ZONE_SET_DESCRIPTOR_EXTENSION (R585): Fails with Invalid Field in Command. -/
  | zoneSetDescriptorExtension (p : Port) (sq cid nsid : Nat)
  /-- REPORT_ZONES (R588): Returns zone descriptors from one consistent state. -/
  | reportZones (p : Port) (sq cid nsid slba option : Nat) (part : Bool) (room : Nat)
  /-- EXTENDED_REPORT_ZONES (R588): Fails with Invalid Field in Command. -/
  | extendedReportZones (p : Port) (sq cid nsid : Nat)
  /-- ZONE_APPEND (R587): Appends data to a zone, positioned when its data is fully received. -/
  | zoneAppend (p : Port) (sq cid nsid slba nlb : Nat) (cmb : Option Nat) (remap : Bool)
  /-- ORDERING_FENCE (R557): Divides a namespace's commands into those before and after it. -/
  | orderingFence (p : Port) (sq cid nsid reserved : Nat)
  /-- FENCE_COMPLETE (R560): Every command before the fence is done; the fence completes and releases held commands. -/
  | fenceComplete (p : Port) (sq cid : Nat)
  /-- SENSOR_READ (R612): A temperature sensor is read, and Tj and the sensor limits are evaluated. -/
  | sensorRead (n : Fin 26) (reading : Int) (stopped flushed : Bool)
  /-- THERMAL_STAGE_EXIT (R617): Tj has stayed below the exit level for the stage's time, and the stage is left. -/
  | thermalStageExit
  /-- ORDERLY_STOP_RETRACT (R620): An actuator not on its ramp 2.0 s after stage 3 entry is retracted by the island. -/
  | orderlyStopRetract (a : Act)
  /-- SENSOR_LIMIT_CLEARED (R624): A DRAM, NAND or preamp reading has stayed 5 °C below its limit for 1 s, and its action ends. -/
  | sensorLimitCleared (n : Fin 26)
  /-- TOKEN_REFILL (R618): Every 1 µs the token generator gives each throttled initiator its share. -/
  | tokenRefill (rates used : List Nat)
  /-- RESONATOR_CORRECTION (R616): Every 10 ms, one frequency correction from the resonator curve is applied to all synthesizers. -/
  | resonatorCorrection
  /-- REFERENCE_CORRECTION (R616): Every 100 ms, the band-gap and converter references are corrected for temperature. -/
  | referenceCorrection
  /-- OCHRE_HOURLY_UPDATE (R629): Once per power-on hour, Ochre recomputes every percent used and raises health notices. -/
  | ochreHourlyUpdate (meas : List (Nat × Nat))
  /-- OCHRE_DAILY_SAMPLE (R629): Once per 24 power-on hours, Ochre stores a daily sample of each indicator. -/
  | ochreDailySample
  /-- MI_READ_DATA_STRUCTURE (R632): NVMe-MI Read NVMe-MI Data Structure. -/
  | miReadDataStructure (type idx : Nat)
  /-- MI_SUBSYSTEM_HEALTH_POLL (R633): NVM Subsystem Health Status Poll, answered from the snapshot when the host interface is down. -/
  | miSubsystemHealthPoll
  /-- MI_CONTROLLER_HEALTH_POLL (R633): Controller Health Status Poll. -/
  | miControllerHealthPoll
  /-- MI_CONFIGURATION_GET (R632): NVMe-MI Configuration Get. -/
  | miConfigurationGet (id : Nat)
  /-- MI_CONFIGURATION_SET (R632): NVMe-MI Configuration Set for standard identifiers. -/
  | miConfigurationSet (id v : Nat)
  /-- MI_WAKE_REQUEST (R634): Configuration Set 0xC0 asserts WAKE# in D3cold, or is answered with Invalid Parameter. -/
  | miWakeRequest
  /-- MI_VPD_READ (R632): Returns the 256-byte VPD structure. -/
  | miVpdRead
  /-- MI_ADMIN_TUNNEL (R632): Serves Identify, Get Features 0x04 and the allowed log pages through the admin tunnel. -/
  | miAdminTunnel (p : Port) (opcode nsid x off len : Nat)
  /-- MI_BASIC_MANAGEMENT (R635): Answers the Basic Management Command, with the halt code after a BOOT halt. -/
  | miBasicManagement
  /-- MI_SNAPSHOT_REFRESH (R633): Every 1 s in operation, the health snapshot is refreshed. -/
  | miSnapshotRefresh
  /-- SEPIA_EVENT (R649): An event is recorded with its snapshot, or suppressed by its code's token bucket. -/
  | sepiaEvent (code : Nat) (e : Engine) (pa : Word) (pb : BitVec 64) (conts : List (List Nat))
  /-- SEPIA_SUPPRESSION_SUMMARY (R650): 60 s after a code's last record with uncarried suppressions, a 0x0F02 summary is made. -/
  | sepiaSuppressionSummary (code : Nat)
  /-- SEPIA_BUFFER_FLUSH (R652): A full half, or the whole buffer after a high-severity record, is programmed to the Sepia pool. -/
  | sepiaBufferFlush
  /-- SEPIA_FLUSH_COMPLETE (R653): A half flush ends, and held critical records enter the buffer. -/
  | sepiaFlushComplete
  /-- NIMBUS_RUN_START (R659): An idle resource lets a due Nimbus test kind start a run. -/
  | nimbusRunStart (kind : Fin 7) (target idleUs : Nat)
  /-- NIMBUS_RUN_END (R661): A Nimbus run ends; a failure is repeated once and then acted on. -/
  | nimbusRunEnd (pass : Bool) (val : Nat)
  /-- DMA_GO (R697): Writing 1 to DX_CTL_n.GO starts the channel, or sets ERR when its checks fail. -/
  | dmaGo (w : Agent) (n : Fin 32)
  /-- DMA_PAUSE (R698): Setting PAUSE stops new reads; the channel drains. -/
  | dmaPause (w : Agent) (n : Fin 32)
  /-- DMA_RESUME (R698): Clearing PAUSE resumes the channel from its registers. -/
  | dmaResume (w : Agent) (n : Fin 32)
  /-- DMA_STOP (R698): Writing 1 to STOP drains and ends the channel. -/
  | dmaStop (w : Agent) (n : Fin 32)
  /-- DMA_DRAINED (R698): The reads outstanding complete; PAUSED is set, or the stop completes. -/
  | dmaDrained (n : Fin 32) (moved : Nat) (fromHost : List Byte)
  /-- DMA_DONE (R697): COUNT reaches 0; DONE is set and GO clears. -/
  | dmaDone (n : Fin 32) (failedAfter : Option Nat) (fromHost : List Byte)
  /-- DX_STAT_CLEAR (R712): Writing 1 clears DONE or POISON of DX_STAT_n. -/
  | dxStatClear (w : Agent) (n : Fin 32) (done poison : Bool)
  /-- SRAM_SCRUB (R688): The scrubber reads an SRAM word, corrects it and spares a row that keeps needing correction. -/
  | sramScrub (addr : Option Nat) (bank row bad : Nat) (clean last : Bool)
  /-- DRAM_SCRUB (R692): The patrol scrub reads a DRAM line, writes back corrections and poisons uncorrectable lines. -/
  | dramScrub (bad held : Nat)
  /-- SYS_CALCTL_START (R78): Writing 1 to SYS_CALCTL.START under factory unlock starts calibration of the items in ITEMS. -/
  | sysCalctlStart (w : Agent)
  /-- INTERRUPT_COALESCING_TIME (R546): The aggregation time of Interrupt Coalescing for a completion queue runs out, and the pending MSI-X message is sent. -/
  | interruptCoalescingTime (p : Port) (cq : Nat)
  /-- ASPM_L1_EXIT (R521): The port leaves ASPM L1 or an L1 substate when traffic is due or the partner exits, and the link returns to L0. -/
  | aspmL1Exit (p : Port)
  /-- LINK_DOWN (R533): A port's link goes down without a reset or link disable from the partner, and the event is counted in PX_LINKEVT.DOWN. -/
  | linkDown (p : Port)
  /-- LINK_RECOVERY (R533): The link leaves L0 for recovery, and the entry is counted in PX_LINKEVT.RECOV. -/
  | linkRecovery (p : Port)
  /-- RECEIVER_ERROR (R516): A receiver, LCRC or flit CRC error, or a bad DLLP, is detected, and it is logged as correctable and replayed. -/
  | receiverError (p : Port) (kind : Fin 3)
  /-- REPLAY_TIMER_TIMEOUT (R516): The data-link replay timer expires, or the replay count rolls over, and the error is logged as correctable. -/
  | replayTimerTimeout (p : Port) (rollover : Bool)
  /-- CMB_WRITE (R504): A host memory write to BAR2/3 stores data in the Controller Memory Buffer, and a poisoned write is logged as Poisoned TLP Received. -/
  | cmbWrite (p : Port) (off : Nat) (data : List Byte) (poison enabled : Bool) (hdr : Nat)
  /-- NIMBUS_RUN_LATE (R660): A Nimbus test kind's interval is overdue by more than its own length, and it is recorded as late with code 0x0E01. -/
  | nimbusRunLate (kind : Fin 7) (target : Nat)
  /-- ACT_RELEASE (R723): ACT# is released when no I/O command is in execution and its 50 ms minimum low time has passed. -/
  | actRelease
  /-- PWR_V12_REFRESH (R142): Every 100 µs, the 12 V input is sampled into PWR_V12.NOW and PWR_V12.MIN. -/
  | pwrV12Refresh (mv : Nat)
  deriving DecidableEq, Repr

end Sys2Proof
end

