-- ==== Sys2Proof/Decode.lean ====
section
/-! DEFINITION. Words that spell commands. The opcode table gives no row any bits, so that no word spells one. -/

namespace Sys2Proof

/-- The command that a word of the table's bits spells: none, as the table gives none of its rows bits. -/
def decodeTableWord (_nbits _w : Nat) : Option Instr := none

end Sys2Proof
end

