-- ==== Sys2Proof/Machine/Fields.lean ====
section
/-! DEFINITION. The register fields of the diagnostic window, one constructor of `Field` for each field of the
spec's register tables that is not RSVD, and `Field.info`, the spec's row for it. An RSVD field reads 0 and ignores
writes (R10), so it holds no state and has no constructor. -/

namespace Sys2Proof.Machine

/-- A register field, under the manual's name `BLOCK_REG.FIELD` with the point written as an underscore. -/
inductive Field where
  | SYS_ENG_RUN_SV
  | SYS_ENG_RUN_LE
  | SYS_ENG_RUN_AE
  | SYS_ENG_RUN_SPE
  | SYS_ENG_RUN_SE
  | SYS_ENG_RUN_TS
  | SYS_ENG_RUN_CC
  | SYS_RATE_VCORE
  | SYS_RATE_MIN
  | SYS_RATE_NOW
  | SYS_DLMISS_OTHER
  | SYS_DLMISS_SPN
  | SYS_DLMISS_TS
  | SYS_DLMISS_SRV
  | SYS_DIAG_WDROP_P1
  | SYS_DIAG_WDROP_P0
  | SYS_DIAG_WDROP_COUNT
  | SYS_BOOT_STAGE
  | SYS_BOOT_RECOVERY
  | SYS_BOOT_UNCAL
  | SYS_BOOT_FALLBACK
  | SYS_BOOT_BANK
  | SYS_BOOT_FAIL
  | SYS_BOOT_TIME
  | SYS_CALCTL_START
  | SYS_CALCTL_BUSY
  | SYS_CALCTL_FAIL
  | SYS_CALCTL_ITEMS
  | SYS_DEVTIME_LO_TIME
  | SYS_DEVTIME_HI_TIME
  | FAB_RTWAIT_CLR
  | FAB_RTWAIT_MAX
  | TS_STATE_STATE
  | TS_STATE_TRAP
  | TS_STATE_PEND
  | TS_STATE_ARMED
  | TS_STATE_STOPREQ
  | TS_STATE_UPC
  | TS_TSAVE_KIND
  | TS_TSAVE_PC
  | TS_LC01_LC1
  | TS_LC01_LC0
  | TS_LC23_LC3
  | TS_LC23_LC2
  | TS_TSLC01_LC1
  | TS_TSLC01_LC0
  | TS_TSLC23_LC3
  | TS_TSLC23_LC2
  | TS_BT_REF
  | TS_BT_REMAIN
  | TS_COND_LO_C
  | TS_COND_HI_C
  | TS_FT_BANK
  | TS_FT_SPLITS
  | TS_FT_DEFECT
  | TS_FT_INDEX
  | TS_GAP0_GAP
  | TS_SPAN0_SPAN
  | TS_GAP1_GAP
  | TS_SPAN1_SPAN
  | TS_QUEUE_JOBS
  | TS_QUEUE_RWQ
  | TS_QUEUE_TAG
  | TS_EVT_LATE
  | TS_EVT_GATEWEDGE
  | TS_EVT_SGLATE
  | TS_EVT_HARDSTOP
  | TS_CSERR_FAULTS
  | TS_CSERR_LASTADDR
  | TS_CSERR_CORR
  | TS_VER_IFACE
  | TS_VER_OVL
  | TS_VER_OVLWORDS
  | TS_DISP_n_ADDR
  | TS_CS_ADDR_ADDR
  | TS_CS_DATA0_W
  | TS_CS_DATA1_W
  | TS_CS_DATA2_W
  | TS_CS_DATA3_W
  | SRV_STATE_MODE
  | SRV_STATE_HEAD
  | SRV_STATE_WU
  | SRV_STATE_LOCK
  | SRV_STATE_ISLAND_RET
  | SRV_POS_TRACK
  | SRV_PES_PEAK
  | SRV_PES_NOW
  | SRV_CMD_MA
  | SRV_CMD_VCM
  | SRV_FAULT_IMPL
  | SRV_FAULT_MISS
  | SRV_FAULT_LOOP
  | SRV_FAULT_RELOAD
  | SRV_WU_COUNT
  | SRV_WU_CAUSE
  | SRV_XFF_SRC
  | SRV_XFF_MEAS
  | SRV_XFF_MA
  | SRV_INJ_CTL_EN
  | SRV_INJ_CTL_POINT
  | SRV_INJ_CTL_KIND
  | SRV_INJ_CTL_AMP
  | SRV_INJ_FREQ_REVS
  | SRV_INJ_FREQ_FREQ
  | SRV_CAP_CTL_START
  | SRV_CAP_CTL_DONE
  | SRV_CAP_CTL_NSIG
  | SRV_CAP_CTL_DECIM
  | SRV_CAP_CTL_SIG
  | SRV_CAP_IDX_IDX
  | SRV_CAP_DATA_VAL
  | SRV_TBLMAP_T1_LOOP
  | SRV_TBLMAP_T1_INDEX
  | SRV_TBLMAP_T0_LOOP
  | SRV_TBLMAP_T0_INDEX
  | SPN_STATE_STATE
  | SPN_STATE_LOCK
  | SPN_STATE_SRC
  | SPN_STATE_FWEAK
  | SPN_STATE_MODLIM
  | SPN_STATE_SPEED
  | SPN_FLUX_DEPTH
  | SPN_FLUX_ID
  | SPN_FLUX_REF
  | SPN_BUS_MAX
  | SPN_BUS_NOW
  | SPN_FAULT_PLAUS
  | SPN_FAULT_ZCLOSS
  | SPN_FAULT_CATCH
  | SPN_FAULT_UNLOAD
  | SPN_BRAKE_CLAMPBAD
  | SPN_BRAKE_TEST
  | SPN_BRAKE_LAST
  | SPN_BRAKE_SHORTS
  | SPN_BRAKE_COASTS
  | SPN_BRAKE_TESTFAIL
  | SPN_SPINUP_CAUSE
  | SPN_SPINUP_TRIES
  | SPN_SPINUP_TIME
  | AST_STATE_LOOP
  | AST_STATE_HEAD
  | AST_STATE_TYPE
  | AST_STATE_AG
  | AST_STATE_WG
  | AST_STATE_ZONE
  | AST_STATE_WFAIL
  | AST_CMD_ASSIST
  | AST_CMD_HEATER
  | AST_PSL_REJECT
  | AST_PSL_NOACK
  | AST_PSL_FAULT
  | AST_PSL_REINIT
  | AST_FAULT_CAUSE
  | AST_FAULT_SUPPLY
  | AST_FAULT_HEAD
  | AST_FAULT_COUNT
  | AST_HTRIM_TRIM
  | AST_HTRIM_ZONE
  | AST_HTRIM_SATHI
  | AST_HTRIM_SATLO
  | AST_HLAS_ITH
  | AST_HLAS_IDRV
  | AST_HCLR_DRIFT
  | AST_HCLR_HTR
  | AST_HEVT_TD
  | AST_HEVT_VSUSP
  | AST_HEVT_TRSAT
  | AST_HEVT_FLT
  | AST_HAON_LO_TIME
  | AST_HAON_HI_TIME
  | AST_HWON_LO_TIME
  | AST_HWON_HI_TIME
  | CH_STATE_MODE
  | CH_STATE_ZONE
  | CH_STATE_HEAD
  | CH_STATE_RDMODE
  | CH_STATE_FROZEN
  | CH_STATE_RAWMODE
  | CH_STATE_RATE
  | CH_ADAPT_L_GAIN
  | CH_ADAPT_L_OFS
  | CH_ADAPT_L_ASYM
  | CH_ADAPT_L_TRFREQ
  | CH_ADAPT_T_GAIN
  | CH_ADAPT_T_OFS
  | CH_ADAPT_T_ASYM
  | CH_ADAPT_T_TRFREQ
  | CH_MARK_PMOFS
  | CH_MARK_PMDIST
  | CH_MARK_SMDIST
  | CH_MARK_SOURCE
  | CH_SECT_LO_COUNT
  | CH_SECT_HI_COUNT
  | CH_LADDER_n_COUNT
  | CH_EVT_MISCOR
  | CH_EVT_TA
  | CH_EVT_DEFECT
  | CH_EVT_SLOTFULL
  | CH_RAW_FAILS
  | CH_RAW_LASTM
  | CH_FIR_L_n_TAP
  | CH_FIR_T_n_TAP
  | CH_SMP_CTL_HOLD
  | CH_SMP_CTL_SLOT
  | CH_SMP_CTL_FORCE
  | CH_SMP_CTL_IDX
  | CH_SMP_DATA_T
  | CH_SMP_DATA_L
  | CH_DEEP_QUEUE
  | CH_DEEP_PEAK
  | CH_DEEP_WAITMAX
  | XL_STATE_RO
  | XL_STATE_LEVEL
  | XL_STATE_ACTIVE
  | XL_STATE_OPEN
  | XL_STATE_NS
  | XL_FREE_BANDS
  | XL_FRSV_BANDS
  | XL_SPARE_USED
  | XL_SPARE_LEAST
  | XL_COPY_QUEUED
  | XL_COPY_URGENT
  | XL_COPY_RUNNING
  | XL_COPYEVT_RET
  | XL_COPYEVT_DIST
  | XL_COPYEVT_WEAK
  | XL_COPYEVT_RECON
  | XL_BANDFAIL_RETARGET
  | XL_BANDFAIL_RETIRED
  | XL_WEAR_SPREAD
  | XL_WEAR_MAX
  | XL_WEAR_MIN
  | XL_MC_NAND
  | XL_MC_TRK
  | XL_MC_CLEAN
  | XL_WREJ_ZIW
  | XL_WREJ_CAPEX
  | XL_RELOC_SECTORS
  | BP_STATE_RETIRE
  | BP_STATE_REBUILD
  | BP_STATE_OPENROWS
  | BP_STATE_ACTIVE
  | BP_RECON_SECT
  | BP_RECON_UNVER
  | BP_RECON_FAIL
  | BP_DEGR_ROWS
  | BP_DEGR_MINRED
  | BP_RETIRE_LEFT
  | BP_RETIRE_BANDS
  | BP_LOST_COUNT
  | BP_SURF_n_STATE
  | BP_SURF_n_CAUSE
  | BP_SURF_n_VROWS
  | NS_STATE_STATE
  | NS_STATE_RSV
  | NS_STATE_REPLAY
  | NS_STATE_WL
  | NS_STATE_GC
  | NS_STATE_STAGE
  | NS_BLOCKS_GOOD
  | NS_BLOCKS_FREE
  | NS_BLOCKS_FACTBAD
  | NS_DEFECT_GROWN
  | NS_DEFECT_ERASEFAIL
  | NS_DEFECT_PROGFAIL
  | NS_WEAR_MAXEC
  | NS_WEAR_AVGEC
  | NS_WEAR2_MINEC
  | NS_WEAR2_USED
  | NS_READ_RETRY
  | NS_READ_REFRESH
  | NS_READ_UNCORR
  | NS_EVT_NOTERASED
  | NS_EVT_GCRETIRE
  | NS_EVT_WLMOVE
  | NS_EVT_FLUSHSKIP
  | NS_RSV_DIRTYCAP
  | NS_RSV_RATE
  | NS_JRNL_SINCE
  | NS_JRNL_REPLAY
  | PX_LINK_STATE
  | PX_LINK_RATE
  | PX_LINK_WIDTH
  | PX_LINK_FLIT
  | PX_LINK_REV
  | PX_LINK_DPEN
  | PX_LINK_DSTATE
  | PX_LINKEVT_DOWN
  | PX_LINKEVT_RECOV
  | PX_LINKEVT_DEGR
  | PX_TAGS_OUT
  | PX_TAGS_QUAR
  | PX_TAGS_PEAK
  | PX_TAGS_MODE
  | PX_CTO_COUNT
  | PX_CTO_TMS
  | PX_UNEXP_LATE
  | PX_UNEXP_STRAY
  | PX_UNEXP_DISC
  | PX_RXERR_MALF
  | PX_RXERR_UR
  | PX_RXERR_POISON
  | PX_RXERR_CPLERR
  | PX_DB_INVAL
  | PX_DB_NOQ
  | PX_DB_THROTTLE
  | PX_ATS_VALID
  | PX_ATS_FAULT
  | PX_ATS_INV
  | PX_BME_BME
  | PX_BME_HELD
  | PX_BME_HELDCPL
  | PX_BME_CLEARS
  | PX_DOE_SESS
  | PX_DOE_UNLOCK
  | PX_DOE_ABORTS
  | PX_DOE_OBJECTS
  | PX_PM_PME
  | PX_PM_WAKE
  | PX_PM_TURNOFF
  | NV_DBSEQ_LO_SEQ
  | NV_DBSEQ_HI_SEQ
  | NV_EXEC_PEAK
  | NV_EXEC_NOW
  | NV_ACTQ_A3
  | NV_ACTQ_A2
  | NV_ACTQ_A1
  | NV_ACTQ_A0
  | NV_AGED_COUNT
  | NV_CTL_EN
  | NV_CTL_RDY
  | NV_CTL_CFS
  | NV_CTL_SHST
  | NV_CTL_AMS
  | NV_CTL_SQS
  | NV_CTL_CQS
  | NV_FENCE_OPEN
  | NV_FENCE_HELD
  | NV_FENCE_DONE
  | NV_ABORT_ENDED
  | NV_ABORT_COUNT
  | NV_QREC_COUNT
  | NV_QREC_MAXMS
  | NV_QREC_ENDED
  | OCH_STATE_SAMPLES
  | OCH_STATE_WORSTPCT
  | OCH_STATE_WORSTID
  | OCH_IND_n_A_PCT
  | OCH_IND_n_A_FLAGS
  | OCH_IND_n_A_ID
  | OCH_IND_n_B_RAW
  | SEP_STATE_ERA
  | SEP_STATE_BUF
  | SEP_STATE_LAST
  | SEP_STATE_WT
  | SEP_STATE_KEEP
  | SEP_SEQ_NEXT
  | SEP_SUPP_COUNT
  | SEP_FLUSH_SEV
  | SEP_FLUSH_HALF
  | SEP_FLUSH_HOLDUP
  | SEP_FLUSH_FULL
  | SEP_FLUSH2_RECORDS
  | SEP_FLUSH2_LASTSTART
  | NIM_STATE_KIND
  | NIM_STATE_SUSP
  | NIM_STATE_TARGET
  | NIM_STATE_EST
  | NIM_RES_k_PASS
  | NIM_RES_k_FAIL
  | NIM_RES_k_LAST
  | NIM_CORE_FAILED
  | NIM_PATROL_CYCLES
  | NIM_PATROL_PROG
  | NIM_CHSUSP_CH
  | THM_STAGE_STAGE
  | THM_STAGE_TOKEN
  | THM_STAGE_CAP
  | THM_STAGE_NANDDIV
  | THM_STAGE_DRAMDIV
  | THM_STAGE_UNCAL
  | THM_STAGE_TJ
  | THM_SRC_HOTID
  | THM_SRC_EXCL
  | THM_EVT_S1
  | THM_EVT_S2
  | THM_EVT_S3
  | THM_EVT_S4
  | THM_RES_CORR
  | THM_RES_NOCOMP
  | THM_SENS_n_MAX
  | THM_SENS_n_NOW
  | MEM_L2_CARVE
  | MEM_L2_CMB
  | MEM_L2_RECOV
  | MEM_MISS_PEAK
  | MEM_MISS_FULL
  | MEM_MISS_MERGED
  | MEM_EVB_RECLAIM
  | MEM_EVB_WAITED
  | MEM_SRAM_CORR
  | MEM_SRAM_UNCORR
  | MEM_SRAM_SPARED
  | MEM_SPARE_FREE
  | MEM_SPARE_LEAST
  | MEM_SPARE_NOSPARE
  | MEM_DRAM_CORR
  | MEM_DRAM_UNCORR
  | MEM_DRAM_MIRROR
  | MEM_SCRUB_PROG
  | MEM_SCRUB_PASSES
  | MEM_POISON_CORE
  | MEM_POISON_HOST
  | MEM_POISON_MEDIA
  | MEM_POISON_NAND
  | DX_SRC_LO_ADDR
  | DX_SRC_HI_ADDR
  | DX_DST_LO_ADDR
  | DX_DST_HI_ADDR
  | DX_COUNT_COUNT
  | DX_CTL_n_GO
  | DX_CTL_n_PAUSE
  | DX_CTL_n_STOP
  | DX_CTL_n_SHARE
  | DX_STAT_n_BUSY
  | DX_STAT_n_PAUSED
  | DX_STAT_n_DONE
  | DX_STAT_n_POISON
  | DX_STAT_n_ERR
  | DX_MODE_ALIGN
  | DX_BUSY_CH
  | FCS_STAT_BUSY
  | FCS_STAT_OPBANK
  | FCS_STAT_RUNBANK
  | FCS_STAT_LAST
  | FCS_STAT_BAD1
  | FCS_STAT_BAD0
  | PWR_MODE_MODE
  | PWR_MODE_TARGET
  | PWR_MODE_PS_EFF
  | PWR_MODE_PS_C2
  | PWR_MODE_PS_C1
  | PWR_MODE_REVERSING
  | PWR_MODE_SPDLOCK
  | PWR_MODE_ACT_LIMIT
  | PWR_MODE_CAUSE
  | PWR_HOLDUP_SHORT
  | PWR_HOLDUP_WARM
  | PWR_HOLDUP_DUR
  | PWR_HOLDUP_FLUSH
  | PWR_HOLDUP_ENERGY
  | PWR_HUCOUNT_COUNT
  | PWR_DIRTY_PEAK
  | PWR_DIRTY_NOW
  | PWR_V12_MIN
  | PWR_V12_NOW
  | PWR_PENDING_ROWS
  | ID_PART_CODE
  | ID_PART_MAJOR
  | ID_PART_MINOR
  | ID_PART_GRADE
  | ID_PART_ACT
  | ID_FWVER_MAJOR
  | ID_FWVER_MINOR
  | ID_FWVER_BUILD
  | ID_IMGVER_VER
  deriving DecidableEq, Repr

/-- The access types of R10 (RSVD fields hold no state and are left out). -/
inductive Access where
  | ro | rw | rw1c | rw1s | wo
  deriving DecidableEq, Repr

/-- The reset letters of R12. -/
inductive ResetLetter where
  | P | H | F | C | N | A | D | L
  deriving DecidableEq, Repr

/-- A field's "Reset" entry: a value, or one of the sources of R738. -/
inductive ResetValue where
  | val (n : Nat)
  | image | firmware | table | repairs | bankBooted | sampled | bootDuration | stored
  deriving DecidableEq, Repr

/-- One row of a register table: the window offset of instance 0, the two strides of its instances, the bit
range, the access type, the Reset entry and the Kept-across letters. -/
structure FieldInfo where
  offset : Nat
  outer : Nat
  outerStride : Nat
  inner : Nat
  innerStride : Nat
  hi : Nat
  lo : Nat
  access : Access
  reset : ResetValue
  kept : List ResetLetter
  deriving DecidableEq, Repr

/-- Kept across every reset kind. -/
def keptAll : List ResetLetter := [.P, .H, .F, .C, .N, .A, .D, .L]
/-- Kept across every reset kind but D3cold. -/
def keptPower : List ResetLetter := [.P, .H, .F, .C, .N, .A, .L]
/-- Kept across every reset kind but firmware activation. -/
def keptNotA : List ResetLetter := [.P, .H, .F, .C, .N, .D, .L]
/-- Kept across A and L. -/
def keptAL : List ResetLetter := [.A, .L]
/-- Kept across C, N, A and L. -/
def keptCNAL : List ResetLetter := [.C, .N, .A, .L]
/-- Kept across L. -/
def keptL : List ResetLetter := [.L]
/-- Kept across no reset ("—"). -/
def keptNone : List ResetLetter := []

/-- The spec's row of each field; each arm's comment names the rule. -/
def Field.info : Field → FieldInfo
  | .SYS_ENG_RUN_SV => ⟨0x10, 1, 0x0, 1, 0x0, 27, 27, .ro, .val 1, keptAll⟩  -- R42
  | .SYS_ENG_RUN_LE => ⟨0x10, 1, 0x0, 1, 0x0, 26, 25, .ro, .val 3, keptAll⟩  -- R42
  | .SYS_ENG_RUN_AE => ⟨0x10, 1, 0x0, 1, 0x0, 24, 21, .ro, .val 15, keptAll⟩  -- R42
  | .SYS_ENG_RUN_SPE => ⟨0x10, 1, 0x0, 1, 0x0, 20, 20, .ro, .val 1, keptAll⟩  -- R42
  | .SYS_ENG_RUN_SE => ⟨0x10, 1, 0x0, 1, 0x0, 19, 16, .ro, .val 15, keptAll⟩  -- R42
  | .SYS_ENG_RUN_TS => ⟨0x10, 1, 0x0, 1, 0x0, 15, 12, .ro, .val 15, keptAll⟩  -- R42
  | .SYS_ENG_RUN_CC => ⟨0x10, 1, 0x0, 1, 0x0, 11, 0, .ro, .val 4095, keptAll⟩  -- R42
  | .SYS_RATE_VCORE => ⟨0x20, 1, 0x0, 1, 0x0, 31, 22, .ro, .val 750, keptAll⟩  -- R43
  | .SYS_RATE_MIN => ⟨0x20, 1, 0x0, 1, 0x0, 21, 11, .ro, .val 2047, keptAll⟩  -- R43
  | .SYS_RATE_NOW => ⟨0x20, 1, 0x0, 1, 0x0, 10, 0, .ro, .val 0, keptAll⟩  -- R43
  | .SYS_DLMISS_OTHER => ⟨0x30, 1, 0x0, 1, 0x0, 31, 24, .ro, .val 0, keptAll⟩  -- R44
  | .SYS_DLMISS_SPN => ⟨0x30, 1, 0x0, 1, 0x0, 23, 16, .ro, .val 0, keptAll⟩  -- R44
  | .SYS_DLMISS_TS => ⟨0x30, 1, 0x0, 1, 0x0, 15, 8, .ro, .val 0, keptAll⟩  -- R44
  | .SYS_DLMISS_SRV => ⟨0x30, 1, 0x0, 1, 0x0, 7, 0, .ro, .val 0, keptAll⟩  -- R44
  | .SYS_DIAG_WDROP_P1 => ⟨0x40, 1, 0x0, 1, 0x0, 31, 31, .ro, .val 0, keptAll⟩  -- R45
  | .SYS_DIAG_WDROP_P0 => ⟨0x40, 1, 0x0, 1, 0x0, 30, 30, .ro, .val 0, keptAll⟩  -- R45
  | .SYS_DIAG_WDROP_COUNT => ⟨0x40, 1, 0x0, 1, 0x0, 29, 0, .ro, .val 0, keptAll⟩  -- R45
  | .SYS_BOOT_STAGE => ⟨0x50, 1, 0x0, 1, 0x0, 31, 28, .ro, .val 10, keptAll⟩  -- R94
  | .SYS_BOOT_RECOVERY => ⟨0x50, 1, 0x0, 1, 0x0, 27, 27, .ro, .val 0, keptAll⟩  -- R94
  | .SYS_BOOT_UNCAL => ⟨0x50, 1, 0x0, 1, 0x0, 26, 26, .ro, .val 0, keptAll⟩  -- R94
  | .SYS_BOOT_FALLBACK => ⟨0x50, 1, 0x0, 1, 0x0, 25, 25, .ro, .val 0, keptAll⟩  -- R94
  | .SYS_BOOT_BANK => ⟨0x50, 1, 0x0, 1, 0x0, 24, 24, .ro, .val 0, keptAll⟩  -- R94
  | .SYS_BOOT_FAIL => ⟨0x50, 1, 0x0, 1, 0x0, 23, 16, .ro, .val 0, keptAll⟩  -- R94
  | .SYS_BOOT_TIME => ⟨0x50, 1, 0x0, 1, 0x0, 15, 0, .ro, .bootDuration, keptAll⟩  -- R94
  | .SYS_CALCTL_START => ⟨0x60, 1, 0x0, 1, 0x0, 31, 31, .rw1s, .val 0, keptNone⟩  -- R95
  | .SYS_CALCTL_BUSY => ⟨0x60, 1, 0x0, 1, 0x0, 30, 30, .ro, .val 0, keptNone⟩  -- R95
  | .SYS_CALCTL_FAIL => ⟨0x60, 1, 0x0, 1, 0x0, 29, 29, .ro, .val 0, keptL⟩  -- R95
  | .SYS_CALCTL_ITEMS => ⟨0x60, 1, 0x0, 1, 0x0, 6, 0, .rw, .val 0, keptL⟩  -- R95
  | .SYS_DEVTIME_LO_TIME => ⟨0x70, 1, 0x0, 1, 0x0, 31, 0, .ro, .val 0, keptAll⟩  -- R144
  | .SYS_DEVTIME_HI_TIME => ⟨0x74, 1, 0x0, 1, 0x0, 31, 0, .ro, .val 0, keptAll⟩  -- R144
  | .FAB_RTWAIT_CLR => ⟨0x1000, 1, 0x0, 1, 0x0, 31, 31, .rw1s, .val 0, keptNone⟩  -- R46
  | .FAB_RTWAIT_MAX => ⟨0x1000, 1, 0x0, 1, 0x0, 15, 0, .ro, .val 0, keptAll⟩  -- R46
  | .TS_STATE_STATE => ⟨0x10000, 4, 0x4000, 1, 0x0, 31, 28, .ro, .val 0, keptPower⟩  -- R357
  | .TS_STATE_TRAP => ⟨0x10000, 4, 0x4000, 1, 0x0, 27, 25, .ro, .val 0, keptPower⟩  -- R357
  | .TS_STATE_PEND => ⟨0x10000, 4, 0x4000, 1, 0x0, 24, 21, .ro, .val 0, keptPower⟩  -- R357
  | .TS_STATE_ARMED => ⟨0x10000, 4, 0x4000, 1, 0x0, 20, 20, .ro, .val 0, keptPower⟩  -- R357
  | .TS_STATE_STOPREQ => ⟨0x10000, 4, 0x4000, 1, 0x0, 19, 19, .ro, .val 0, keptPower⟩  -- R357
  | .TS_STATE_UPC => ⟨0x10000, 4, 0x4000, 1, 0x0, 11, 0, .ro, .val 0, keptPower⟩  -- R357
  | .TS_TSAVE_KIND => ⟨0x10004, 4, 0x4000, 1, 0x0, 14, 12, .ro, .val 0, keptPower⟩  -- R358
  | .TS_TSAVE_PC => ⟨0x10004, 4, 0x4000, 1, 0x0, 11, 0, .ro, .val 0, keptPower⟩  -- R358
  | .TS_LC01_LC1 => ⟨0x10008, 4, 0x4000, 1, 0x0, 31, 16, .ro, .val 0, keptPower⟩  -- R359
  | .TS_LC01_LC0 => ⟨0x10008, 4, 0x4000, 1, 0x0, 15, 0, .ro, .val 0, keptPower⟩  -- R359
  | .TS_LC23_LC3 => ⟨0x1000c, 4, 0x4000, 1, 0x0, 31, 16, .ro, .val 0, keptPower⟩  -- R359
  | .TS_LC23_LC2 => ⟨0x1000c, 4, 0x4000, 1, 0x0, 15, 0, .ro, .val 0, keptPower⟩  -- R359
  | .TS_TSLC01_LC1 => ⟨0x10010, 4, 0x4000, 1, 0x0, 31, 16, .ro, .val 0, keptPower⟩  -- R359
  | .TS_TSLC01_LC0 => ⟨0x10010, 4, 0x4000, 1, 0x0, 15, 0, .ro, .val 0, keptPower⟩  -- R359
  | .TS_TSLC23_LC3 => ⟨0x10014, 4, 0x4000, 1, 0x0, 31, 16, .ro, .val 0, keptPower⟩  -- R359
  | .TS_TSLC23_LC2 => ⟨0x10014, 4, 0x4000, 1, 0x0, 15, 0, .ro, .val 0, keptPower⟩  -- R359
  | .TS_BT_REF => ⟨0x10018, 4, 0x4000, 1, 0x0, 31, 29, .ro, .val 0, keptPower⟩  -- R360
  | .TS_BT_REMAIN => ⟨0x10018, 4, 0x4000, 1, 0x0, 16, 0, .ro, .val 0, keptPower⟩  -- R360
  | .TS_COND_LO_C => ⟨0x10020, 4, 0x4000, 1, 0x0, 31, 0, .ro, .val 1, keptPower⟩  -- R361
  | .TS_COND_HI_C => ⟨0x10024, 4, 0x4000, 1, 0x0, 15, 0, .ro, .val 0, keptPower⟩  -- R361
  | .TS_FT_BANK => ⟨0x10028, 4, 0x4000, 1, 0x0, 31, 31, .ro, .val 0, keptPower⟩  -- R362
  | .TS_FT_SPLITS => ⟨0x10028, 4, 0x4000, 1, 0x0, 30, 28, .ro, .val 0, keptPower⟩  -- R362
  | .TS_FT_DEFECT => ⟨0x10028, 4, 0x4000, 1, 0x0, 27, 27, .ro, .val 0, keptPower⟩  -- R362
  | .TS_FT_INDEX => ⟨0x10028, 4, 0x4000, 1, 0x0, 10, 0, .ro, .val 0, keptPower⟩  -- R362
  | .TS_GAP0_GAP => ⟨0x10030, 4, 0x4000, 1, 0x0, 15, 0, .ro, .val 0, keptPower⟩  -- R363
  | .TS_SPAN0_SPAN => ⟨0x10034, 4, 0x4000, 1, 0x0, 16, 0, .ro, .val 0, keptPower⟩  -- R363
  | .TS_GAP1_GAP => ⟨0x10038, 4, 0x4000, 1, 0x0, 15, 0, .ro, .val 0, keptPower⟩  -- R363
  | .TS_SPAN1_SPAN => ⟨0x1003c, 4, 0x4000, 1, 0x0, 16, 0, .ro, .val 0, keptPower⟩  -- R363
  | .TS_QUEUE_JOBS => ⟨0x10040, 4, 0x4000, 1, 0x0, 31, 24, .ro, .val 0, keptPower⟩  -- R364
  | .TS_QUEUE_RWQ => ⟨0x10040, 4, 0x4000, 1, 0x0, 23, 16, .ro, .val 0, keptPower⟩  -- R364
  | .TS_QUEUE_TAG => ⟨0x10040, 4, 0x4000, 1, 0x0, 15, 0, .ro, .val 0, keptPower⟩  -- R364
  | .TS_EVT_LATE => ⟨0x10044, 4, 0x4000, 1, 0x0, 31, 24, .ro, .val 0, keptPower⟩  -- R365
  | .TS_EVT_GATEWEDGE => ⟨0x10044, 4, 0x4000, 1, 0x0, 23, 16, .ro, .val 0, keptPower⟩  -- R365
  | .TS_EVT_SGLATE => ⟨0x10044, 4, 0x4000, 1, 0x0, 15, 8, .ro, .val 0, keptPower⟩  -- R365
  | .TS_EVT_HARDSTOP => ⟨0x10044, 4, 0x4000, 1, 0x0, 7, 0, .ro, .val 0, keptPower⟩  -- R365
  | .TS_CSERR_FAULTS => ⟨0x10048, 4, 0x4000, 1, 0x0, 31, 24, .ro, .val 0, keptPower⟩  -- R366
  | .TS_CSERR_LASTADDR => ⟨0x10048, 4, 0x4000, 1, 0x0, 23, 12, .ro, .val 0, keptPower⟩  -- R366
  | .TS_CSERR_CORR => ⟨0x10048, 4, 0x4000, 1, 0x0, 11, 0, .ro, .val 0, keptPower⟩  -- R366
  | .TS_VER_IFACE => ⟨0x1004c, 4, 0x4000, 1, 0x0, 31, 16, .ro, .firmware, keptNotA⟩  -- R367
  | .TS_VER_OVL => ⟨0x1004c, 4, 0x4000, 1, 0x0, 15, 15, .ro, .image, keptNotA⟩  -- R367
  | .TS_VER_OVLWORDS => ⟨0x1004c, 4, 0x4000, 1, 0x0, 11, 0, .ro, .image, keptNotA⟩  -- R367
  | .TS_DISP_n_ADDR => ⟨0x10080, 4, 0x4000, 16, 0x4, 11, 0, .ro, .firmware, keptNotA⟩  -- R368
  | .TS_CS_ADDR_ADDR => ⟨0x100c0, 4, 0x4000, 1, 0x0, 11, 0, .rw, .val 0, keptL⟩  -- R369
  | .TS_CS_DATA0_W => ⟨0x100c4, 4, 0x4000, 1, 0x0, 31, 0, .ro, .val 0, keptPower⟩  -- R369
  | .TS_CS_DATA1_W => ⟨0x100c8, 4, 0x4000, 1, 0x0, 31, 0, .ro, .val 0, keptPower⟩  -- R369
  | .TS_CS_DATA2_W => ⟨0x100cc, 4, 0x4000, 1, 0x0, 31, 0, .ro, .val 0, keptPower⟩  -- R369
  | .TS_CS_DATA3_W => ⟨0x100d0, 4, 0x4000, 1, 0x0, 31, 0, .ro, .val 0, keptPower⟩  -- R369
  | .SRV_STATE_MODE => ⟨0x20000, 4, 0x4000, 1, 0x0, 31, 28, .ro, .val 0, keptPower⟩  -- R227
  | .SRV_STATE_HEAD => ⟨0x20000, 4, 0x4000, 1, 0x0, 27, 23, .ro, .val 0, keptPower⟩  -- R227
  | .SRV_STATE_WU => ⟨0x20000, 4, 0x4000, 1, 0x0, 22, 22, .ro, .val 1, keptPower⟩  -- R227
  | .SRV_STATE_LOCK => ⟨0x20000, 4, 0x4000, 1, 0x0, 21, 21, .ro, .val 0, keptPower⟩  -- R227
  | .SRV_STATE_ISLAND_RET => ⟨0x20000, 4, 0x4000, 1, 0x0, 20, 20, .ro, .val 0, keptPower⟩  -- R227
  | .SRV_POS_TRACK => ⟨0x20004, 4, 0x4000, 1, 0x0, 21, 0, .ro, .val 0, keptPower⟩  -- R228
  | .SRV_PES_PEAK => ⟨0x20008, 4, 0x4000, 1, 0x0, 31, 16, .ro, .val 0, keptPower⟩  -- R229
  | .SRV_PES_NOW => ⟨0x20008, 4, 0x4000, 1, 0x0, 15, 0, .ro, .val 0, keptPower⟩  -- R229
  | .SRV_CMD_MA => ⟨0x2000c, 4, 0x4000, 1, 0x0, 31, 16, .ro, .val 0, keptPower⟩  -- R230
  | .SRV_CMD_VCM => ⟨0x2000c, 4, 0x4000, 1, 0x0, 15, 0, .ro, .val 0, keptPower⟩  -- R230
  | .SRV_FAULT_IMPL => ⟨0x20010, 4, 0x4000, 1, 0x0, 31, 16, .ro, .val 0, keptPower⟩  -- R231
  | .SRV_FAULT_MISS => ⟨0x20010, 4, 0x4000, 1, 0x0, 15, 8, .ro, .val 0, keptPower⟩  -- R231
  | .SRV_FAULT_LOOP => ⟨0x20010, 4, 0x4000, 1, 0x0, 7, 4, .ro, .val 0, keptPower⟩  -- R231
  | .SRV_FAULT_RELOAD => ⟨0x20010, 4, 0x4000, 1, 0x0, 3, 0, .ro, .val 0, keptPower⟩  -- R231
  | .SRV_WU_COUNT => ⟨0x20014, 4, 0x4000, 1, 0x0, 31, 8, .ro, .val 0, keptPower⟩  -- R232
  | .SRV_WU_CAUSE => ⟨0x20014, 4, 0x4000, 1, 0x0, 7, 0, .ro, .val 16, keptPower⟩  -- R232
  | .SRV_XFF_SRC => ⟨0x20018, 4, 0x4000, 1, 0x0, 31, 28, .ro, .image, keptPower⟩  -- R233
  | .SRV_XFF_MEAS => ⟨0x20018, 4, 0x4000, 1, 0x0, 27, 24, .ro, .val 0, keptPower⟩  -- R233
  | .SRV_XFF_MA => ⟨0x20018, 4, 0x4000, 1, 0x0, 15, 0, .ro, .val 0, keptPower⟩  -- R233
  | .SRV_INJ_CTL_EN => ⟨0x20100, 4, 0x4000, 1, 0x0, 31, 31, .rw, .val 0, keptL⟩  -- R234
  | .SRV_INJ_CTL_POINT => ⟨0x20100, 4, 0x4000, 1, 0x0, 30, 28, .rw, .val 0, keptL⟩  -- R234
  | .SRV_INJ_CTL_KIND => ⟨0x20100, 4, 0x4000, 1, 0x0, 27, 26, .rw, .val 0, keptL⟩  -- R234
  | .SRV_INJ_CTL_AMP => ⟨0x20100, 4, 0x4000, 1, 0x0, 15, 0, .rw, .val 0, keptL⟩  -- R234
  | .SRV_INJ_FREQ_REVS => ⟨0x20104, 4, 0x4000, 1, 0x0, 31, 24, .rw, .val 16, keptL⟩  -- R235
  | .SRV_INJ_FREQ_FREQ => ⟨0x20104, 4, 0x4000, 1, 0x0, 23, 0, .rw, .val 1000, keptL⟩  -- R235
  | .SRV_CAP_CTL_START => ⟨0x20110, 4, 0x4000, 1, 0x0, 31, 31, .rw1s, .val 0, keptNone⟩  -- R236
  | .SRV_CAP_CTL_DONE => ⟨0x20110, 4, 0x4000, 1, 0x0, 30, 30, .ro, .val 0, keptPower⟩  -- R236
  | .SRV_CAP_CTL_NSIG => ⟨0x20110, 4, 0x4000, 1, 0x0, 29, 28, .rw, .val 0, keptL⟩  -- R236
  | .SRV_CAP_CTL_DECIM => ⟨0x20110, 4, 0x4000, 1, 0x0, 27, 20, .rw, .val 0, keptL⟩  -- R236
  | .SRV_CAP_CTL_SIG => ⟨0x20110, 4, 0x4000, 1, 0x0, 15, 0, .rw, .val 12816, keptL⟩  -- R236
  | .SRV_CAP_IDX_IDX => ⟨0x20114, 4, 0x4000, 1, 0x0, 13, 0, .rw, .val 0, keptL⟩  -- R237
  | .SRV_CAP_DATA_VAL => ⟨0x20118, 4, 0x4000, 1, 0x0, 31, 0, .ro, .val 0, keptPower⟩  -- R237
  | .SRV_TBLMAP_T1_LOOP => ⟨0x20f00, 4, 0x4000, 1, 0x0, 15, 12, .ro, .image, keptNotA⟩  -- R238
  | .SRV_TBLMAP_T1_INDEX => ⟨0x20f00, 4, 0x4000, 1, 0x0, 11, 8, .ro, .image, keptNotA⟩  -- R238
  | .SRV_TBLMAP_T0_LOOP => ⟨0x20f00, 4, 0x4000, 1, 0x0, 7, 4, .ro, .image, keptNotA⟩  -- R238
  | .SRV_TBLMAP_T0_INDEX => ⟨0x20f00, 4, 0x4000, 1, 0x0, 3, 0, .ro, .image, keptNotA⟩  -- R238
  | .SPN_STATE_STATE => ⟨0x30000, 1, 0x0, 1, 0x0, 31, 28, .ro, .val 0, keptPower⟩  -- R177
  | .SPN_STATE_LOCK => ⟨0x30000, 1, 0x0, 1, 0x0, 27, 27, .ro, .val 0, keptPower⟩  -- R177
  | .SPN_STATE_SRC => ⟨0x30000, 1, 0x0, 1, 0x0, 26, 26, .ro, .val 0, keptPower⟩  -- R177
  | .SPN_STATE_FWEAK => ⟨0x30000, 1, 0x0, 1, 0x0, 25, 25, .ro, .val 0, keptPower⟩  -- R177
  | .SPN_STATE_MODLIM => ⟨0x30000, 1, 0x0, 1, 0x0, 24, 24, .ro, .val 0, keptPower⟩  -- R177
  | .SPN_STATE_SPEED => ⟨0x30000, 1, 0x0, 1, 0x0, 15, 0, .ro, .val 0, keptPower⟩  -- R177
  | .SPN_FLUX_DEPTH => ⟨0x30004, 1, 0x0, 1, 0x0, 31, 24, .ro, .val 0, keptPower⟩  -- R178
  | .SPN_FLUX_ID => ⟨0x30004, 1, 0x0, 1, 0x0, 23, 8, .ro, .val 0, keptPower⟩  -- R178
  | .SPN_FLUX_REF => ⟨0x30004, 1, 0x0, 1, 0x0, 7, 0, .ro, .val 100, keptPower⟩  -- R178
  | .SPN_BUS_MAX => ⟨0x30008, 1, 0x0, 1, 0x0, 31, 16, .ro, .val 0, keptPower⟩  -- R179
  | .SPN_BUS_NOW => ⟨0x30008, 1, 0x0, 1, 0x0, 15, 0, .ro, .val 0, keptPower⟩  -- R179
  | .SPN_FAULT_PLAUS => ⟨0x30010, 1, 0x0, 1, 0x0, 31, 24, .ro, .val 0, keptPower⟩  -- R180
  | .SPN_FAULT_ZCLOSS => ⟨0x30010, 1, 0x0, 1, 0x0, 23, 16, .ro, .val 0, keptPower⟩  -- R180
  | .SPN_FAULT_CATCH => ⟨0x30010, 1, 0x0, 1, 0x0, 15, 8, .ro, .val 0, keptPower⟩  -- R180
  | .SPN_FAULT_UNLOAD => ⟨0x30010, 1, 0x0, 1, 0x0, 7, 0, .ro, .val 0, keptPower⟩  -- R180
  | .SPN_BRAKE_CLAMPBAD => ⟨0x30014, 1, 0x0, 1, 0x0, 31, 31, .ro, .val 0, keptPower⟩  -- R181
  | .SPN_BRAKE_TEST => ⟨0x30014, 1, 0x0, 1, 0x0, 30, 30, .rw1s, .val 0, keptNone⟩  -- R181
  | .SPN_BRAKE_LAST => ⟨0x30014, 1, 0x0, 1, 0x0, 29, 28, .ro, .val 0, keptPower⟩  -- R181
  | .SPN_BRAKE_SHORTS => ⟨0x30014, 1, 0x0, 1, 0x0, 23, 16, .ro, .val 0, keptPower⟩  -- R181
  | .SPN_BRAKE_COASTS => ⟨0x30014, 1, 0x0, 1, 0x0, 15, 8, .ro, .val 0, keptPower⟩  -- R181
  | .SPN_BRAKE_TESTFAIL => ⟨0x30014, 1, 0x0, 1, 0x0, 7, 0, .ro, .val 0, keptPower⟩  -- R181
  | .SPN_SPINUP_CAUSE => ⟨0x30018, 1, 0x0, 1, 0x0, 31, 24, .ro, .val 0, keptPower⟩  -- R182
  | .SPN_SPINUP_TRIES => ⟨0x30018, 1, 0x0, 1, 0x0, 23, 16, .ro, .val 0, keptPower⟩  -- R182
  | .SPN_SPINUP_TIME => ⟨0x30018, 1, 0x0, 1, 0x0, 15, 0, .ro, .val 0, keptPower⟩  -- R182
  | .AST_STATE_LOOP => ⟨0x34000, 4, 0x3000, 1, 0x0, 31, 28, .ro, .val 0, keptPower⟩  -- R272
  | .AST_STATE_HEAD => ⟨0x34000, 4, 0x3000, 1, 0x0, 27, 25, .ro, .val 0, keptPower⟩  -- R272
  | .AST_STATE_TYPE => ⟨0x34000, 4, 0x3000, 1, 0x0, 24, 24, .ro, .image, keptNotA⟩  -- R272
  | .AST_STATE_AG => ⟨0x34000, 4, 0x3000, 1, 0x0, 23, 23, .ro, .val 0, keptPower⟩  -- R272
  | .AST_STATE_WG => ⟨0x34000, 4, 0x3000, 1, 0x0, 22, 22, .ro, .val 0, keptPower⟩  -- R272
  | .AST_STATE_ZONE => ⟨0x34000, 4, 0x3000, 1, 0x0, 21, 16, .ro, .val 0, keptPower⟩  -- R272
  | .AST_STATE_WFAIL => ⟨0x34000, 4, 0x3000, 1, 0x0, 15, 10, .ro, .val 0, keptAll⟩  -- R272
  | .AST_CMD_ASSIST => ⟨0x34004, 4, 0x3000, 1, 0x0, 27, 16, .ro, .val 0, keptPower⟩  -- R273
  | .AST_CMD_HEATER => ⟨0x34004, 4, 0x3000, 1, 0x0, 11, 0, .ro, .val 0, keptPower⟩  -- R273
  | .AST_PSL_REJECT => ⟨0x34008, 4, 0x3000, 1, 0x0, 31, 24, .ro, .val 0, keptPower⟩  -- R274
  | .AST_PSL_NOACK => ⟨0x34008, 4, 0x3000, 1, 0x0, 23, 16, .ro, .val 0, keptPower⟩  -- R274
  | .AST_PSL_FAULT => ⟨0x34008, 4, 0x3000, 1, 0x0, 15, 8, .ro, .val 0, keptPower⟩  -- R274
  | .AST_PSL_REINIT => ⟨0x34008, 4, 0x3000, 1, 0x0, 7, 0, .ro, .val 0, keptPower⟩  -- R274
  | .AST_FAULT_CAUSE => ⟨0x3400c, 4, 0x3000, 1, 0x0, 31, 24, .ro, .val 0, keptPower⟩  -- R275
  | .AST_FAULT_SUPPLY => ⟨0x3400c, 4, 0x3000, 1, 0x0, 23, 23, .ro, .val 0, keptPower⟩  -- R275
  | .AST_FAULT_HEAD => ⟨0x3400c, 4, 0x3000, 1, 0x0, 22, 20, .ro, .val 0, keptPower⟩  -- R275
  | .AST_FAULT_COUNT => ⟨0x3400c, 4, 0x3000, 1, 0x0, 15, 0, .ro, .val 0, keptPower⟩  -- R275
  | .AST_HTRIM_TRIM => ⟨0x34100, 4, 0x3000, 6, 0x40, 31, 16, .ro, .stored, keptAll⟩  -- R276
  | .AST_HTRIM_ZONE => ⟨0x34100, 4, 0x3000, 6, 0x40, 15, 10, .ro, .stored, keptAll⟩  -- R276
  | .AST_HTRIM_SATHI => ⟨0x34100, 4, 0x3000, 6, 0x40, 9, 9, .ro, .val 0, keptAll⟩  -- R276
  | .AST_HTRIM_SATLO => ⟨0x34100, 4, 0x3000, 6, 0x40, 8, 8, .ro, .val 0, keptAll⟩  -- R276
  | .AST_HLAS_ITH => ⟨0x34104, 4, 0x3000, 6, 0x40, 31, 16, .ro, .stored, keptAll⟩  -- R277
  | .AST_HLAS_IDRV => ⟨0x34104, 4, 0x3000, 6, 0x40, 15, 0, .ro, .val 0, keptPower⟩  -- R277
  | .AST_HCLR_DRIFT => ⟨0x34108, 4, 0x3000, 6, 0x40, 31, 16, .ro, .stored, keptAll⟩  -- R278
  | .AST_HCLR_HTR => ⟨0x34108, 4, 0x3000, 6, 0x40, 11, 0, .ro, .val 0, keptPower⟩  -- R278
  | .AST_HEVT_TD => ⟨0x3410c, 4, 0x3000, 6, 0x40, 31, 24, .ro, .stored, keptAll⟩  -- R279
  | .AST_HEVT_VSUSP => ⟨0x3410c, 4, 0x3000, 6, 0x40, 23, 16, .ro, .stored, keptAll⟩  -- R279
  | .AST_HEVT_TRSAT => ⟨0x3410c, 4, 0x3000, 6, 0x40, 15, 8, .ro, .stored, keptAll⟩  -- R279
  | .AST_HEVT_FLT => ⟨0x3410c, 4, 0x3000, 6, 0x40, 7, 0, .ro, .stored, keptAll⟩  -- R279
  | .AST_HAON_LO_TIME => ⟨0x34110, 4, 0x3000, 6, 0x40, 31, 0, .ro, .stored, keptAll⟩  -- R280
  | .AST_HAON_HI_TIME => ⟨0x34114, 4, 0x3000, 6, 0x40, 7, 0, .ro, .stored, keptAll⟩  -- R280
  | .AST_HWON_LO_TIME => ⟨0x34118, 4, 0x3000, 6, 0x40, 31, 0, .ro, .stored, keptAll⟩  -- R280
  | .AST_HWON_HI_TIME => ⟨0x3411c, 4, 0x3000, 6, 0x40, 7, 0, .ro, .stored, keptAll⟩  -- R280
  | .CH_STATE_MODE => ⟨0x40000, 4, 0x4000, 1, 0x0, 31, 28, .ro, .val 0, keptPower⟩  -- R316
  | .CH_STATE_ZONE => ⟨0x40000, 4, 0x4000, 1, 0x0, 27, 22, .ro, .val 0, keptPower⟩  -- R316
  | .CH_STATE_HEAD => ⟨0x40000, 4, 0x4000, 1, 0x0, 21, 19, .ro, .val 0, keptPower⟩  -- R316
  | .CH_STATE_RDMODE => ⟨0x40000, 4, 0x4000, 1, 0x0, 18, 17, .ro, .val 0, keptPower⟩  -- R316
  | .CH_STATE_FROZEN => ⟨0x40000, 4, 0x4000, 1, 0x0, 16, 16, .ro, .val 0, keptPower⟩  -- R316
  | .CH_STATE_RAWMODE => ⟨0x40000, 4, 0x4000, 1, 0x0, 15, 15, .ro, .image, keptNotA⟩  -- R316
  | .CH_STATE_RATE => ⟨0x40000, 4, 0x4000, 1, 0x0, 14, 8, .ro, .val 0, keptPower⟩  -- R316
  | .CH_ADAPT_L_GAIN => ⟨0x40004, 4, 0x4000, 1, 0x0, 31, 24, .ro, .val 0, keptPower⟩  -- R317
  | .CH_ADAPT_L_OFS => ⟨0x40004, 4, 0x4000, 1, 0x0, 23, 16, .ro, .val 0, keptPower⟩  -- R317
  | .CH_ADAPT_L_ASYM => ⟨0x40004, 4, 0x4000, 1, 0x0, 15, 8, .ro, .val 0, keptPower⟩  -- R317
  | .CH_ADAPT_L_TRFREQ => ⟨0x40004, 4, 0x4000, 1, 0x0, 7, 0, .ro, .val 0, keptPower⟩  -- R317
  | .CH_ADAPT_T_GAIN => ⟨0x40008, 4, 0x4000, 1, 0x0, 31, 24, .ro, .val 0, keptPower⟩  -- R317
  | .CH_ADAPT_T_OFS => ⟨0x40008, 4, 0x4000, 1, 0x0, 23, 16, .ro, .val 0, keptPower⟩  -- R317
  | .CH_ADAPT_T_ASYM => ⟨0x40008, 4, 0x4000, 1, 0x0, 15, 8, .ro, .val 0, keptPower⟩  -- R317
  | .CH_ADAPT_T_TRFREQ => ⟨0x40008, 4, 0x4000, 1, 0x0, 7, 0, .ro, .val 0, keptPower⟩  -- R317
  | .CH_MARK_PMOFS => ⟨0x4000c, 4, 0x4000, 1, 0x0, 31, 24, .ro, .val 0, keptPower⟩  -- R318
  | .CH_MARK_PMDIST => ⟨0x4000c, 4, 0x4000, 1, 0x0, 23, 18, .ro, .val 0, keptPower⟩  -- R318
  | .CH_MARK_SMDIST => ⟨0x4000c, 4, 0x4000, 1, 0x0, 17, 12, .ro, .val 0, keptPower⟩  -- R318
  | .CH_MARK_SOURCE => ⟨0x4000c, 4, 0x4000, 1, 0x0, 11, 8, .ro, .val 0, keptPower⟩  -- R318
  | .CH_SECT_LO_COUNT => ⟨0x40010, 4, 0x4000, 1, 0x0, 31, 0, .ro, .val 0, keptPower⟩  -- R319
  | .CH_SECT_HI_COUNT => ⟨0x40014, 4, 0x4000, 1, 0x0, 31, 0, .ro, .val 0, keptPower⟩  -- R319
  | .CH_LADDER_n_COUNT => ⟨0x40020, 4, 0x4000, 8, 0x4, 31, 0, .ro, .val 0, keptPower⟩  -- R320
  | .CH_EVT_MISCOR => ⟨0x40040, 4, 0x4000, 1, 0x0, 31, 24, .ro, .val 0, keptPower⟩  -- R321
  | .CH_EVT_TA => ⟨0x40040, 4, 0x4000, 1, 0x0, 23, 16, .ro, .val 0, keptPower⟩  -- R321
  | .CH_EVT_DEFECT => ⟨0x40040, 4, 0x4000, 1, 0x0, 15, 8, .ro, .val 0, keptPower⟩  -- R321
  | .CH_EVT_SLOTFULL => ⟨0x40040, 4, 0x4000, 1, 0x0, 7, 0, .ro, .val 0, keptPower⟩  -- R321
  | .CH_RAW_FAILS => ⟨0x40044, 4, 0x4000, 1, 0x0, 31, 16, .ro, .val 0, keptPower⟩  -- R322
  | .CH_RAW_LASTM => ⟨0x40044, 4, 0x4000, 1, 0x0, 15, 0, .ro, .val 0, keptPower⟩  -- R322
  | .CH_FIR_L_n_TAP => ⟨0x40100, 4, 0x4000, 16, 0x4, 9, 0, .ro, .val 0, keptPower⟩  -- R324
  | .CH_FIR_T_n_TAP => ⟨0x40140, 4, 0x4000, 16, 0x4, 9, 0, .ro, .val 0, keptPower⟩  -- R324
  | .CH_SMP_CTL_HOLD => ⟨0x40200, 4, 0x4000, 1, 0x0, 31, 31, .rw, .val 0, keptL⟩  -- R325
  | .CH_SMP_CTL_SLOT => ⟨0x40200, 4, 0x4000, 1, 0x0, 30, 28, .rw, .val 0, keptL⟩  -- R325
  | .CH_SMP_CTL_FORCE => ⟨0x40200, 4, 0x4000, 1, 0x0, 27, 26, .rw, .val 0, keptL⟩  -- R325
  | .CH_SMP_CTL_IDX => ⟨0x40200, 4, 0x4000, 1, 0x0, 16, 0, .rw, .val 0, keptL⟩  -- R325
  | .CH_SMP_DATA_T => ⟨0x40204, 4, 0x4000, 1, 0x0, 15, 8, .ro, .val 0, keptPower⟩  -- R326
  | .CH_SMP_DATA_L => ⟨0x40204, 4, 0x4000, 1, 0x0, 7, 0, .ro, .val 0, keptPower⟩  -- R326
  | .CH_DEEP_QUEUE => ⟨0x40f00, 4, 0x4000, 1, 0x0, 31, 28, .ro, .val 0, keptPower⟩  -- R323
  | .CH_DEEP_PEAK => ⟨0x40f00, 4, 0x4000, 1, 0x0, 27, 24, .ro, .val 0, keptPower⟩  -- R323
  | .CH_DEEP_WAITMAX => ⟨0x40f00, 4, 0x4000, 1, 0x0, 15, 0, .ro, .val 0, keptPower⟩  -- R323
  | .XL_STATE_RO => ⟨0x50000, 1, 0x0, 1, 0x0, 31, 31, .ro, .stored, keptAll⟩  -- R410
  | .XL_STATE_LEVEL => ⟨0x50000, 1, 0x0, 1, 0x0, 30, 30, .ro, .stored, keptAll⟩  -- R410
  | .XL_STATE_ACTIVE => ⟨0x50000, 1, 0x0, 1, 0x0, 29, 24, .ro, .stored, keptAll⟩  -- R410
  | .XL_STATE_OPEN => ⟨0x50000, 1, 0x0, 1, 0x0, 23, 18, .ro, .stored, keptAll⟩  -- R410
  | .XL_STATE_NS => ⟨0x50000, 1, 0x0, 1, 0x0, 17, 14, .ro, .stored, keptAll⟩  -- R410
  | .XL_FREE_BANDS => ⟨0x50004, 1, 0x0, 1, 0x0, 19, 0, .ro, .stored, keptAll⟩  -- R411
  | .XL_FRSV_BANDS => ⟨0x50008, 1, 0x0, 1, 0x0, 19, 0, .ro, .stored, keptAll⟩  -- R411
  | .XL_SPARE_USED => ⟨0x5000c, 1, 0x0, 1, 0x0, 31, 16, .ro, .stored, keptAll⟩  -- R412
  | .XL_SPARE_LEAST => ⟨0x5000c, 1, 0x0, 1, 0x0, 15, 0, .ro, .stored, keptAll⟩  -- R412
  | .XL_COPY_QUEUED => ⟨0x50010, 1, 0x0, 1, 0x0, 31, 16, .ro, .stored, keptAll⟩  -- R413
  | .XL_COPY_URGENT => ⟨0x50010, 1, 0x0, 1, 0x0, 15, 8, .ro, .stored, keptAll⟩  -- R413
  | .XL_COPY_RUNNING => ⟨0x50010, 1, 0x0, 1, 0x0, 7, 0, .ro, .val 0, keptPower⟩  -- R413
  | .XL_COPYEVT_RET => ⟨0x50014, 1, 0x0, 1, 0x0, 31, 24, .ro, .val 0, keptPower⟩  -- R414
  | .XL_COPYEVT_DIST => ⟨0x50014, 1, 0x0, 1, 0x0, 23, 16, .ro, .val 0, keptPower⟩  -- R414
  | .XL_COPYEVT_WEAK => ⟨0x50014, 1, 0x0, 1, 0x0, 15, 8, .ro, .val 0, keptPower⟩  -- R414
  | .XL_COPYEVT_RECON => ⟨0x50014, 1, 0x0, 1, 0x0, 7, 0, .ro, .val 0, keptPower⟩  -- R414
  | .XL_BANDFAIL_RETARGET => ⟨0x50018, 1, 0x0, 1, 0x0, 31, 16, .ro, .stored, keptAll⟩  -- R415
  | .XL_BANDFAIL_RETIRED => ⟨0x50018, 1, 0x0, 1, 0x0, 15, 0, .ro, .stored, keptAll⟩  -- R415
  | .XL_WEAR_SPREAD => ⟨0x5001c, 1, 0x0, 1, 0x0, 31, 16, .ro, .stored, keptAll⟩  -- R416
  | .XL_WEAR_MAX => ⟨0x5001c, 1, 0x0, 1, 0x0, 15, 11, .ro, .stored, keptAll⟩  -- R416
  | .XL_WEAR_MIN => ⟨0x5001c, 1, 0x0, 1, 0x0, 10, 6, .ro, .stored, keptAll⟩  -- R416
  | .XL_MC_NAND => ⟨0x50020, 1, 0x0, 1, 0x0, 31, 24, .ro, .stored, keptAll⟩  -- R417
  | .XL_MC_TRK => ⟨0x50020, 1, 0x0, 1, 0x0, 23, 16, .ro, .stored, keptAll⟩  -- R417
  | .XL_MC_CLEAN => ⟨0x50020, 1, 0x0, 1, 0x0, 15, 15, .ro, .val 0, keptPower⟩  -- R417
  | .XL_WREJ_ZIW => ⟨0x50024, 1, 0x0, 1, 0x0, 31, 16, .ro, .val 0, keptPower⟩  -- R418
  | .XL_WREJ_CAPEX => ⟨0x50024, 1, 0x0, 1, 0x0, 15, 0, .ro, .val 0, keptPower⟩  -- R418
  | .XL_RELOC_SECTORS => ⟨0x50028, 1, 0x0, 1, 0x0, 23, 0, .ro, .stored, keptAll⟩  -- R419
  | .BP_STATE_RETIRE => ⟨0x58000, 1, 0x0, 1, 0x0, 31, 31, .ro, .stored, keptPower⟩  -- R453
  | .BP_STATE_REBUILD => ⟨0x58000, 1, 0x0, 1, 0x0, 30, 30, .ro, .stored, keptPower⟩  -- R453
  | .BP_STATE_OPENROWS => ⟨0x58000, 1, 0x0, 1, 0x0, 29, 24, .ro, .val 0, keptPower⟩  -- R453
  | .BP_STATE_ACTIVE => ⟨0x58000, 1, 0x0, 1, 0x0, 23, 0, .ro, .stored, keptAll⟩  -- R453
  | .BP_RECON_SECT => ⟨0x58010, 1, 0x0, 1, 0x0, 31, 12, .ro, .stored, keptAll⟩  -- R455
  | .BP_RECON_UNVER => ⟨0x58010, 1, 0x0, 1, 0x0, 11, 4, .ro, .stored, keptAll⟩  -- R455
  | .BP_RECON_FAIL => ⟨0x58010, 1, 0x0, 1, 0x0, 3, 0, .ro, .stored, keptAll⟩  -- R455
  | .BP_DEGR_ROWS => ⟨0x58014, 1, 0x0, 1, 0x0, 31, 8, .ro, .stored, keptAll⟩  -- R456
  | .BP_DEGR_MINRED => ⟨0x58014, 1, 0x0, 1, 0x0, 7, 4, .ro, .stored, keptAll⟩  -- R456
  | .BP_RETIRE_LEFT => ⟨0x58018, 1, 0x0, 1, 0x0, 31, 16, .ro, .stored, keptPower⟩  -- R457
  | .BP_RETIRE_BANDS => ⟨0x58018, 1, 0x0, 1, 0x0, 15, 0, .ro, .stored, keptPower⟩  -- R457
  | .BP_LOST_COUNT => ⟨0x5801c, 1, 0x0, 1, 0x0, 23, 0, .ro, .stored, keptAll⟩  -- R458
  | .BP_SURF_n_STATE => ⟨0x58100, 24, 0x4, 1, 0x0, 31, 28, .ro, .stored, keptAll⟩  -- R454
  | .BP_SURF_n_CAUSE => ⟨0x58100, 24, 0x4, 1, 0x0, 27, 24, .ro, .stored, keptAll⟩  -- R454
  | .BP_SURF_n_VROWS => ⟨0x58100, 24, 0x4, 1, 0x0, 23, 0, .ro, .stored, keptAll⟩  -- R454
  | .NS_STATE_STATE => ⟨0x60000, 1, 0x0, 1, 0x0, 31, 30, .ro, .stored, keptAll⟩  -- R487
  | .NS_STATE_RSV => ⟨0x60000, 1, 0x0, 1, 0x0, 29, 27, .ro, .val 0, keptPower⟩  -- R487
  | .NS_STATE_REPLAY => ⟨0x60000, 1, 0x0, 1, 0x0, 26, 26, .ro, .val 0, keptPower⟩  -- R487
  | .NS_STATE_WL => ⟨0x60000, 1, 0x0, 1, 0x0, 25, 25, .ro, .val 0, keptPower⟩  -- R487
  | .NS_STATE_GC => ⟨0x60000, 1, 0x0, 1, 0x0, 24, 24, .ro, .val 0, keptPower⟩  -- R487
  | .NS_STATE_STAGE => ⟨0x60000, 1, 0x0, 1, 0x0, 23, 16, .ro, .val 0, keptPower⟩  -- R487
  | .NS_BLOCKS_GOOD => ⟨0x60004, 1, 0x0, 1, 0x0, 31, 20, .ro, .stored, keptAll⟩  -- R488
  | .NS_BLOCKS_FREE => ⟨0x60004, 1, 0x0, 1, 0x0, 19, 8, .ro, .val 0, keptPower⟩  -- R488
  | .NS_BLOCKS_FACTBAD => ⟨0x60004, 1, 0x0, 1, 0x0, 7, 0, .ro, .stored, keptAll⟩  -- R488
  | .NS_DEFECT_GROWN => ⟨0x60008, 1, 0x0, 1, 0x0, 31, 16, .ro, .stored, keptAll⟩  -- R489
  | .NS_DEFECT_ERASEFAIL => ⟨0x60008, 1, 0x0, 1, 0x0, 15, 8, .ro, .stored, keptAll⟩  -- R489
  | .NS_DEFECT_PROGFAIL => ⟨0x60008, 1, 0x0, 1, 0x0, 7, 0, .ro, .stored, keptAll⟩  -- R489
  | .NS_WEAR_MAXEC => ⟨0x6000c, 1, 0x0, 1, 0x0, 31, 16, .ro, .stored, keptAll⟩  -- R490
  | .NS_WEAR_AVGEC => ⟨0x6000c, 1, 0x0, 1, 0x0, 15, 0, .ro, .stored, keptAll⟩  -- R490
  | .NS_WEAR2_MINEC => ⟨0x60010, 1, 0x0, 1, 0x0, 31, 16, .ro, .stored, keptAll⟩  -- R491
  | .NS_WEAR2_USED => ⟨0x60010, 1, 0x0, 1, 0x0, 15, 8, .ro, .stored, keptAll⟩  -- R491
  | .NS_READ_RETRY => ⟨0x60014, 1, 0x0, 1, 0x0, 31, 16, .ro, .val 0, keptPower⟩  -- R492
  | .NS_READ_REFRESH => ⟨0x60014, 1, 0x0, 1, 0x0, 15, 8, .ro, .val 0, keptPower⟩  -- R492
  | .NS_READ_UNCORR => ⟨0x60014, 1, 0x0, 1, 0x0, 7, 0, .ro, .val 0, keptPower⟩  -- R492
  | .NS_EVT_NOTERASED => ⟨0x60018, 1, 0x0, 1, 0x0, 31, 24, .ro, .val 0, keptPower⟩  -- R493
  | .NS_EVT_GCRETIRE => ⟨0x60018, 1, 0x0, 1, 0x0, 23, 16, .ro, .val 0, keptPower⟩  -- R493
  | .NS_EVT_WLMOVE => ⟨0x60018, 1, 0x0, 1, 0x0, 15, 8, .ro, .val 0, keptPower⟩  -- R493
  | .NS_EVT_FLUSHSKIP => ⟨0x60018, 1, 0x0, 1, 0x0, 7, 0, .ro, .val 0, keptPower⟩  -- R493
  | .NS_RSV_DIRTYCAP => ⟨0x6001c, 1, 0x0, 1, 0x0, 31, 16, .ro, .val 0, keptPower⟩  -- R494
  | .NS_RSV_RATE => ⟨0x6001c, 1, 0x0, 1, 0x0, 15, 0, .ro, .stored, keptAll⟩  -- R494
  | .NS_JRNL_SINCE => ⟨0x60020, 1, 0x0, 1, 0x0, 31, 16, .ro, .val 0, keptPower⟩  -- R495
  | .NS_JRNL_REPLAY => ⟨0x60020, 1, 0x0, 1, 0x0, 15, 0, .ro, .val 0, keptPower⟩  -- R495
  | .PX_LINK_STATE => ⟨0x70000, 2, 0x2000, 1, 0x0, 31, 28, .ro, .val 0, keptPower⟩  -- R532
  | .PX_LINK_RATE => ⟨0x70000, 2, 0x2000, 1, 0x0, 27, 25, .ro, .val 0, keptPower⟩  -- R532
  | .PX_LINK_WIDTH => ⟨0x70000, 2, 0x2000, 1, 0x0, 24, 23, .ro, .val 0, keptPower⟩  -- R532
  | .PX_LINK_FLIT => ⟨0x70000, 2, 0x2000, 1, 0x0, 22, 22, .ro, .val 0, keptPower⟩  -- R532
  | .PX_LINK_REV => ⟨0x70000, 2, 0x2000, 1, 0x0, 21, 21, .ro, .val 0, keptPower⟩  -- R532
  | .PX_LINK_DPEN => ⟨0x70000, 2, 0x2000, 1, 0x0, 20, 20, .ro, .sampled, keptAll⟩  -- R532
  | .PX_LINK_DSTATE => ⟨0x70000, 2, 0x2000, 1, 0x0, 19, 18, .ro, .val 0, keptPower⟩  -- R532
  | .PX_LINKEVT_DOWN => ⟨0x70004, 2, 0x2000, 1, 0x0, 31, 24, .ro, .val 0, keptPower⟩  -- R533
  | .PX_LINKEVT_RECOV => ⟨0x70004, 2, 0x2000, 1, 0x0, 23, 16, .ro, .val 0, keptPower⟩  -- R533
  | .PX_LINKEVT_DEGR => ⟨0x70004, 2, 0x2000, 1, 0x0, 15, 8, .ro, .val 0, keptPower⟩  -- R533
  | .PX_TAGS_OUT => ⟨0x70008, 2, 0x2000, 1, 0x0, 31, 22, .ro, .val 0, keptPower⟩  -- R534
  | .PX_TAGS_QUAR => ⟨0x70008, 2, 0x2000, 1, 0x0, 21, 12, .ro, .val 0, keptPower⟩  -- R534
  | .PX_TAGS_PEAK => ⟨0x70008, 2, 0x2000, 1, 0x0, 11, 2, .ro, .val 0, keptPower⟩  -- R534
  | .PX_TAGS_MODE => ⟨0x70008, 2, 0x2000, 1, 0x0, 1, 0, .ro, .val 0, keptPower⟩  -- R534
  | .PX_CTO_COUNT => ⟨0x7000c, 2, 0x2000, 1, 0x0, 31, 16, .ro, .val 0, keptPower⟩  -- R535
  | .PX_CTO_TMS => ⟨0x7000c, 2, 0x2000, 1, 0x0, 15, 0, .ro, .val 40, keptPower⟩  -- R535
  | .PX_UNEXP_LATE => ⟨0x70010, 2, 0x2000, 1, 0x0, 31, 16, .ro, .val 0, keptPower⟩  -- R536
  | .PX_UNEXP_STRAY => ⟨0x70010, 2, 0x2000, 1, 0x0, 15, 8, .ro, .val 0, keptPower⟩  -- R536
  | .PX_UNEXP_DISC => ⟨0x70010, 2, 0x2000, 1, 0x0, 7, 0, .ro, .val 0, keptPower⟩  -- R536
  | .PX_RXERR_MALF => ⟨0x70014, 2, 0x2000, 1, 0x0, 31, 24, .ro, .val 0, keptPower⟩  -- R537
  | .PX_RXERR_UR => ⟨0x70014, 2, 0x2000, 1, 0x0, 23, 16, .ro, .val 0, keptPower⟩  -- R537
  | .PX_RXERR_POISON => ⟨0x70014, 2, 0x2000, 1, 0x0, 15, 8, .ro, .val 0, keptPower⟩  -- R537
  | .PX_RXERR_CPLERR => ⟨0x70014, 2, 0x2000, 1, 0x0, 7, 0, .ro, .val 0, keptPower⟩  -- R537
  | .PX_DB_INVAL => ⟨0x70018, 2, 0x2000, 1, 0x0, 31, 16, .ro, .val 0, keptPower⟩  -- R538
  | .PX_DB_NOQ => ⟨0x70018, 2, 0x2000, 1, 0x0, 15, 8, .ro, .val 0, keptPower⟩  -- R538
  | .PX_DB_THROTTLE => ⟨0x70018, 2, 0x2000, 1, 0x0, 7, 0, .ro, .val 0, keptPower⟩  -- R538
  | .PX_ATS_VALID => ⟨0x7001c, 2, 0x2000, 1, 0x0, 31, 22, .ro, .val 0, keptCNAL⟩  -- R539
  | .PX_ATS_FAULT => ⟨0x7001c, 2, 0x2000, 1, 0x0, 21, 14, .ro, .val 0, keptPower⟩  -- R539
  | .PX_ATS_INV => ⟨0x7001c, 2, 0x2000, 1, 0x0, 13, 0, .ro, .val 0, keptPower⟩  -- R539
  | .PX_BME_BME => ⟨0x70020, 2, 0x2000, 1, 0x0, 31, 31, .ro, .val 0, keptCNAL⟩  -- R540
  | .PX_BME_HELD => ⟨0x70020, 2, 0x2000, 1, 0x0, 30, 30, .ro, .val 0, keptCNAL⟩  -- R540
  | .PX_BME_HELDCPL => ⟨0x70020, 2, 0x2000, 1, 0x0, 29, 20, .ro, .val 0, keptCNAL⟩  -- R540
  | .PX_BME_CLEARS => ⟨0x70020, 2, 0x2000, 1, 0x0, 19, 12, .ro, .val 0, keptPower⟩  -- R540
  | .PX_DOE_SESS => ⟨0x70024, 2, 0x2000, 1, 0x0, 31, 28, .ro, .val 0, keptCNAL⟩  -- R541
  | .PX_DOE_UNLOCK => ⟨0x70024, 2, 0x2000, 1, 0x0, 27, 27, .ro, .val 0, keptL⟩  -- R541
  | .PX_DOE_ABORTS => ⟨0x70024, 2, 0x2000, 1, 0x0, 23, 16, .ro, .val 0, keptPower⟩  -- R541
  | .PX_DOE_OBJECTS => ⟨0x70024, 2, 0x2000, 1, 0x0, 15, 0, .ro, .val 0, keptPower⟩  -- R541
  | .PX_PM_PME => ⟨0x70028, 2, 0x2000, 1, 0x0, 31, 24, .ro, .val 0, keptPower⟩  -- R542
  | .PX_PM_WAKE => ⟨0x70028, 2, 0x2000, 1, 0x0, 23, 16, .ro, .val 0, keptAll⟩  -- R542
  | .PX_PM_TURNOFF => ⟨0x70028, 2, 0x2000, 1, 0x0, 15, 8, .ro, .val 0, keptPower⟩  -- R542
  | .NV_DBSEQ_LO_SEQ => ⟨0x78000, 1, 0x0, 1, 0x0, 31, 0, .ro, .val 0, keptPower⟩  -- R574
  | .NV_DBSEQ_HI_SEQ => ⟨0x78004, 1, 0x0, 1, 0x0, 31, 0, .ro, .val 0, keptPower⟩  -- R574
  | .NV_EXEC_PEAK => ⟨0x78008, 1, 0x0, 1, 0x0, 28, 16, .ro, .val 0, keptPower⟩  -- R575
  | .NV_EXEC_NOW => ⟨0x78008, 1, 0x0, 1, 0x0, 12, 0, .ro, .val 0, keptPower⟩  -- R575
  | .NV_ACTQ_A3 => ⟨0x7800c, 1, 0x0, 1, 0x0, 31, 24, .ro, .val 0, keptPower⟩  -- R576
  | .NV_ACTQ_A2 => ⟨0x7800c, 1, 0x0, 1, 0x0, 23, 16, .ro, .val 0, keptPower⟩  -- R576
  | .NV_ACTQ_A1 => ⟨0x7800c, 1, 0x0, 1, 0x0, 15, 8, .ro, .val 0, keptPower⟩  -- R576
  | .NV_ACTQ_A0 => ⟨0x7800c, 1, 0x0, 1, 0x0, 7, 0, .ro, .val 0, keptPower⟩  -- R576
  | .NV_AGED_COUNT => ⟨0x78010, 1, 0x0, 1, 0x0, 31, 0, .ro, .val 0, keptPower⟩  -- R577
  | .NV_CTL_EN => ⟨0x79000, 2, 0x1000, 1, 0x0, 31, 31, .ro, .val 0, keptAL⟩  -- R578
  | .NV_CTL_RDY => ⟨0x79000, 2, 0x1000, 1, 0x0, 30, 30, .ro, .val 0, keptAL⟩  -- R578
  | .NV_CTL_CFS => ⟨0x79000, 2, 0x1000, 1, 0x0, 29, 29, .ro, .val 0, keptAL⟩  -- R578
  | .NV_CTL_SHST => ⟨0x79000, 2, 0x1000, 1, 0x0, 28, 27, .ro, .val 0, keptAL⟩  -- R578
  | .NV_CTL_AMS => ⟨0x79000, 2, 0x1000, 1, 0x0, 26, 24, .ro, .val 0, keptAL⟩  -- R578
  | .NV_CTL_SQS => ⟨0x79000, 2, 0x1000, 1, 0x0, 23, 16, .ro, .val 0, keptAL⟩  -- R578
  | .NV_CTL_CQS => ⟨0x79000, 2, 0x1000, 1, 0x0, 15, 8, .ro, .val 0, keptAL⟩  -- R578
  | .NV_FENCE_OPEN => ⟨0x79004, 2, 0x1000, 1, 0x0, 31, 25, .ro, .val 0, keptAL⟩  -- R579
  | .NV_FENCE_HELD => ⟨0x79004, 2, 0x1000, 1, 0x0, 24, 12, .ro, .val 0, keptAL⟩  -- R579
  | .NV_FENCE_DONE => ⟨0x79004, 2, 0x1000, 1, 0x0, 11, 0, .ro, .val 0, keptPower⟩  -- R579
  | .NV_ABORT_ENDED => ⟨0x79008, 2, 0x1000, 1, 0x0, 31, 16, .ro, .val 0, keptPower⟩  -- R580
  | .NV_ABORT_COUNT => ⟨0x79008, 2, 0x1000, 1, 0x0, 15, 0, .ro, .val 0, keptPower⟩  -- R580
  | .NV_QREC_COUNT => ⟨0x7900c, 2, 0x1000, 1, 0x0, 31, 24, .ro, .val 0, keptPower⟩  -- R581
  | .NV_QREC_MAXMS => ⟨0x7900c, 2, 0x1000, 1, 0x0, 23, 16, .ro, .val 0, keptPower⟩  -- R581
  | .NV_QREC_ENDED => ⟨0x7900c, 2, 0x1000, 1, 0x0, 15, 0, .ro, .val 0, keptPower⟩  -- R581
  | .OCH_STATE_SAMPLES => ⟨0x80000, 1, 0x0, 1, 0x0, 31, 24, .ro, .stored, keptAll⟩  -- R638
  | .OCH_STATE_WORSTPCT => ⟨0x80000, 1, 0x0, 1, 0x0, 23, 16, .ro, .stored, keptAll⟩  -- R638
  | .OCH_STATE_WORSTID => ⟨0x80000, 1, 0x0, 1, 0x0, 15, 0, .ro, .stored, keptAll⟩  -- R638
  | .OCH_IND_n_A_PCT => ⟨0x80100, 132, 0x8, 1, 0x0, 31, 24, .ro, .stored, keptAll⟩  -- R639
  | .OCH_IND_n_A_FLAGS => ⟨0x80100, 132, 0x8, 1, 0x0, 23, 16, .ro, .stored, keptAll⟩  -- R639
  | .OCH_IND_n_A_ID => ⟨0x80100, 132, 0x8, 1, 0x0, 15, 0, .ro, .stored, keptAll⟩  -- R639
  | .OCH_IND_n_B_RAW => ⟨0x80104, 132, 0x8, 1, 0x0, 31, 0, .ro, .stored, keptAll⟩  -- R639
  | .SEP_STATE_ERA => ⟨0x84000, 1, 0x0, 1, 0x0, 31, 24, .ro, .stored, keptAll⟩  -- R666
  | .SEP_STATE_BUF => ⟨0x84000, 1, 0x0, 1, 0x0, 23, 14, .ro, .val 0, keptPower⟩  -- R666
  | .SEP_STATE_LAST => ⟨0x84000, 1, 0x0, 1, 0x0, 13, 12, .ro, .val 0, keptPower⟩  -- R666
  | .SEP_STATE_WT => ⟨0x84000, 1, 0x0, 1, 0x0, 11, 11, .ro, .val 0, keptPower⟩  -- R666
  | .SEP_STATE_KEEP => ⟨0x84000, 1, 0x0, 1, 0x0, 10, 0, .ro, .stored, keptAll⟩  -- R666
  | .SEP_SEQ_NEXT => ⟨0x84004, 1, 0x0, 1, 0x0, 31, 0, .ro, .stored, keptAll⟩  -- R667
  | .SEP_SUPP_COUNT => ⟨0x84008, 1, 0x0, 1, 0x0, 31, 0, .ro, .val 0, keptPower⟩  -- R667
  | .SEP_FLUSH_SEV => ⟨0x8400c, 1, 0x0, 1, 0x0, 31, 24, .ro, .val 0, keptPower⟩  -- R668
  | .SEP_FLUSH_HALF => ⟨0x8400c, 1, 0x0, 1, 0x0, 23, 16, .ro, .val 0, keptPower⟩  -- R668
  | .SEP_FLUSH_HOLDUP => ⟨0x8400c, 1, 0x0, 1, 0x0, 15, 8, .ro, .val 0, keptPower⟩  -- R668
  | .SEP_FLUSH_FULL => ⟨0x8400c, 1, 0x0, 1, 0x0, 7, 0, .ro, .val 0, keptPower⟩  -- R668
  | .SEP_FLUSH2_RECORDS => ⟨0x84010, 1, 0x0, 1, 0x0, 31, 16, .ro, .val 0, keptPower⟩  -- R740
  | .SEP_FLUSH2_LASTSTART => ⟨0x84010, 1, 0x0, 1, 0x0, 0, 0, .ro, .val 0, keptPower⟩  -- R740
  | .NIM_STATE_KIND => ⟨0x88000, 1, 0x0, 1, 0x0, 31, 28, .ro, .val 15, keptPower⟩  -- R669
  | .NIM_STATE_SUSP => ⟨0x88000, 1, 0x0, 1, 0x0, 27, 24, .ro, .val 0, keptPower⟩  -- R669
  | .NIM_STATE_TARGET => ⟨0x88000, 1, 0x0, 1, 0x0, 23, 16, .ro, .val 0, keptPower⟩  -- R669
  | .NIM_STATE_EST => ⟨0x88000, 1, 0x0, 1, 0x0, 15, 15, .ro, .val 0, keptPower⟩  -- R669
  | .NIM_RES_k_PASS => ⟨0x88010, 7, 0x4, 1, 0x0, 31, 16, .ro, .val 0, keptPower⟩  -- R670
  | .NIM_RES_k_FAIL => ⟨0x88010, 7, 0x4, 1, 0x0, 15, 8, .ro, .stored, keptAll⟩  -- R670
  | .NIM_RES_k_LAST => ⟨0x88010, 7, 0x4, 1, 0x0, 7, 0, .ro, .val 0, keptPower⟩  -- R670
  | .NIM_CORE_FAILED => ⟨0x88030, 1, 0x0, 1, 0x0, 11, 0, .ro, .val 0, keptPower⟩  -- R671
  | .NIM_PATROL_CYCLES => ⟨0x88034, 1, 0x0, 1, 0x0, 31, 16, .ro, .stored, keptAll⟩  -- R671
  | .NIM_PATROL_PROG => ⟨0x88034, 1, 0x0, 1, 0x0, 15, 0, .ro, .stored, keptAll⟩  -- R671
  | .NIM_CHSUSP_CH => ⟨0x88038, 1, 0x0, 1, 0x0, 3, 0, .ro, .val 0, keptPower⟩  -- R671
  | .THM_STAGE_STAGE => ⟨0x8c000, 1, 0x0, 1, 0x0, 31, 29, .ro, .val 0, keptPower⟩  -- R640
  | .THM_STAGE_TOKEN => ⟨0x8c000, 1, 0x0, 1, 0x0, 28, 22, .ro, .val 100, keptPower⟩  -- R640
  | .THM_STAGE_CAP => ⟨0x8c000, 1, 0x0, 1, 0x0, 21, 19, .ro, .val 0, keptPower⟩  -- R640
  | .THM_STAGE_NANDDIV => ⟨0x8c000, 1, 0x0, 1, 0x0, 18, 18, .ro, .val 0, keptPower⟩  -- R640
  | .THM_STAGE_DRAMDIV => ⟨0x8c000, 1, 0x0, 1, 0x0, 17, 17, .ro, .val 0, keptPower⟩  -- R640
  | .THM_STAGE_UNCAL => ⟨0x8c000, 1, 0x0, 1, 0x0, 16, 16, .ro, .val 0, keptPower⟩  -- R640
  | .THM_STAGE_TJ => ⟨0x8c000, 1, 0x0, 1, 0x0, 15, 0, .ro, .val 0, keptPower⟩  -- R640
  | .THM_SRC_HOTID => ⟨0x8c004, 1, 0x0, 1, 0x0, 31, 27, .ro, .val 0, keptPower⟩  -- R641
  | .THM_SRC_EXCL => ⟨0x8c004, 1, 0x0, 1, 0x0, 17, 0, .ro, .val 0, keptPower⟩  -- R641
  | .THM_EVT_S1 => ⟨0x8c010, 1, 0x0, 1, 0x0, 31, 24, .ro, .val 0, keptPower⟩  -- R642
  | .THM_EVT_S2 => ⟨0x8c010, 1, 0x0, 1, 0x0, 23, 16, .ro, .val 0, keptPower⟩  -- R642
  | .THM_EVT_S3 => ⟨0x8c010, 1, 0x0, 1, 0x0, 15, 8, .ro, .val 0, keptPower⟩  -- R642
  | .THM_EVT_S4 => ⟨0x8c010, 1, 0x0, 1, 0x0, 7, 0, .ro, .val 0, keptPower⟩  -- R642
  | .THM_RES_CORR => ⟨0x8c014, 1, 0x0, 1, 0x0, 31, 16, .ro, .val 0, keptPower⟩  -- R643
  | .THM_RES_NOCOMP => ⟨0x8c014, 1, 0x0, 1, 0x0, 15, 15, .ro, .val 0, keptPower⟩  -- R643
  | .THM_SENS_n_MAX => ⟨0x8c100, 26, 0x4, 1, 0x0, 31, 16, .ro, .stored, keptAll⟩  -- R644
  | .THM_SENS_n_NOW => ⟨0x8c100, 26, 0x4, 1, 0x0, 15, 0, .ro, .val 32768, keptPower⟩  -- R644
  | .MEM_L2_CARVE => ⟨0x90000, 1, 0x0, 1, 0x0, 31, 28, .ro, .image, keptNotA⟩  -- R703
  | .MEM_L2_CMB => ⟨0x90000, 1, 0x0, 1, 0x0, 27, 15, .ro, .image, keptNotA⟩  -- R703
  | .MEM_L2_RECOV => ⟨0x90000, 1, 0x0, 1, 0x0, 14, 14, .ro, .val 0, keptNotA⟩  -- R703
  | .MEM_MISS_PEAK => ⟨0x90004, 1, 0x0, 1, 0x0, 31, 24, .ro, .val 0, keptPower⟩  -- R704
  | .MEM_MISS_FULL => ⟨0x90004, 1, 0x0, 1, 0x0, 23, 16, .ro, .val 0, keptPower⟩  -- R704
  | .MEM_MISS_MERGED => ⟨0x90004, 1, 0x0, 1, 0x0, 15, 0, .ro, .val 0, keptPower⟩  -- R704
  | .MEM_EVB_RECLAIM => ⟨0x90008, 1, 0x0, 1, 0x0, 31, 16, .ro, .val 0, keptPower⟩  -- R705
  | .MEM_EVB_WAITED => ⟨0x90008, 1, 0x0, 1, 0x0, 15, 0, .ro, .val 0, keptPower⟩  -- R705
  | .MEM_SRAM_CORR => ⟨0x90010, 1, 0x0, 1, 0x0, 31, 16, .ro, .val 0, keptPower⟩  -- R706
  | .MEM_SRAM_UNCORR => ⟨0x90010, 1, 0x0, 1, 0x0, 15, 8, .ro, .val 0, keptPower⟩  -- R706
  | .MEM_SRAM_SPARED => ⟨0x90010, 1, 0x0, 1, 0x0, 7, 0, .ro, .val 0, keptPower⟩  -- R706
  | .MEM_SPARE_FREE => ⟨0x90014, 1, 0x0, 1, 0x0, 31, 16, .ro, .repairs, keptPower⟩  -- R707
  | .MEM_SPARE_LEAST => ⟨0x90014, 1, 0x0, 1, 0x0, 15, 8, .ro, .repairs, keptPower⟩  -- R707
  | .MEM_SPARE_NOSPARE => ⟨0x90014, 1, 0x0, 1, 0x0, 7, 0, .ro, .repairs, keptPower⟩  -- R707
  | .MEM_DRAM_CORR => ⟨0x90020, 1, 0x0, 1, 0x0, 31, 16, .ro, .val 0, keptPower⟩  -- R708
  | .MEM_DRAM_UNCORR => ⟨0x90020, 1, 0x0, 1, 0x0, 15, 8, .ro, .val 0, keptPower⟩  -- R708
  | .MEM_DRAM_MIRROR => ⟨0x90020, 1, 0x0, 1, 0x0, 7, 0, .ro, .val 0, keptPower⟩  -- R708
  | .MEM_SCRUB_PROG => ⟨0x90024, 1, 0x0, 1, 0x0, 31, 16, .ro, .val 0, keptPower⟩  -- R709
  | .MEM_SCRUB_PASSES => ⟨0x90024, 1, 0x0, 1, 0x0, 15, 0, .ro, .val 0, keptPower⟩  -- R709
  | .MEM_POISON_CORE => ⟨0x90030, 1, 0x0, 1, 0x0, 31, 24, .ro, .val 0, keptPower⟩  -- R710
  | .MEM_POISON_HOST => ⟨0x90030, 1, 0x0, 1, 0x0, 23, 16, .ro, .val 0, keptPower⟩  -- R710
  | .MEM_POISON_MEDIA => ⟨0x90030, 1, 0x0, 1, 0x0, 15, 8, .ro, .val 0, keptPower⟩  -- R710
  | .MEM_POISON_NAND => ⟨0x90030, 1, 0x0, 1, 0x0, 7, 0, .ro, .val 0, keptPower⟩  -- R710
  | .DX_SRC_LO_ADDR => ⟨0x98000, 32, 0x40, 1, 0x0, 31, 0, .rw, .val 0, keptPower⟩  -- R711
  | .DX_SRC_HI_ADDR => ⟨0x98004, 32, 0x40, 1, 0x0, 15, 0, .rw, .val 0, keptPower⟩  -- R711
  | .DX_DST_LO_ADDR => ⟨0x98008, 32, 0x40, 1, 0x0, 31, 0, .rw, .val 0, keptPower⟩  -- R711
  | .DX_DST_HI_ADDR => ⟨0x9800c, 32, 0x40, 1, 0x0, 15, 0, .rw, .val 0, keptPower⟩  -- R711
  | .DX_COUNT_COUNT => ⟨0x98010, 32, 0x40, 1, 0x0, 31, 0, .rw, .val 0, keptPower⟩  -- R711
  | .DX_CTL_n_GO => ⟨0x98014, 32, 0x40, 1, 0x0, 31, 31, .rw1s, .val 0, keptPower⟩  -- R711
  | .DX_CTL_n_PAUSE => ⟨0x98014, 32, 0x40, 1, 0x0, 30, 30, .rw, .val 0, keptPower⟩  -- R711
  | .DX_CTL_n_STOP => ⟨0x98014, 32, 0x40, 1, 0x0, 29, 29, .rw1s, .val 0, keptPower⟩  -- R711
  | .DX_CTL_n_SHARE => ⟨0x98014, 32, 0x40, 1, 0x0, 21, 16, .rw, .val 0, keptPower⟩  -- R711
  | .DX_STAT_n_BUSY => ⟨0x98018, 32, 0x40, 1, 0x0, 31, 31, .ro, .val 0, keptPower⟩  -- R712
  | .DX_STAT_n_PAUSED => ⟨0x98018, 32, 0x40, 1, 0x0, 30, 30, .ro, .val 0, keptPower⟩  -- R712
  | .DX_STAT_n_DONE => ⟨0x98018, 32, 0x40, 1, 0x0, 29, 29, .rw1c, .val 0, keptPower⟩  -- R712
  | .DX_STAT_n_POISON => ⟨0x98018, 32, 0x40, 1, 0x0, 28, 28, .rw1c, .val 0, keptPower⟩  -- R712
  | .DX_STAT_n_ERR => ⟨0x98018, 32, 0x40, 1, 0x0, 27, 24, .ro, .val 0, keptPower⟩  -- R712
  | .DX_MODE_ALIGN => ⟨0x99000, 1, 0x0, 1, 0x0, 0, 0, .ro, .image, keptNotA⟩  -- R713
  | .DX_BUSY_CH => ⟨0x99004, 1, 0x0, 1, 0x0, 31, 0, .ro, .val 0, keptPower⟩  -- R713
  | .FCS_STAT_BUSY => ⟨0xa0000, 1, 0x0, 1, 0x0, 31, 31, .ro, .val 0, keptAll⟩  -- R96
  | .FCS_STAT_OPBANK => ⟨0xa0000, 1, 0x0, 1, 0x0, 30, 30, .ro, .val 0, keptAll⟩  -- R96
  | .FCS_STAT_RUNBANK => ⟨0xa0000, 1, 0x0, 1, 0x0, 29, 29, .ro, .bankBooted, keptNotA⟩  -- R96
  | .FCS_STAT_LAST => ⟨0xa0000, 1, 0x0, 1, 0x0, 23, 16, .ro, .val 0, keptAll⟩  -- R96
  | .FCS_STAT_BAD1 => ⟨0xa0000, 1, 0x0, 1, 0x0, 15, 8, .ro, .table, keptAll⟩  -- R96
  | .FCS_STAT_BAD0 => ⟨0xa0000, 1, 0x0, 1, 0x0, 7, 0, .ro, .table, keptAll⟩  -- R96
  | .PWR_MODE_MODE => ⟨0xa8000, 1, 0x0, 1, 0x0, 28, 26, .ro, .val 0, keptPower⟩  -- R138
  | .PWR_MODE_TARGET => ⟨0xa8000, 1, 0x0, 1, 0x0, 25, 23, .ro, .val 0, keptPower⟩  -- R138
  | .PWR_MODE_PS_EFF => ⟨0xa8000, 1, 0x0, 1, 0x0, 22, 20, .ro, .val 0, keptPower⟩  -- R138
  | .PWR_MODE_PS_C2 => ⟨0xa8000, 1, 0x0, 1, 0x0, 19, 17, .ro, .val 0, keptAL⟩  -- R138
  | .PWR_MODE_PS_C1 => ⟨0xa8000, 1, 0x0, 1, 0x0, 16, 14, .ro, .val 0, keptAL⟩  -- R138
  | .PWR_MODE_REVERSING => ⟨0xa8000, 1, 0x0, 1, 0x0, 13, 13, .ro, .val 0, keptPower⟩  -- R138
  | .PWR_MODE_SPDLOCK => ⟨0xa8000, 1, 0x0, 1, 0x0, 12, 12, .ro, .val 0, keptPower⟩  -- R138
  | .PWR_MODE_ACT_LIMIT => ⟨0xa8000, 1, 0x0, 1, 0x0, 11, 8, .ro, .val 4, keptPower⟩  -- R138
  | .PWR_MODE_CAUSE => ⟨0xa8000, 1, 0x0, 1, 0x0, 7, 0, .ro, .val 0, keptPower⟩  -- R138
  | .PWR_HOLDUP_SHORT => ⟨0xa8010, 1, 0x0, 1, 0x0, 31, 31, .ro, .val 0, keptAll⟩  -- R139
  | .PWR_HOLDUP_WARM => ⟨0xa8010, 1, 0x0, 1, 0x0, 30, 30, .ro, .val 0, keptAll⟩  -- R139
  | .PWR_HOLDUP_DUR => ⟨0xa8010, 1, 0x0, 1, 0x0, 29, 20, .ro, .val 0, keptAll⟩  -- R139
  | .PWR_HOLDUP_FLUSH => ⟨0xa8010, 1, 0x0, 1, 0x0, 19, 10, .ro, .val 0, keptAll⟩  -- R139
  | .PWR_HOLDUP_ENERGY => ⟨0xa8010, 1, 0x0, 1, 0x0, 9, 0, .ro, .val 0, keptAll⟩  -- R139
  | .PWR_HUCOUNT_COUNT => ⟨0xa8014, 1, 0x0, 1, 0x0, 31, 0, .ro, .val 0, keptAll⟩  -- R140
  | .PWR_DIRTY_PEAK => ⟨0xa8018, 1, 0x0, 1, 0x0, 31, 16, .ro, .val 0, keptPower⟩  -- R141
  | .PWR_DIRTY_NOW => ⟨0xa8018, 1, 0x0, 1, 0x0, 15, 0, .ro, .val 0, keptPower⟩  -- R141
  | .PWR_V12_MIN => ⟨0xa8020, 1, 0x0, 1, 0x0, 31, 16, .ro, .val 65535, keptPower⟩  -- R142
  | .PWR_V12_NOW => ⟨0xa8020, 1, 0x0, 1, 0x0, 15, 0, .ro, .val 0, keptPower⟩  -- R142
  | .PWR_PENDING_ROWS => ⟨0xa8024, 1, 0x0, 1, 0x0, 5, 0, .ro, .val 0, keptAll⟩  -- R143
  | .ID_PART_CODE => ⟨0xf0000, 1, 0x0, 1, 0x0, 31, 16, .ro, .val 42180, keptAll⟩  -- R15
  | .ID_PART_MAJOR => ⟨0xf0000, 1, 0x0, 1, 0x0, 15, 12, .ro, .val 2, keptAll⟩  -- R15
  | .ID_PART_MINOR => ⟨0xf0000, 1, 0x0, 1, 0x0, 11, 8, .ro, .val 1, keptAll⟩  -- R15
  | .ID_PART_GRADE => ⟨0xf0000, 1, 0x0, 1, 0x0, 7, 4, .ro, .val 1, keptAll⟩  -- R15
  | .ID_PART_ACT => ⟨0xf0000, 1, 0x0, 1, 0x0, 3, 0, .ro, .val 4, keptAll⟩  -- R15
  | .ID_FWVER_MAJOR => ⟨0xf0010, 1, 0x0, 1, 0x0, 31, 24, .ro, .firmware, keptNotA⟩  -- R97
  | .ID_FWVER_MINOR => ⟨0xf0010, 1, 0x0, 1, 0x0, 23, 16, .ro, .firmware, keptNotA⟩  -- R97
  | .ID_FWVER_BUILD => ⟨0xf0010, 1, 0x0, 1, 0x0, 15, 0, .ro, .firmware, keptNotA⟩  -- R97
  | .ID_IMGVER_VER => ⟨0xf0014, 1, 0x0, 1, 0x0, 31, 0, .ro, .image, keptNotA⟩  -- R97

/-- Every field, in the order of the constructors. -/
def Field.all : List Field := (List.range 466).map Field.ofNat

end Sys2Proof.Machine
end

