-- ==== Sys2Proof/Machine/Settings.lean ====
section
/-! DEFINITION. The image settings: record, range and default of each, as the spec's record tables give them. -/

namespace Sys2Proof.Machine

/-- One row of a record table: the record, the instances' kind, the number of values, the range, the multiple the
value must be of, and the default (none where the field has no default and the record must carry it). -/
structure SettingInfo where
  record : RecordType
  offset : Nat
  count : Nat
  lo : Int
  hi : Int
  mult : Nat
  dflt : Option Int
  deriving DecidableEq, Repr

/-- The type code of a record (R49). -/
def recordCode : RecordType → Nat
  | .header => 0x01
  | .platform => 0x02
  | .heads => 0x03
  | .format => 0x04
  | .servo => 0x05
  | .spindle => 0x06
  | .assist => 0x07
  | .channel => 0x08
  | .overlay => 0x09
  | .translation => 0x0a
  | .nand => 0x0b
  | .host => 0x0c
  | .memory => 0x0d
  | .recorder => 0x0e
  | .thermal => 0x0f
  | .nimbus => 0x10
  | .security => 0x11
  | .calibration => 0x7F

/-- The spec's row of each setting; each arm's comment names the rule. -/
def settingInfo : Setting → SettingInfo
  | .HDR_IMAGE_ID => ⟨.header, 16, 1, 0, 4294967295, 1, none⟩  -- R52
  | .HDR_IMAGE_VER => ⟨.header, 20, 1, 0, 4294967295, 1, none⟩  -- R52
  | .HDR_IMAGE_LEN => ⟨.header, 24, 1, 64, 4194304, 1, none⟩  -- R52
  | .HDR_FW_MIN => ⟨.header, 28, 1, 0, 4294967295, 1, some 0⟩  -- R52
  | .HDR_KEY_SLOT => ⟨.header, 32, 1, 0, 3, 1, none⟩  -- R52
  | .HDR_PUBKEY => ⟨.header, 40, 1, 0, 397444631628981487398138749046400654145762820381874332451597321734669043887712482900704872660133498355324859058465554740779924491293392484209737542410542371636340473861337575820867913121689201875267327793591416000228568794576910811135, 1, none⟩  -- R52
  | .HDR_SIG => ⟨.header, 144, 1, 0, 1552518092300708935148979488462502555256886017116696611139052038026050952686376886330878408828646477950487730697131073206171580044114814391444287275041181139204454976020849905550265285631598444825262999193716468750892846853816057855, 1, none⟩  -- R52
  | .PLT_SURFACES => ⟨.platform, 16, 1, 0, 16777215, 1, none⟩  -- R53
  | .PLT_ACTUATORS => ⟨.platform, 19, 1, 0, 15, 1, none⟩  -- R53
  | .PLT_ASSIST => ⟨.platform, 20, 1, 0, 1, 1, none⟩  -- R53
  | .PLT_PLATTERS => ⟨.platform, 21, 1, 1, 12, 1, none⟩  -- R53
  | .PLT_NATIVE_GB => ⟨.platform, 22, 1, 1, 128000, 1, none⟩  -- R53
  | .PLT_MODEL => ⟨.platform, 32, 1, 0, 2135987035920910082395021706169552114602704522356652769947041607822219725780640550022962086936575, 1, none⟩  -- R53
  | .PLT_SERIAL => ⟨.platform, 72, 1, 0, 1461501637330902918203684832716283019655932542975, 1, none⟩  -- R53
  | .SEC_SVN => ⟨.security, 16, 1, 0, 63, 1, some 0⟩  -- R55
  | .SEC_UNLOCK_EN => ⟨.security, 17, 1, 0, 1, 1, some 0⟩  -- R55
  | .SEC_UNLOCK_MIN => ⟨.security, 18, 1, 1, 1440, 1, some 480⟩  -- R55
  | .SEC_FMT_CRYPTO => ⟨.security, 20, 1, 0, 1, 1, some 1⟩  -- R55
  | .SEC_UNLOCK_KEY => ⟨.security, 32, 1, 0, 39402006196394479212279040100143613805079739270465446667948293404245721771497210611414266254884915640806627990306815, 1, none⟩  -- R55
  | .SPD_SET_RPM => ⟨.spindle, 16, 1, 5400, 7800, 1, some 7200⟩  -- R175
  | .SPD_POLE_PAIRS => ⟨.spindle, 18, 1, 4, 8, 1, none⟩  -- R175
  | .SPD_FALLBACK => ⟨.spindle, 19, 1, 0, 1, 1, some 0⟩  -- R175
  | .SPD_R_LL => ⟨.spindle, 20, 1, 200, 10000, 1, none⟩  -- R175
  | .SPD_L_LL => ⟨.spindle, 22, 1, 20, 5000, 1, none⟩  -- R175
  | .SPD_KE => ⟨.spindle, 24, 1, 200, 2000, 1, none⟩  -- R175
  | .SPD_INERTIA => ⟨.spindle, 26, 1, 125, 5000, 1, none⟩  -- R175
  | .SPD_SPINUP_PMAX => ⟨.spindle, 28, 1, 120, 240, 1, some 240⟩  -- R175
  | .SPD_SPINUP_TMAX => ⟨.spindle, 30, 1, 10, 30, 1, some 30⟩  -- R175
  | .SPD_HANDOVER => ⟨.spindle, 31, 1, 5, 30, 1, some 10⟩  -- R175
  | .SPD_IPH_MAX => ⟨.spindle, 32, 1, 500, 4000, 1, some 3000⟩  -- R175
  | .SPD_MIN_WINDOW => ⟨.spindle, 34, 1, 5, 20, 1, some 8⟩  -- R175
  | .SPD_FLUX_BAND => ⟨.spindle, 35, 1, 1, 10, 1, some 2⟩  -- R175
  | .SPD_TORQUE_BAND => ⟨.spindle, 36, 1, 1, 20, 1, some 5⟩  -- R175
  | .SPD_FW_MIN => ⟨.spindle, 37, 1, 50, 100, 1, some 70⟩  -- R175
  | .SPD_FW_IDMAX => ⟨.spindle, 38, 1, 0, 2000, 1, some 1200⟩  -- R175
  | .SPD_KP => ⟨.spindle, 40, 1, 0, 16777215, 1, some 16384⟩  -- R175
  | .SPD_KI => ⟨.spindle, 44, 1, 0, 16777215, 1, some 2048⟩  -- R175
  | .SPD_EDGE_STEPS => ⟨.spindle, 48, 1, 2, 32, 1, some 8⟩  -- R175
  | .SPD_UNLOAD_ERR => ⟨.spindle, 49, 1, 5, 100, 1, some 30⟩  -- R175
  | .SPD_PLAUS_LIM => ⟨.spindle, 50, 1, 10, 50, 1, some 25⟩  -- R175
  | .SPD_PLAUS_N => ⟨.spindle, 51, 1, 2, 32, 1, some 8⟩  -- R175
  | .SPD_ZC_LOSS => ⟨.spindle, 52, 1, 1, 8, 1, some 2⟩  -- R175
  | .SPD_CATCH_MIN => ⟨.spindle, 53, 1, 2, 30, 1, some 5⟩  -- R175
  | .SPD_BRAKE_PMAX => ⟨.spindle, 54, 1, 2, 10, 1, some 10⟩  -- R175
  | .SPD_CLAMP_TEST_H => ⟨.spindle, 55, 1, 1, 168, 1, some 24⟩  -- R175
  | .SPD_SHORT_IMAX => ⟨.spindle, 56, 1, 500, 4000, 1, some 3000⟩  -- R175
  | .SRV_WEDGES => ⟨.servo, 16, 1, 512, 1024, 1, some 720⟩  -- R224
  | .SRV_VCM_IMAX => ⟨.servo, 18, 1, 200, 1600, 1, some 1600⟩  -- R224
  | .SRV_MA_VMAX => ⟨.servo, 20, 1, 1000, 24000, 1, some 24000⟩  -- R224
  | .SRV_MA_GAIN => ⟨.servo, 22, 1, 100, 10000, 1, none⟩  -- R224
  | .SRV_STROKE_TRK => ⟨.servo, 24, 1, 1, 4194303, 1, none⟩  -- R224
  | .SRV_SERVO_RATIO => ⟨.servo, 28, 1, 128, 1024, 1, none⟩  -- R224
  | .SRV_WU_ZONES => ⟨.servo, 30, 1, 1, 32, 1, some 16⟩  -- R224
  | .SRV_WU_CLEAR => ⟨.servo, 31, 1, 1, 8, 1, some 2⟩  -- R224
  | .SRV_WU_TH => ⟨.servo, 32, 32, 8, 64, 1, some 31⟩  -- R224
  | .SRV_RD_TH => ⟨.servo, 64, 1, 16, 128, 1, some 64⟩  -- R224
  | .SRV_SETTLE_N => ⟨.servo, 65, 1, 1, 16, 1, some 4⟩  -- R224
  | .SRV_RDSETTLE_N => ⟨.servo, 66, 1, 1, 16, 1, some 2⟩  -- R224
  | .SRV_PLAUS_LIM => ⟨.servo, 67, 1, 8, 128, 1, some 38⟩  -- R224
  | .SRV_PLAUS_CONSEC => ⟨.servo, 68, 1, 1, 8, 1, some 3⟩  -- R224
  | .SRV_PLAUS_WIN => ⟨.servo, 69, 1, 2, 32, 1, some 8⟩  -- R224
  | .SRV_INT_LIM_VCM => ⟨.servo, 70, 1, 0, 1600, 1, some 400⟩  -- R224
  | .SRV_INT_LIM_MA => ⟨.servo, 72, 1, 0, 24000, 1, some 6000⟩  -- R224
  | .SRV_RET_BEMF => ⟨.servo, 74, 1, 50, 2000, 1, some 400⟩  -- R224
  | .SRV_RET_IMAX => ⟨.servo, 76, 1, 100, 1000, 1, some 600⟩  -- R224
  | .SRV_LOAD_BEMF => ⟨.servo, 78, 1, 50, 2000, 1, some 300⟩  -- R224
  | .SRV_COIL_R => ⟨.servo, 80, 1, 2000, 20000, 1, none⟩  -- R224
  | .SRV_TBL0_LOOP => ⟨.servo, 82, 1, 0, 3, 1, some 0⟩  -- R224
  | .SRV_TBL0_INDEX => ⟨.servo, 83, 1, 0, 1, 1, some 0⟩  -- R224
  | .SRV_TBL1_LOOP => ⟨.servo, 84, 1, 0, 3, 1, some 0⟩  -- R224
  | .SRV_TBL1_INDEX => ⟨.servo, 85, 1, 0, 1, 1, some 0⟩  -- R224
  | .SRV_XFF_EN => ⟨.servo, 88, 1, 0, 15, 1, some 15⟩  -- R224
  | .SRV_CTRL_N => ⟨.servo, 96, 1, 1, 12, 1, none⟩  -- R224
  | .SRV_INT_IDX_VCM => ⟨.servo, 97, 1, 0, 255, 1, some 255⟩  -- R224
  | .SRV_INT_IDX_MA => ⟨.servo, 98, 1, 0, 255, 1, some 255⟩  -- R224
  | .SRV_NOTCH => ⟨.servo, 2028, 60, 0, 4294967295, 1, none⟩  -- R224
  | .SRV_SEEK_IMAX => ⟨.servo, 2268, 1, 200, 1600, 1, some 1200⟩  -- R224
  | .SRV_RRO_MU => ⟨.servo, 2270, 1, 0, 255, 1, some 16⟩  -- R224
  | .SRV_TBL0 => ⟨.servo, 2272, 1024, (-32768), 32767, 1, some 0⟩  -- R224
  | .SRV_TBL1 => ⟨.servo, 4320, 1024, (-32768), 32767, 1, some 0⟩  -- R224
  | .HDS_HEAD_OFS => ⟨.heads, 16, 1, (-2147483647), 2147483647, 1, some 0⟩  -- R269
  | .HDS_RDL_DT => ⟨.heads, 20, 1, 500, 10000, 1, none⟩  -- R269
  | .HDS_RDT_DT => ⟨.heads, 22, 1, 500, 10000, 1, none⟩  -- R269
  | .HDS_RDT_XT => ⟨.heads, 24, 1, (-2048), 2047, 1, some 0⟩  -- R269
  | .HDS_BIAS_L => ⟨.heads, 26, 1, 10, 500, 1, none⟩  -- R269
  | .HDS_BIAS_T => ⟨.heads, 28, 1, 10, 500, 1, none⟩  -- R269
  | .HDS_HTR_MAX => ⟨.heads, 30, 1, 1, 4095, 1, none⟩  -- R269
  | .HDS_CLR_TGT => ⟨.heads, 32, 1, 50, 500, 1, none⟩  -- R269
  | .HDS_ASSIST_MAX => ⟨.heads, 34, 1, 1, 4095, 1, none⟩  -- R269
  | .HDS_LTH_NOM => ⟨.heads, 36, 1, 500, 3000, 1, none⟩  -- R269
  | .HDS_JOG => ⟨.heads, 48, 64, (-32768), 32767, 1, none⟩  -- R269
  | .HDS_IW => ⟨.heads, 176, 64, 10, 140, 1, none⟩  -- R269
  | .HDS_ASSIST_NOM => ⟨.heads, 240, 64, 1, 4095, 1, none⟩  -- R269
  | .ASR_DB => ⟨.assist, 16, 1, 1, 20, 1, some 3⟩  -- R271
  | .ASR_STEP_UP => ⟨.assist, 17, 1, 1, 10, 1, some 5⟩  -- R271
  | .ASR_STEP_DN => ⟨.assist, 18, 1, 1, 10, 1, some 2⟩  -- R271
  | .ASR_TRIM_SAT => ⟨.assist, 19, 1, 4, 255, 1, some 32⟩  -- R271
  | .ASR_TRIM_MAX => ⟨.assist, 20, 1, 10, 300, 1, some 150⟩  -- R271
  | .ASR_PREHEAT => ⟨.assist, 22, 1, 50, 2000, 1, some 300⟩  -- R271
  | .ASR_HTR_DB => ⟨.assist, 24, 1, 2, 50, 1, some 10⟩  -- R271
  | .ASR_HTR_STEP => ⟨.assist, 25, 1, 1, 50, 1, some 5⟩  -- R271
  | .ASR_TD_BACKOFF => ⟨.assist, 26, 1, 10, 200, 1, some 50⟩  -- R271
  | .ASR_TD_MAX => ⟨.assist, 27, 1, 1, 16, 1, some 3⟩  -- R271
  | .ASR_VFAIL_N => ⟨.assist, 28, 1, 2, 64, 1, some 8⟩  -- R271
  | .ASR_TC => ⟨.assist, 29, 1, (-100), 100, 1, some 20⟩  -- R271
  | .ASR_THR_INTV_H => ⟨.assist, 30, 1, 1, 168, 1, some 24⟩  -- R271
  | .ASR_AG_LEAD => ⟨.assist, 31, 1, 0, 100, 1, some 10⟩  -- R271
  | .CHN_PRE_BITS => ⟨.channel, 16, 1, 64, 256, 4, some 128⟩  -- R313
  | .CHN_PAD_BITS => ⟨.channel, 18, 1, 16, 64, 4, some 32⟩  -- R313
  | .CHN_PM_W => ⟨.channel, 19, 1, 4, 32, 1, some 12⟩  -- R313
  | .CHN_PM_PAT => ⟨.channel, 20, 1, 0, 4294967295, 1, some 3853794345⟩  -- R313
  | .CHN_SM_PAT => ⟨.channel, 24, 1, 0, 65535, 1, some 40290⟩  -- R313
  | .CHN_PM_ERR => ⟨.channel, 26, 1, 0, 6, 1, some 3⟩  -- R313
  | .CHN_SM_ERR => ⟨.channel, 27, 1, 0, 4, 1, some 2⟩  -- R313
  | .CHN_WIDE_W => ⟨.channel, 28, 1, 16, 64, 1, some 48⟩  -- R313
  | .CHN_SM_W => ⟨.channel, 29, 1, 8, 64, 1, some 32⟩  -- R313
  | .CHN_OTF_ITER => ⟨.channel, 30, 1, 2, 10, 1, some 6⟩  -- R313
  | .CHN_DEEP_ITER => ⟨.channel, 31, 1, 10, 80, 1, some 40⟩  -- R313
  | .CHN_RETRY_REVS => ⟨.channel, 32, 1, 0, 12, 1, some 6⟩  -- R313
  | .CHN_RR_OFS => ⟨.channel, 33, 1, 4, 64, 1, some 16⟩  -- R313
  | .CHN_RAW_MODE => ⟨.channel, 34, 1, 0, 1, 1, some 1⟩  -- R313
  | .CHN_RAW_MARGIN => ⟨.channel, 35, 1, 5, 60, 1, some 20⟩  -- R313
  | .CHN_RAW_RETRY => ⟨.channel, 36, 1, 1, 4, 1, some 2⟩  -- R313
  | .CHN_TA_TH => ⟨.channel, 37, 1, 10, 80, 1, some 30⟩  -- R313
  | .CHN_DEF_TH => ⟨.channel, 38, 1, 10, 80, 1, some 40⟩  -- R313
  | .CHN_DEF_N => ⟨.channel, 39, 1, 8, 255, 1, some 32⟩  -- R313
  | .CHN_FREEZE_HOLD => ⟨.channel, 40, 1, 16, 1024, 1, some 64⟩  -- R313
  | .CHN_MU_GAIN => ⟨.channel, 42, 1, 1, 15, 1, some 6⟩  -- R313
  | .CHN_MU_OFS => ⟨.channel, 43, 1, 1, 15, 1, some 8⟩  -- R313
  | .CHN_MU_ASYM => ⟨.channel, 44, 1, 1, 15, 1, some 10⟩  -- R313
  | .CHN_MU_FIR => ⟨.channel, 45, 1, 1, 15, 1, some 11⟩  -- R313
  | .CHN_MU_TR => ⟨.channel, 46, 1, 1, 15, 1, some 7⟩  -- R313
  | .CHN_SLOT_RSV => ⟨.channel, 47, 1, 0, 4, 1, some 1⟩  -- R313
  | .CHN_CTLE_BOOST => ⟨.channel, 48, 64, 0, 24, 1, some 12⟩  -- R313
  | .CHN_CTLE_FC => ⟨.channel, 112, 64, 200, 3000, 1, some 1500⟩  -- R313
  | .CHN_FIR_INIT => ⟨.channel, 368, 1024, (-32768), 32767, 1, none⟩  -- R313
  | .TSO_IFACE => ⟨.overlay, 16, 1, 0, 65535, 1, none⟩  -- R353
  | .TSO_WORDS => ⟨.overlay, 18, 1, 1, 2048, 1, none⟩  -- R353
  | .TSO_SG_LEAD => ⟨.overlay, 20, 1, 100, 1000, 1, some 200⟩  -- R353
  | .TSO_DISPATCH => ⟨.overlay, 24, 4, 0, 65535, 1, some 0⟩  -- R353
  | .TSO_WORD => ⟨.overlay, 64, 2048, 0, 340282366920938463463374607431768211455, 1, none⟩  -- R353
  | .FMT_RPM => ⟨.format, 16, 1, 5400, 7800, 1, none⟩  -- R407
  | .FMT_ZONES => ⟨.format, 18, 1, 1, 64, 1, none⟩  -- R407
  | .FMT_BAND_TRK => ⟨.format, 19, 1, 16, 40, 1, some 32⟩  -- R407
  | .FMT_TRACKS => ⟨.format, 20, 1, 1, 4194303, 1, none⟩  -- R407
  | .FMT_CAL_TRK => ⟨.format, 24, 1, 4, 16, 1, some 6⟩  -- R407
  | .FMT_SKEW_TRK => ⟨.format, 25, 1, 0, 64, 1, none⟩  -- R407
  | .FMT_SKEW_HEAD => ⟨.format, 26, 1, 0, 64, 1, none⟩  -- R407
  | .FMT_Z_TRACK => ⟨.format, 32, 64, 0, 4294967295, 1, none⟩  -- R407
  | .FMT_Z_BAUD => ⟨.format, 288, 64, 1500, 6000, 1, none⟩  -- R407
  | .FMT_Z_SPT => ⟨.format, 416, 64, 0, 65535, 1, none⟩  -- R407
  | .FMT_Z_GAP => ⟨.format, 544, 64, 0, 4096, 1, some 0⟩  -- R407
  | .FMT_Z_SPARE_BANDS => ⟨.format, 672, 64, 0, 4096, 1, some 16⟩  -- R407
  | .FMT_Z_SPARE_SECT => ⟨.format, 800, 64, 0, 64, 1, some 16⟩  -- R407
  | .FMT_Z_KIND => ⟨.format, 864, 64, 0, 1, 1, some 0⟩  -- R407
  | .XLT_MAX_ACTIVE => ⟨.translation, 16, 1, 1, 32, 1, some 32⟩  -- R409
  | .XLT_CONV_WIDTH => ⟨.translation, 17, 1, 6, 24, 1, some 12⟩  -- R409
  | .XLT_CONV_OP => ⟨.translation, 18, 1, 5, 50, 1, some 12⟩  -- R409
  | .XLT_MC_HIGH => ⟨.translation, 19, 1, 20, 95, 1, some 75⟩  -- R409
  | .XLT_MC_LOW => ⟨.translation, 20, 1, 10, 90, 1, some 50⟩  -- R409
  | .XLT_WEAK_RUNG => ⟨.translation, 21, 1, 3, 8, 1, some 5⟩  -- R409
  | .XLT_WEAK_N => ⟨.translation, 22, 1, 1, 255, 1, some 16⟩  -- R409
  | .XLT_RET_DT => ⟨.translation, 23, 1, 5, 40, 1, some 10⟩  -- R409
  | .XLT_RET_H => ⟨.translation, 24, 1, 720, 131400, 1, some 43800⟩  -- R409
  | .XLT_DIST_LIM => ⟨.translation, 28, 1, 100, 30000, 1, some 4000⟩  -- R409
  | .XLT_DIST_TRK => ⟨.translation, 30, 1, 1, 8, 1, some 2⟩  -- R409
  | .XLT_COPY_SHARE => ⟨.translation, 31, 1, 1, 50, 1, some 10⟩  -- R409
  | .XLT_COPY_MAX_H => ⟨.translation, 32, 1, 1, 168, 1, some 24⟩  -- R409
  | .XLT_WEAR_SPREAD_H => ⟨.translation, 34, 1, 50, 5000, 1, some 500⟩  -- R409
  | .XLT_COLD_H => ⟨.translation, 36, 1, 24, 8760, 1, some 720⟩  -- R409
  | .XLT_FR_BANDS => ⟨.translation, 38, 1, 24, 1024, 1, some 96⟩  -- R409
  | .XLT_RO_HYST => ⟨.translation, 40, 1, 0, 1024, 1, some 24⟩  -- R409
  | .XLT_RUN_WAIT => ⟨.translation, 42, 1, 1, 1000, 1, some 50⟩  -- R409
  | .XLT_GC_LOW => ⟨.translation, 44, 1, 2, 1024, 1, some 16⟩  -- R409
  | .NND_BYPASS_KIB => ⟨.nand, 16, 1, 16, 4096, 1, some 256⟩  -- R485
  | .NND_STAGE_BLOCKS => ⟨.nand, 18, 1, 128, 1024, 1, some 512⟩  -- R485
  | .NND_JRNL_BLOCKS => ⟨.nand, 20, 1, 96, 512, 1, some 160⟩  -- R485
  | .NND_SEP_BLOCKS => ⟨.nand, 22, 1, 4, 32, 1, some 8⟩  -- R485
  | .NND_SPARE_PCT => ⟨.nand, 23, 1, 2, 20, 1, some 5⟩  -- R485
  | .NND_WL_SPREAD => ⟨.nand, 24, 1, 200, 10000, 1, some 2000⟩  -- R485
  | .NND_GC_FREE => ⟨.nand, 26, 1, 4, 64, 1, some 16⟩  -- R485
  | .NND_REFRESH_BE => ⟨.nand, 27, 1, 8, 200, 1, some 60⟩  -- R485
  | .NND_RET_H => ⟨.nand, 28, 1, 24, 8760, 1, some 2160⟩  -- R485
  | .NND_RT_RETRY => ⟨.nand, 30, 1, 1, 15, 1, some 7⟩  -- R485
  | .NND_CKPT_MIB => ⟨.nand, 31, 1, 16, 128, 1, some 64⟩  -- R485
  | .NND_RT_TABLE => ⟨.nand, 32, 32, (-128), 127, 1, none⟩  -- R485
  | .HST_SVID => ⟨.host, 16, 1, 0, 65535, 1, none⟩  -- R530
  | .HST_SSID => ⟨.host, 18, 1, 0, 65535, 1, none⟩  -- R530
  | .HST_MAX_RATE => ⟨.host, 20, 1, 1, 6, 1, some 6⟩  -- R530
  | .HST_MAX_WIDTH => ⟨.host, 21, 1, 1, 2, 1, some 2⟩  -- R530
  | .HST_PORTS => ⟨.host, 22, 1, 1, 3, 1, some 3⟩  -- R530
  | .HST_CLKREQ => ⟨.host, 23, 1, 0, 1, 1, some 0⟩  -- R530
  | .HST_L1_IDLE_US => ⟨.host, 24, 1, 5, 1000, 1, some 20⟩  -- R530
  | .HST_LTR_ACTIVE_US => ⟨.host, 26, 1, 0, 10000, 1, some 100⟩  -- R530
  | .HST_LTR_IDLE_US => ⟨.host, 28, 1, 0, 10000, 1, some 3000⟩  -- R530
  | .HST_FETCH_KEPS => ⟨.host, 30, 1, 100, 10000, 1, some 2000⟩  -- R530
  | .HST_FETCH_BURST => ⟨.host, 32, 1, 8, 256, 1, some 64⟩  -- R530
  | .HST_MRRS_CAP => ⟨.host, 33, 1, 0, 5, 1, some 5⟩  -- R530
  | .HST_TAG_MODE => ⟨.host, 34, 1, 0, 1, 1, some 1⟩  -- R530
  | .HST_ATS => ⟨.host, 35, 1, 0, 1, 1, some 1⟩  -- R530
  | .HST_WAKE_EN => ⟨.host, 36, 1, 0, 1, 1, some 1⟩  -- R530
  | .THR_T1 => ⟨.thermal, 16, 1, 90, 105, 1, some 105⟩  -- R636
  | .THR_T2 => ⟨.thermal, 17, 1, 95, 110, 1, some 110⟩  -- R636
  | .THR_T3 => ⟨.thermal, 18, 1, 100, 118, 1, some 118⟩  -- R636
  | .THR_HYST => ⟨.thermal, 19, 1, 2, 10, 1, some 5⟩  -- R636
  | .THR_TOK1 => ⟨.thermal, 20, 1, 50, 95, 1, some 75⟩  -- R636
  | .THR_TOK2 => ⟨.thermal, 21, 1, 25, 75, 1, some 50⟩  -- R636
  | .THR_CAP_PS => ⟨.thermal, 22, 1, 1, 2, 1, some 2⟩  -- R636
  | .THR_RESUME_C => ⟨.thermal, 23, 1, 80, 105, 1, some 100⟩  -- R636
  | .THR_RESUME_S => ⟨.thermal, 24, 1, 10, 600, 1, some 60⟩  -- R636
  | .THR_DRAM_MAX => ⟨.thermal, 26, 1, 85, 105, 1, some 95⟩  -- R636
  | .THR_NAND_MAX => ⟨.thermal, 27, 1, 70, 90, 1, some 85⟩  -- R636
  | .THR_PREAMP_MAX => ⟨.thermal, 28, 1, 70, 110, 1, some 95⟩  -- R636
  | .THR_ASSIST_H => ⟨.thermal, 32, 1, 100, 20000, 1, some 3000⟩  -- R636
  | .THR_WRITER_H => ⟨.thermal, 34, 1, 100, 60000, 1, some 10000⟩  -- R636
  | .THR_ITH_RISE => ⟨.thermal, 36, 1, 5, 50, 1, some 20⟩  -- R636
  | .THR_CLR_DRIFT => ⟨.thermal, 37, 1, 5, 50, 1, some 15⟩  -- R636
  | .THR_RDR_DRIFT => ⟨.thermal, 38, 1, 2, 30, 1, some 10⟩  -- R636
  | .THR_COIL_RISE => ⟨.thermal, 39, 1, 2, 30, 1, some 10⟩  -- R636
  | .THR_PIVOT_RISE => ⟨.thermal, 40, 1, 10, 200, 1, some 50⟩  -- R636
  | .THR_SPN_RISE => ⟨.thermal, 41, 1, 10, 200, 1, some 40⟩  -- R636
  | .THR_DRAM_CE => ⟨.thermal, 42, 1, 1, 65535, 1, some 1000⟩  -- R636
  | .THR_SRAM_CE => ⟨.thermal, 44, 1, 1, 65535, 1, some 200⟩  -- R636
  | .THR_WINDOW_D => ⟨.thermal, 46, 1, 14, 90, 1, some 90⟩  -- R636
  | .REC_RATE => ⟨.recorder, 16, 1, 1, 64, 1, some 8⟩  -- R663
  | .REC_BURST => ⟨.recorder, 17, 1, 1, 255, 1, some 32⟩  -- R663
  | .REC_FLUSH_SEV => ⟨.recorder, 18, 1, 1, 3, 1, some 2⟩  -- R663
  | .REC_OVR_N => ⟨.recorder, 19, 1, 0, 64, 1, some 0⟩  -- R663
  | .REC_OVR => ⟨.recorder, 32, 832, 0, 4294967295, 1, none⟩  -- R663
  | .NIM_EN => ⟨.nimbus, 16, 1, 0, 127, 1, some 127⟩  -- R665
  | .NIM_SRAM_D => ⟨.nimbus, 17, 1, 1, 30, 1, some 7⟩  -- R665
  | .NIM_CORE_IDLE_US => ⟨.nimbus, 18, 1, 50, 5000, 1, some 200⟩  -- R665
  | .NIM_MEDIA_IDLE_MS => ⟨.nimbus, 20, 1, 10, 10000, 1, some 100⟩  -- R665
  | .NIM_CORE_INTV_H => ⟨.nimbus, 22, 1, 1, 168, 1, some 24⟩  -- R665
  | .NIM_LOOP_INTV_H => ⟨.nimbus, 23, 1, 1, 168, 1, some 24⟩  -- R665
  | .NIM_NAND_PATROL_H => ⟨.nimbus, 24, 1, 24, 2160, 1, some 168⟩  -- R665
  | .NIM_CLR_INTV_H => ⟨.nimbus, 26, 1, 1, 168, 1, some 24⟩  -- R665
  | .NIM_PATROL_D => ⟨.nimbus, 28, 1, 7, 365, 1, some 30⟩  -- R665
  | .MEM_CARVE_WAYS => ⟨.memory, 16, 1, 0, 8, 1, some 4⟩  -- R702
  | .MEM_DX_ALIGN_MODE => ⟨.memory, 17, 1, 0, 1, 1, some 0⟩  -- R702
  | .MEM_CMB_KIB => ⟨.memory, 18, 1, 0, 4096, 8, some 1024⟩  -- R702
  | .MEM_SRAM_SCRUB_S => ⟨.memory, 20, 1, 10, 3600, 1, some 60⟩  -- R702
  | .MEM_DRAM_SCRUB_H => ⟨.memory, 22, 1, 1, 168, 1, some 24⟩  -- R702
  | .MEM_POL => ⟨.memory, 24, 6, 0, 2, 1, none⟩  -- R702
  | .CHN_PRECOMP1 => ⟨.channel, 240, 64, 0, 16, 1, some 6⟩  -- R313
  | .CHN_PRECOMP2 => ⟨.channel, 241, 64, 0, 16, 1, some 2⟩  -- R313
  | .SRV_CTRL_A => ⟨.servo, 100, 144, 0, 4294967295, 1, none⟩  -- R224
  | .SRV_CTRL_B => ⟨.servo, 676, 24, 0, 4294967295, 1, none⟩  -- R224
  | .SRV_CTRL_C => ⟨.servo, 772, 24, 0, 4294967295, 1, none⟩  -- R224
  | .SRV_CTRL_D => ⟨.servo, 868, 4, 0, 4294967295, 1, none⟩  -- R224
  | .SRV_SAFE_A => ⟨.servo, 888, 144, 0, 4294967295, 1, none⟩  -- R224
  | .SRV_SAFE_B => ⟨.servo, 1464, 24, 0, 4294967295, 1, none⟩  -- R224
  | .SRV_SAFE_C => ⟨.servo, 1560, 24, 0, 4294967295, 1, none⟩  -- R224
  | .SRV_SAFE_D => ⟨.servo, 1656, 4, 0, 4294967295, 1, none⟩  -- R224
  | .SRV_SAFE_N => ⟨.servo, 884, 1, 1, 12, 1, none⟩  -- R224
  | .SRV_SAFE_INT_VCM => ⟨.servo, 885, 1, 0, 255, 1, some 255⟩  -- R224
  | .SRV_SAFE_INT_MA => ⟨.servo, 886, 1, 0, 255, 1, some 255⟩  -- R224
  | .SRV_MODEL_N => ⟨.servo, 1672, 1, 1, 8, 1, none⟩  -- R224
  | .SRV_MODEL_A => ⟨.servo, 1676, 64, 0, 4294967295, 1, none⟩  -- R224
  | .SRV_MODEL_B => ⟨.servo, 1932, 16, 0, 4294967295, 1, none⟩  -- R224
  | .SRV_MODEL_C => ⟨.servo, 1996, 8, 0, 4294967295, 1, none⟩  -- R224

/-- Every setting, in the order of the constructors. -/
def settingAll : List Setting := (List.range 261).map Setting.ofNat

end Sys2Proof.Machine
end

