-- ==== Sys2Proof/Machine/State.lean ====
section
/-! DEFINITION. The state of the module: everything the spec gives it, the queue of waiting commands, and the state
after reset. Registers of the diagnostic window stand in one sparse table of fields; what no register shows stands in a
structure of its block. -/

namespace Sys2Proof.Machine

/-- A sparse table in one canonical form: keys strictly rising, and no entry equal to what an unlisted key reads as. -/
abbrev NMap (α : Type) := List (Nat × α)

/-- The modes of R99. -/
inductive Mode where
  | boot | spinup | run | idle | park | holdup
  deriving DecidableEq, Repr

/-- What a command that reads something answers to its sender. -/
inductive Reply where
  /-- nothing was read -/
  | none
  /-- a register word, or two for an 8-byte access -/
  | words (ws : List Nat)
  /-- bytes of a store -/
  | bytes (bs : List Nat)
  /-- Unsupported Request (R38, R527) -/
  | unsupportedRequest
  /-- Configuration Request Retry Status (R70) -/
  | retryStatus
  /-- a routine's return code (R62, R64) -/
  | code (n : Nat)
  /-- a precise exception of the calling control core (R66, R351) -/
  | busFault
  /-- a data structure, as a list of numbers in the order the spec gives its fields -/
  | data (ds : List Nat)
  deriving DecidableEq, Repr

/-- The system block's state beside its registers. `devTime` is Device Time in microseconds (R136); `shadow` holds
each port's high-word shadow of R41 as the register's low offset and the latched word. -/
structure Sys where
  devTime : Nat
  hostTs : Option Nat
  hostTsAt : Nat
  powerOnUs : Nat
  shadow : Vector (Option (Nat × Nat)) 2
  /-- write gates held off by a sag of the core supply (R26) -/
  sagHold : Bool
  /-- consecutive misses per obligation and engine (R31) -/
  missRuns : NMap Nat
  /-- precise exceptions taken by control cores for a bus fault (R36, R66, R351) -/
  busFaults : Nat
  /-- the counter that numbers the free values; the model's own, not the spec's -/
  free : Nat
  reply : Reply
  deriving DecidableEq, Repr

/-- A Sepia record (R646). `payload` is that of a continuation record. -/
structure SepRec where
  seq : Nat
  era : Nat
  cont : Bool
  snapshot : Bool
  keep : Bool
  severity : Nat
  code : Nat
  time : Nat
  src : Nat
  conts : Nat
  supp : Nat
  pa : Nat
  pb : Nat
  snap : List Nat
  payload : List Nat
  deriving DecidableEq, Repr

/-- The rate limit of one code (R649, R650): tokens in thousandths, the millisecond they were last refilled, the
events suppressed that no record has carried, and the time of the last record. -/
structure SepBucket where
  code : Nat
  milli : Nat
  ms : Nat
  supp : Nat
  last : Nat
  deriving DecidableEq, Repr

/-- Sepia (R646 to R657): the SRAM buffer's two halves and reserve, the critical records held while every buffered
record is critical, the halves whose page program runs, and the two areas in the NAND. -/
structure Sepia where
  halfA : List SepRec
  halfB : List SepRec
  /-- true while half B fills -/
  fillB : Bool
  reserve : List SepRec
  held : List SepRec
  flushA : Bool
  flushB : Bool
  /-- a record of a flushing severity waits for the whole buffer's flush -/
  flushDue : Bool
  /-- the NAND is readable: no record is held from BOOT any longer (R654) -/
  up : Bool
  /-- records made in BOOT so far, before the NAND is readable (R654) -/
  bootMade : Nat
  buckets : List SepBucket
  keepArea : List SepRec
  rollArea : List SepRec
  /-- the records a Sepia Extract job has staged in DRAM, and the job's handle (R657) -/
  staged : List SepRec
  stagedBy : Nat
  deriving DecidableEq, Repr

/-- A bank descriptor's state (R59, R71). -/
inductive DescState where
  | blank | damaged | intact
  deriving DecidableEq, Repr

/-- A spare put in place of a row or a column of an SRAM bank (R59, R686, R687); the banks are numbered through all arrays. -/
structure Spare where
  column : Bool
  bank : Nat
  index : Nat
  deriving DecidableEq, Repr

/-- One FCS bank (R58, R59): descriptor, bad-sector table (logical sector and spare), repair list, firmware, image,
calibration slot, the bytes programmed into it by single calls of the routines of R62, the sectors erased since their content was
written, and the sectors whose last program or erase was cut (R68). -/
structure FcsBank where
  desc : DescState
  /-- the activation sequence number; none while it is blank (R61) -/
  seq : Option Nat
  revoke : Nat
  bad : List (Nat × Nat)
  repairs : List Spare
  fw : Option FwPart
  img : Option Image
  cal : Option CalRecord
  bytes : NMap Nat
  blank : List Nat
  torn : List Nat
  /-- unusable for update (R60, R65) -/
  unusable : Bool
  deriving DecidableEq, Repr

/-- What writes the FCS sector after sector: a Firmware Commit with its commit action (R61, R80), for the controller and the command
identifier that await its completion, or none once a reset has ended the command; or a calibration record's write (R77). -/
inductive FcsJob where
  | commit (who : Option (Port × Nat)) (bank : Fin 2) (fw : FwPart) (img : Image) (action : Nat)
  | cal (bank : Fin 2) (c : CalRecord)
  deriving DecidableEq, Repr

/-- A program or erase in progress (R64 to R66): a single call of a routine, or the operations of a job, one after the other. -/
structure FcsOp where
  bank : Fin 2
  erase : Bool
  addr : Nat
  data : List Nat
  job : Option FcsJob
  deriving DecidableEq, Repr

/-- The phase of a rolling activation (R82). Phase 3 counts its actuators in `act`. -/
structure Activation where
  phase : Nat
  act : Nat
  bank : Fin 2
  oldBank : Fin 2
  /-- the commit that completes when the activation ends: controller, submission queue, command identifier -/
  commit : Option (Port × Nat × Nat)
  deriving DecidableEq, Repr

/-- A reset that waits for an activation to end (R86, R134). -/
inductive DeferredReset where
  | perst (p : Port) | hot (p : Port) | flr (p : Port) | ctrl (p : Port) | subsystem
  deriving DecidableEq, Repr

/-- The FCS and what belongs to it: staging, commit and activation, calibration. -/
structure Fcs where
  banks : Vector FcsBank 2
  running : Fin 2
  op : Option FcsOp
  /-- jobs that wait for the FCS, the first one served first (R66, R86) -/
  jobs : List FcsJob
  /-- operations that HOLDUP abandoned, whose sectors are erased and rewritten at the next RUN (R68) -/
  abandoned : List FcsOp
  /-- the bank that recovery mode's downloads go to (R73) -/
  target : Option (Fin 2)
  /-- the package staged in DRAM and the offset of the next piece (R79) -/
  staged : Package
  stagedNext : Nat
  /-- an activation armed by action 0b001 or 0b010, waiting for a C, N or P reset (R80) -/
  armed : Option (Fin 2)
  activation : Option Activation
  deferred : List DeferredReset
  /-- the calibration record in use and the bank it lies in (R77) -/
  cal : Option CalRecord
  calBank : Nat
  /-- a factory calibration's port, while it runs (R78) -/
  calPort : Option Port
  /-- the items that the factory calibration in progress was asked for -/
  calItems : Nat
  /-- items of the last factory calibration: asked for, and failed (R78) -/
  calAsked : Nat
  calFailed : Nat
  deriving DecidableEq, Repr

/-- The fuse block (R51, R54, R90, R92, R93). -/
structure Fuses where
  keySlots : List (Option Nat)
  revoked : List Bool
  fwSvn : Nat
  /-- the 256-bit device secret, from which the key-encryption key is derived (R88) -/
  secret : Nat
  /-- the fuse map's repairs (R69, R687) -/
  spares : List Spare
  imgSvn : Nat
  fieldLock : Bool
  deriving DecidableEq, Repr

/-- BOOT (R69 to R73): the banks left to try, the one being tried, the halt's fault code, and whether the engines
run (until then configuration requests are answered with CRS, R70). -/
structure Boot where
  active : Bool
  start : Nat
  candidates : List (Fin 2)
  current : Option (Fin 2)
  /-- a bank was rejected in this BOOT (R71) -/
  rejected : Bool
  verified : Bool
  halted : Option Nat
  recovery : Bool
  enginesUp : Bool
  journalUp : Bool
  /-- the PHYs are released: link training may run (R69, R72) -/
  phy : Bool
  deriving DecidableEq, Repr

/-- An entry of the parity-pending list (R123). -/
structure PendRow where
  owner : RowOwner
  row : Nat
  mask : Nat
  gen : Nat
  deriving DecidableEq, Repr

/-- A block of dirty DRAM (R114): its key, nsid × 2^48 + LBA, and what the key held before it was received, which stands again where
a HOLDUP that falls short loses the block (R120). -/
structure DirtyBlock where
  key : Nat
  prior : Nat
  deriving DecidableEq, Repr

/-- HOLDUP in progress (R113): the mode it met, its start, the MiB flushed, and what has been done. -/
structure Holdup where
  mode : Mode
  start : Nat
  listed : Bool
  listedAt : Nat
  flushed : Nat
  energy : Nat
  flushDone : Bool
  short : Bool
  deriving DecidableEq, Repr

/-- The retention domain's own copies (R116, R120, R128, R137). -/
structure Retention where
  devTime : Option Nat
  holdup : Option (Bool × Bool × Nat × Nat × Nat)
  deriving DecidableEq, Repr

/-- Supplies, modes and HOLDUP beside the registers. -/
structure Power where
  /-- the core is powered: a mode is current (R99) -/
  powered : Bool
  /-- 12 V is at or above 10.8 V now, and has been for 100 ms -/
  v12 : Bool
  v12Held : Bool
  aux : Bool
  pwdis : Bool
  /-- a PWDIS power-down is in progress (R126) -/
  pwdisDown : Bool
  holdup : Option Holdup
  /-- a HOLDUP ended without warm return, and BOOT awaits 100 ms of 12 V (R116) -/
  afterHoldup : Bool
  /-- the bridge short-brakes after HOLDUP (R116) -/
  braking : Bool
  provisional : List PendRow
  pending : List PendRow
  retention : Retention
  /-- Device Time last saved to the NAND (R137) -/
  savedTime : Nat
  /-- the register fields the NAND holds for the next BOOT (R738 "stored") -/
  savedRegs : NMap Nat
  /-- the last HOLDUP's record as the seal saved it to the NAND: SHORT, WARM, DUR, FLUSH, ENERGY (R139) -/
  sealedHoldup : Option (Bool × Bool × Nat × Nat × Nat)
  /-- a HOLDUP fell short: the MiB found flushed in the NAND reserve, and the received blocks lost, oldest first (R120) -/
  shortFlush : Option Nat
  shortLost : List DirtyBlock
  /-- dirty blocks that a flush skipped for poison, whose owner acts at the next RUN (R694) -/
  skipped : List Nat
  /-- volatile memory backup has failed (R120) -/
  backupFailed : Bool
  /-- set by R167 or R721: PARK is the outcome of a spin-up failure -/
  spinupFailed : Bool
  /-- each controller's last operational request (R107) -/
  lastOper : Vector Nat 2
  /-- the thermal cap on the power state, none when no stage caps it (R105) -/
  cap : Option Nat
  /-- the comparator has taken the write-driver supply from the preamps (R31) -/
  wrSupplyOff : Bool
  /-- IDLE or PARK has been entered since the last RUN: the next RUN is a reset of kind L (R12) -/
  passed : Bool
  /-- `PWR_HUCOUNT` as the pending list last programmed it to the NAND (R140), and whether the retention domain has lost the
  live count -/
  savedHu : Nat
  huLost : Bool
  deriving DecidableEq, Repr

/-- SPE's control states (R149). -/
inductive SpnMode where
  | stopped | locate | forced | sixstep | dtc | float | catching | regen | short | coast | generator
  deriving DecidableEq, Repr

/-- What SPE is braking or stopping for. -/
inductive SpnGoal where
  /-- bring the spindle to set speed and hold it -/
  | run
  /-- brake to below 60 rpm for PARK -/
  | park
  /-- short-brake to standstill, then start from standstill -/
  | restart
  /-- short-brake to standstill, then wait 2 s for the next attempt (R163) -/
  | retry
  /-- short-brake to standstill after the third failed attempt, then PARK (R163, R167) -/
  | giveUp
  /-- brake down to a lowered set speed, then drive at it (R176) -/
  | slow
  /-- stay stopped -/
  | rest
  deriving DecidableEq, Repr

/-- SPE beside its registers. Torques are in units of 10^-15 N·m, speeds in 1/8 rpm. -/
structure Spindle where
  goal : SpnGoal
  /-- failed spin-up attempts in a row, a running attempt with its start, and the start of its LOCATE (R163) -/
  fails : Nat
  inAttempt : Bool
  attemptAt : Nat
  locateAt : Nat
  zcSeen : Bool
  /-- attempts are those of a restart after a loss of the rotor in RUN (R167) -/
  lossRestart : Bool
  /-- the observer's flux angle is known -/
  angleKnown : Bool
  /-- the last valid phase currents in mA (R147), and three times the stator flux's projections on the phase axes, in µV times
  control steps -/
  i : Vector Int 3
  flux : Vector Int 3
  /-- the observer's electrical angle in 1/65536, the electrical turns within the mechanical one, and the observer's speed (R151) -/
  elec : Nat
  pole : Nat
  obsSpeed : Nat
  /-- two-level flux comparator's last output: increase (R152) -/
  fluxUp : Bool
  /-- the torque comparator's last output: -1, 0 or 1 (R152) -/
  torqueOut : Int
  /-- switch state chosen last: V0 to V7 (R153) -/
  vector : Nat
  /-- what the bridge applies in the present period: switch states with their times in ns (R148) -/
  applied : List (Nat × Nat)
  /-- driven time summed since the last millisecond, and its control steps (R178) -/
  depthSum : Nat
  depthSteps : Nat
  torqueRef : Int
  integ : Int
  /-- control steps of zero torque left after a catch (R162) -/
  zeroSteps : Nat
  /-- a torque reference rising from 0 after a catch -/
  rising : Bool
  /-- the spindle is on its way to lock along the profile of R161 -/
  starting : Bool
  /-- a set speed still held while the heads go to their ramps (R176) -/
  holdSpeed : Option Nat
  implRun : Nat
  /-- the rotor is lost, and SIXSTEP begins at the next estimated sector boundary (R165) -/
  lostWait : Bool
  zcLoss : Nat
  /-- consecutive zero-crossings at the predicted spacing in FORCED (R161), and consistent ones in SIXSTEP (R165) -/
  zcRun : Nat
  /-- the last interval between zero-crossings in ns -/
  zcLast : Nat
  /-- SIXSTEP was entered by a loss of the rotor -/
  lost : Bool
  /-- control steps until the commutation, 30 electrical degrees after a zero-crossing, none when none is due (R155) -/
  commWait : Option Nat
  /-- six-step edge: control steps left of the ramp, the driven phases' duty in 1/256, and the duties of the incoming and the
  outgoing phase (R155) -/
  edge : Nat
  duty : Nat
  dutyIn : Nat
  dutyOut : Nat
  /-- sector of the six-step commutation, 0 to 5 -/
  commSector : Nat
  /-- control steps of LOCATE so far, and FORCED's commanded rotor speed in 10^-15 rad/s and electrical angle in 1/65536 (R161) -/
  pulse : Nat
  forcedRate : Nat
  forcedAngle : Nat
  catchTries : Nat
  /-- the over-voltage came during braking (R171) -/
  ovBraking : Bool
  clampClosed : Bool
  /-- microseconds spent in RUN or IDLE since the last clamp test, and a clamp test that is due (R169) -/
  clampUs : Nat
  clampDue : Bool
  /-- times of over-current trips (R721) -/
  trips : List Nat
  /-- a brake waits for every loaded actuator to be on its ramp (R742) -/
  brakeWait : Bool
  /-- the wedge intervals reported, newest first, in nanoseconds (R151) -/
  wedgeNs : List Nat
  /-- the turn made since the last whole revolution, in 1/8 rpm times control steps, and its control steps (R150) -/
  turn : Nat
  turnSteps : Nat
  /-- control steps for which the speed error has exceeded `SPD.UNLOAD_ERR` (R166) -/
  errSteps : Nat
  /-- the time at which the present SPINUP began -/
  spinupAt : Nat
  deriving DecidableEq, Repr

/-- The loop states of SRV_STATE.MODE (R227). -/
inductive SrvMode where
  | unloaded | loading | seek | settle | follow | unloading | retract | safe | failed | recal | inject
  deriving DecidableEq, Repr

/-- The island retract controller (R219). -/
inductive RetractPhase where
  | idle | driving | latching
  deriving DecidableEq, Repr

/-- SEa beside its registers. A binary32 value is held as its 32 bits. -/
structure Servo where
  /-- reference position, 1/256 data track, and the target of a seek -/
  ref : Int
  /-- states of the law, the model and the notch sections (R191, R193, R194) -/
  x : List Nat
  model : List Nat
  notchVcm : List (Nat × Nat)
  notchMa : List (Nat × Nat)
  /-- predicted next PES, tracks -/
  pred : Nat
  /-- last commands and the milliactuator's predicted next one -/
  uVcm : Nat
  uMa : Nat
  uMaNext : Nat
  /-- milliactuator feed-forward term of the last wedge -/
  ffMa : Nat
  /-- currents this engine has published, newest first, at most 16 (R199) -/
  published : List Nat
  /-- an exchange was late: the others' last values are held for this step (R202) -/
  held : Bool
  residuals : List Nat
  window : List Bool
  implRun : Nat
  goodRun : Nat
  wedge : Nat
  /-- PES magnitudes of FOLLOW wedges of the present revolution, and whether one of its wedges was implausible -/
  revPeak : Nat
  revImpl : Bool
  revWu : Bool
  /-- runout tables: entry in 1/1024 mA by head and wedge, and the revolution's PES by wedge (R195) -/
  runout : NMap Int
  revPes : NMap Int
  settleRun : Nat
  readRun : Nat
  readSettled : Bool
  writeSettled : Bool
  /-- the request the actuator moves for is a write -/
  forWrite : Bool
  safeLaw : Bool
  safeAt : Nat
  plausRun : Nat
  /-- wedges since the fault was recovered, to the full revolution of R210 -/
  safeWedges : Nat
  reacquired : Bool
  faultTimes : List Nat
  /-- reloads left of the recovery of R210, none outside it -/
  reloads : Option Nat
  loadFails : Nat
  loadWedges : Nat
  markRun : Nat
  /-- a load is asked for after the present retract or unload -/
  loadDue : Bool
  /-- unloaded for want of spindle speed (R166, R171, R176): reloads once the spindle is locked -/
  speedReload : Bool
  retract : RetractPhase
  /-- milliactuator held at 0 V by its current limit (R721) -/
  maLimited : Bool
  /-- wedges since the present seek began, and its distance in 1/256 data track (R213) -/
  seekN : Nat
  seekLen : Nat
  /-- an unload has passed the outer guard band and climbs the ramp (R218) -/
  climbing : Bool
  /-- an unload was in progress at the loop fault: it is made once the loop has recovered -/
  unloadWanted : Bool
  /-- an address mark has been found since the load began (R217) -/
  markSeen : Bool
  /-- write-unsafe has been raised by an implausible wedge and not lowered since (R195) -/
  implWu : Bool
  /-- milliactuator table slot term of the last wedge, mV (R196) -/
  slotMa : Nat
  /-- measured currents of each actuator that is substituted for, newest first (R202) -/
  measured : Vector (List Nat) 4
  /-- what the retract controller drives the coil to: back-EMF target in mV and current limit in mA (R219) -/
  coil : Option (Nat × Nat)
  /-- when the actuator was last sent to a request (R203) -/
  sentAt : Nat
  /-- injection: wedges since its start, the sine's phase in 1/65536, and whose factory unlock it stands under: 0 none, port p as
  p + 1, 3 a control core -/
  injN : Nat
  injPhase : Nat
  injBy : Nat
  /-- capture buffer, in order, and wedges to the next sample (R223) -/
  capture : List Nat
  capWait : Nat
  capRun : Bool
  /-- write-unsafe hold after an activation changed the coefficients (R226): wedges left -/
  wuHold : Nat
  deriving DecidableEq, Repr

/-- A Nimbus run (R658): its kind, its target, and whether its first failure has been repeated (R661). -/
structure NimRun where
  kind : Fin 7
  target : Nat
  repeated : Bool
  deriving DecidableEq, Repr

/-- Nimbus beside its registers: the run in progress, the runs recorded late that the next idle period takes, the
cores' next self-test segment, the media patrol's next track, and the heads listed for Assist Recharacterise. -/
structure Nimbus where
  run : Option NimRun
  late : List (Nat × Nat)
  patrolTracks : Nat
  listed : List Nat
  deriving DecidableEq, Repr

/-- AEa beside its registers. Tables are keyed by 64·head + recording zone; masks have one bit for each head. -/
structure Assist where
  /-- trims t in 0.1 % (R254) -/
  trims : NMap Int
  /-- learned read and write heater settings, as differences from the characterised ones (R254, R256) -/
  rdDev : NMap Int
  wrDev : NMap Int
  /-- consecutive sectors at the trim limit: positive at the upper, negative at the lower (R255) -/
  satRun : NMap Int
  /-- preamp temperature in °C, read once per revolution (R251) -/
  temp : Int
  /-- verify failures among the last 64 sectors written by each head, newest first (R258) -/
  verify : Vector (List Bool) 6
  /-- times of suspensions, of touchdowns, and of retry causes as (status bit, time) -/
  susp : Vector (List Nat) 6
  touch : Vector (List Nat) 6
  faults : Vector (List (Nat × Nat)) 6
  /-- heads whose writes are suspended, wait after a touchdown, or wait after a retry cause -/
  suspended : Nat
  touchWait : Nat
  faultWait : Nat
  /-- heads whose heater settings R261 holds, and heads whose heater is faulty and set to 0 (R263) -/
  htrHeld : Nat
  htrDead : Nat
  /-- readers of a head with a READER fault: bit 0 reader L, bit 1 reader T -/
  readerBad : Vector (Fin 4) 6
  supplyBad : Bool
  hot : Bool
  /-- a PSL fault is unresolved, and the re-initialisations that failed in a row (R246) -/
  pslFault : Bool
  /-- a late assist step holds the assist and heater commands for the rest of the sector (R31) -/
  held : Bool
  reinitFails : Nat
  /-- write ready is reported to TSa (R257), and the write heater setting is applied -/
  wrReady : Bool
  preheat : Bool
  /-- the wedge at which the write heater setting is to be applied, and a read setting to be restored at the next wedge (R257) -/
  heatAt : Option Nat
  restore : Bool
  /-- metrics that CHa has delivered and no step has taken, oldest first: head, recording zone, metric in 0.1 dB (R252, R309) -/
  metrics : List (Fin 6 × Nat × Int)
  /-- assist-on and writer-on time of each head in nanoseconds, and the instants at which AG and WG rose -/
  aonNs : NMap Nat
  wonNs : NMap Nat
  agAt : Option Nat
  wgAt : Option Nat
  /-- drive currents latched in the present hour of writing of each head, as sum and number, and the average of the last whole hour
  (R268) -/
  drvSum : NMap Nat
  drvN : NMap Nat
  drvAvg : NMap Nat
  /-- the last frame sent, from opcode to CRC (R244, R245) -/
  lastFrame : Nat
  /-- the preamp registers as WRITE frames have left them: head × 256 + address (R244, R283, R306) -/
  pre : NMap Nat
  deriving DecidableEq, Repr

/-- A replay slot (R297): the sector that holds its samples, the number of the read that filled it, and the hold of
`CH_SMP_CTL` (R325). -/
structure ReplaySlot where
  owner : Option Nat
  filled : Nat
  test : Bool
  deriving DecidableEq, Repr

/-- Where a sector's ladder stands. -/
inductive LadderPhase where
  /-- the on-the-fly decode of rung 0 runs -/
  | onTheFly
  /-- a replay decode at a position runs, for rung 1, 2 or 3 -/
  | replay (rung : Nat) (pos : Int)
  /-- a deep decode is asked for or runs (rung 4) -/
  | deep
  /-- the next media re-read of rung 5 to 7 is awaited -/
  | reread
  deriving DecidableEq, Repr

/-- A sector being read (R297 to R301): its frame-table index, its location, its mark distances by position, the
positions decoded with the checks each left unsatisfied, the outer rung, the re-reads made in it, and the
revolutions used. -/
structure SectorRead where
  index : Nat
  head : Fin 6
  zone : Nat
  track : Nat
  tag : Nat
  /-- the band write generation that its CRC is seeded with (R291) -/
  gen : Nat
  scan : MarkScan
  phase : LadderPhase
  slot : Option Nat
  decoded : List (Int × Nat)
  /-- position that rung 1 or 2 found -/
  found : Option Int
  /-- rung that gave the present alignment -/
  source : Nat
  rung : Nat
  rereads : Nat
  revs : Nat
  /-- the head offset of a re-read of rung 6 that is in force, 1/256 track -/
  ofs : Int
  /-- a source of a reconstruction whose ladder stops at rung 4 (R439) -/
  short : Bool
  /-- no command needs the sector any longer (R302): results are discarded -/
  dropped : Bool
  deriving DecidableEq, Repr

/-- CHa beside its registers. -/
structure Channel where
  slots : Vector ReplaySlot 8
  fills : Nat
  sectors : List SectorRead
  /-- saved adaptation by 64·head + zone: gain, offset, asymmetry, timing and 16 taps of L, then of T (R287) -/
  saved : NMap (List Nat)
  /-- readers frozen: bit 0 reader L, bit 1 reader T (R286) -/
  frozen : Nat
  /-- flagged regions reported to the translation layer: surface, track, index, 0 asperity or 1 defect -/
  flagged : List (Nat × Nat × Nat × Nat)
  /-- the equaliser's boost and corner in force (R283, R284) -/
  boost : Nat
  fc : Nat
  /-- the write data of the last frame as WDX carried it: its transitions in 1/64 bit from the frame's start (R294, R304, R305) -/
  wdx : List Nat
  deriving DecidableEq, Repr

/-- A deep-decode request (R300). -/
structure DeepReq where
  act : Act
  index : Nat
  at_ : Nat
  deriving DecidableEq, Repr

/-- The two shared deep decoders and their queue. -/
structure Deep where
  queue : List DeepReq
  running : Vector (Option DeepReq) 2
  /-- third requests, waiting in their channels -/
  waiting : List DeepReq
  deriving DecidableEq, Repr

/-- A track job (R328). -/
structure TsJob where
  op : Nat
  head : Fin 6
  zone : Nat
  track : Nat
  first : Nat
  count : Nat
  bank : Nat
  buf : Nat
  gen : Nat
  tag : Nat
  deriving DecidableEq, Repr

/-- An entry of the rewrite queue (R349); `cause` is a mask: bit 0 BUFOP, 1 verify failure, 2 island cut. -/
structure RwEntry where
  index : Nat
  buf : Nat
  count : Nat
  cause : Nat
  job : TsJob
  deriving DecidableEq, Repr

/-- A frame in progress. `silent` keeps write gate low across poisoned data (R340). -/
structure TsFrame where
  write : Bool
  scan : Bool
  paused : Bool
  silent : Bool
  index : Nat
  buf : Nat
  job : Option TsJob
  deriving DecidableEq, Repr

/-- An armed set (R337): the codes of RG, WG, SG, the sector pulse and CHOP. -/
structure ArmedSet where
  rg : Nat
  wg : Nat
  sg : Nat
  spulse : Bool
  chop : Nat
  deriving DecidableEq, Repr

/-- What TSa posts to the control cores. -/
inductive TsPost where
  | done (tag sectors : Nat)
  | error (tag code : Nat)
  | report (code upc index : Nat)
  deriving DecidableEq, Repr

/-- TSa beside its registers. Bit times are those of the channel's island. -/
structure Ts where
  jobs : List TsJob
  cur : Option TsJob
  rwq : List RwEntry
  /-- control-store words that differ from the firmware's base program and the blank overlay region -/
  cs : NMap Nat
  /-- frame-table entries of the two banks -/
  ft : Vector (NMap Nat) 2
  armed : Option ArmedSet
  frame : Option TsFrame
  bit : Nat
  expAt : Option Nat
  lastExp : Nat
  wedgeEnd : Nat
  /-- event conditions -/
  btDone : Bool
  wedgeDone : Bool
  frameDone : Bool
  cut : Bool
  pmFound : Bool
  wgAtTrap : Bool
  rgAtTrap : Bool
  lateArm : Bool
  /-- write gate fell by the island's own action since the last trap entry -/
  wgFell : Bool
  wedgeIndex : Nat
  wedgeMissed : Bool
  rg : Bool
  wg : Bool
  sg : Bool
  sgHeld : Bool
  chReady : Bool
  /-- channel buffer as the sequencer sees it: next write sector whole, poisoned, room for a read sector -/
  bufReady : Bool
  bufPoison : Bool
  bufSpace : Bool
  bufPtr : Nat
  openBuf : Nat
  transferred : Nat
  /-- semaphore bits of the control cores -/
  flags : Nat
  /-- a word with SEQ 0b10 waits for a job, and the same when a trap was taken -/
  await : Bool
  savedAwait : Bool
  /-- a hard stop forces the STOP trap -/
  stopForced : Bool
  posts : List TsPost
  /-- sectors written and not yet verified, with the rewrites made of each -/
  unverified : List RwEntry
  /-- rewrites made of a sector since its last pass, by frame-table index (R311) -/
  rewrites : NMap Nat
  /-- sectors marked for read-after-write verification by a late assist step (R31) -/
  marked : List Nat
  deriving DecidableEq, Repr

/-- NVMe zone states (R386, R443, R585). -/
inductive ZState where
  | empty | implicit | explicit | closed | full | readOnly | offline
  deriving DecidableEq, Repr

/-- Rows written in order on the bands of one band-set index (R379, R389): the surfaces in row order, the parity count,
the logical sectors of a track, the blocks received and handed to the actuators as track writes, the rows whose parity
has passed, and the tracks of later rows that have passed, as row and surface. An extension segment of a rebuilt zone
is its band-set index and first row (R448). A media-cache row names its conventional track as band 2^32 + track (R390). -/
structure RowLog where
  band : Nat
  ext : Option (Nat × Nat)
  surfs : List Nat
  m : Nat
  t : Nat
  wp : Nat
  queued : Nat
  rowsDone : Nat
  passed : List (Nat × Nat)
  deriving DecidableEq, Repr

/-- A zone of a zoned namespace: its number k, which starts it at LBA k × 1,048,576 (R377), its rows, its state, the
expected pointer (R383), and its capacity.
Offsets are in blocks from the zone's first. `rebuilt` tells that a Surface Retire has moved it (R449). -/
structure Zone where
  nsid : Nat
  k : Nat
  log : RowLog
  state : ZState
  expected : Nat
  cap : Nat
  rebuilt : Bool
  deriving DecidableEq, Repr

/-- Reservation types (R570). -/
structure Reservation where
  holder : Nat
  kind : Nat
  deriving DecidableEq, Repr

/-- A namespace (R569, R589). -/
structure Namespace where
  nsid : Nat
  zoned : Bool
  profile : Nat
  size : Nat
  meta8 : Bool
  /-- PI type and location as DPS gives them -/
  dps : Nat
  shared : Bool
  /-- controllers it is attached to: bit p for controller p + 1 -/
  attached : Nat
  /-- the 512-bit media key, wrapped under the key-encryption key; it changes when the key is replaced (R88, R89) -/
  key : Nat
  /-- registrants: host identifier and key; the reservation held; its generation; PTPL -/
  registrants : List (Nat × Nat)
  reservation : Option Reservation
  resGen : Nat
  ptpl : Bool
  deriving DecidableEq, Repr

/-- A conventional group (R389): its namespace, its rows, whether it is closed, and the hour of its last write. -/
structure Group where
  id : Nat
  nsid : Nat
  log : RowLog
  closed : Bool
  lastHour : Nat
  deriving DecidableEq, Repr

/-- A physical band's entry in the band table (R392). -/
structure BandInfo where
  gen : Nat
  stamp : Nat
  temp : Int
  disturb : Nat
  deriving DecidableEq, Repr

/-- A band copy (R396): source band-set index and surface, target physical band, the cause's priority (R394), and
whether the target has been written to. -/
structure BandCopy where
  band : Nat
  surf : Nat
  target : Nat
  cause : Nat
  started : Nat
  deriving DecidableEq, Repr

/-- The parity accumulators of an open row (R428): sums by parity track × 1,024 + logical sector, and the data sectors
included, as data track × 1,024 + logical sector with the token added. -/
structure OpenRow where
  owner : RowOwner
  row : Nat
  sums : NMap Nat
  included : NMap Nat
  deriving DecidableEq, Repr

/-- A media-cache row (R390): its number, its layout of one row, and whether it is closed. -/
structure McRow where
  id : Nat
  log : RowLog
  closed : Bool
  deriving DecidableEq, Repr

/-- What a media request is made for. -/
inductive ReqFor where
  /-- blocks of a host command: controller, submission queue, command identifier, and the first block's LBA -/
  | host (p : Port) (sq cid lba : Nat)
  /-- sectors of a data track: owner, row, data track -/
  | data (o : RowOwner) (row j : Nat)
  /-- a parity track of an open row -/
  | parity (o : RowOwner) (row r : Nat)
  /-- a source of the reconstruction with a number -/
  | source (id : Nat)
  /-- a sector of a row on a surface, relocated to a conventional track (R382), for the write request with a tag where it was one's -/
  | moved (o : RowOwner) (row surf sector : Nat) (of : Option Nat)
  /-- a track that a Media Patrol job reads (R593) -/
  | patrol
  deriving DecidableEq, Repr

/-- A media request: one track's sectors (R554), the time it was queued, the sectors still to pass, those recovered at
rung 1 or above, and whether one of them made the track weak (R395). -/
structure MediaReq where
  tag : Nat
  for_ : ReqFor
  act : Act
  surf : Nat
  zone : Nat
  track : Nat
  first : Nat
  count : Nat
  write : Bool
  urgent : Bool
  at_ : Nat
  left : Nat
  recovered : Nat
  weak : Bool
  failed : Bool
  deriving DecidableEq, Repr

/-- A sector to be solved for (R437): its number, its place, its row, the source requests still running, the sources
that failed at rung 4 by surface (R439), whether the solve is being repeated, and the request it serves. -/
structure Recon where
  id : Nat
  for_ : ReqFor
  surf : Nat
  track : Nat
  sector : Nat
  owner : RowOwner
  row : Nat
  sourcesLeft : Nat
  failed : List Nat
  repeated : Bool
  tag : Nat
  deriving DecidableEq, Repr

/-- The translation layer beside its registers. -/
structure Xlate where
  namespaces : List Namespace
  zones : List Zone
  groups : List Group
  /-- media-cache rows that hold blocks, and the number of the next (R390) -/
  mcRows : List McRow
  nextRow : Nat
  /-- band-set indices of the conventional pool -/
  pool : List Nat
  /-- extension band sets in use by rebuilt zones (R448) -/
  extSets : List Nat
  /-- physical bands that serve a band-set index on a surface, where they are not the identity: key band × 32 + surface -/
  bandMap : NMap Nat
  /-- physical bands taken from the spares or the free ones by copies and remaps, and retired bands: band × 32 + surface -/
  taken : List Nat
  retired : List Nat
  /-- bands that a copy or remap has freed outside the spares -/
  released : List Nat
  /-- bands reported lost under R376 -/
  lostBands : List Nat
  bands : NMap BandInfo
  /-- bands due for a copy: band × 32 + surface, and the cause's priority (R394) -/
  due : List (Nat × Nat)
  copies : List BandCopy
  /-- user data by nsid × 2^48 + LBA as the media and the NAND hold it (R33, R87): the block's ciphertext plus 1, and 0 where
  nothing is written; a block still in DRAM is listed as its XTS engine ciphers it -/
  data : NMap Nat
  /-- extents of conventional namespaces in groups: nsid × 2^32 + extent to group × 2^20 + position + 1 (R389) -/
  extents : NMap Nat
  /-- cached blocks, oldest first: nsid × 2^48 + LBA, and media-cache row × 2^20 + offset + 1, or 0 outside the rows (R390) -/
  cached : List (Nat × Nat)
  /-- the relocation table (R382): the sector's place, surface × 2^36 + track × 2^14 + position, and where it is now, surface × 2^36 +
  conventional track × 2^14 + logical sector -/
  reloc : List (Nat × Nat)
  /-- grown-defective positions, coded as the sectors' places are, that take effect when the band is next written -/
  grown : List Nat
  defects : List Nat
  /-- the lost-sector list: nsid × 2^48 + LBA (R433) -/
  lost : List Nat
  /-- requests queued at each actuator, those beyond 256, and those being served (R554) -/
  queues : Vector (List MediaReq) 4
  beyond : List MediaReq
  active : List MediaReq
  nextTag : Nat
  nextGroup : Nat
  recons : List Recon
  openRows : List OpenRow
  /-- rows written with virtual tracks (R442): owner, row, the mask of surfaces whose track is virtual, m -/
  degraded : List (RowOwner × Nat × Nat × Nat)
  /-- dirty DRAM in receipt order (R34, R35, R114), and the keys of staged blocks whose DRAM copy is still held (R465) -/
  dirty : List DirtyBlock
  staged : List Nat
  /-- accepted conventional blocks of whole extents that are not on media yet (R403) -/
  convPending : Nat
  /-- free bands are below the Final Reserve, or have not returned to it plus the hysteresis (R404, R405) -/
  belowReserve : Bool
  /-- zones whose descriptors changed, by namespace, for the notice of R436 -/
  changed : List (Nat × Nat)
  /-- the zone recommendations that the last notice has told, where there are any: nsid × 2^32 + zone (R584) -/
  told : NMap Nat
  /-- the extension band set being given out, and the rows of it given (R448) -/
  extHead : Option (Nat × Nat)
  /-- a surface's Device Time of its last change, and the earlier state of an UNAVAILABLE one -/
  surfTime : NMap Nat
  surfBefore : NMap Nat
  deriving DecidableEq, Repr

/-- The statuses that the module returns. -/
inductive Status where
  | success | invalidOpcode | invalidField | dataTransferError | abortRequested | invalidNamespace | lbaOutOfRange
  | capacityExceeded | namespaceNotReady | reservationConflict | formatInProgress
  | unrecoveredRead | guardCheck | appTagCheck | refTagCheck
  | zoneBoundary | zoneFull | zoneReadOnly | zoneOffline | zoneInvalidWrite | tooManyActive | tooManyOpen | zoneTransition
  | invalidQueue | invalidQueueSize | invalidVector | invalidQueueDeletion | completionQueueInvalid
  | abortLimit | asyncLimit | commandSequence | notSaveable
  | controllerListInvalid | sanitizeInProgress
  | invalidFormat | insufficientCapacity | nsidUnavailable | alreadyAttached | notAttached | nsPrivate
  | invalidSlot | invalidImage | activationProhibitedVersion | activationProhibitedBusy | needsReset
  | idConflict | invalidLogPage | selfTestBusy
  | jobNotFound | jobSlots | jobConflict | jobTarget | jobEnded
  deriving DecidableEq, Repr

/-- A completion entry (R601's values are not in it): queue pair, identifier, status, Dwords 0 and 1. -/
structure Cqe where
  sq : Nat
  cid : Nat
  status : Status
  dw0 : Nat
  dw1 : Nat
  deriving DecidableEq, Repr

/-- A submission queue. Entries submitted and not fetched are runs of one stamp; fetched entries not yet started keep
their stamps (R559). -/
structure SubQueue where
  qid : Nat
  cq : Nat
  size : Nat
  prio : Nat
  cmb : Bool
  tail : Nat
  head : Nat
  waiting : List (Nat × Nat)
  fetched : List Nat
  /-- token bucket of R529 in thousandths, and when it was filled -/
  tokens : Nat
  tokenAt : Nat
  throttled : Bool
  /-- entry reads that failed in a row, the entries of the last one, and when it failed (R512) -/
  readFails : Nat
  failN : Nat
  failAt : Nat
  deriving DecidableEq, Repr

/-- A completion queue: entries posted and not yet consumed, and those that wait for room. -/
structure CompQueue where
  qid : Nat
  size : Nat
  vector : Nat
  irq : Bool
  entries : List Cqe
  head : Nat
  tail : Nat
  /-- completions aggregated since the last message (R546) -/
  aggregated : Nat
  deriving DecidableEq, Repr

/-- What a command in execution is. -/
inductive CmdKind where
  | read | verify | write | append | zeroes | copy | fence
  | zone (action : Nat)
  /-- done whole when it starts: 0 Deallocate, 1 Reservation Register, 2 Report, 3 Acquire, 4 Release, 5 a zone report -/
  | instant (op : Nat)
  deriving DecidableEq, Repr

/-- How far a command in execution is. -/
inductive CmdPhase where
  /-- held by an Ordering Fence (R561) -/
  | fenced
  /-- a write that is checked once the zone action before it is done (R586) -/
  | behind
  /-- a write so checked and accepted, which starts where no fence holds it -/
  | checked
  /-- its data is being received, or waits to be (R103) -/
  | receiving
  /-- received, its staged program is awaited: blocks to go (R464) -/
  | staging
  /-- its media requests are in hand -/
  | media
  /-- its result waits to be moved to the host -/
  | ready
  /-- a fence, or a zone action, that waits for other commands -/
  | waiting
  deriving DecidableEq, Repr

/-- An I/O command in execution (R549). -/
structure Cmd where
  port : Port
  sq : Nat
  cid : Nat
  stamp : Nat
  kind : CmdKind
  nsid : Nat
  slba : Nat
  nlb : Nat
  /-- the source blocks of a Copy -/
  src : List Nat
  /-- where a write's data lies in the controller's share of the Controller Memory Buffer; none in host memory (R551) -/
  cmb : Option Nat
  /-- the protection information's reference tags are remapped, for a Zone Append (R587) -/
  remap : Bool
  data : List Nat
  urgent : Bool
  phase : CmdPhase
  /-- the status found before it ends: a held write rejected by its zone's pointer (R384, R561), or a read's check of
  protection information -/
  bad : Option Status
  /-- media requests outstanding, blocks still to be staged, or the reads that a write's data takes -/
  need : Nat
  status : Status
  at_ : Nat
  /-- commands a fence has waited for; for a write, the reads of its data that have ended -/
  waited : Nat
  deriving DecidableEq, Repr

/-- A queue recovery in progress or waiting (R565 to R567): its command, queues, stamp and time of fetch; the covered
entries still in host memory, as queue and identifier, and whether one of them could not be read; whether it has begun, the
fully received writes it waits for, and the commands it has ended. -/
structure QueueRec where
  cid : Nat
  mask : Nat
  stamp : Nat
  at_ : Nat
  unfetched : List (Nat × Nat)
  unread : Bool
  begun : Bool
  waits : List (Nat × Nat)
  ended : Nat
  /-- the queue that is deleted when it ends, for a Delete I/O Submission Queue (R571) -/
  delete : Option Nat
  deriving DecidableEq, Repr

/-- One NVMe controller beside its registers. -/
structure Ctrl where
  sqs : List SubQueue
  cqs : List CompQueue
  granted : Option (Nat × Nat)
  /-- completions made and not yet posted, in order (R513, R519) -/
  held : List (Nat × Cqe)
  /-- features: current and saved values by identifier × 2^16 + selector -/
  feats : NMap Nat
  saved : NMap Nat
  aers : List Nat
  /-- events that wait for a request: type, information, log page; and log pages whose event is not cleared -/
  events : List (Nat × Nat × Nat)
  masked : List Nat
  hostId : Nat
  /-- last queue served in each class, and the credits left of the weighted turn (R552) -/
  lastServed : NMap Nat
  credits : NMap Nat
  qrec : List QueueRec
  /-- a shutdown is in progress since, and whether it is abrupt (R548) -/
  shutAt : Option (Nat × Bool)
  nssro : Bool
  lastDone : Nat
  /-- vendor log snapshots: page, the time taken, and the content (R602) -/
  snaps : List (Nat × Nat × List Nat)
  /-- MSI-X messages sent by vector -/
  messages : NMap Nat
  /-- device self-test results: code, result -/
  selfTests : List (Nat × Nat)
  /-- SMART and error history: entries of the Error log -/
  errors : List (Nat × Nat × Nat)
  /-- zones of the Changed Zone List: namespace and zone (R436) -/
  changedZones : List (Nat × Nat)
  /-- namespaces of the Changed Namespace List (R569) -/
  changedNs : List Nat
  /-- reservation notifications not yet read: type and namespace (R570) -/
  resNotes : List (Nat × Nat)
  deriving DecidableEq, Repr

/-- A job (R592 to R599). -/
structure Job where
  slot : Nat
  gen : Nat
  type : Nat
  state : Nat
  result : Nat
  ctrl : Port
  start : Nat
  stop : Nat
  nsid : Nat
  params : List Nat
  progress : Nat
  countA : Nat
  countB : Nat
  retrieved : Bool
  deriving DecidableEq, Repr

/-- What an admin command that waits for commands does (R569, R89): detach, delete, format with a metadata size, protection
information and cryptographic erase, or sanitize. -/
inductive WaitOp where
  | detach
  | delete
  | format (meta8 : Bool) (dps : Nat) (crypto : Bool)
  | sanitize
  deriving DecidableEq, Repr

/-- An admin command that waits for the commands to its namespace from the controllers of a mask; 0xFFFFFFFF names every
namespace. -/
structure AdminWait where
  port : Port
  cid : Nat
  nsid : Nat
  mask : Nat
  op : WaitOp
  deriving DecidableEq, Repr

/-- An Actuator Recalibration in progress (R203): the actuator; its step, 1 until the actuator follows with its work done, 2 with it as
the target, 3 with it as the source, 4 measured; whole revolutions in the step, or in the present injection; the actuator that is
given the test signal, and the sources that have been given it in step 2. -/
structure Recal where
  act : Nat
  phase : Nat
  revs : Nat
  inject : Option Nat
  injected : List Nat
  deriving DecidableEq, Repr

/-- The NVMe side that both controllers share. -/
structure Nvm where
  cmds : List Cmd
  /-- the Actuator Recalibration that runs (R203) -/
  recal : Option Recal
  jobs : List Job
  /-- what the Media Patrol job has still to read: surface, next track, tracks left (R593) -/
  patrol : List (Nat × Nat × Nat)
  waits : List AdminWait
  /-- the last sanitize operation: 0 none, 1 completed (R89) -/
  sanitize : Nat
  /-- cryptographic erases that a power loss has cut, as the NAND holds them for the next RUN (R89) -/
  erases : List AdminWait
  deriving DecidableEq, Repr

/-- What a request that awaits a completion is for. -/
inductive ReadFor where
  /-- a submission-queue entry read: queue and number of entries -/
  | entries (sq n : Nat)
  /-- data or lists of a command -/
  | command (sq cid : Nat)
  /-- a command or queue that is gone: the data is dropped -/
  | gone
  deriving DecidableEq, Repr

/-- A read outstanding: its tag, its purpose, and the completion timeout and the time it was sent with (R508). -/
structure OutRead where
  tag : Nat
  for_ : ReadFor
  tms : Nat
  at_ : Nat
  deriving DecidableEq, Repr

/-- A translation cached (R523): page, and whether reads and writes are allowed. -/
structure AtsEntry where
  page : Nat
  read : Bool
  write : Bool
  deriving DecidableEq, Repr

/-- A DOE mailbox (R525): the object being taken or answered, and the error flag. -/
structure Doe where
  busy : Bool
  ready : Bool
  error : Bool
  sessions : List Nat
  deriving DecidableEq, Repr

/-- A PCIe port beside its registers. -/
structure PciPort where
  /-- configuration registers the host has written, by byte offset / 4 -/
  config : NMap Nat
  /-- P1 exists, or the port is P0 (R500) -/
  present : Bool
  perst : Bool
  disabled : Bool
  /-- reads outstanding; tags in quarantine: tag and the time it becomes free; last tag issued -/
  out : List OutRead
  quarantine : List (Nat × Nat)
  lastTag : Nat
  /-- tags whose completions a clear of Bus Master Enable or an FLR discards -/
  discard : List Nat
  ats : List AtsEntry
  /-- tags whose reads each invalidation held waits for (R524) -/
  invalidations : List (List Nat)
  doe : Doe
  /-- factory unlock ends at this Device Time, and with this session (R92) -/
  unlockAt : Option Nat
  unlockBy : Nat
  /-- AER: uncorrectable and correctable status, and the First Error Pointer with the header logged -/
  aerUnc : Nat
  aerCor : Nat
  header : Option (Nat × Nat)
  pmeEn : Bool
  pmeStatus : Bool
  wake : Bool
  flr : Bool
  fetchStopped : Bool
  /-- the last LTR value sent, none before the first (R522) -/
  ltr : Option Nat
  /-- when a TLP was last sent or received (R521) -/
  tlpAt : Nat
  /-- the detected-error bits of Device Status, and the ERR_COR, ERR_NONFATAL and ERR_FATAL messages sent (R516, R517) -/
  devSta : Nat
  errSent : Vector Nat 3
  /-- vectors whose MSI-X message is pending behind the function mask (R504) -/
  pba : List Nat
  intx : Bool
  deriving DecidableEq, Repr

/-- What a NAND block serves (R463); `none` is a free or unassigned block, `spare` one held as a replacement. -/
inductive NPool where
  | none | reserve | journal | sepia | stage | spare | cache
  deriving DecidableEq, Repr

/-- A slot of a page (R461): what its header tells (namespace × 2^48 + LBA of the block held, the slot's role and the write
sequence), what it holds, and whether the map still leads to it. -/
structure NSlot where
  key : Nat
  role : NPool
  /-- the ciphertext programmed (R87, R461), as `Xlate.data` holds it -/
  unit : Nat
  seq : Nat
  valid : Bool
  deriving DecidableEq, Repr

/-- A NAND block (R460, R472, R476, R478). Block numbers are 1,392 × die + 348 × plane + index. `erased` tells that
the pages at and beyond the pointer are known erased. -/
structure NBlock where
  pool : NPool
  ptr : Nat
  erased : Bool
  ec : Nat
  factoryBad : Bool
  retired : Bool
  /-- Device Time hour and die temperature in 0.1 °C at the first program after erase (R478), the hour of the last program (R477),
  and the checkpoints that had been written by then (R470) -/
  hour : Nat
  temp : Int
  wrote : Nat
  ckpt : Nat
  /-- due for refresh (R479), and due to be emptied and erased after a refused program (R473) -/
  due : Bool
  scan : Bool
  slots : NMap NSlot
  deriving DecidableEq, Repr

/-- A superblock that a pool writes or has written (R462, R474): at most one block of each plane of a die. -/
structure NSuper where
  pool : NPool
  blocks : List Nat
  deriving DecidableEq, Repr

/-- A superblock of the HOLDUP reserve (R466): for data or for metadata. -/
structure NRsv where
  die : Nat
  forMeta : Bool
  blocks : List Nat
  deriving DecidableEq, Repr

/-- An erase in progress on a die (R482): its blocks, and whether a read has suspended it. -/
structure NErase where
  blocks : List Nat
  suspended : Bool
  deriving DecidableEq, Repr

/-- Why valid slots are being copied. -/
inductive CopyKind where
  | gc | wear | refresh | emptying
  deriving DecidableEq, Repr

/-- A copy of valid slots (R474 to R479): source blocks and target blocks, with the source slots already copied as
source block, slot and target block, slot. -/
structure NCopy where
  kind : CopyKind
  die : Nat
  source : List Nat
  target : List Nat
  moved : List ((Nat × Nat) × (Nat × Nat))
  deriving DecidableEq, Repr

/-- The NAND store beside its registers. Blocks are listed where they differ from a good, erased, unassigned one. -/
structure Nand where
  blocks : NMap NBlock
  /-- where each key's slot is: block × 8,192 + page × 4 + slot, plus 1 -/
  map : NMap Nat
  copies : List NCopy
  erases : Vector (Option NErase) 2
  seq : Nat
  /-- the superblocks of the pools, and those of the HOLDUP reserve -/
  sbs : List NSuper
  rsv : List NRsv
  /-- ready data superblocks by die when the HOLDUP flush started, and the pages of data each die has taken since (R468) -/
  share : Vector Nat 2
  flushed : Vector Nat 2
  /-- the die that holds the newest journal page alone, until the other die has it too (R470) -/
  jrnlHalf : Option Nat
  /-- blocks with a factory bad-block mark, which the first BOOT reads (R476) -/
  marks : List Nat
  /-- the read-threshold offset of each die's last read, in DAC steps (R478) -/
  rdOffset : Vector Int 2
  /-- entries of the metadata journal not yet in the NAND (R114, R470) -/
  tail : Nat
  /-- journal pages since the last checkpoint, the time of the last one, and the number written -/
  jrnlPages : Nat
  ckptAt : Nat
  ckpts : Nat
  /-- good blocks found at manufacture, once the factory marks have been read (R476) -/
  factory : Option Nat
  exhausted : Bool
  degraded : Bool
  /-- pool blocks lost to grown defects beyond the spares (R481) -/
  lostBlocks : Nat
  deriving DecidableEq, Repr

/-- Temperature, thermal stages and tokens beside the registers (R612 to R627). Temperatures are in 0.1 °C. -/
structure Thermal where
  /-- consecutive reads more than 25 °C from the die's median, by sensor (R614) -/
  departRun : NMap Nat
  /-- every sensor of a die is excluded: stage 3 is held until the next BOOT -/
  stage3Held : Bool
  /-- Device Time since which Tj has stayed below the exit level of stage n, none while it is above -/
  belowSince : Vector (Option Nat) 5
  /-- limits of R624 reached: DRAM dies, NAND dies and preamps, one bit each -/
  dramHot : Nat
  nandHot : Nat
  preampHot : Nat
  /-- time since which each limited sensor has stayed 5 °C below its limit -/
  limitBelow : NMap Nat
  /-- the motor was floated by stage 3 in SPINUP (R621) -/
  floated : Bool
  /-- when stage 3 was entered, for the 2.0 s of R620 and the timers of R621; none outside an orderly stop -/
  stopAt : Option Nat
  /-- a hard trip's flush has not sealed -/
  trip : Bool
  /-- tokens held by each throttled initiator: 0 to 11 the control cores, 12 and 13 LE0 and LE1, 14 bulk DMA -/
  tokens : NMap Nat
  /-- stage entries since manufacture (R607) -/
  entries : Vector Nat 4
  /-- an activation may have changed the stage thresholds: the next reading moves straight to its stage (R664) -/
  rethresh : Bool
  /-- the converter and band-gap correction last applied (R616) -/
  reference : Nat
  /-- microseconds with the hottest die sensor at 105 °C or above, at 110 °C or above, and in each bin of R607, the last from
  key 16; when they were last counted -/
  hist : NMap Nat
  histAt : Nat
  /-- each sensor's lowest reading, as its 16 bits plus 1, and the Device Time of its highest (R607) -/
  sensLow : NMap Nat
  sensAt : NMap Nat
  deriving DecidableEq, Repr

/-- Ochre beside its registers (R628 to R630): baselines, the measurements last taken, the first samples of a 30-day
mean as sum and count, the daily samples of percent used, newest first, and the indicators whose notice is raised. -/
structure Ochre where
  baseline : NMap Nat
  measured : NMap Nat
  firstSum : NMap Nat
  firstN : NMap Nat
  daily : List (List Nat)
  noticed : List Nat
  /-- hourly updates since the last daily sample (R629) -/
  hours : Nat
  /-- corrections counted in each of the last 168 hours, newest first: DRAM and SRAM -/
  dramHours : List Nat
  sramHours : List Nat
  dramLast : Nat
  sramLast : Nat
  deriving DecidableEq, Repr

/-- The NVMe health data (R625, R626), and the management endpoint's snapshot of it (R128, R633). -/
structure Health where
  warning : Nat
  dataRead : Nat
  dataWritten : Nat
  hostReads : Nat
  hostWrites : Nat
  busyUs : Nat
  powerCycles : Nat
  unsafeShutdowns : Nat
  mediaErrors : Nat
  errorEntries : Nat
  warnUs : Nat
  critUs : Nat
  /-- since manufacture: clamp tests failed, entries to SHORT on a clamp fault, entries to COAST (R603) -/
  clampFails : Nat
  clampShorts : Nat
  coasts : Nat
  /-- shutdown notification received since each controller was last enabled -/
  notified : Vector Bool 2
  snapshot : List Nat
  snapOchre : List Nat
  snapAt : Nat
  /-- the management endpoint's configuration values, by identifier (R632) -/
  miConfig : NMap Nat
  /-- ACT# is driven low, since when (R723) -/
  actLow : Option Nat
  deriving DecidableEq, Repr

/-- A line in an L1 (R673). A line is numbered by its internal address divided by 64; its set follows from the number. -/
structure L1Line where
  line : Nat
  way : Nat
  deriving DecidableEq, Repr

/-- A line in an L2 slice (R674): dirty where it differs from DRAM. -/
structure L2Line where
  line : Nat
  way : Nat
  dirty : Bool
  deriving DecidableEq, Repr

/-- The L1 caches of a control core (R673). -/
structure CoreL1 where
  instr : List L1Line
  data : List L1Line
  deriving DecidableEq, Repr

/-- A miss register in use (R675): the line awaited, the requests joined, its class, whether one of them is a store that makes the line
dirty, and the cores whose L1 takes the line, with whether they fetch instructions. -/
structure MissReg where
  line : Nat
  requests : Nat
  realTime : Bool
  dirty : Bool
  fills : List (Fin 12 × Bool)
  deriving DecidableEq, Repr

/-- A dirty line in an eviction buffer (R676), and whether its DRAM write has started. -/
structure EvLine where
  line : Nat
  started : Bool
  deriving DecidableEq, Repr

/-- An L2 slice (R674 to R676): its lines, its miss registers and its eviction buffer, both oldest first. -/
structure L2Slice where
  lines : List L2Line
  miss : List MissReg
  evict : List EvLine
  deriving DecidableEq, Repr

/-- The caches (R673 to R676): the L1s of CC0 to CC11 and the four slices of L2. What a line holds is what memory holds (R674). -/
structure Caches where
  l1 : Vector CoreL1 12
  l2 : Vector L2Slice 4
  deriving DecidableEq, Repr

/-- The memories and the DMA engine beside their registers (R673 to R713). -/
structure Memories where
  caches : Caches
  /-- spares used, and rows corrected on scrub passes: row to the times of the last three (R686, R688) -/
  spared : List Spare
  rowHits : NMap (List Nat)
  /-- repairs that only the journal keeps (R687) -/
  repairs : List Spare
  scrubWord : Nat
  scrubLine : Nat
  /-- poisoned SRAM words and DRAM lines, by internal address -/
  poison : List Nat
  /-- DMA channels whose STOP or PAUSE waits for reads to drain -/
  draining : Nat
  /-- poisoned data whose owner acts at the next RUN (R694): kind and location -/
  owed : List (Nat × Nat)
  /-- how often each controller's Controller Memory Buffer has been zeroed (R135); the model's own count -/
  cmbEpoch : Vector Nat 2
  /-- how often the core's supplies have gone off (R116, R126), and its memories lost what they held; the model's own count -/
  offEpoch : Nat
  deriving DecidableEq, Repr

/-- Everything but the queue and the memory. -/
structure Block where
  /-- register fields by constructor and instance, listed where they differ from their reset value (R10) -/
  regs : NMap Nat
  image : Image
  sys : Sys
  sep : Sepia
  fcs : Fcs
  fuses : Fuses
  boot : Boot
  pwr : Power
  spn : Spindle
  srv : Vector Servo 4
  ast : Vector Assist 4
  ch : Vector Channel 4
  deep : Deep
  ts : Vector Ts 4
  xl : Xlate
  ns : Nand
  px : Vector PciPort 2
  nv : Vector Ctrl 2
  nvm : Nvm
  nim : Nimbus
  thm : Thermal
  och : Ochre
  hea : Health
  mm : Memories
  deriving DecidableEq, Repr

/-- The machine: the commands waiting, first in first out, the bytes of its memories by internal address (R36), and
everything else. -/
structure State where
  pending : List Instr
  mem : NMap Byte
  blk : Block
  deriving DecidableEq, Repr

/-- Reasons a step stops. The spec gives every command an effect, so that no meaning raises one. -/
inductive Fault where
  /-- raised by nothing: the spec describes no command that stops the module; safe -/
  | stopped
  deriving DecidableEq, Repr

/-- Reasons a command is refused. -/
inductive Refusal where
  /-- raised by an arm whose meaning has not been written; safe -/
  | notModelled (mnemonic : String)
  deriving DecidableEq, Repr

/-! ### Reset -/

/-- Empty caches. -/
def Caches.reset : Caches := ⟨Vector.replicate 12 ⟨[], []⟩, Vector.replicate 4 ⟨[], [], []⟩⟩

/-- A blank FCS bank. -/
def FcsBank.reset : FcsBank := ⟨.blank, none, 0xFF, [], [], none, none, none, [], [], [], false⟩

/-- SPE at rest. -/
def Spindle.reset : Spindle :=
  { goal := .rest, fails := 0, inAttempt := false, attemptAt := 0, locateAt := 0, zcSeen := false, lossRestart := false
    angleKnown := false, i := Vector.replicate 3 0, flux := Vector.replicate 3 0, elec := 0, pole := 0, obsSpeed := 0
    fluxUp := false, torqueOut := 0, vector := 0, applied := [(8, 6250)], depthSum := 0, depthSteps := 0, torqueRef := 0
    integ := 0, zeroSteps := 0, rising := false, starting := false, holdSpeed := none, implRun := 0, lostWait := false
    zcLoss := 0, zcRun := 0, zcLast := 0, lost := false, commWait := none, edge := 0, duty := 0, dutyIn := 0, dutyOut := 0
    commSector := 0, pulse := 0, forcedRate := 0, forcedAngle := 0, catchTries := 0, ovBraking := false
    clampClosed := false, clampUs := 0, clampDue := false, trips := [], brakeWait := false, wedgeNs := [], turn := 0
    turnSteps := 0, errSteps := 0, spinupAt := 0 }

/-- SEa at rest, its actuator on the ramp. -/
def Servo.reset : Servo :=
  { ref := 0, x := [], model := [], notchVcm := [], notchMa := [], pred := 0, uVcm := 0, uMa := 0, uMaNext := 0
    ffMa := 0, published := [], held := false, residuals := [], window := [], implRun := 0, goodRun := 0, wedge := 0
    revPeak := 0, revImpl := false, revWu := false, runout := [], revPes := [], settleRun := 0, readRun := 0
    readSettled := false, writeSettled := false, forWrite := false, safeLaw := false, safeAt := 0, plausRun := 0
    safeWedges := 0, reacquired := false, faultTimes := [], reloads := none, loadFails := 0, loadWedges := 0
    markRun := 0, loadDue := false, speedReload := false, retract := .idle, maLimited := false, seekN := 0, seekLen := 0, climbing := false, unloadWanted := false
    markSeen := false, implWu := false, slotMa := 0, measured := Vector.replicate 4 [], coil := none, sentAt := 0
    injN := 0, injPhase := 0, injBy := 0, capture := [], capWait := 0, capRun := false, wuHold := 0 }

/-- AEa with nothing learned. -/
def Assist.reset : Assist :=
  { trims := [], rdDev := [], wrDev := [], satRun := [], temp := 0, verify := Vector.replicate 6 []
    susp := Vector.replicate 6 [], touch := Vector.replicate 6 [], faults := Vector.replicate 6 [], suspended := 0
    touchWait := 0, faultWait := 0, htrHeld := 0, htrDead := 0, readerBad := Vector.replicate 6 0, supplyBad := false
    hot := false, pslFault := false, held := false, reinitFails := 0, wrReady := false, preheat := false
    heatAt := none, restore := false, metrics := [], aonNs := [], wonNs := [], agAt := none, wgAt := none, drvSum := [], drvN := []
    drvAvg := [], lastFrame := 0, pre := [] }

/-- CHa with its slots free. -/
def Channel.reset : Channel :=
  { slots := Vector.replicate 8 ⟨none, 0, false⟩, fills := 0, sectors := [], saved := [], frozen := 0, flagged := [], boost := 0, fc := 0, wdx := [] }

/-- TSa stopped. -/
def Ts.reset : Ts :=
  { jobs := [], cur := none, rwq := [], cs := [], ft := Vector.replicate 2 [], armed := none, frame := none, bit := 0
    expAt := none, lastExp := 0, wedgeEnd := 0, btDone := false, wedgeDone := false, frameDone := false, cut := false
    pmFound := false, wgAtTrap := false, rgAtTrap := false, lateArm := false, wgFell := false, wedgeIndex := 0
    wedgeMissed := false, rg := false, wg := false, sg := false, sgHeld := false, chReady := false, bufReady := false
    bufPoison := false, bufSpace := false, bufPtr := 0, openBuf := 0, transferred := 0, flags := 0, await := false
    savedAwait := false, stopForced := false, posts := [], unverified := [], rewrites := [], marked := [] }

/-- A translation layer with no namespace. -/
def Xlate.reset : Xlate :=
  { namespaces := [], zones := [], groups := [], mcRows := [], nextRow := 0, pool := [], extSets := [], bandMap := [], taken := [], retired := [], released := []
    lostBands := [], bands := [], due := [], copies := [], data := [], extents := [], cached := [], reloc := []
    grown := [], defects := [], lost := [], queues := Vector.replicate 4 [], beyond := [], active := [], nextTag := 0
    nextGroup := 0, recons := [], openRows := [], degraded := [], dirty := [], staged := [], convPending := 0
    belowReserve := false, changed := [], told := [], extHead := none, surfTime := [], surfBefore := [] }

/-- The reserve of a new module (R463, R466): the blocks of index 0 and 1 of every plane for data, of index 2 for metadata (DESIGN
CHOICE, log entry 160). -/
def reserveAtStart : List NRsv :=
  (List.range 2).flatMap (fun d => (List.range 3).map (fun k =>
    ⟨d, decide (k = 2), (List.range 4).map (fun p => 1392 * d + 348 * p + k)⟩))

/-- A NAND with every block good and erased, and its reserve ready. -/
def Nand.reset : Nand :=
  { blocks := [], map := [], copies := [], erases := Vector.replicate 2 none, seq := 0
    sbs := [], rsv := reserveAtStart, share := Vector.replicate 2 0, flushed := Vector.replicate 2 0, jrnlHalf := none, marks := []
    rdOffset := Vector.replicate 2 0, tail := 0, jrnlPages := 0, ckptAt := 0, ckpts := 0
    factory := none, exhausted := false, degraded := false, lostBlocks := 0 }

/-- A port whose PERST is asserted. -/
def PciPort.reset (p : Port) : PciPort :=
  { config := [], present := decide (p = 0), perst := true, disabled := false, out := [], quarantine := [], lastTag := 0
    discard := [], ats := [], invalidations := [], doe := ⟨false, false, false, []⟩, unlockAt := none, unlockBy := 0, aerUnc := 0
    aerCor := 0, header := none, pmeEn := false, pmeStatus := false, wake := false, flr := false, fetchStopped := false
    ltr := none, tlpAt := 0, devSta := 0, errSent := Vector.replicate 3 0, pba := [], intx := false }

/-- A controller that is not enabled. -/
def Ctrl.reset : Ctrl :=
  { sqs := [], cqs := [], granted := none, held := [], feats := [], saved := [], aers := [], events := [], masked := []
    hostId := 0, lastServed := [], credits := [], qrec := [], shutAt := none, nssro := false, lastDone := 0, snaps := []
    messages := [], selfTests := [], errors := [], changedZones := [], changedNs := [], resNotes := [] }

/-- The block right after power is first applied: before BOOT, every register at its reset value. -/
def Block.reset : Block :=
  { regs := [], image := ⟨[], []⟩
    sys := { devTime := 0, hostTs := none, hostTsAt := 0, powerOnUs := 0, shadow := Vector.replicate 2 none
             sagHold := false, missRuns := [], busFaults := 0, free := 0, reply := .none }
    sep := { halfA := [], halfB := [], fillB := false, reserve := [], held := [], flushA := false, flushB := false
             flushDue := false, up := false, bootMade := 0, buckets := [], keepArea := [], rollArea := [], staged := []
             stagedBy := 0 }
    fcs := { banks := Vector.replicate 2 FcsBank.reset, running := 0, op := none, jobs := [], abandoned := [], target := none, staged := ⟨none, none⟩
             stagedNext := 0, armed := none, activation := none, deferred := [], cal := none, calBank := 0
             calPort := none, calItems := 0, calAsked := 0, calFailed := 0 }
    fuses := { keySlots := [], revoked := [], fwSvn := 0, secret := 0, spares := [], imgSvn := 0, fieldLock := false }
    boot := { active := false, start := 0, candidates := [], current := none, rejected := false, verified := false
              halted := none, recovery := false, enginesUp := false, journalUp := false, phy := false }
    pwr := { powered := true, v12 := true, v12Held := false, aux := false, pwdis := false, pwdisDown := false
             holdup := none, afterHoldup := false, braking := false, provisional := [], pending := []
             retention := ⟨none, none⟩, savedTime := 0, savedRegs := [], sealedHoldup := none, shortFlush := none
             shortLost := [], skipped := [], backupFailed := false, spinupFailed := false, lastOper := Vector.replicate 2 0
             cap := none, wrSupplyOff := false, passed := false, savedHu := 0, huLost := false }
    spn := Spindle.reset
    srv := Vector.replicate 4 Servo.reset
    ast := Vector.replicate 4 Assist.reset
    ch := Vector.replicate 4 Channel.reset
    deep := ⟨[], Vector.replicate 2 none, []⟩
    ts := Vector.replicate 4 Ts.reset
    xl := Xlate.reset
    ns := Nand.reset
    px := Vector.ofFn PciPort.reset
    nv := Vector.replicate 2 Ctrl.reset
    nvm := ⟨[], none, [], [], [], 0, []⟩
    nim := ⟨none, [], 0, []⟩
    thm := { departRun := [], stage3Held := false, belowSince := Vector.replicate 5 none, dramHot := 0, nandHot := 0
             preampHot := 0, limitBelow := [], floated := false, stopAt := none, trip := false
             tokens := [], entries := Vector.replicate 4 0, rethresh := false, reference := 0, hist := [], histAt := 0
             sensLow := [], sensAt := [] }
    och := { baseline := [], measured := [], firstSum := [], firstN := [], daily := [], noticed := [], hours := 0
             dramHours := [], sramHours := [], dramLast := 0, sramLast := 0 }
    hea := { warning := 0, dataRead := 0, dataWritten := 0, hostReads := 0, hostWrites := 0, busyUs := 0
             powerCycles := 0, unsafeShutdowns := 0, mediaErrors := 0, errorEntries := 0, warnUs := 0, critUs := 0, clampFails := 0, clampShorts := 0, coasts := 0
             notified := Vector.replicate 2 false, snapshot := [], snapOchre := [], snapAt := 0, miConfig := []
             actLow := none }
    mm := { caches := Caches.reset, spared := [], rowHits := [], repairs := [], scrubWord := 0, scrubLine := 0, poison := [], draining := 0
            owed := [], cmbEpoch := Vector.replicate 2 0, offEpoch := 0 } }

/-- The machine right after reset: no command waits, and no byte of memory has been written. -/
def State.reset : State := { pending := [], mem := [], blk := Block.reset }

end Sys2Proof.Machine
end

