-- ==== Sys2Proof/Machine/Ops.lean ====
section
/-! DEFINITION. The named operations every family uses: the sparse tables, the register fields, the image settings,
time, free values, replies and memory. -/

namespace Sys2Proof.Machine

/-! ### Sparse tables -/

/-- The value a sparse table holds at a key; an unlisted key reads as the default. -/
def nget {α : Type} (d : α) : NMap α → Nat → α
  | [], _ => d
  | (k, v) :: m, j => if j = k then v else nget d m j

/-- The table without a key. -/
def nerase {α : Type} : NMap α → Nat → NMap α
  | [], _ => []
  | (k, v) :: m, j => if j = k then nerase m j else (k, v) :: nerase m j

/-- The table with a new entry put at its place in the order of keys. -/
def ninsert {α : Type} : NMap α → Nat → α → NMap α
  | [], j, w => [(j, w)]
  | (k, v) :: m, j, w => if j < k then (j, w) :: (k, v) :: m else (k, v) :: ninsert m j w

/-- The table with a key set; setting the default removes the entry, so that equal tables are equal data. -/
def nset {α : Type} [DecidableEq α] (d : α) (m : NMap α) (j : Nat) (w : α) : NMap α :=
  if w = d then nerase m j else ninsert (nerase m j) j w

/-- The canonical form: keys strictly rising, and no entry equal to its key's default. -/
def nwf {α : Type} [DecidableEq α] (d : Nat → α) : NMap α → Bool
  | [] => true
  | [(k, v)] => !decide (v = d k)
  | (k, v) :: (k', v') :: m => !decide (v = d k) && decide (k < k') && nwf d ((k', v') :: m)

/-- Memory is in its canonical form: addresses strictly rising, and no byte listed that reads as an unlisted one. -/
def Memory.wf (m : NMap Byte) : Bool := nwf (fun _ => 0) m

/-- One component of a fixed bank replaced by a function of it. -/
def vupd {α : Type} {n : Nat} (v : Vector α n) (i : Fin n) (f : α → α) : Vector α n :=
  v.set i.val (f v[i.val]) i.isLt

/-- A component of a fixed bank. -/
def vget {α : Type} {n : Nat} (v : Vector α n) (i : Fin n) : α := v[i.val]

/-! ### Register fields (R10) -/

/-- The number of bits of a field. -/
def Field.width (f : Field) : Nat := f.info.hi + 1 - f.info.lo

/-- The greatest value a field holds. -/
def Field.max (f : Field) : Nat := 2 ^ f.width - 1

/-- The value of a field that nothing has set: the spec's reset value, and 0 for a field whose Reset entry names a
source, until the source is read (R738). -/
def Field.init (f : Field) : Nat :=
  match f.info.reset with
  | .val n => n
  | _ => 0

/-- The key under which instance i of a field is held. -/
def Field.key (f : Field) (i : Nat) : Nat := f.ctorIdx * 256 + i

/-- The stored value of instance i of a field. -/
def Block.get (b : Block) (f : Field) (i : Nat) : Nat := nget f.init b.regs (f.key i)

/-- Instance i of a field set to the low bits of a value. -/
def Block.put (b : Block) (f : Field) (i : Nat) (v : Nat) : Block :=
  { b with regs := nset f.init b.regs (f.key i) (v % 2 ^ f.width) }

/-- A field set to a value, saturating at its greatest. -/
def Block.putSat (b : Block) (f : Field) (i : Nat) (v : Nat) : Block := b.put f i (min v f.max)

/-- A counter advanced, saturating at its greatest value. -/
def Block.bump (b : Block) (f : Field) (i : Nat) (n : Nat := 1) : Block := b.put f i (min (b.get f i + n) f.max)

/-- A counter of two 32-bit halves advanced. -/
def Block.bump64 (b : Block) (lo hi : Field) (i : Nat) : Block :=
  let v := b.get lo i + 2 ^ lo.width * b.get hi i + 1
  if v < 2 ^ (lo.width + hi.width) then (b.put lo i v).put hi i (v / 2 ^ lo.width) else b

/-- A flag field set from a truth value. -/
def Block.putBool (b : Block) (f : Field) (i : Nat) (v : Bool) : Block := b.put f i (if v then 1 else 0)

/-- A signed value as a field of w bits holds it (two's complement, saturating). -/
def signedBits (w : Nat) (v : Int) : Nat :=
  let hi : Int := (2 : Int) ^ (w - 1) - 1
  let lo : Int := -((2 : Int) ^ (w - 1))
  let c := max lo (min hi v)
  (c % ((2 : Int) ^ w)).toNat

/-- The signed value of w bits of two's complement. -/
def bitsSigned (w v : Nat) : Int :=
  if v < 2 ^ (w - 1) then (v : Int) else (v : Int) - (2 : Int) ^ w

/-- A field set to a signed value. -/
def Block.putInt (b : Block) (f : Field) (i : Nat) (v : Int) : Block := b.put f i (signedBits f.width v)

/-! ### Register fields at a reset (R12, R13, R131) -/

/-- The port that an instance of a field belongs to, if any. -/
def fieldPort (f : Field) (i : Nat) : Option Nat :=
  if f = .PWR_MODE_PS_C1 then some 0
  else if f = .PWR_MODE_PS_C2 then some 1
  else if f.info.outer = 2 then some (i / max 1 f.info.inner)
  else none

/-- A field's instance is set back by a reset of a letter at a port: its Kept across entry does not list the letter, and it is
not the other port's. -/
def fieldResets (l : ResetLetter) (p : Nat) (key : Nat) : Bool :=
  let f := Field.ofNat (key / 256)
  !decide (l ∈ f.info.kept) && (match fieldPort f (key % 256) with | some q => decide (q = p) | none => true)

/-- The register fields after a reset of a letter at a port. A capture in progress shows START 0 after it, runs on and sets DONE when the
buffer is full: the spec does not say whether it ends (R236; DESIGN CHOICE, log entry 153). -/
def resetRegs (b : Block) (l : ResetLetter) (p : Port) : Block :=
  { b with regs := b.regs.filter (fun e => !fieldResets l p.val e.1) }

/-! ### Time, free values, replies -/

/-- Device Time in microseconds (R136). -/
def Block.now (b : Block) : Nat := b.sys.devTime

/-- A fresh value the spec leaves open, below a bound where one is given (0 for none). -/
def Block.fresh (b : Block) (bound : Nat) : Nat × Block :=
  (if bound = 0 then Config.freeValue b.sys.free else Config.freeValue b.sys.free % bound,
   { b with sys := { b.sys with free := b.sys.free + 1 } })

/-- The answer left for a command's sender. -/
def Block.answer (b : Block) (r : Reply) : Block := { b with sys := { b.sys with reply := r } }

/-- A control core's access ends in a precise exception (R36, R66, R351). -/
def Block.coreFault (b : Block) : Block :=
  { b with sys := { b.sys with busFaults := b.sys.busFaults + 1, reply := .busFault } }

/-! ### Image settings -/

/-- The key under which a setting's value is listed: its constructor, its record's instance, its index. -/
def settingKey (k : Setting) (inst idx : Nat) : Nat := (k.ctorIdx * 32 + inst) * 4096 + idx

/-- Defaults that a record table gives in words: the notch's "pass" (b0 is 1.0, the rest 0), the channel's unit main
tap at index 5, and the write policies of R677. -/
def settingWordDefault (k : Setting) (idx : Nat) : Int :=
  match k with
  | .SRV_NOTCH => if idx % 5 = 0 then 0x3F800000 else 0
  | .CHN_FIR_INIT => if idx % 16 = 5 then 256 else 0
  | .MEM_POL => (([0, 0, 0, 2, 2, 2] : List Nat).getD idx 0 : Nat)
  | _ => 0

/-- A setting's default. -/
def settingDefault (k : Setting) (idx : Nat) : Int := (settingInfo k).dflt.getD (settingWordDefault k idx)

/-- A setting's value in an image: the value its record carries, or its default (R49, R50). -/
def imgGet (m : Image) (k : Setting) (inst idx : Nat) : Int :=
  nget (settingDefault k idx) m.vals (settingKey k inst idx)

/-- A setting of the running image. -/
def Block.cfg (b : Block) (k : Setting) (inst : Nat := 0) (idx : Nat := 0) : Int := imgGet b.image k inst idx

/-- A setting that is never negative, as a natural number. -/
def Block.cfgN (b : Block) (k : Setting) (inst : Nat := 0) (idx : Nat := 0) : Nat := (imgGet b.image k inst idx).toNat

/-- Bit n of a mask. -/
def bit (m n : Nat) : Bool := m.testBit n

/-- A mask with bit n set. -/
def setBit (m n : Nat) : Nat := m ||| (1 <<< n)

/-- A mask with bit n cleared. -/
def clearBit (m n : Nat) : Nat := if m.testBit n then m - (1 <<< n) else m

/-- A mask with bit n set to a truth value. -/
def putBit (m n : Nat) (v : Bool) : Nat := if v then setBit m n else clearBit m n

/-- The number of bits set among the low w. -/
def popCount (w m : Nat) : Nat := ((List.range w).filter (fun i => m.testBit i)).length

/-- Serial-number comparison of w-bit numbers: a is greater than b when the distance from b to a is in the lower
half of the number range (R71, R136). -/
def serialGt (w a b : Nat) : Bool :=
  let d := (a + 2 ^ w - b % 2 ^ w) % 2 ^ w
  decide (0 < d ∧ d < 2 ^ (w - 1))

/-- The last n elements of a list. -/
def takeLast {α : Type} (n : Nat) (l : List α) : List α := l.drop (l.length - n)

/-- The first element of a list that satisfies a test, replaced by a function of it. -/
def updFirst {α : Type} (p : α → Bool) (f : α → α) : List α → List α
  | [] => []
  | x :: xs => if p x then f x :: xs else x :: updFirst p f xs

/-- Every element of a list that satisfies a test, replaced by a function of it. -/
def updAll {α : Type} (p : α → Bool) (f : α → α) (l : List α) : List α := l.map (fun x => if p x then f x else x)

/-- The list without its first element that satisfies a test. -/
def dropFirst {α : Type} (p : α → Bool) : List α → List α
  | [] => []
  | x :: xs => if p x then xs else x :: dropFirst p xs

/-- Actuators whose bit is set in `PLT.ACTUATORS` (R53). -/
def Block.populated (b : Block) (a : Act) : Bool := bit (b.cfgN .PLT_ACTUATORS) a.val

/-- The actuator that owns a surface (R4). -/
def surfAct (s : Surf) : Act := ⟨s.val / 6, by omega⟩

/-- The six surfaces of an actuator (R4). -/
def actSurfs (a : Act) : List Surf := (List.finRange 24).filter (fun s => surfAct s = a)

/-! ### Calibration values -/

/-- The key of a calibration value: item, subject, index. -/
def calKey (item subject idx : Nat) : Nat := (item * 4096 + subject) * 32 + idx

/-- A calibration value of a record; an item never measured reads 0. -/
def calGet (c : CalRecord) (item subject idx : Nat) : Int := nget 0 c.vals (calKey item subject idx)

/-- A calibration value in use; 0 where no record is. -/
def Block.cal (b : Block) (item subject idx : Nat) : Int :=
  match b.fcs.cal with
  | some c => calGet c item subject idx
  | none => 0

/-! ### Commands' outcomes -/

/-- A command whose whole effect is on the block: the queue and the memory stay. -/
def State.onBlock (s : State) (f : Block → Block) : Host.Outcome State Fault Refusal :=
  .next { s with blk := f s.blk }

/-- A command whose effect reaches memory as well: the queue stays. -/
def State.onMem (s : State) (f : NMap Byte → Block → NMap Byte × Block) : Host.Outcome State Fault Refusal :=
  let r := f s.mem s.blk
  .next { s with mem := r.1, blk := r.2 }

/-- A command that acts only where its enabling condition holds, and changes nothing elsewhere (log entry 2). -/
def Block.guard (b : Block) (c : Bool) (f : Block → Block) : Block := if c then f b else b

end Sys2Proof.Machine
end

