-- ==== Sys2Proof/Machine/ImageBytes.lean ====
section
/-! DEFINITION. The bytes of an image and of the calibration record (R48 to R53 and the record tables of every chapter), with their
check words: what CRC-32C and the signature are computed over. -/

namespace Sys2Proof.Machine

/-- The low bytes of a number, little-endian. -/
def leBytes : Nat → Nat → List Nat
  | 0, _ => []
  | n + 1, w => w % 256 :: leBytes n (w / 256)

/-- One bit of CRC-32C in its reflected form. -/
def crc32cBit (c : Nat) : Nat := if c % 2 = 1 then (c / 2) ^^^ 0x82F63B78 else c / 2

/-- One byte of CRC-32C. -/
def crc32cByte (c d : Nat) : Nat :=
  crc32cBit (crc32cBit (crc32cBit (crc32cBit (crc32cBit (crc32cBit (crc32cBit (crc32cBit (c ^^^ d))))))))

/-- CRC-32C of bytes (R48): the Castagnoli polynomial, initial value and final inversion of all ones (log entry 121). -/
def crc32c (bs : List Nat) : Nat := bs.foldl crc32cByte 0xFFFFFFFF ^^^ 0xFFFFFFFF

/-! ### Where a setting lies in its record -/

/-- The bytes that one value of a setting takes: what its range needs, in a field of 1, 2 or 4 bytes, or of its own size where it is
longer; `PLT.SURFACES` takes 3 (R53), and `HST.FETCH_BURST` the one byte that R530 leaves it, in which 256 stands as 0 (log entry 138). -/
def settingBytes (k : Setting) : Nat :=
  let i := settingInfo k
  let n := (if i.lo < 0 then i.hi.toNat.log2 + 1 else i.hi.toNat.log2) / 8 + 1
  if k = .HST_FETCH_BURST then 1 else if n = 3 ∧ k ≠ .PLT_SURFACES then 4 else n

/-- The offset and the size in bytes of value number idx of a setting. `CHN.PRECOMP1` and `CHN.PRECOMP2` alternate (R313); the override
entries of R663 are of 40 bytes and 13 values. -/
def settingPlace (k : Setting) (idx : Nat) : Nat × Nat :=
  let i := settingInfo k
  match k with
  | .CHN_PRECOMP1 | .CHN_PRECOMP2 => (i.offset + 2 * idx, 1)
  | .REC_OVR =>
    let j := idx % 13
    let base := i.offset + 40 * (idx / 13)
    if j = 0 then (base, 2) else if j < 5 then (base + j + 1, 1) else (base + 8 + 4 * (j - 5), 4)
  | _ => (i.offset + settingBytes k * idx, settingBytes k)

/-- The number of values of a setting that a record holds: `TSO.WORDS` words and `REC.OVR_N` overrides of the two that vary. -/
def settingCount (m : Image) (inst : Nat) (k : Setting) : Nat :=
  match k with
  | .TSO_WORD => (imgGet m .TSO_WORDS inst 0).toNat
  | .REC_OVR => 13 * (imgGet m .REC_OVR_N inst 0).toNat
  | _ => (settingInfo k).count

/-- The length in bytes of a record of version 1.0, as its chapter's table gives it; 0 for a type not listed. -/
def recordLength (m : Image) (r : ImgRecord) : Nat :=
  match r.type with
  | 0x01 => 240 | 0x02 => 96 | 0x03 => 368 | 0x04 => 928 | 0x05 => 6368 | 0x06 => 64 | 0x07 => 40 | 0x08 => 2416
  | 0x09 => 64 + 16 * (imgGet m .TSO_WORDS r.inst 0).toNat
  | 0x0A => 48 | 0x0B => 64 | 0x0C => 48 | 0x0D => 32
  | 0x0E => 32 + 40 * (imgGet m .REC_OVR_N r.inst 0).toNat
  | 0x0F => 48 | 0x10 => 32 | 0x11 => 80
  | _ => 0

/-! ### A record and an image as numbers, the first byte lowest -/

/-- A record's header (R48). -/
def headerNat (r : ImgRecord) : Nat :=
  r.type + r.flags * 2 ^ 8 + r.minor * 2 ^ 16 + r.major * 2 ^ 24 + r.length * 2 ^ 32 + r.inst * 2 ^ 64 + r.rsvd * 2 ^ 80 + r.crc * 2 ^ 96

/-- One value of a setting at its place in its record. -/
def valueNat (m : Image) (inst : Nat) (k : Setting) (idx : Nat) : Nat :=
  let p := settingPlace k idx
  (imgGet m k inst idx % ((2 : Int) ^ (8 * p.2))).toNat * 2 ^ (8 * p.1)

/-- The values of a setting in its record. -/
def settingNat (m : Image) (inst : Nat) (k : Setting) : Nat :=
  (List.range (settingCount m inst k)).foldl (fun s i => s + valueNat m inst k i) 0

/-- A record with its header, its fields and the bytes that no field covers. -/
def recordNat (m : Image) (r : ImgRecord) : Nat :=
  headerNat r +
    ((settingAll.filter (fun k => decide (recordCode (settingInfo k).record = r.type))).foldl (fun s k => s + settingNat m r.inst k) 0) +
    r.extra.foldl (fun s e => s + e.2 * 2 ^ (8 * e.1)) 0

/-- The check word that a record's content calls for: over bytes 0 to 11 and the payload (R48). -/
def recordCrc (m : Image) (r : ImgRecord) : Nat :=
  let n := recordNat m r
  crc32c (leBytes 12 n ++ leBytes (r.length - 16) (n / 2 ^ 128))

/-- The length of an image as its records give it. -/
def imageBytes (m : Image) : Nat := (m.records.map (fun r => r.length)).sum

/-- An image, its records one after the other. -/
def imageNat (m : Image) : Nat :=
  (m.records.foldl (fun (s : Nat × Nat) r => (s.1 + recordNat m r * 2 ^ (8 * s.2), s.2 + r.length)) (0, 0)).1

/-- The digest that an image's signature covers: SHA-384 of the whole image with `HDR.SIG` taken as zero (R52). -/
def imageDigest (m : Image) : Nat :=
  Config.sha384 (imageBytes m) (imageNat m - (imgGet m .HDR_SIG 0 0).toNat * 2 ^ (8 * 144))

/-! ### The calibration record (R74, R75) -/

/-- The payload: count, time, the times of acceptance and the values. The spec gives the record's content and not its layout (log
entry 122). -/
def calPayload (c : CalRecord) : List Nat :=
  leBytes 8 c.count ++ leBytes 8 c.time ++ c.accepted.flatMap (fun e => leBytes 8 e.1 ++ leBytes 8 e.2) ++
    c.vals.flatMap (fun e => leBytes 4 e.1 ++ leBytes 4 (e.2 % 2 ^ 32).toNat)

/-- The first 12 bytes of the record's header: type 0x7F, CRITICAL, version 1.0 and the length (R48, log entry 122). -/
def calHeader (c : CalRecord) : List Nat := [0x7F, 1, 0, 1] ++ leBytes 4 (16 + (calPayload c).length) ++ [0, 0, 0, 0]

/-- The check word of the record's header (R48, R74). -/
def calCrc (c : CalRecord) : Nat := crc32c (calHeader c ++ calPayload c)

/-- The record as it lies in its slot. -/
def calBytes (c : CalRecord) : List Nat := calHeader c ++ leBytes 4 c.crc ++ calPayload c

/-- The record's CRC is correct (R77). -/
def calOk (c : CalRecord) : Bool := decide (c.crc = calCrc c)

/-- A record with its check word. -/
def calSeal (c : CalRecord) : CalRecord := { c with crc := calCrc c }

end Sys2Proof.Machine
end

