-- ==== Sys2Proof/Machine/FcsBank.lean ====
section
/-! DEFINITION. The FCS banks and their bytes (R58 to R61), the operations on them (R62 to R66), the jobs that write them sector
after sector, and what HOLDUP leaves of an operation (R68). -/

namespace Sys2Proof.Machine

/-- Bytes of a bank (R58): 512 sectors of 64 KiB. -/
def fcsBankBytes : Nat := 512 * 65536

/-! ### What a bank holds -/

/-- No sector from first to last is torn, or blank since its content was written. -/
def sectorsWhole (k : FcsBank) (first last : Nat) : Bool :=
  !(k.torn ++ k.blank).any (fun s => decide (first ≤ s ∧ s ≤ last))

/-- The descriptor's state (R59, R71): a sector 0 that was cut fails its check. -/
def bankDesc (k : FcsBank) : DescState := if 0 ∈ k.torn then .damaged else k.desc

/-- The bank's firmware, where its sectors are whole. -/
def bankFw (k : FcsBank) : Option FwPart := if sectorsWhole k 1 384 then k.fw else none

/-- The bank's image, where its sectors are whole. -/
def bankImg (k : FcsBank) : Option Image := if sectorsWhole k 385 448 then k.img else none

/-- The bank's calibration record, where its slot is whole and its CRC correct (R77). -/
def bankCal (k : FcsBank) : Option CalRecord := if sectorsWhole k 449 452 then k.cal.filter calOk else none

/-- A byte of a bank's content as its descriptor, firmware, image and calibration record lie in it (R58); 0xFF elsewhere. -/
def contentByte (k : FcsBank) (addr : Nat) : Nat :=
  let s := addr / 65536
  if s = 0 then
    if k.desc = .blank then 0xFF else Config.descriptorByte k.seq k.revoke k.bad k.repairs.length addr % 256
  else if s ≤ 384 then
    match k.fw with
    | some fw => if addr - 65536 < fw.size then Config.firmwareByte fw.digest (addr - 65536) % 256 else 0xFF
    | none => 0xFF
  else if s ≤ 448 then
    match k.img with
    | some m => let i := addr - 385 * 65536
                if i < imageBytes m then imageNat m / 2 ^ (8 * i) % 256 else 0xFF
    | none => 0xFF
  else if s ≤ 452 then
    match k.cal with
    | some c => (calBytes c).getD (addr - 449 * 65536) 0xFF
    | none => 0xFF
  else 0xFF

/-- A byte of a bank as a read finds it: of a sector that was cut, it is open (R68). -/
def bankByte (n : Fin 2) (k : FcsBank) (addr : Nat) : Nat :=
  if addr / 65536 ∈ k.torn then Config.tornByte n.val addr % 256
  else nget (if addr / 65536 ∈ k.blank then 0xFF else contentByte k addr) k.bytes addr

/-! ### Operations -/

/-- A routine's return code left for its caller and in `FCS_STAT.LAST` (R62, R96). -/
def fcsReturn (b : Block) (code : Nat) : Block := (b.put .FCS_STAT_LAST 0 code).answer (.code code)

/-- A change to a bank. -/
def onBank (b : Block) (n : Fin 2) (f : FcsBank → FcsBank) : Block :=
  { b with fcs := { b.fcs with banks := vupd b.fcs.banks n f } }

/-- A single program that ended by itself, as `FCS_STAT` shows it: a descriptor's number or REVOKE (R96). -/
def fcsShown (b : Block) (n : Fin 2) : Block := (b.put .FCS_STAT_OPBANK 0 n.val).put .FCS_STAT_LAST 0 0

/-- A bank with a sector's bytes at 0xFF. -/
def bankEraseSector (k : FcsBank) (sector : Nat) : FcsBank :=
  let k := { k with bytes := k.bytes.filter (fun e => e.1 / 65536 ≠ sector), torn := k.torn.filter (· ≠ sector) }
  if sector = 0 then { k with desc := .blank, seq := none, revoke := 0xFF }
  else { k with blank := k.blank.filter (· ≠ sector) ++ [sector] }

/-- A bank with bytes programmed from an address. -/
def bankProgram (k : FcsBank) (addr : Nat) (data : List Nat) : FcsBank :=
  { k with bytes := (data.zip (List.range data.length)).foldl (fun m d => ninsert (nerase m (addr + d.2)) (addr + d.2) d.1) k.bytes }

/-- A bank whose sectors from first to last have nothing of an earlier content left. -/
def bankFresh (k : FcsBank) (first last : Nat) : FcsBank :=
  let out := fun (s : Nat) => decide (s < first ∨ last < s)
  { k with bytes := k.bytes.filter (fun e => out (e.1 / 65536)), torn := k.torn.filter out, blank := k.blank.filter out }

/-- The bank of a job. -/
def FcsJob.bank : FcsJob → Fin 2
  | .commit _ k _ _ _ => k
  | .cal k _ => k

/-- The sectors that a job writes (R58, R61). -/
def FcsJob.sectors : FcsJob → Nat × Nat
  | .commit _ _ _ _ _ => (1, 448)
  | .cal _ _ => (449, 452)

/-- A job's sectors erased: a commit's bank keeps its bad-sector table, its repair list and its calibration slot, and its descriptor is
programmed anew with the number blank (R61); a calibration's slot is empty. -/
def jobErase (k : FcsBank) (j : FcsJob) : FcsBank :=
  let k := bankFresh k j.sectors.1 j.sectors.2
  match j with
  | .commit _ _ _ _ _ =>
    { k with desc := .intact, seq := none, revoke := 0xFF, fw := none, img := none, torn := k.torn.filter (· ≠ 0)
             bytes := k.bytes.filter (fun e => e.1 / 65536 ≠ 0) }
  | .cal _ _ => { k with cal := none }

/-- The next job begins where the FCS is free (R66, R86). -/
def startJobs (b : Block) : Block :=
  match b.fcs.op, b.fcs.jobs with
  | none, j :: js =>
    let b := onBank b j.bank (fun k => jobErase k j)
    let b := { b with fcs := { b.fcs with jobs := js, op := some ⟨j.bank, false, j.sectors.1 * 65536, [], some j⟩ } }
    (b.put .FCS_STAT_BUSY 0 1).put .FCS_STAT_OPBANK 0 j.bank.val
  | _, _ => b

/-- A job for the FCS: it begins at once, or waits its turn. -/
def queueFcs (b : Block) (j : FcsJob) : Block := startJobs { b with fcs := { b.fcs with jobs := b.fcs.jobs ++ [j] } }

/-- A job that no controller awaits any longer, where it was one of a port's. -/
def orphanJob (p : Port) : FcsJob → FcsJob
  | .commit who k fw m action => .commit (who.filter (fun w => !decide (w.1 = p))) k fw m action
  | .cal k c => .cal k c

/-- A controller's reset ends its commits without completion (R133); what they write is still written (log entry 132). -/
def orphanJobs (b : Block) (p : Port) : Block :=
  { b with fcs := { b.fcs with
    jobs := b.fcs.jobs.map (orphanJob p)
    op := b.fcs.op.map (fun o => { o with job := o.job.map (orphanJob p) }) } }

/-- A commit is being written, or waits to be (R81). -/
def commitRuns (b : Block) : Bool :=
  let isCommit := fun (j : FcsJob) => match j with | .commit _ _ _ _ _ => true | .cal _ _ => false
  b.fcs.jobs.any isCommit || (match b.fcs.op with | some o => o.job.any isCommit | none => false)

/-! ### HOLDUP during an operation (R68) -/

/-- An FCS operation in progress abandoned: the sectors it was at are torn until the next RUN. A job stands first in the queue again. -/
def fcsAbandon (b : Block) : Block :=
  match b.fcs.op with
  | none => b
  | some o =>
    let b := { b with fcs := { b.fcs with op := none, abandoned := b.fcs.abandoned ++ [o] } }
    let b := b.put .FCS_STAT_BUSY 0 0
    match o.job with
    | none => onBank b o.bank (fun k => { k with torn := k.torn ++ [o.addr / 65536] })
    | some j =>
      let b := { b with fcs := { b.fcs with jobs := j :: b.fcs.jobs } }
      onBank b o.bank (fun k =>
        let k := { k with torn := k.torn ++ (List.range (j.sectors.2 + 1 - j.sectors.1)).map (fun i => j.sectors.1 + i) }
        match j with
        | .commit _ _ _ _ _ => k
        | .cal _ c => { k with cal := some c })

/-- The sectors of an abandoned operation erased and rewritten: a single call's with what the call was to leave; a job's when the job
begins again, and where the job is gone with the DRAM that held its data they stay erased (log entry 123). -/
def redoOne (b : Block) (o : FcsOp) : Block :=
  match o.job with
  | none => onBank b o.bank (fun k =>
      let k := { k with torn := k.torn.filter (· ≠ o.addr / 65536) }
      if o.erase then bankEraseSector k (o.addr / 65536) else bankProgram k o.addr o.data)
  | some j => onBank b o.bank (fun k => jobErase k j)

/-- What HOLDUP abandoned is done again at the next RUN (R68). -/
def redoAbandoned (b : Block) : Block :=
  let l := b.fcs.abandoned
  startJobs (l.foldl redoOne { b with fcs := { b.fcs with abandoned := [] } })

end Sys2Proof.Machine
end

