-- ==== Sys2Proof/Machine/Float32.lean ====
section
/-! DEFINITION. IEEE 754 binary32 arithmetic, which the servo law uses throughout (R191), on 32-bit patterns held as
numbers, rounding to nearest with ties to even (log entry 5). A finite value is handled as its exact multiple of
2^-149. -/

namespace Sys2Proof.Machine

/-- The canonical NaN. -/
def fnan : Nat := 0x7FC00000

/-- The pattern is a NaN or an infinity. -/
def fspecial (x : Nat) : Bool := decide ((x / 2 ^ 23) % 256 = 255)

/-- The pattern is a NaN. -/
def fisNan (x : Nat) : Bool := fspecial x && decide (x % 2 ^ 23 ≠ 0)

/-- The sign bit. -/
def fneg? (x : Nat) : Bool := decide (x / 2 ^ 31 % 2 = 1)

/-- A finite pattern's value in units of 2^-149. -/
def fval (x : Nat) : Int :=
  let e := (x / 2 ^ 23) % 256
  let m := x % 2 ^ 23
  let v : Nat := if e = 0 then m else (2 ^ 23 + m) * 2 ^ (e - 1)
  if fneg? x then -(v : Int) else v

/-- A magnitude in units of 2^-149 that needs no rounding, as a pattern without sign; too great a one is infinity. -/
def fencode (m : Nat) : Nat :=
  if m < 2 ^ 23 then m
  else
    let l := m.log2
    if 277 ≤ l then 0x7F800000 else (l - 22) * 2 ^ 23 + (m / 2 ^ (l - 23) - 2 ^ 23)

/-- A magnitude in units of 2^-(149+k) rounded to nearest even and encoded without sign. -/
def froundMag (m k : Nat) : Nat :=
  let l := m.log2
  let sh := max k (l - 23)
  let q := m / 2 ^ sh
  let r := m % 2 ^ sh
  let half := 2 ^ sh / 2
  let up := decide (0 < sh) && (decide (half < r) || (decide (r = half) && decide (q % 2 = 1)))
  let q := if up then q + 1 else q
  fencode (q * 2 ^ (sh - k))

/-- A pattern given a sign. -/
def fsign (neg : Bool) (x : Nat) : Nat := if neg then 2 ^ 31 + x % 2 ^ 31 else x % 2 ^ 31

/-- An exact value in units of 2^-(149+k), rounded. -/
def fround (v : Int) (k : Nat) : Nat := fsign (decide (v < 0)) (froundMag v.natAbs k)

/-- Addition. -/
def fadd (x y : Nat) : Nat :=
  if fisNan x || fisNan y then fnan
  else if fspecial x then (if fspecial y && decide (x ≠ y) then fnan else x)
  else if fspecial y then y
  else
    let v := fval x + fval y
    if v = 0 then (if fneg? x && fneg? y then 2 ^ 31 else 0) else fround v 0

/-- Multiplication. -/
def fmul (x y : Nat) : Nat :=
  let s := fneg? x != fneg? y
  if fisNan x || fisNan y then fnan
  else if fspecial x || fspecial y then
    if (!fspecial x && decide (fval x = 0)) || (!fspecial y && decide (fval y = 0)) then fnan
    else fsign s 0x7F800000
  else fsign s (froundMag (fval x * fval y).natAbs 149)

/-- Negation. -/
def fnegate (x : Nat) : Nat := if fneg? x then x - 2 ^ 31 else x + 2 ^ 31

/-- Subtraction. -/
def fsub (x y : Nat) : Nat := fadd x (fnegate y)

/-- The integer n divided by 2^d, as a pattern. -/
def fofInt (n : Int) (d : Nat) : Nat := if n = 0 then 0 else fround (n * 2 ^ 149) d

/-- The quotient of two integers, rounded (0 for a zero divisor, which no caller passes). -/
def fofRat (n : Int) (d : Nat) : Nat :=
  if n = 0 ∨ d = 0 then 0
  else
    let q := n.natAbs * 2 ^ 249 / d
    let sticky := if n.natAbs * 2 ^ 249 % d = 0 then 0 else 1
    fsign (decide (n < 0)) (froundMag (2 * q + sticky) 101)

/-- x is less than or equal to y (false where either is a NaN). -/
def fle (x y : Nat) : Bool :=
  if fisNan x || fisNan y then false
  else
    let v := fun z => if fspecial z then (if fneg? z then -((2 : Int) ^ 300) else (2 : Int) ^ 300) else fval z
    decide (v x ≤ v y)

/-- The magnitude. -/
def fabs (x : Nat) : Nat := x % 2 ^ 31

/-- A pattern limited to ±limit. -/
def fclamp (lim x : Nat) : Nat :=
  if fle x (fnegate lim) then fnegate lim else if fle lim x then lim else x

/-- The integer part of a finite pattern's value times 2^d, rounded toward zero; 0 for a special pattern. -/
def ftoInt (x d : Nat) : Int :=
  if fspecial x then 0
  else
    let m : Nat := (fval x).natAbs * 2 ^ d / 2 ^ 149
    if fneg? x then -(m : Int) else (m : Int)

/-- The product of a row of coefficients with a column of states, summed from the first term on. -/
def fdot : List Nat → List Nat → Nat
  | c :: cs, x :: xs => (cs.zip xs).foldl (fun acc p => fadd acc (fmul p.1 p.2)) (fmul c x)
  | _, _ => 0

end Sys2Proof.Machine
end

