-- ==== Sys2Proof/Machine/Calibration.lean ====
section
/-! DEFINITION. The calibration record's results: what is plausible, what is accepted, and how it is written (R74 to R77, R200,
R265). -/

namespace Sys2Proof.Machine

/-- Item 6 values of a head and zone lie within their limits (R265). -/
def assistPlausible (b : Block) (subject : Nat) (vals : List Int) : Bool :=
  let s := subject / 64
  let z := subject % 64
  let v := fun i => vals.getD i 0
  let nom := b.cfg .HDS_ASSIST_NOM s z
  let last := b.cal 6 subject 6
  let thr := if b.cfgN .PLT_ASSIST = 0 then decide (500 ≤ v 6 ∧ v 6 ≤ 3000) else decide (250 ≤ v 6 ∧ v 6 ≤ 3000)
  decide (60 * nom ≤ 100 * v 0 ∧ 100 * v 0 ≤ 140 * nom) && decide (v 0 ≤ b.cfg .HDS_ASSIST_MAX s) &&
    decide (80 ≤ v 1 ∧ v 1 ≤ 240) && decide (v 3 < v 2) && decide (10 * v 2 ≤ 9 * v 4) &&
    decide (v 2 ≤ b.cfg .HDS_HTR_MAX s) && thr && (decide (last = 0) || decide (75 * last ≤ 100 * v 6 ∧ 100 * v 6 ≤ 125 * last))

/-- A binary32 pattern's magnitude is at most num / den (R200). -/
def fwithin (x num den : Nat) : Bool := !fspecial x && decide ((fval x).natAbs * den ≤ num * 2 ^ 149)

/-- The sum of the patterns' magnitudes is at most num / den (R200). -/
def fsumWithin (xs : List Nat) (num den : Nat) : Bool :=
  !xs.any fspecial && decide ((xs.map (fun x => (fval x).natAbs)).sum * den ≤ num * 2 ^ 149)

/-- Two actuators share a pivot (R185). -/
def samePivot (i j : Nat) : Bool := decide (i / 2 = j / 2)

/-- The taps of an ordered pair lie within R200's limits, and the response with them is at most 25 % of that without feed-forward. -/
def tapsPlausible (b : Block) (r : CalResult) : Bool :=
  let src := r.subject / 4
  let dst := r.subject % 4
  let ma := (r.vals.take 16).map (fun v => v.toNat)
  let vc := ((r.vals.drop 16).take 4).map (fun v => v.toNat)
  let pop := bit (b.cfgN .PLT_ACTUATORS) src && bit (b.cfgN .PLT_ACTUATORS) dst
  let zero := (ma ++ vc).all (fun x => x % 2 ^ 31 = 0)
  decide (4 * r.withTaps ≤ r.without) &&
    (if !pop then zero
     else if samePivot src dst then
       ma.all (fun x => fwithin x 1 1) && fsumWithin ma 2 1 && vc.all (fun x => fwithin x 1 20) && fsumWithin vc 1 10
     else
       ma.all (fun x => fwithin x 1 4) && fsumWithin ma 1 2 && vc.all (fun x => fwithin x 1 80) && fsumWithin vc 1 40)

/-- A value lies within ±limit. -/
def within (v : Int) (lim : Nat) : Bool := decide (v.natAbs ≤ lim)

/-- The deviation that the resonator's cubic predicts at a temperature in 0.1 °C, in 10^-12 ppm: the coefficient of the n-th power is held
in 10^-9 ppm per °C^n (log entry 126). -/
def resonatorDev (c : List Int) (t : Int) : Int :=
  1000 * c.getD 0 0 + 100 * c.getD 1 0 * t + 10 * c.getD 2 0 * t ^ 2 + c.getD 3 0 * t ^ 3

/-- The number of values of an item for one of its subjects (R74, R200, R265). -/
def calArity (item : Nat) : Nat :=
  match item with
  | 0 => 2 | 1 => 1 | 2 => 2 | 3 => 2 | 4 => 4 | 5 => 20 | 6 => 7 | _ => 0

/-- The subjects of items 0 to 4 (R74): ADCs, references, sensors, current senses, the one curve. -/
def calSubjects (item : Nat) : List Nat :=
  List.range (match item with | 0 => 8 | 1 => 6 | 2 => 18 | 3 => 11 | 4 => 1 | _ => 0)

/-- The result lies within its item's plausible limits (R74, R200, R265). The units of the values are: item 0, offset
in LSB and gain in thousandths; item 1, deviation in 0.01 %; item 2, offset in 0.1 °C and slope error in 0.01 %;
item 3, gain error in 0.01 % and offset in mA; item 4, the cubic's coefficients as `resonatorDev` takes them; item 5, 16 and 4
binary32 taps; item 6 as `assistPlausible` says. -/
def calPlausible (b : Block) (r : CalResult) : Bool :=
  let v := fun i => r.vals.getD i 0
  if r.vals.length ≠ calArity r.item then false
  else if r.item = 0 then within (v 0) 12 && decide (900 ≤ v 1 ∧ v 1 ≤ 1100)
  else if r.item = 1 then within (v 0) 300
  else if r.item = 2 then within (v 0) 80 && within (v 1) 500
  else if r.item = 3 then within (v 0) 400 && within (v 1) 20
  else if r.item = 4 then (List.range 1651).all (fun i => within (resonatorDev r.vals ((i : Int) - 400)) (30 * 10 ^ 12))
  else if r.item = 5 then tapsPlausible b r
  else if r.item = 6 then assistPlausible b r.subject r.vals
  else false

/-- An item, pair or head of a run has every one of its subjects' results within their limits: items 0 to 4 whole, item 5 pair by pair,
item 6 head by head with every recording zone (R74, R76). -/
def calPasses (b : Block) (rs : List CalResult) (r : CalResult) : Bool :=
  if r.item < 5 then
    (rs.filter (fun q => q.item = r.item)).all (calPlausible b) &&
      (calSubjects r.item).all (fun k => rs.any (fun q => decide (q.item = r.item ∧ q.subject = k)))
  else if r.item = 5 then calPlausible b r
  else
    (rs.filter (fun q => q.item = 6 ∧ q.subject / 64 = r.subject / 64)).all (calPlausible b) &&
      (List.range (b.cfgN .FMT_ZONES)).all (fun z => rs.any (fun q => decide (q.item = 6 ∧ q.subject = 64 * (r.subject / 64) + z)))

/-- The results of a run that are accepted (R76). -/
def calAccepted (b : Block) (rs : List CalResult) : List CalResult := rs.filter (calPasses b rs)

/-- Something of an item was not accepted: one of its subjects, the twelve ordered pairs, the populated heads with their zones (R76). -/
def itemFailed (b : Block) (ok : List CalResult) (item : Nat) : Bool :=
  let missing := fun (k : Nat) => !ok.any (fun r => decide (r.item = item ∧ r.subject = k))
  if item < 5 then (calSubjects item).any missing
  else if item = 5 then (List.range 16).any (fun k => decide (k / 4 ≠ k % 4) && missing k)
  else (List.range 24).any (fun s => bit (b.cfgN .PLT_SURFACES) s && (List.range (b.cfgN .FMT_ZONES)).any (fun z => missing (64 * s + z)))

/-- A record with accepted results in place of the values it held; what was not measured is copied unchanged (R76). -/
def calWrite (c : CalRecord) (now : Nat) (rs : List CalResult) : CalRecord :=
  calSeal
  { crc := 0
    count := min (c.count + 1) 0xFFFFFFFF
    time := now
    accepted := rs.foldl (fun m r =>
      let m := nset 0 m r.item now
      if r.item = 6 then nset 0 m (16 + r.subject / 64) now else m) c.accepted
    vals := rs.foldl (fun m r => (r.vals.zip (List.range r.vals.length)).foldl
      (fun m v => nset 0 m (calKey r.item r.subject v.2) v.1) m) c.vals }

/-- An empty record, from which a first calibration starts. -/
def calEmpty : CalRecord := ⟨0, 0, 0, [], []⟩

/-- The newest record to build on: the one in use, or, uncalibrated, one written since BOOT. -/
def calBase (b : Block) : CalRecord :=
  match b.fcs.cal with
  | some c => c
  | none => (bankCal (vget b.fcs.banks (1 - b.fcs.running))).getD calEmpty

/-- A calibration run's results written under R76 and R77: into the slot of the bank that is not running, and only
when something passed. A module that was calibrated uses the new values from then on; an uncalibrated one becomes
calibrated only at the next BOOT (R100). -/
def calCommit (b : Block) (rs : List CalResult) : Block :=
  let ok := calAccepted b rs
  if ok.isEmpty then b
  else
    let c := calWrite (calBase b) b.now ok
    queueFcs { b with fcs := { b.fcs with cal := b.fcs.cal.map (fun _ => c) } } (.cal (1 - b.fcs.running) c)

end Sys2Proof.Machine
end

