-- ==== Sys2Proof/Machine/Protection.lean ====
section
/-! DEFINITION. The row-and-column code of every on-die SRAM word (R681 to R683), the control-store halves among them (R352). -/

namespace Sys2Proof.Machine

/-! ### The code of SRAM words (R681 to R683)

A stored word is numbered with the data in bits 0 to 63, P0 to P7 in bits 64 to 71 and Q0 to Q7 in bits 72 to 79. The checks are
sums without carry, so that the syndrome of a word with bad bits is the syndrome of those bits alone, beside the sixteen ones of a
poisoned word (R683). -/

/-- Row check r of a stored word. -/
def rowCheck (w r : Nat) : Bool :=
  (List.range 8).foldl (fun x c => xor x (w.testBit (8 * r + c)))
    (xor (w.testBit (64 + r)) (xor (w.testBit (72 + (r + 6) % 8)) (w.testBit (72 + (r + 5) % 8))))

/-- Column check c of a stored word. -/
def colCheck (w c : Nat) : Bool :=
  (List.range 8).foldl (fun x r => xor x (w.testBit (8 * r + c)))
    (xor (w.testBit (72 + c)) (xor (w.testBit (64 + c)) (w.testBit (64 + (c + 7) % 8))))

/-- The 16 checks of a stored word, R0 first. -/
def sramSyndrome (w : Nat) : List Bool := (List.range 8).map (rowCheck w) ++ (List.range 8).map (colCheck w)

/-- What the decoder makes of a syndrome (R682). -/
inductive SramRead where
  | clean | corrected (i : Nat) | poisoned | uncorrectable
  deriving DecidableEq, Repr

/-- A read decoded (R682): the single bit whose syndrome it is, all 16 for poison, else uncorrectable. -/
def sramDecode (syn : List Bool) : SramRead :=
  if syn.all (fun x => !x) then .clean
  else match (List.range 80).find? (fun i => decide (sramSyndrome (2 ^ i) = syn)) with
    | some i => .corrected i
    | none => if syn.all id then .poisoned else .uncorrectable

/-- What a word read with the bits of `bad` flipped gives (R682): the bits of its data that stay wrong and how many bits were corrected,
or none where it is poisoned or uncorrectable. -/
def sramFetch (bad : Nat) : Option (Nat × Nat) :=
  let bad := bad % 2 ^ 80
  match sramDecode (sramSyndrome bad) with
  | .clean => some (bad % 2 ^ 64, 0)
  | .corrected i => some ((bad ^^^ 2 ^ i) % 2 ^ 64, 1)
  | .poisoned | .uncorrectable => none

end Sys2Proof.Machine
end

