-- ==== Sys2Proof/Machine/Flags.lean ====
section
/-! DEFINITION. Every status and condition computed from state: control states as registers code them, the microword's
fields and conditions (R332 to R336), write permission, and the power-state limit on actuators (R106). -/

namespace Sys2Proof.Machine

/-! ### Coded control states -/

/-- The code of SPE's control state (R149). -/
def SpnMode.code : SpnMode → Nat
  | .stopped => 0 | .locate => 1 | .forced => 2 | .sixstep => 3 | .dtc => 4 | .float => 5 | .catching => 6
  | .regen => 7 | .short => 8 | .coast => 9 | .generator => 10

/-- SPE's control state, held in `SPN_STATE.STATE`. -/
def Block.spnMode (b : Block) : SpnMode :=
  (([.stopped, .locate, .forced, .sixstep, .dtc, .float, .catching, .regen, .short, .coast, .generator] :
    List SpnMode).getD (b.get .SPN_STATE_STATE 0) .stopped)

/-- The code of a loop state (R227). -/
def SrvMode.code : SrvMode → Nat
  | .unloaded => 0 | .loading => 1 | .seek => 2 | .settle => 3 | .follow => 4 | .unloading => 5 | .retract => 6
  | .safe => 7 | .failed => 8 | .recal => 9 | .inject => 10

/-- SEa's loop state, held in `SRV_STATE.MODE`. -/
def Block.srvMode (b : Block) (a : Act) : SrvMode :=
  (([.unloaded, .loading, .seek, .settle, .follow, .unloading, .retract, .safe, .failed, .recal, .inject] :
    List SrvMode).getD (b.get .SRV_STATE_MODE a.val) .unloaded)

/-- An actuator is off its ramp. -/
def loaded (b : Block) (a : Act) : Bool := !decide (b.srvMode a ∈ [.unloaded, .failed])

/-- An actuator is loaded with its servo locked. -/
def tracking (b : Block) (a : Act) : Bool :=
  decide (b.srvMode a ∈ [.seek, .settle, .follow, .safe, .recal, .inject])

/-- Set speed in 1/8 rpm. -/
def setSpeed (b : Block) : Nat := 8 * b.cfgN .SPD_SET_RPM

/-! ### Microwords (R332, R333) -/

/-- Bits hi to lo of a word. -/
def fieldBits (w hi lo : Nat) : Nat := w / 2 ^ lo % 2 ^ (hi + 1 - lo)

/-- NEXT. -/
def mwNext (w : Nat) : Nat := fieldBits w 127 116
/-- SEQ. -/
def mwSeq (w : Nat) : Nat := fieldBits w 115 114
/-- BR_N. -/
def mwBrN (w : Nat) : Nat := fieldBits w 113 111
/-- BSELi. -/
def mwBsel (w i : Nat) : Nat := fieldBits w (92 + 6 * i) (87 + 6 * i)
/-- WAIT. -/
def mwWait (w : Nat) : Bool := w.testBit 86
/-- WPOL. -/
def mwWpol (w : Nat) : Bool := w.testBit 85
/-- WSEL. -/
def mwWsel (w : Nat) : Nat := fieldBits w 84 79
/-- SAFE. -/
def mwSafe (w : Nat) : Bool := w.testBit 78
/-- ARM. -/
def mwArm (w : Nat) : Bool := w.testBit 77
/-- CHOP. -/
def mwChop (w : Nat) : Nat := fieldBits w 69 67
/-- BTOP. -/
def mwBtop (w : Nat) : Nat := fieldBits w 66 64
/-- FTOP. -/
def mwFtop (w : Nat) : Nat := fieldBits w 63 61
/-- BUFOP. -/
def mwBufop (w : Nat) : Nat := fieldBits w 60 58
/-- QOP. -/
def mwQop (w : Nat) : Nat := fieldBits w 57 55
/-- LCSEL. -/
def mwLcsel (w : Nat) : Nat := fieldBits w 54 53
/-- LCOP. -/
def mwLcop (w : Nat) : Nat := fieldBits w 52 50
/-- REPORT. -/
def mwReport (w : Nat) : Nat := fieldBits w 49 44
/-- IMM. -/
def mwImm (w : Nat) : Nat := fieldBits w 43 28
/-- The set of gate, pulse and channel fields. -/
def mwSet (w : Nat) : ArmedSet := ⟨fieldBits w 76 75, fieldBits w 74 73, fieldBits w 72 71, w.testBit 70, mwChop w⟩

/-- A word is illegal: a field's code is marked illegal or not listed, or a reserved bit is 1 (R332, R333, R336). -/
def mwIllegal (w : Nat) : Bool :=
  decide (mwSeq w = 3) || decide (5 ≤ mwBrN w) || (List.range 4).any (fun i => decide (48 ≤ mwBsel w i)) ||
    decide (48 ≤ mwWsel w) || decide ((mwSet w).rg = 3) || decide ((mwSet w).wg = 3) || decide ((mwSet w).sg = 3) ||
    decide (mwChop w = 7) || decide (4 ≤ mwFtop w) || decide (5 ≤ mwBufop w) || decide (4 ≤ mwQop w) ||
    decide (6 ≤ mwLcop w) || decide (fieldBits w 27 0 ≠ 0)

/-- What the control store holds at an address that nothing has loaded: the firmware's base program below the overlay
region, and all ones, an illegal word, inside it (R351). -/
def csDefault (n : Nat) : Nat := if n < 0x800 then Config.baseProgram n % 2 ^ 128 else 2 ^ 128 - 1

/-- The control-store word at an address (R351). -/
def csWord (b : Block) (a : Act) (n : Nat) : Nat := nget (csDefault n) (vget b.ts a).cs n

/-! ### Frame table (R330) -/

/-- The current frame-table entry. -/
def ftEntry (b : Block) (a : Act) : Nat :=
  let t := vget b.ts a
  nget 0 (if b.get .TS_FT_BANK a.val = 0 then t.ft[0] else t.ft[1]) (b.get .TS_FT_INDEX a.val)

/-- START_WEDGE. -/
def ftStartWedge (e : Nat) : Nat := fieldBits e 63 54
/-- START_OFS. -/
def ftStartOfs (e : Nat) : Nat := fieldBits e 53 37
/-- SPLITS. -/
def ftSplits (e : Nat) : Nat := fieldBits e 36 34
/-- SPLIT_BIT. -/
def ftSplitBit (e : Nat) : Nat := fieldBits e 33 18
/-- DEFECT. -/
def ftDefect (e : Nat) : Bool := e.testBit 17
/-- LAST. -/
def ftLast (e : Nat) : Bool := e.testBit 16

/-! ### Permission to write, seek and transfer -/

/-- The surface of head h of an actuator (R240). -/
def headSurf (a : Act) (h : Fin 6) : Surf := ⟨6 * a.val + h.val, by omega⟩

/-- A head is write-failed (R259): so latched, or without accepted item 6 values. -/
def headWriteFailed (b : Block) (a : Act) (h : Nat) : Bool :=
  bit (b.get .AST_STATE_WFAIL a.val) h ||
    !(match b.fcs.cal with
      | some c => c.vals.any (fun e => e.1 / 32 / 4096 = 6 ∧ (e.1 / 32 % 4096) / 64 = 6 * a.val + h)
      | none => false)

/-- Writes on a head wait for AEa (R246, R258, R260, R263), or for its preamp to cool (R624). -/
def headWritesWait (b : Block) (a : Act) (h : Nat) : Bool :=
  let v := vget b.ast a
  bit v.suspended h || bit v.touchWait h || bit v.faultWait h || v.supplyBad || v.hot || v.pslFault || bit b.thm.preampHot a.val

/-- The head of the sequencer's current job, else the channel's active head. -/
def tsHead (b : Block) (a : Act) : Nat :=
  match (vget b.ts a).cur with
  | some j => j.head.val
  | none => b.get .CH_STATE_HEAD a.val

/-- Write ready from AEa: preheat over and nothing holds the head's writes (R257). -/
def writeReady (b : Block) (a : Act) : Bool := (vget b.ast a).wrReady && !headWritesWait b a (tsHead b a)

/-- WR_PERMIT (R336, R340): channel ready, write ready and spindle locked, write-unsafe not raised, the head not
write-failed; and neither a sag of the core supply holds the gates (R26) nor the comparator the drivers' supply (R31). -/
def writePermit (b : Block) (a : Act) : Bool :=
  (vget b.ts a).chReady && writeReady b a && decide (b.get .SPN_STATE_LOCK 0 = 1) &&
    decide (b.get .SRV_STATE_WU a.val = 0) && !headWriteFailed b a (tsHead b a) && !b.sys.sagHold && !b.pwr.wrSupplyOff

/-- An actuator counts against the power-state limit (R104, R106, R215): seeking until settled; under PS2 also while
it transfers. -/
def actBusy (b : Block) (a : Act) : Bool :=
  decide (b.srvMode a ∈ [.seek, .settle]) || (decide (b.get .PWR_MODE_PS_EFF 0 = 2) && (vget b.ts a).cur.isSome)

/-- ACT_GRANT (R106): the others that count number fewer than `PWR_MODE.ACT_LIMIT`. -/
def actGrant (b : Block) (a : Act) : Bool :=
  decide (((List.finRange 4).filter (fun j => decide (j ≠ a) && actBusy b j)).length < b.get .PWR_MODE_ACT_LIMIT 0)

/-- Slots of a channel open to rung 0: all but the last `CHN.SLOT_RSV` (R297). -/
def openSlots (b : Block) : Nat := 8 - b.cfgN .CHN_SLOT_RSV

/-- A slot is held by a sector's ladder, or kept out of use for test (R297, R325). -/
def slotHeld (b : Block) (a : Act) (i : Fin 8) : Bool :=
  let s := vget (vget b.ch a).slots i
  s.owner.isSome || s.test

/-- A replay slot is free for rung 0. -/
def slotFree (b : Block) (a : Act) : Bool :=
  (List.finRange 8).any (fun i => decide (i.val < openSlots b) && !slotHeld b a i)

/-! ### The 48 conditions (R336) -/

/-- The loop counter's field. -/
def lcField (n : Nat) : Field :=
  if n = 0 then .TS_LC01_LC0 else if n = 1 then .TS_LC01_LC1 else if n = 2 then .TS_LC23_LC2 else .TS_LC23_LC3

/-- Condition n of TSa. -/
def tsCond (b : Block) (a : Act) (n : Nat) : Bool :=
  let t := vget b.ts a
  let i := a.val
  match n with
  | 0 => true
  | 1 => t.btDone
  | 2 => t.expAt.isSome
  | 3 => t.armed.isSome
  | 4 => t.wedgeDone
  | 5 => decide (t.wedgeIndex = ftStartWedge (ftEntry b a))
  | 6 => t.wedgeMissed
  | 7 => t.sg
  | 8 => t.rg
  | 9 => t.wg
  | 10 => t.chReady
  | 11 => writeReady b a
  | 12 => decide (b.get .SPN_STATE_LOCK 0 = 1)
  | 13 => decide (b.get .SRV_STATE_WU i = 1)
  | 14 => writePermit b a
  | 15 => headWriteFailed b a (tsHead b a)
  | 16 => actGrant b a
  | 17 => t.frame.isSome
  | 18 => t.frameDone
  | 19 => (match t.frame with | some f => f.paused | none => false)
  | 20 => t.cut
  | 21 => t.pmFound
  | 22 => slotFree b a
  | 23 => t.bufReady
  | 24 => t.bufPoison
  | 25 => t.bufSpace
  | 26 => (match t.cur with | some j => decide (j.count ≤ t.openBuf + 1) | none => false)
  | 27 => decide (ftSplits (ftEntry b a) ≠ 0)
  | 28 => ftDefect (ftEntry b a)
  | 29 => ftLast (ftEntry b a)
  | 30 => decide (b.get .TS_FT_INDEX i = 0)
  | 31 => !t.jobs.isEmpty
  | 32 => (match t.cur with | some j => decide (j.op = 1 ∨ j.op = 2) | none => false)
  | 33 => !t.rwq.isEmpty
  | 34 => decide (64 ≤ t.rwq.length)
  | 35 => (match t.rwq.head? with | some e => decide (e.index = b.get .TS_FT_INDEX i) | none => false)
  | 36 | 37 | 38 | 39 => decide (b.get (lcField (n - 36)) i = 0)
  | 40 => decide (b.get .TS_STATE_STOPREQ i = 1)
  | 41 => decide (b.get .TS_STATE_TRAP i ≠ 0)
  | 42 => t.wgAtTrap
  | 43 => t.rgAtTrap
  | 44 =>
    let v := vget b.ast a
    decide (b.get .AST_STATE_LOOP i = 5) || v.pslFault || decide (v.faultWait ≠ 0 ∨ v.touchWait ≠ 0) || v.hot || v.supplyBad
  | 45 => t.lateArm
  | 46 => bit t.flags 0
  | 47 => bit t.flags 1
  | _ => false

end Sys2Proof.Machine
end

