-- ==== Sys2Proof/Machine/Geometry.lean ====
section
/-! DEFINITION. The media's layout: recording zones and bands (R371 to R374), the band map (R376), active surfaces
(R378), rows and rotation (R379, R427), zones and groups, free bands and the Final Reserve (R403, R451). -/

namespace Sys2Proof.Machine

/-! ### Recording zones and bands -/

/-- The track after a recording zone's last. -/
def zoneEnd (b : Block) (z : Nat) : Nat :=
  if z + 1 < b.cfgN .FMT_ZONES then b.cfgN .FMT_Z_TRACK 0 (z + 1) else b.cfgN .FMT_TRACKS

/-- T of a recording zone (R374). -/
def zoneT (b : Block) (z : Nat) : Nat := b.cfgN .FMT_Z_SPT 0 z - b.cfgN .FMT_Z_SPARE_SECT 0 z

/-- The recording zone of a track (R371). -/
def trackZone (b : Block) (track : Nat) : Nat :=
  ((List.range (b.cfgN .FMT_ZONES)).filter (fun z => decide (b.cfgN .FMT_Z_TRACK 0 z ≤ track))).length - 1

/-- Bands of a shingled recording zone: as many as fit before its calibration tracks (R372). -/
def bandsIn (b : Block) (z : Nat) : Nat :=
  if b.cfgN .FMT_Z_KIND 0 z = 0 then
    (zoneEnd b z - b.cfgN .FMT_Z_TRACK 0 z - b.cfgN .FMT_CAL_TRK) / (b.cfgN .FMT_BAND_TRK + 1)
  else 0

/-- Spare bands of a recording zone. -/
def sparesIn (b : Block) (z : Nat) : Nat := min (bandsIn b z) (b.cfgN .FMT_Z_SPARE_BANDS 0 z)

/-- Bands of a recording zone that carry band-set indices. -/
def setsIn (b : Block) (z : Nat) : Nat := bandsIn b z - sparesIn b z

/-- The number of band-set indices (R372). -/
def setTotal (b : Block) : Nat := ((List.range (b.cfgN .FMT_ZONES)).map (setsIn b)).sum

/-- A physical band's number: its recording zone × 2^20 and its place in the zone. -/
def physNo (z i : Nat) : Nat := z * 2 ^ 20 + i

/-- The recording zone and place of a band-set index, searching a list of zones. -/
def findSet (b : Block) : List Nat → Nat → Nat × Nat
  | [], g => (0, g)
  | z :: zs, g => if g < setsIn b z then (z, g) else findSet b zs (g - setsIn b z)

/-- The recording zone and place of a band-set index. -/
def setPlace (b : Block) (g : Nat) : Nat × Nat := findSet b (List.range (b.cfgN .FMT_ZONES)) g

/-- The identity map's physical band of an index. -/
def setPhys (b : Block) (g : Nat) : Nat := physNo (setPlace b g).1 (setPlace b g).2

/-- The physical band that serves an index on a surface (R376). -/
def bandOf (b : Block) (g s : Nat) : Nat :=
  match b.xl.bandMap.find? (fun e => e.1 = g * 32 + s) with
  | some e => e.2
  | none => setPhys b g

/-- A track of a physical band (R372). -/
def bandTrack (b : Block) (phys k : Nat) : Nat :=
  b.cfgN .FMT_Z_TRACK 0 (phys / 2 ^ 20) + phys % 2 ^ 20 * (b.cfgN .FMT_BAND_TRK + 1) + k

/-- The physical band of a track of a shingled recording zone. -/
def trackBand (b : Block) (track : Nat) : Nat :=
  let z := trackZone b track
  physNo z ((track - b.cfgN .FMT_Z_TRACK 0 z) / (b.cfgN .FMT_BAND_TRK + 1))

/-- The conventional tracks of a surface, from the outer diameter (R373). -/
def convTrackList (b : Block) : List Nat :=
  (List.range (b.cfgN .FMT_ZONES)).flatMap (fun z =>
    if b.cfgN .FMT_Z_KIND 0 z = 1 then
      (List.range ((zoneEnd b z - b.cfgN .FMT_Z_TRACK 0 z - b.cfgN .FMT_CAL_TRK + 1) / 2)).map (fun i => b.cfgN .FMT_Z_TRACK 0 z + 2 * i)
    else [])

/-- A track's place within its band, the guard track last (R372). -/
def bandRow (b : Block) (track : Nat) : Nat :=
  (track - b.cfgN .FMT_Z_TRACK 0 (trackZone b track)) % (b.cfgN .FMT_BAND_TRK + 1)

/-- A data track of a band, and neither a guard nor a calibration track (R372). -/
def isBandTrack (b : Block) (track : Nat) : Bool :=
  let z := trackZone b track
  decide (b.cfgN .FMT_Z_KIND 0 z = 0) && decide (bandRow b track < b.cfgN .FMT_BAND_TRK) &&
    decide (trackBand b track % 2 ^ 20 < bandsIn b z)

/-! ### Sector positions (R330, R374) -/

/-- The code of a sector position, or of a logical sector, in the relocation and defect tables. -/
def sectorKey (s track sector : Nat) : Nat := s * 2 ^ 36 + track * 2 ^ 14 + sector

/-- A position is skipped as defective. -/
def defectAt (b : Block) (s track p : Nat) : Bool := decide (sectorKey s track p ∈ b.xl.defects)

/-- The position of a logical sector: the logical sectors of a track occupy its non-defective positions in ascending order. -/
def positionOf (b : Block) (s track i : Nat) : Nat :=
  (((List.range (b.cfgN .FMT_Z_SPT 0 (trackZone b track))).filter (fun p => !defectAt b s track p))[i]?).getD i

/-- The logical sector of a position. -/
def logicalOf (b : Block) (s track p : Nat) : Nat := ((List.range p).filter (fun q => !defectAt b s track q)).length

/-- Defective positions of a track, those that take effect later included. -/
def trackDefects (b : Block) (s track : Nat) : Nat :=
  let here := fun (k : Nat) => decide (k / 2 ^ 14 = sectorKey s track 0 / 2 ^ 14)
  ((b.xl.grown ++ b.xl.defects.filter (fun k => !decide (k ∈ b.xl.grown))).filter here).length

/-! ### Surfaces (R378, R434) -/

/-- A surface's state, as `BP_SURF_n.STATE` codes it; an unpopulated one is ABSENT. -/
def surfState (b : Block) (s : Nat) : Nat :=
  if bit (b.cfgN .PLT_SURFACES) s then (let v := b.get .BP_SURF_n_STATE s; if v = 0 then 1 else v) else 0

/-- A surface is in the active set (R378). -/
def surfActive (b : Block) (s : Nat) : Bool :=
  decide (surfState b s = 1) || (decide (surfState b s = 2) && decide (nget 1 b.xl.surfBefore s = 1))

/-- The 24 surfaces in row order (R379): by head, then by actuator. -/
def rowOrder : List Nat := (List.range 6).flatMap (fun h => (List.range 4).map (fun a => 6 * a + h))

/-- The active surfaces in row order. -/
def activeSurfs (b : Block) : List Nat := rowOrder.filter (surfActive b)

/-- Writes to a surface make virtual tracks (R442): WRITE_FAILED, LOST or RETIRING. -/
def surfNoWrite (b : Block) (s : Nat) : Bool := decide (surfState b s ∈ [3, 4, 5, 6])

/-- Reads from a surface need reconstruction (R437): LOST, UNAVAILABLE, or RETIRING with such a condition. -/
def surfNoRead (b : Block) (s : Nat) : Bool :=
  decide (surfState b s ∈ [2, 4]) || (decide (surfState b s = 5) && decide (6 ≤ b.get .BP_SURF_n_CAUSE s))

/-! ### Rows (R379, R381, R427) -/

/-- Q: blocks of a row. -/
def rowBlocks (l : RowLog) : Nat := (l.surfs.length - l.m) * l.t

/-- The row of a block offset. -/
def offRow (l : RowLog) (o : Nat) : Nat := o / max 1 (rowBlocks l)
/-- Its data track. -/
def offTrack (l : RowLog) (o : Nat) : Nat := o % max 1 (rowBlocks l) / max 1 l.t
/-- Its logical sector. -/
def offSector (l : RowLog) (o : Nat) : Nat := o % max 1 l.t

/-- The places in the list of the m parity tracks of row k (R427). -/
def parityPlaces (l : RowLog) (k : Nat) : List Nat :=
  (List.range l.m).map (fun r => (k * l.m + r) % max 1 l.surfs.length)

/-- The surface of parity track r of row k. -/
def paritySurf (l : RowLog) (k r : Nat) : Nat := l.surfs.getD ((k * l.m + r) % max 1 l.surfs.length) 0

/-- The surfaces of row k's data tracks, in order. -/
def dataSurfs (l : RowLog) (k : Nat) : List Nat :=
  ((List.range l.surfs.length).filter (fun i => !decide (i ∈ parityPlaces l k))).map (fun i => l.surfs.getD i 0)

/-- The surface of data track j of row k. -/
def dataSurf (l : RowLog) (k j : Nat) : Nat := (dataSurfs l k).getD j 0

/-- The track that holds row k on a surface: a media-cache row's conventional track; rows past the base band set lie in the extension segment (R448). -/
def rowTrack (b : Block) (l : RowLog) (k s : Nat) : Nat :=
  let n := b.cfgN .FMT_BAND_TRK
  if 2 ^ 32 ≤ l.band then l.band - 2 ^ 32
  else if k < n then bandTrack b (bandOf b l.band s) k
  else match l.ext with
    | some (g, r0) => bandTrack b (bandOf b g s) (r0 + (k - n))
    | none => bandTrack b (bandOf b l.band s) k

/-- The capacity of a zone of a namespace at a width (R381). -/
def capacityAt (b : Block) (g n m : Nat) : Nat := b.cfgN .FMT_BAND_TRK * (n - m) * zoneT b (setPlace b g).1

/-! ### Namespaces, zones, groups -/

/-- A namespace by its identifier. -/
def nsFind (b : Block) (n : Nat) : Option Namespace := b.xl.namespaces.find? (fun x => x.nsid = n)

/-- Bytes of a namespace's data unit (R87): a logical block, with its metadata where it has any. -/
def unitBytes (n : Namespace) : Nat := if n.meta8 then 4104 else 4096

/-- The tweak of a data unit (R87): the namespace ID in bits [127:96] and the logical block address in bits [63:0]. -/
def unitTweak (n : Namespace) (lba : Nat) : Nat := n.nsid % 2 ^ 32 * 2 ^ 96 + lba % 2 ^ 64

/-- A namespace's media key, unwrapped inside the die (R88). -/
def mediaKey (b : Block) (n : Namespace) : Nat := Config.keyWrap.val.2 (Config.deviceKek b.fuses.secret) n.key

/-- A data unit ciphered (R87). -/
def cipherUnit (b : Block) (n : Namespace) (lba plain : Nat) : Nat :=
  Config.xts.val.1 (unitBytes n) (mediaKey b n) (unitTweak n lba) plain

/-- A data unit deciphered (R87). -/
def plainUnit (b : Block) (n : Namespace) (lba cipher : Nat) : Nat :=
  Config.xts.val.2 (unitBytes n) (mediaKey b n) (unitTweak n lba) cipher

/-- A zone of a namespace. -/
def zoneFind (b : Block) (n k : Nat) : Option Zone := b.xl.zones.find? (fun z => z.nsid = n ∧ z.k = k)

/-- A group by its number. -/
def groupFind (b : Block) (id : Nat) : Option Group := b.xl.groups.find? (fun g => g.id = id)

/-- A zone replaced. -/
def putZone (b : Block) (z : Zone) : Block :=
  { b with xl := { b.xl with zones := updFirst (fun x => x.nsid = z.nsid ∧ x.k = z.k) (fun _ => z) b.xl.zones } }

/-- A group replaced. -/
def putGroup (b : Block) (g : Group) : Block :=
  { b with xl := { b.xl with groups := updFirst (fun x => x.id = g.id) (fun _ => g) b.xl.groups } }

/-- Blocks of a zone of 1,048,576 LBAs (R377). -/
def zoneSize : Nat := 1048576

/-- A zone's owner name: its namespace and first LBA. -/
def zoneOwner (z : Zone) : RowOwner := .zone z.nsid (z.k * zoneSize)

/-- The rows of an owner. -/
def ownerLog (b : Block) (o : RowOwner) : Option RowLog :=
  match o with
  | .zone n lba => (zoneFind b n (lba / zoneSize)).map (fun z => z.log)
  | .conv id => (groupFind b id).map (fun g => g.log)
  | .mcache id => (b.xl.mcRows.find? (fun r => r.id = id)).map (fun r => r.log)

/-- The rows of an owner replaced. -/
def putLog (b : Block) (o : RowOwner) (l : RowLog) : Block :=
  match o with
  | .zone n lba => match zoneFind b n (lba / zoneSize) with | some z => putZone b { z with log := l } | none => b
  | .conv id => match groupFind b id with | some g => putGroup b { g with log := l } | none => b
  | .mcache id => { b with xl := { b.xl with mcRows := updFirst (fun r => r.id = id) (fun r => { r with log := l }) b.xl.mcRows } }

/-- Active zones (R386). -/
def zoneIsActive (z : Zone) : Bool := decide (z.state ∈ [.implicit, .explicit, .closed])
/-- Open zones. -/
def zoneIsOpen (z : Zone) : Bool := decide (z.state ∈ [.implicit, .explicit])
/-- The number of active zones over all namespaces. -/
def activeZones (b : Block) : Nat := (b.xl.zones.filter zoneIsActive).length
/-- The number of open zones over all namespaces. -/
def openZones (b : Block) : Nat := (b.xl.zones.filter zoneIsOpen).length

/-- The capacity a zone reports (R381): that of the present active set while it is Empty. -/
def zoneCap (b : Block) (z : Zone) : Nat :=
  if z.state = .empty then capacityAt b z.log.band (activeSurfs b).length z.log.m else z.cap

/-- Bytes of a block key: a namespace and an LBA. -/
def blockKey (nsid lba : Nat) : Nat := nsid * 2 ^ 48 + lba

/-- The largest parity count among the conventional namespaces (R390). -/
def convM (b : Block) : Nat := (b.xl.namespaces.filter (fun n => !n.zoned)).foldl (fun m n => max m n.profile) 0

/-- The largest parity count in use. -/
def maxM (b : Block) : Nat := b.xl.namespaces.foldl (fun m n => max m n.profile) 0

/-! ### Free bands (R376, R403) -/

/-- An index is free as a band set: bound to no zone, in neither the pool nor an extension, and whole. -/
def setFree (b : Block) (g : Nat) : Bool :=
  !b.xl.zones.any (fun z => decide (z.log.band = g) && decide (z.state ≠ .offline)) && !decide (g ∈ b.xl.pool) &&
    !decide (g ∈ b.xl.extSets) && !b.xl.taken.any (fun t => t / 32 = setPhys b g)

/-- Free band-set indices in ascending order. -/
def freeSets (b : Block) : List Nat := (List.range (setTotal b)).filter (setFree b)

/-- A physical band of a surface is in use for a copy or remap, or retired. -/
def bandUsed (b : Block) (phys s : Nat) : Bool :=
  decide (phys * 32 + s ∈ b.xl.taken) || decide (phys * 32 + s ∈ b.xl.retired)

/-- Free spare bands of a recording zone on a surface: its spares, then the bands copies have freed (log entry 40). -/
def freeSpares (b : Block) (z s : Nat) : List Nat :=
  (((List.range (sparesIn b z)).map (fun i => physNo z (setsIn b z + i))).filter (fun p => !bandUsed b p s)) ++
    ((b.xl.released.filter (fun x => decide (x % 32 = s) && decide (x / 32 / 2 ^ 20 = z))).map (· / 32)).filter
      (fun p => !bandUsed b p s)

/-- The replacement for a band of a recording zone on a surface, by the order of R376. -/
def replacement (b : Block) (z s : Nat) : Option Nat :=
  let same := (freeSpares b z s).head?
  let outer := ((List.range z).reverse.filter (fun y => decide (b.cfgN .FMT_Z_KIND 0 y = 0))).findSome? (fun y =>
    (freeSpares b y s).head?)
  let sets := ((freeSets b).reverse.find? (fun g =>
    let y := (setPlace b g).1
    decide (b.cfgN .FMT_Z_SPT 0 z ≤ b.cfgN .FMT_Z_SPT 0 y ∧ zoneT b z ≤ zoneT b y))).map (setPhys b)
  (same.orElse (fun _ => outer)).orElse (fun _ => sets)

/-- Bands of the conventional pool that are in no group, on a surface. -/
def poolFree (b : Block) (s : Nat) : Nat :=
  (b.xl.pool.filter (fun g => !b.xl.groups.any (fun x => decide (x.log.band = g) && decide (s ∈ x.log.surfs)))).length

/-- Free bands over all active surfaces (R403). -/
def freeBands (b : Block) : Nat :=
  let sets := (freeSets b).length
  ((activeSurfs b).map (fun s =>
    ((List.range (b.cfgN .FMT_ZONES)).map (fun z => (freeSpares b z s).length)).sum + sets + poolFree b s)).sum

/-- Rounded-up division; nothing over 0 is 0. -/
def ceilDiv (n d : Nat) : Nat := if d = 0 then 0 else (n + d - 1) / d

/-- The smallest T of the conventional pool. -/
def poolMinT (b : Block) : Nat :=
  (b.xl.pool.map (fun g => zoneT b (setPlace b g).1)).foldl (fun m t => if m = 0 then t else min m t) 0

/-- The running Surface Retire's mask of surfaces, if any. -/
def retireMask (b : Block) : Nat :=
  match b.nvm.jobs.find? (fun j => j.type = 2 ∧ j.state = 2) with | some j => j.params.getD 0 0 | none => 0

/-- A zone that a Surface Retire must rebuild (R447): it has a band on a named surface and is not Empty or Offline. -/
def retireZone (_ : Block) (mask : Nat) (z : Zone) : Bool :=
  decide (z.state ≠ .empty) && decide (z.state ≠ .offline) && z.log.surfs.any (fun s => bit mask s)

/-- ACTIVE surfaces not named in a mask: N′ of R447. -/
def retireSurfs (b : Block) (mask : Nat) : List Nat := rowOrder.filter (fun s => decide (surfState b s = 1) && !bit mask s)

/-- Rows of a zone rebuilt into a width (R448). -/
def rebuiltRows (z : Zone) (n : Nat) : Nat := ceilDiv z.cap ((n - z.log.m) * z.log.t)

/-- Free bands a Surface Retire still needs (R451). -/
def retireNeed (b : Block) : Nat :=
  let mask := retireMask b
  let n := (retireSurfs b mask).length
  let zs := b.xl.zones.filter (retireZone b mask)
  if mask = 0 ∨ zs.isEmpty = true then 0
  else n + (zs.map (fun z => ceilDiv ((rebuiltRows z n - b.cfgN .FMT_BAND_TRK) * n) (b.cfgN .FMT_BAND_TRK))).sum

/-- The Final Reserve in bands (R403). -/
def finalReserve (b : Block) : Nat :=
  let w := b.cfgN .XLT_CONV_WIDTH
  let conv := b.xl.convPending + b.xl.cached.length
  b.cfgN .XLT_FR_BANDS + b.xl.copies.length +
    ceilDiv (conv * w) (b.cfgN .FMT_BAND_TRK * poolMinT b * (w - convM b)) + retireNeed b

/-- The fewest spare bands left in any recording zone of an active surface (R412). -/
def leastSpares (b : Block) : Nat :=
  ((activeSurfs b).flatMap (fun s =>
    ((List.range (b.cfgN .FMT_ZONES)).filter (fun z => decide (b.cfgN .FMT_Z_KIND 0 z = 0))).map (fun z =>
      (freeSpares b z s).length))).foldl (fun m n => match m with | none => some n | some k => some (min k n))
    (none : Option Nat) |>.getD 0

/-! ### Rows with tracks missing (R437, R442, R456) -/

/-- The surfaces on which a row's track is virtual, as a mask. -/
def virtualMask (b : Block) (o : RowOwner) (k : Nat) : Nat :=
  match b.xl.degraded.find? (fun d => d.1 = o ∧ d.2.1 = k) with
  | some d => d.2.2.1
  | none => 0

/-- A band of an index on a surface was reported lost (R376, R434). -/
def bandLost (b : Block) (l : RowLog) (s : Nat) : Bool := decide (bandOf b l.band s * 32 + s ∈ b.xl.lostBands)

/-- The track of row k on a surface cannot be read directly (R437). -/
def trackMissing (b : Block) (o : RowOwner) (l : RowLog) (k s : Nat) : Bool :=
  surfNoRead b s || bit (virtualMask b o k) s || bandLost b l s

/-- The track of row k on a surface is virtual or lost (R442, R454). -/
def trackGone (b : Block) (o : RowOwner) (l : RowLog) (k s : Nat) : Bool :=
  bit (virtualMask b o k) s || bandLost b l s || decide (surfState b s = 4) ||
    (decide (surfState b s = 5) && decide (b.get .BP_SURF_n_CAUSE s ∈ [6, 7]))

/-- Every row layout on bands that holds data: zones that are not Empty or Offline, and groups. -/
def bandLogs (b : Block) : List (RowOwner × RowLog) :=
  ((b.xl.zones.filter (fun z => decide (z.state ≠ .empty ∧ z.state ≠ .offline))).map (fun z => (zoneOwner z, z.log))) ++
    b.xl.groups.map (fun g => (.conv g.id, g.log))

/-- Every row layout that holds data: those on bands, and media-cache rows. -/
def allLogs (b : Block) : List (RowOwner × RowLog) := bandLogs b ++ b.xl.mcRows.map (fun r => (.mcache r.id, r.log))

/-- The layout that a physical band of a surface serves, with its owner and the band-set index. -/
def bandServes (b : Block) (phys s : Nat) : Option (RowOwner × RowLog × Nat) :=
  (bandLogs b).findSome? (fun x =>
    if decide (s ∈ x.2.surfs) && decide (bandOf b x.2.band s = phys) then some (x.1, x.2, x.2.band)
    else match x.2.ext with
      | some e => if decide (s ∈ x.2.surfs) && decide (bandOf b e.1 s = phys) then some (x.1, x.2, e.1) else none
      | none => none)

/-- Rows of a log that hold data. -/
def rowsHeld (l : RowLog) : Nat := ceilDiv l.wp (rowBlocks l)

/-- The tracks gone of row k. -/
def goneCount (b : Block) (o : RowOwner) (l : RowLog) (k : Nat) : Nat :=
  (l.surfs.filter (fun s => trackGone b o l k s)).length

/-- Every row that holds data, as its tracks gone and its parity count. -/
def allRows (b : Block) : List (Nat × Nat) :=
  (allLogs b).flatMap (fun x => (List.range (rowsHeld x.2)).map (fun k => (goneCount b x.1 x.2 k, x.2.m)))

/-- `BP_DEGR.ROWS` (R456). -/
def degradedRows (b : Block) : Nat := ((allRows b).filter (fun r => decide (0 < r.1))).length

/-- `BP_DEGR.MINRED` (R456): none where no row holds data. -/
def leastRedundancy (b : Block) : Option Nat :=
  (allRows b).foldl (fun m r => match m with | none => some (r.2 - r.1) | some x => some (min x (r.2 - r.1))) none

/-- `BP_SURF_n.VROWS` (R454). -/
def goneRowsOn (b : Block) (s : Nat) : Nat :=
  ((allLogs b).map (fun x => ((List.range (rowsHeld x.2)).filter (fun k =>
    decide (s ∈ x.2.surfs) && trackGone b x.1 x.2 k s)).length)).sum

/-! ### What the window shows of the bands, the media cache and the NAND -/

/-- A band's entry in the band table. -/
def bandInfo (b : Block) (phys s : Nat) : BandInfo := nget ⟨0, 0, 0, 0⟩ b.xl.bands (phys * 32 + s)

/-- Hours since a band's at-write stamp. -/
def bandAge (b : Block) (x : BandInfo) : Nat := b.now / 3600000000 - x.stamp

/-- The retention score of a band has reached n quarters of `XLT.RET_H` (R394). The score's power of two is taken exactly, by
raising both sides to `XLT.RET_DT`. -/
def retentionReached (b : Block) (x : BandInfo) (n : Nat) : Bool :=
  let d := b.cfgN .XLT_RET_DT
  if 40 < x.temp then
    decide ((n * b.cfgN .XLT_RET_H) ^ d ≤ (4 * bandAge b x) ^ d * 2 ^ (x.temp - 40).toNat)
  else decide (n * b.cfgN .XLT_RET_H ≤ 4 * bandAge b x)

/-- A band due is urgent (R394): remaps and the causes 1 and 2 at once, the others at their second limit. -/
def dueUrgent (b : Block) (d : Nat × Nat) : Bool :=
  let x := bandInfo b (d.1 / 32) (d.1 % 32)
  decide (d.2 ≤ 2) || decide (2 * b.cfgN .XLT_DIST_LIM ≤ x.disturb) || (decide (d.2 = 4) && retentionReached b x 5)

/-- Zones, groups and media-cache rows still on a surface named (R457). -/
def retireLeft (b : Block) : Nat :=
  let mask := retireMask b
  (b.xl.zones.filter (retireZone b mask)).length +
    (b.xl.groups.filter (fun g => g.log.surfs.any (fun s => bit mask s))).length +
    (b.xl.mcRows.filter (fun r => r.log.surfs.any (fun s => bit mask s))).length

/-- A Conventional Compact job runs. -/
def compactRuns (b : Block) : Bool := b.nvm.jobs.any (fun j => decide (j.type = 6 ∧ j.state = 2))

/-- A NAND block's record; one that is not listed is good, erased and unassigned. -/
def nandDefault : NBlock := ⟨.none, 0, true, 0, false, false, 0, 0, 0, 0, false, false, []⟩

/-- A NAND block. -/
def nandBlock (b : Block) (n : Nat) : NBlock := nget nandDefault b.ns.blocks n

/-- Good blocks found at manufacture (R476). -/
def factoryGood (b : Block) : Nat := b.ns.factory.getD 2784

/-- Blocks retired since manufacture (R476). -/
def grownBlocks (b : Block) : Nat := (b.ns.blocks.filter (fun e => e.2.retired && !e.2.factoryBad)).length

/-- Blocks of the spare pool at manufacture (R463). -/
def spareBlocks (b : Block) : Nat := factoryGood b * b.cfgN .NND_SPARE_PCT / 100

/-- Blocks lost to grown defects beyond the spare pool (R481). -/
def blocksShort (b : Block) : Nat := grownBlocks b - spareBlocks b

/-- Blocks of the media-cache pool before any shrinking (R463). -/
def cacheFull (b : Block) : Nat :=
  factoryGood b - (24 + b.cfgN .NND_JRNL_BLOCKS + b.cfgN .NND_SEP_BLOCKS + b.cfgN .NND_STAGE_BLOCKS + spareBlocks b)

/-- Blocks of the media-cache pool: it gives up one for each block lost, down to 128 (R481). -/
def cacheBlocks (b : Block) : Nat := cacheFull b - min (blocksShort b) (cacheFull b - 128)

/-- Blocks of the write stage: it shrinks once the media cache cannot, down to 64 (R481). -/
def stageBlocks (b : Block) : Nat :=
  b.cfgN .NND_STAGE_BLOCKS - min (blocksShort b - (cacheFull b - 128)) (b.cfgN .NND_STAGE_BLOCKS - 64)

/-- Cached blocks whose entry is in the NAND. -/
def cachedInNand (b : Block) : List Nat :=
  (b.xl.cached.filter (fun c => decide (nget 0 b.ns.map c.1 ≠ 0))).map (fun c => c.1)

/-- The share of the media-cache pool in use, in percent. -/
def nandShare (b : Block) (n : Nat) : Nat := n * 100 / max 1 (cacheBlocks b * 8192)

/-- The share of the media-cache rows in use, in percent (R417): of the tracks that rows can take on the active surfaces. -/
def mcRowShare (b : Block) : Nat :=
  (b.xl.mcRows.map (fun r => r.log.surfs.length)).sum * 100 / max 1 ((convTrackList b).length * (activeSurfs b).length)

/-- Good blocks of the NAND now. -/
def goodBlocks (b : Block) : Nat := 2784 - (b.ns.blocks.filter (fun e => e.2.retired || e.2.factoryBad)).length

/-- Erased data or metadata superblocks of a die that are ready in the HOLDUP reserve (R466, R467). -/
def rsvReady (b : Block) (die : Nat) (forMeta : Bool) : Nat :=
  (b.ns.rsv.filter (fun r => decide (r.die = die ∧ r.forMeta = forMeta) && r.blocks.all (fun n =>
    let x := nandBlock b n
    !x.factoryBad && !x.retired && x.erased && decide (x.ptr = 0)))).length

/-- A block serves the HOLDUP reserve (R466). -/
def inReserve (b : Block) (n : Nat) : Bool := b.ns.rsv.any (fun r => decide (n ∈ r.blocks))

/-- Blocks erased and outside the HOLDUP reserve (R463, R488). -/
def erasedBlocks (b : Block) : Nat :=
  let listed := b.ns.blocks.filter (fun e =>
    (!decide (e.2.pool = .none ∧ e.2.ptr = 0) || !e.2.erased || e.2.retired || e.2.factoryBad) && !inReserve b e.1)
  2784 - listed.length - (b.ns.rsv.map (fun r => r.blocks.length)).sum

/-- Erase counts of the good blocks: the highest, the sum and the lowest. -/
def eraseCounts (b : Block) : Nat × Nat × Nat :=
  let good := b.ns.blocks.filter (fun e => !e.2.retired && !e.2.factoryBad)
  let ecs := good.map (fun e => e.2.ec)
  let unlisted := decide (good.length < goodBlocks b)
  (ecs.foldl max 0, ecs.sum, if unlisted then 0 else ecs.foldl min (ecs.headD 0))

/-- Slots of the write stage in use: those programmed since their blocks' last erase, and all of a block whose other pages are not
known erased (R472). -/
def stageUsed (b : Block) : Nat :=
  ((b.ns.blocks.filter (fun e => e.2.pool = .stage)).map (fun e => if e.2.erased && !e.2.scan then 4 * e.2.ptr else 8192)).sum

end Sys2Proof.Machine
end

