-- ==== Sys2Proof/Machine/Window.lean ====
section
/-! DEFINITION. The diagnostic window as a reader sees it (R37 to R41): the fields that show other state, the words
composed of fields, and the counters wider than 32 bits. -/

namespace Sys2Proof.Machine

/-- The mode coded in `PWR_MODE.MODE` (R99, R138). -/
def modeOfCode (n : Nat) : Mode :=
  if n = 0 then .boot else if n = 1 then .spinup else if n = 2 then .run else if n = 3 then .idle
  else if n = 4 then .park else .holdup

/-- The code of a mode (R99). -/
def Mode.code : Mode → Nat
  | .boot => 0 | .spinup => 1 | .run => 2 | .idle => 3 | .park => 4 | .holdup => 5

/-- The current mode. -/
def Block.mode (b : Block) : Mode := modeOfCode (b.get .PWR_MODE_MODE 0)

/-- The instances of a field at a window offset (R37). -/
def fieldInstance (f : Field) (off : Nat) : Option Nat :=
  let r := f.info
  (List.range r.outer).findSome? (fun i =>
    (List.range r.inner).findSome? (fun j =>
      if r.offset + i * r.outerStride + j * r.innerStride = off then some (i * r.inner + j) else none))

/-- The fields of the register at a window offset, with the instance each has there. -/
def fieldsAt (off : Nat) : List (Field × Nat) :=
  Field.all.filterMap (fun f => (fieldInstance f off).map (fun i => (f, i)))

/-- A mask's value from a list of truth values, bit 0 first. -/
def maskOf (l : List Bool) : Nat := (l.zip (List.range l.length)).foldl (fun m x => if x.1 then setBit m x.2 else m) 0

/-- I/O commands of a controller in execution, those fetched and not yet started among them (R549): what goes on after a reset, under an
identifier from 65,536 on, is none. -/
def inExecution (b : Block) (p : Port) : Nat :=
  (b.nvm.cmds.filter (fun c => decide (c.port = p ∧ c.cid < 65536))).length +
    (((vget b.nv p).sqs.filter (fun q => q.qid ≠ 0)).map (fun q => q.fetched.length)).sum

/-- I/O commands in execution over both controllers (R575). -/
def execNow (b : Block) : Nat := inExecution b 0 + inExecution b 1

/-- The value a read of a field returns: the fields that show other state read it, the rest hold their own. -/
def Block.fieldValue (b : Block) (f : Field) (i : Nat) : Nat :=
  let act : Act := ⟨i % 4, by omega⟩
  let head : Act := ⟨i / 6 % 4, by omega⟩
  let port : Port := ⟨i % 2, by omega⟩
  let t := vget b.ts act
  let sat := fun n => min n f.max
  match f with
  | .SYS_DEVTIME_LO_TIME => b.now % 2 ^ 32
  | .SYS_DEVTIME_HI_TIME => b.now / 2 ^ 32
  | .SRV_TBLMAP_T1_LOOP | .SRV_TBLMAP_T1_INDEX | .SRV_TBLMAP_T0_LOOP | .SRV_TBLMAP_T0_INDEX
  | .CH_DEEP_QUEUE | .CH_DEEP_PEAK | .CH_DEEP_WAITMAX => b.get f 0
  | .TS_COND_LO_C => maskOf ((List.range 32).map (tsCond b act))
  | .TS_COND_HI_C => maskOf ((List.range 16).map (fun n => tsCond b act (32 + n)))
  | .TS_STATE_ARMED => if t.armed.isSome then 1 else 0
  | .TS_BT_REMAIN => (match t.expAt with | some e => e - t.bit | none => 0)
  | .TS_FT_SPLITS => ftSplits (ftEntry b act)
  | .TS_FT_DEFECT => if ftDefect (ftEntry b act) then 1 else 0
  | .TS_QUEUE_JOBS => sat t.jobs.length
  | .TS_QUEUE_RWQ => sat t.rwq.length
  | .TS_QUEUE_TAG => (match t.cur with | some j => j.tag % 2 ^ f.width | none => 0)
  | .TS_CS_DATA0_W => csWord b act (b.get .TS_CS_ADDR_ADDR i) % 2 ^ 32
  | .TS_CS_DATA1_W => csWord b act (b.get .TS_CS_ADDR_ADDR i) / 2 ^ 32 % 2 ^ 32
  | .TS_CS_DATA2_W => csWord b act (b.get .TS_CS_ADDR_ADDR i) / 2 ^ 64 % 2 ^ 32
  | .TS_CS_DATA3_W => csWord b act (b.get .TS_CS_ADDR_ADDR i) / 2 ^ 96 % 2 ^ 32
  | .AST_HTRIM_TRIM => signedBits f.width (nget 0 (vget b.ast head).trims (64 * (i % 6) + b.get .AST_HTRIM_ZONE i))
  | .AST_HAON_LO_TIME => min (nget 0 (vget b.ast head).aonNs (i % 6) / 1000000) (2 ^ 40 - 1) % 2 ^ 32
  | .AST_HAON_HI_TIME => min (nget 0 (vget b.ast head).aonNs (i % 6) / 1000000) (2 ^ 40 - 1) / 2 ^ 32
  | .AST_HWON_LO_TIME => min (nget 0 (vget b.ast head).wonNs (i % 6) / 1000000) (2 ^ 40 - 1) % 2 ^ 32
  | .AST_HWON_HI_TIME => min (nget 0 (vget b.ast head).wonNs (i % 6) / 1000000) (2 ^ 40 - 1) / 2 ^ 32
  | .CH_SMP_DATA_L | .CH_SMP_DATA_T =>
    let k := b.get .CH_SMP_CTL_SLOT i % 8
    Config.replaySample i k ((vget b.ch act).slots[k]?.map (fun s => s.filled) |>.getD 0)
      (2 * b.get .CH_SMP_CTL_IDX i + (if f = .CH_SMP_DATA_T then 1 else 0)) % 2 ^ f.width
  | .NV_EXEC_NOW => sat (execNow b)
  | .NV_ACTQ_A0 => sat b.xl.queues[0].length
  | .NV_ACTQ_A1 => sat b.xl.queues[1].length
  | .NV_ACTQ_A2 => sat b.xl.queues[2].length
  | .NV_ACTQ_A3 => sat b.xl.queues[3].length
  | .NV_CTL_SQS => ((vget b.nv port).sqs.filter (fun q => decide (q.qid ≠ 0))).length
  | .NV_CTL_CQS => ((vget b.nv port).cqs.filter (fun q => decide (q.qid ≠ 0))).length
  | .NV_FENCE_OPEN => (b.nvm.cmds.filter (fun c => decide (c.port = port ∧ c.kind = .fence))).length
  | .NV_FENCE_HELD => (b.nvm.cmds.filter (fun c => decide (c.port = port ∧ c.phase = .fenced))).length
  | .XL_STATE_ACTIVE => if b.boot.journalUp then activeZones b else 0
  | .XL_STATE_OPEN => if b.boot.journalUp then openZones b else 0
  | .XL_STATE_NS => if b.boot.journalUp then b.xl.namespaces.length else 0
  | .XL_FREE_BANDS => if b.boot.journalUp then sat (freeBands b) else 0
  | .XL_FRSV_BANDS => if b.boot.journalUp then sat (finalReserve b) else 0
  | .XL_SPARE_LEAST => if b.boot.journalUp then sat (leastSpares b) else 0
  | .XL_COPY_QUEUED => if b.boot.journalUp then sat b.xl.due.length else 0
  | .XL_COPY_URGENT => if b.boot.journalUp then sat (b.xl.due.filter (dueUrgent b)).length else 0
  | .XL_MC_NAND => if b.boot.journalUp then sat (nandShare b (cachedInNand b).length) else 0
  | .XL_MC_TRK => if b.boot.journalUp then sat (mcRowShare b) else 0
  | .XL_MC_CLEAN => if compactRuns b then 1 else 0
  | .BP_STATE_RETIRE => if b.boot.journalUp ∧ retireMask b ≠ 0 then 1 else 0
  | .BP_STATE_REBUILD => if b.boot.journalUp && b.nvm.jobs.any (fun j => j.type = 3 ∧ j.state = 2) then 1 else 0
  | .BP_RETIRE_LEFT => if b.boot.journalUp then sat (retireLeft b) else 0
  | .NS_STATE_RSV => if b.boot.journalUp then rsvReady b 0 false + rsvReady b 1 false + rsvReady b 0 true + rsvReady b 1 true else 0
  | .NS_STATE_WL => if b.ns.copies.any (fun c => c.kind = .wear) then 1 else 0
  | .NS_STATE_GC => if b.ns.copies.any (fun c => c.kind ≠ .wear) then 1 else 0
  | .NS_STATE_STAGE => if b.boot.journalUp then sat (stageUsed b * 100 / max 1 (stageBlocks b * 8192)) else 0
  | .NS_BLOCKS_GOOD => if b.boot.journalUp then goodBlocks b else 0
  | .NS_BLOCKS_FREE => if b.boot.journalUp then sat (erasedBlocks b) else 0
  | .NS_BLOCKS_FACTBAD => if b.boot.journalUp then sat (2784 - factoryGood b) else 0
  | .NS_DEFECT_GROWN => if b.boot.journalUp then sat (grownBlocks b) else 0
  | .NS_WEAR_MAXEC => if b.boot.journalUp then sat (eraseCounts b).1 else 0
  | .NS_WEAR_AVGEC => if b.boot.journalUp then sat ((eraseCounts b).2.1 / max 1 (goodBlocks b)) else 0
  | .NS_WEAR2_MINEC => if b.boot.journalUp then sat (eraseCounts b).2.2 else 0
  | .NS_WEAR2_USED => if b.boot.journalUp then sat ((eraseCounts b).2.1 * 100 / max 1 (goodBlocks b) / 50000) else 0
  | .NS_RSV_DIRTYCAP => if b.boot.journalUp then 96 * (rsvReady b 0 false + rsvReady b 1 false) else 0
  | .NS_JRNL_SINCE => sat (b.ns.jrnlPages / 64)
  | .SRV_CAP_DATA_VAL => (vget b.srv act).capture.getD (b.get .SRV_CAP_IDX_IDX i) 0
  | .PX_TAGS_MODE => if b.cfgN .HST_TAG_MODE = 1 ∧ (nget 0 (vget b.px port).config (0x98 / 4)).testBit 12 = true then 1 else 0
  | .XL_COPY_RUNNING => sat b.xl.copies.length
  | .XL_RELOC_SECTORS => if b.boot.journalUp then sat b.xl.reloc.length else 0
  | .BP_STATE_ACTIVE => if b.boot.journalUp then maskOf ((List.range 24).map (fun s => decide (surfState b s = 1))) else 0
  | .BP_STATE_OPENROWS => sat b.xl.openRows.length
  | .BP_DEGR_ROWS => if b.boot.journalUp then sat (degradedRows b) else 0
  | .BP_DEGR_MINRED => if b.boot.journalUp then (leastRedundancy b).getD 0 else 0
  | .BP_SURF_n_VROWS => if b.boot.journalUp then sat (goneRowsOn b i) else 0
  | .BP_RETIRE_BANDS => if b.boot.journalUp then sat (retireNeed b) else 0
  | .BP_LOST_COUNT => if b.boot.journalUp then sat b.xl.lost.length else 0
  | .BP_SURF_n_STATE => if b.boot.journalUp then surfState b i else 0
  | .PX_TAGS_OUT => sat (vget b.px port).out.length
  | .PX_TAGS_QUAR => sat (vget b.px port).quarantine.length
  | .PX_BME_HELDCPL => sat (vget b.nv port).held.length
  | .PX_BME_HELD =>
    if (b.get .PX_BME_BME i = 0 ∨ b.get .PX_LINK_DSTATE i ≠ 0) ∧ ((vget b.nv port).held ≠ [] ∨ b.nvm.cmds.any (fun c => c.port = port))
    then 1 else 0
  | .PX_ATS_VALID => sat (vget b.px port).ats.length
  | .PX_DOE_SESS => sat (vget b.px port).doe.sessions.length
  | .PX_DOE_UNLOCK => if (vget b.px port).unlockAt.isSome then 1 else 0
  | .DX_BUSY_CH => maskOf ((List.range 32).map (fun n => decide (b.get .DX_STAT_n_BUSY n = 1)))
  | .SEP_STATE_WT => if b.mode = .park ∧ b.sep.up = true then 1 else 0
  | .SEP_STATE_BUF => sat (b.sep.halfA.length + b.sep.halfB.length + b.sep.reserve.length)
  | .OCH_STATE_SAMPLES => if b.boot.journalUp then sat b.och.daily.length else 0
  | _ => b.get f i

/-- The live word at a window offset; an offset that no register has reads 0 (R37). -/
def Block.readWord (b : Block) (off : Nat) : Nat :=
  (fieldsAt off).foldl (fun w fi =>
    match fi.1.info.access with
    | .wo => w
    | _ => w + (b.fieldValue fi.1 fi.2 % 2 ^ fi.1.width) * 2 ^ fi.1.info.lo) 0

end Sys2Proof.Machine
end

