-- ==== Sys2Proof/Machine/Events.lean ====
section
/-! DEFINITION. Sepia's event recording (R646 to R654) as the operation every family calls. -/

namespace Sys2Proof.Machine

/-- Engine codes of SRC (R646). -/
def srcCC (n : Nat) : Nat := n
/-- SRC of TSa. -/
def srcTS (a : Act) : Nat := 0x10 + a.val
/-- SRC of SEa. -/
def srcSE (a : Act) : Nat := 0x14 + a.val
/-- SRC of SPE. -/
def srcSPE : Nat := 0x18
/-- SRC of AEa. -/
def srcAE (a : Act) : Nat := 0x19 + a.val
/-- SRC of LEp. -/
def srcLE (p : Port) : Nat := 0x1D + p.val
/-- SRC of SV. -/
def srcSV : Nat := 0x1F

/-- A code's own severity (R648): 0 info, 1 notice, 2 fault, 3 critical. Every code not listed is a notice. -/
def sepOwnSeverity (code : Nat) : Nat :=
  if code ∈ [0x0201, 0x0202, 0x0402, 0x0901, 0x0902, 0x0A02, 0x0F03] then 3
  else if code ∈ [0x0301, 0x0303, 0x0305, 0x0401, 0x0502, 0x0603, 0x0740, 0x0903, 0x0A01, 0x0B01, 0x0D02,
      0x0E01, 0x0F01] then 2
  else if code ∈ [0x0203, 0x0E02, 0x0F02] then 0
  else 1

/-- The override entry of a code in the Recorder record, if any (R663): its index. Each entry holds 13 values: CODE,
rate, burst, severity, snapshot count, and eight offsets. -/
def sepOverride (b : Block) (code : Nat) : Option Nat :=
  (List.range (b.cfgN .REC_OVR_N)).find? (fun k => b.cfgN .REC_OVR 0 (13 * k) = code)

/-- A code's severity after an override; 0xFF in the entry keeps the code's own. -/
def sepSeverity (b : Block) (code : Nat) : Nat :=
  match sepOverride b code with
  | some k => let v := b.cfgN .REC_OVR 0 (13 * k + 3)
              if v = 0xFF then sepOwnSeverity code else v
  | none => sepOwnSeverity code

/-- A code's rate in events per second; 0 in an override keeps `REC.RATE`. -/
def sepRate (b : Block) (code : Nat) : Nat :=
  match sepOverride b code with
  | some k => let v := b.cfgN .REC_OVR 0 (13 * k + 1)
              if v = 0 then b.cfgN .REC_RATE else v
  | none => b.cfgN .REC_RATE

/-- A code's bucket depth; 0 in an override keeps `REC.BURST`. -/
def sepBurst (b : Block) (code : Nat) : Nat :=
  match sepOverride b code with
  | some k => let v := b.cfgN .REC_OVR 0 (13 * k + 2)
              if v = 0 then b.cfgN .REC_BURST else v
  | none => b.cfgN .REC_BURST

/-- A code's snapshot list: the offsets its override names (R651, R663). -/
def sepSnapList (b : Block) (code : Nat) : List Nat :=
  match sepOverride b code with
  | some k => (List.range (min 8 (b.cfgN .REC_OVR 0 (13 * k + 4)))).map (fun j => b.cfgN .REC_OVR 0 (13 * k + 5 + j))
  | none => []

/-- The bucket of a code, full when the code has none yet. -/
def sepBucket (b : Block) (code : Nat) : SepBucket :=
  ((b.sep.buckets.find? (fun k => k.code = code)).getD
    ⟨code, 1000 * sepBurst b code, b.now / 1000, 0, b.now⟩)

/-- The bucket refilled to now: each 1 ms adds `REC.RATE` thousandths of a token, up to the depth (R649). -/
def sepRefill (b : Block) (k : SepBucket) : SepBucket :=
  { k with milli := min (1000 * sepBurst b k.code) (k.milli + sepRate b k.code * (b.now / 1000 - k.ms)),
           ms := b.now / 1000 }

/-- The block with a code's bucket replaced. -/
def sepPutBucket (b : Block) (k : SepBucket) : Block :=
  { b with sep := { b.sep with buckets := k :: b.sep.buckets.filter (fun x => x.code ≠ k.code) } }

/-- Records in the SRAM buffer (R652). -/
def sepBuffered (b : Block) : Nat := b.sep.halfA.length + b.sep.halfB.length + b.sep.reserve.length

/-- The next sequence number taken: SEQ wraps to 0 and ERA advances modulo 256 (R656). -/
def sepTakeSeq (b : Block) : Nat × Nat × Block :=
  let q := b.get .SEP_SEQ_NEXT 0
  let e := b.get .SEP_STATE_ERA 0
  (q, e, (b.put .SEP_SEQ_NEXT 0 (q + 1)).put .SEP_STATE_ERA 0 (if q = 0xFFFFFFFF then e + 1 else e))

/-- Records programmed to the Sepia pool: they enter the roll area, which holds the last 16,384 records, and those of the first 1,024
the keep area as well (R655). -/
def sepToPool (b : Block) (rs : List SepRec) : Block :=
  let ks := rs.filter (fun r => r.keep)
  ({ b with sep := { b.sep with
    rollArea := takeLast 16384 (b.sep.rollArea ++ rs), keepArea := b.sep.keepArea ++ ks } }).put .SEP_STATE_KEEP 0
      (b.get .SEP_STATE_KEEP 0 + ks.length)

/-- Records of the keep area, those still in the buffer included. -/
def sepKept (b : Block) : Nat :=
  b.get .SEP_STATE_KEEP 0 + ((b.sep.halfA ++ b.sep.halfB ++ b.sep.reserve ++ b.sep.held).filter (fun r => r.keep)).length

/-- A record takes the next sequence number, and belongs to the keep area where it is one of the first 1,024 (R646, R655, R656). Before
the NAND is readable it is only counted, and numbered once the numbering can resume (R654, R656; DESIGN CHOICE, log entry 174). -/
def sepNumber (b : Block) (r : SepRec) : SepRec × Block :=
  if b.sep.up then
    let x := sepTakeSeq b
    ({ r with seq := x.1, era := x.2.1, keep := decide (sepKept b < 1024) }, x.2.2)
  else ({ r with seq := b.sep.bootMade }, { b with sep := { b.sep with bootMade := b.sep.bootMade + 1 } })

/-- A record appended to half A or half B. -/
def sepAppend (b : Block) (toB : Bool) (r : SepRec) : Block :=
  if toB then { b with sep := { b.sep with halfB := b.sep.halfB ++ [r], fillB := true } }
  else { b with sep := { b.sep with halfA := b.sep.halfA ++ [r], fillB := false } }

/-- A record put into the SRAM buffer's filling half, or into the other half when the filling one is full (R652);
none when both halves are full. -/
def sepEnterHalf (b : Block) (r : SepRec) : Option Block :=
  let room := fun (half : Bool) => decide ((if half then b.sep.halfB else b.sep.halfA).length < 256)
  if room b.sep.fillB then some (sepAppend b b.sep.fillB r)
  else if room (!b.sep.fillB) then some (sepAppend b (!b.sep.fillB) r)
  else none

/-- The first record of a list that is not critical, taken out. -/
def sepTakeNonCritical (l : List SepRec) : Option (List SepRec) :=
  if l.any (fun r => r.severity ≠ 3) then some (dropFirst (fun r => r.severity ≠ 3) l) else none

/-- A critical record met by two full halves (R653): the reserve, else the place of the oldest buffered record that
is not critical, else one of the 16 held places, else it is dropped and counted. -/
def sepEnterCritical (b : Block) (r : SepRec) : Block :=
  let s := b.sep
  if s.reserve.length < 32 then { b with sep := { s with reserve := s.reserve ++ [r] } }
  else
    let older := if s.fillB then s.halfA else s.halfB
    let newer := if s.fillB then s.halfB else s.halfA
    match sepTakeNonCritical older, sepTakeNonCritical newer, sepTakeNonCritical s.reserve with
    | some l, _, _ =>
      let l' := l ++ [r]
      ({ b with sep := if s.fillB then { s with halfA := l' } else { s with halfB := l' } }).bump .SEP_FLUSH_FULL 0
    | none, some l, _ =>
      let l' := l ++ [r]
      ({ b with sep := if s.fillB then { s with halfB := l' } else { s with halfA := l' } }).bump .SEP_FLUSH_FULL 0
    | none, none, some l => ({ b with sep := { s with reserve := l ++ [r] } }).bump .SEP_FLUSH_FULL 0
    | none, none, none =>
      if s.held.length < 16 then { b with sep := { s with held := s.held ++ [r] } }
      else b.bump .SEP_FLUSH_FULL 0

/-- Records are written through as they are made (R118): PARK, with the NAND readable. -/
def sepThrough (b : Block) : Bool := decide (b.mode = .park) && b.sep.up

/-- One record buffered (R652, R653); one of severity `REC.FLUSH_SEV` or higher asks for a flush of the whole buffer. In PARK it is written
through instead, and `SEP_STATE.LAST` shows it (R118). -/
def sepBuffer (b : Block) (r : SepRec) : Block :=
  if sepThrough b then ((sepToPool b [r]).put .SEP_STATE_LAST 0 3).put .SEP_FLUSH2_LASTSTART 0 0
  else
    let b := if b.cfgN .REC_FLUSH_SEV ≤ r.severity then { b with sep := { b.sep with flushDue := true } } else b
    match sepEnterHalf b r with
    | some b' => b'
    | none => sepEnterCritical b r

/-- True when the n records of an event that is not critical do not all find room in the halves (R653; with continuations the whole
event is suppressed, DESIGN CHOICE, log entry 173). -/
def sepFull (b : Block) (n : Nat) : Bool := !sepThrough b && decide (512 < b.sep.halfA.length + b.sep.halfB.length + n)

/-- One record made with the next sequence number, kept and buffered. -/
def sepMake (b : Block) (code src conts supp pa pb : Nat) (cont : Bool) (payload : List Nat) : Block :=
  let sev := sepSeverity b code
  let snap := if cont then [] else (sepSnapList b code).map (fun off => b.readWord off)
  let r : SepRec :=
    { seq := 0, era := 0, cont := cont, snapshot := !snap.isEmpty, keep := false, severity := sev, code := code,
      time := b.now, src := src, conts := conts, supp := min supp 0xFFFF, pa := pa % 2 ^ 32, pb := pb % 2 ^ 64,
      snap := snap, payload := payload }
  let x := sepNumber b r
  sepBuffer x.2 x.1

/-- An event suppressed by its code's bucket or by a full buffer: counted for the code's next record and in
`SEP_SUPP` (R649). -/
def sepSuppress (b : Block) (k : SepBucket) : Block :=
  (sepPutBucket b { k with supp := k.supp + 1 }).bump .SEP_SUPP_COUNT 0

/-- An event recorded with its continuation records, or suppressed (R649 to R653). A critical event and a summary
take no token and are never suppressed by the rate. -/
def Block.sepiaCont (b : Block) (code src pa pb : Nat) (conts : List (List Nat)) : Block :=
  let k := sepRefill b (sepBucket b code)
  let sev := sepSeverity b code
  let free := decide (sev = 3) || decide (code = 0x0F02)
  if !free && decide (k.milli < 1000) then sepSuppress b k
  else if decide (sev ≠ 3) && sepFull b (1 + (conts.take 15).length) then (sepSuppress b k).bump .SEP_FLUSH_FULL 0
  else
    let supp := k.supp
    let k' := { k with milli := if free then k.milli else k.milli - 1000, supp := 0, last := b.now }
    let b := sepPutBucket b k'
    let b := sepMake b code src (min 15 conts.length) supp pa pb false []
    (conts.take 15).foldl (fun b c => sepMake b code src 0 0 pa pb true c) b

/-- An event without continuation records. -/
def Block.sepia (b : Block) (code src pa pb : Nat) : Block := b.sepiaCont code src pa pb []

/-- Every buffered record programmed to the Sepia pool, the older half first and the held critical records last (R652); nothing before
the NAND is readable. -/
def sepFlushAll (b : Block) : Block :=
  let s := b.sep
  if !s.up then b
  else
    let first := if s.fillB then s.halfA ++ s.halfB else s.halfB ++ s.halfA
    let b := { b with sep := { s with
      halfA := [], halfB := [], reserve := [], held := [], fillB := false, flushA := false, flushB := false, flushDue := false } }
    sepToPool b (first ++ s.reserve ++ s.held)

/-- A record's place in the order of eras and sequences. -/
def sepPlace (r : SepRec) : Nat := r.era * 2 ^ 32 + r.seq

/-- A record put into a list whose places fall, under serial-number arithmetic (R136, R656). -/
def sepInsert (r : SepRec) : List SepRec → List SepRec
  | [] => [r]
  | x :: xs => if serialGt 40 (sepPlace x) (sepPlace r) then x :: sepInsert r xs else r :: x :: xs

/-- Records in ascending order of era and sequence. -/
def sepSorted (rs : List SepRec) : List SepRec := (rs.foldl (fun acc r => sepInsert r acc) []).reverse

/-- Numbering resumes after the highest record that the NAND holds (R656). -/
def sepResume (b : Block) : Block :=
  match (sepSorted b.sep.rollArea).getLast? with
  | some r => (b.put .SEP_SEQ_NEXT 0 (r.seq + 1)).put .SEP_STATE_ERA 0 (if r.seq = 0xFFFFFFFF then r.era + 1 else r.era)
  | none => (b.put .SEP_SEQ_NEXT 0 0).put .SEP_STATE_ERA 0 0

end Sys2Proof.Machine
end

