-- ==== Sys2Proof/Machine/Notify.lean ====
section
/-! DEFINITION. What reaches a host: completions with their interrupts (R513, R519, R546), asynchronous events (R571,
R600, R609), features and their defaults (R572, R609), and the critical warning (R626). -/

namespace Sys2Proof.Machine

/-- A change to a controller. -/
def Block.onNv (b : Block) (p : Port) (f : Ctrl → Ctrl) : Block := { b with nv := vupd b.nv p f }
/-- A change to a port. -/
def Block.onPx (b : Block) (p : Port) (f : PciPort → PciPort) : Block := { b with px := vupd b.px p f }
/-- A change to the translation layer. -/
def Block.onXl (b : Block) (f : Xlate → Xlate) : Block := { b with xl := f b.xl }
/-- A change to the NAND store. -/
def Block.onNs (b : Block) (f : Nand → Nand) : Block := { b with ns := f b.ns }
/-- A change to the commands and jobs. -/
def Block.onNvm (b : Block) (f : Nvm → Nvm) : Block := { b with nvm := f b.nvm }
/-- A change to the health data. -/
def Block.onHea (b : Block) (f : Health → Health) : Block := { b with hea := f b.hea }

/-! ### Features -/

/-- The key of a feature's value: identifier, and the part of Dword 11 or Dword 12 that selects it. -/
def featKey (fid sel : Nat) : Nat := fid * 65536 + sel

/-- A feature's default (R552, R572, R609, R627). Temperature thresholds are selected by 2 × sensor, plus 1 for the under
threshold. -/
def featDefault (b : Block) (fid sel : Nat) : Nat :=
  if fid = 0x01 then 0x0F070303
  else if fid = 0x04 then (if sel % 2 = 1 then 0 else if sel = 0 then b.cfgN .THR_T1 + 273 else 0xFFFF)
  else if fid = 0xC1 then 80
  else 0

/-- A feature's current value. -/
def feat (b : Block) (p : Port) (fid sel : Nat) : Nat :=
  match (vget b.nv p).feats.find? (fun e => e.1 = featKey fid sel) with
  | some e => e.2
  | none => featDefault b fid sel

/-- A feature's current value set. -/
def setFeat (b : Block) (p : Port) (fid sel v : Nat) : Block :=
  b.onNv p (fun c => { c with feats := ninsert (nerase c.feats (featKey fid sel)) (featKey fid sel) v })

/-! ### Completions -/

/-- The status code type × 256 + status code of the statuses that the module returns; vendor codes are those of R610.
The standard values are the family's (log entry 6). -/
def Status.code : Status → Nat
  | .success => 0x000 | .invalidOpcode => 0x001 | .invalidField => 0x002 | .dataTransferError => 0x004
  | .abortRequested => 0x007 | .invalidNamespace => 0x00B | .lbaOutOfRange => 0x080 | .capacityExceeded => 0x081
  | .namespaceNotReady => 0x082 | .reservationConflict => 0x083 | .formatInProgress => 0x084
  | .unrecoveredRead => 0x281 | .guardCheck => 0x282 | .appTagCheck => 0x283 | .refTagCheck => 0x284
  | .zoneBoundary => 0x1B8 | .zoneFull => 0x1B9 | .zoneReadOnly => 0x1BA | .zoneOffline => 0x1BB
  | .zoneInvalidWrite => 0x1BC | .tooManyActive => 0x1BD | .tooManyOpen => 0x1BE | .zoneTransition => 0x1BF
  | .invalidQueue => 0x101 | .invalidQueueSize => 0x102 | .abortLimit => 0x103 | .asyncLimit => 0x105
  | .invalidSlot => 0x106 | .invalidImage => 0x107 | .invalidVector => 0x108 | .invalidFormat => 0x10A
  | .needsReset => 0x10B | .invalidQueueDeletion => 0x10C | .notSaveable => 0x10D
  | .activationProhibitedVersion => 0x113 | .activationProhibitedBusy => 0x113 | .insufficientCapacity => 0x115
  | .nsidUnavailable => 0x116 | .alreadyAttached => 0x118 | .nsPrivate => 0x119 | .notAttached => 0x11A
  | .controllerListInvalid => 0x11C | .sanitizeInProgress => 0x01D
  | .completionQueueInvalid => 0x100 | .commandSequence => 0x00C
  | .idConflict => 0x003 | .invalidLogPage => 0x109 | .selfTestBusy => 0x11D
  | .jobNotFound => 0x780 | .jobSlots => 0x781 | .jobConflict => 0x782 | .jobTarget => 0x783 | .jobEnded => 0x784

/-- The Do Not Retry bit (R610, R739). A status that neither rule lists carries 0. -/
def Status.dnr : Status → Bool
  | .invalidOpcode | .invalidField | .invalidNamespace | .invalidFormat | .invalidQueue | .invalidSlot | .invalidImage
  | .activationProhibitedVersion | .zoneBoundary | .zoneFull | .zoneReadOnly | .zoneOffline | .zoneTransition
  | .unrecoveredRead | .guardCheck | .appTagCheck | .refTagCheck | .jobNotFound | .jobTarget | .jobEnded => true
  | _ => false

/-- A submission queue of a controller. -/
def sqFind (c : Ctrl) (q : Nat) : Option SubQueue := c.sqs.find? (fun x => x.qid = q)
/-- A completion queue of a controller. -/
def cqFind (c : Ctrl) (q : Nat) : Option CompQueue := c.cqs.find? (fun x => x.qid = q)

/-- The completion queue that a submission queue's completions go to; the admin queue's is 0. -/
def cqOfSq (c : Ctrl) (sq : Nat) : Nat := match sqFind c sq with | some s => s.cq | none => 0

/-- A configuration register that the host has written, by byte offset; the default where it has not. -/
def configReg (x : PciPort) (off d : Nat) : Nat := nget d x.config (off / 4)

/-- The link carries traffic: L0, recovery, and the L1 states, which traffic ends (R521). -/
def linkUp (b : Block) (p : Port) : Bool :=
  decide (3 ≤ b.get .PX_LINK_STATE p.val) && decide (b.get .PX_LINK_STATE p.val ≤ 7)

/-- A TLP is sent or received: the port is no longer idle, and a link in L1 or a substate of it is back in L0 (R521). -/
def touchLink (b : Block) (p : Port) : Block :=
  let b := b.onPx p (fun x => { x with tlpAt := b.now })
  if b.get .PX_LINK_STATE p.val ∈ [5, 6, 7] then b.put .PX_LINK_STATE p.val 3 else b

/-- The control cores are handed over: the host pause of R83. -/
def hostPause (b : Block) : Bool := match b.fcs.activation with | some v => decide (v.phase = 6) | none => false

/-- The link engines take nothing from the host's queues: a host pause, or HOLDUP, in which LE0 and LE1 stop (R83, R113). -/
def linkEnginesStopped (b : Block) : Bool := hostPause b || decide (b.mode = .holdup)

/-- The port sends requests of its own: Bus Master Enable set, the link up, the function in D0, and no host pause (R83, R513,
R518). -/
def hostReachable (b : Block) (p : Port) : Bool :=
  decide (b.get .PX_BME_BME p.val = 1) && decide (b.get .PX_LINK_DSTATE p.val = 0) && linkUp b p && !hostPause b

/-- MSI-X is enabled on a port: bit 31 of its Message Control's dword (R503, log entry 6). -/
def msixOn (b : Block) (p : Port) : Bool := bit (configReg (vget b.px p) 0x50 0) 31

/-- The function mask of MSI-X: bit 30 of the same dword. -/
def msixMasked (b : Block) (p : Port) : Bool := bit (configReg (vget b.px p) 0x50 0) 30

/-- A message for a vector, or INTA while MSI-X is disabled (R505, R546); behind the function mask its pending bit is set (R504). -/
def sendMessage (b : Block) (p : Port) (v : Nat) : Block :=
  if msixOn b p then
    if msixMasked b p then b.onPx p (fun x => { x with pba := if v ∈ x.pba then x.pba else x.pba ++ [v] })
    else (touchLink b p).onNv p (fun c => { c with messages := nset 0 c.messages v (nget 0 c.messages v + 1) })
  else b.onPx p (fun x => { x with intx := true })

/-- Something is due to the host while the port is in D3hot: with PME_En 1, PME_Status is set and a PME message sent
(R519). -/
def pmeIfDue (b : Block) (p : Port) : Block :=
  if b.get .PX_LINK_DSTATE p.val = 3 ∧ (vget b.px p).pmeEn = true ∧ (vget b.px p).pmeStatus = false then
    (b.onPx p (fun x => { x with pmeStatus := true })).bump .PX_PM_PME p.val
  else b

/-- Coalescing applies to a completion queue (R546): an I/O queue whose vector has Coalescing Disable 0, with an
aggregation time and threshold set. -/
def coalesced (b : Block) (p : Port) (q : CompQueue) : Bool :=
  decide (q.qid ≠ 0) && decide (feat b p 0x09 q.vector = 0) && decide (feat b p 0x08 0 / 256 % 256 ≠ 0)

/-- One entry posted to a completion queue, and the interrupt it makes due. -/
def postEntry (b : Block) (p : Port) (q : CompQueue) (e : Cqe) : Block :=
  let n := q.aggregated + 1
  let hold := coalesced b p q && decide (n < feat b p 0x08 0 % 256 + 1)
  let q' := { q with entries := q.entries ++ [e], tail := (q.tail + 1) % q.size, aggregated := if hold then n else 0 }
  let b := (touchLink b p).onNv p (fun c => { c with cqs := updFirst (fun x => x.qid = q.qid) (fun _ => q') c.cqs })
  if q.irq && !hold then sendMessage b p q.vector else b

/-- A held completion is posted where the host is reachable and its queue has room; else it stays held, in order. -/
def tryPost (b : Block) (p : Port) (h : Nat × Cqe) : Block :=
  let c := vget b.nv p
  let cq := cqOfSq c h.1
  let behind := c.held.any (fun x => cqOfSq c x.1 = cq)
  match cqFind c cq with
  | none => b
  | some q =>
    if hostReachable b p && !behind && decide (q.entries.length + 1 < q.size) then postEntry b p q h.2
    else pmeIfDue (b.onNv p (fun c => { c with held := c.held ++ [h] })) p

/-- Held completions posted in order as far as they go (R514, R519). -/
def releaseHeld (b : Block) (p : Port) : Block :=
  let hs := (vget b.nv p).held
  hs.foldl (fun b h => tryPost b p h) (b.onNv p (fun c => { c with held := [] }))

/-- Identifiers from here on mark what goes on after a reset has ended its command: no completion is posted (R133). -/
def noCompletion : Nat := 65536

/-- A completion entry made (R560): posted or held. An unsuccessful one enters the Error log. -/
def complete (b : Block) (p : Port) (sq cid : Nat) (st : Status) (dw0 dw1 : Nat := 0) : Block :=
  if noCompletion ≤ cid then b else
  let b := if st = .success then b
    else (b.onHea (fun h => { h with errorEntries := h.errorEntries + 1 })).onNv p (fun c => { c with
      errors := takeLast 256 (c.errors ++ [(sq, cid, st.code)]) })
  let b := b.onNv p (fun c => { c with lastDone := b.now })
  tryPost b p (sq, ⟨sq, cid, st, dw0 % 2 ^ 32, dw1 % 2 ^ 32⟩)

/-! ### Asynchronous events -/

/-- An event reported to a controller (R571, R600): by an outstanding request, or held for the next one. One log page's
event is reported once until that page is read with Retain Asynchronous Event cleared. -/
def asyncEvent (b : Block) (p : Port) (type info page : Nat) : Block :=
  let c := vget b.nv p
  if page ∈ c.masked ∨ (type, info, page) ∈ c.events then b
  else match c.aers with
    | cid :: rest =>
      let b := b.onNv p (fun c => { c with aers := rest, masked := page :: c.masked })
      complete b p 0 cid .success (type + info * 256 + page * 65536)
    | [] => b.onNv p (fun c => { c with events := c.events ++ [(type, info, page)] })

/-- A notice under a bit of Asynchronous Event Configuration (R572). -/
def notice (b : Block) (p : Port) (cfgBit info page : Nat) : Block :=
  if bit (feat b p 0x0B 0) cfgBit then asyncEvent b p 2 info page else b

/-- An event of type 0x7, always enabled, to both controllers (R609). -/
def vendorEvent (b : Block) (info page : Nat) : Block :=
  (List.finRange 2).foldl (fun b p => if b.get .NV_CTL_RDY p.val = 1 then asyncEvent b p 7 info page else b) b

/-- A log page's event cleared by a read of the page: the next held event of any page is then reported. -/
def clearEvent (b : Block) (p : Port) (page : Nat) : Block :=
  let b := b.onNv p (fun c => { c with masked := c.masked.filter (· ≠ page) })
  let es := (vget b.nv p).events
  es.foldl (fun b e => asyncEvent b p e.1 e.2.1 e.2.2) (b.onNv p (fun c => { c with events := [] }))

/-- LTR (R522): while it is enabled, the latency sent follows whether a command of the controller is outstanding; it is sent
once per change. -/
def refreshLtr (b : Block) (p : Port) : Block :=
  if bit (configReg (vget b.px p) 0x98 0) 10 then
    let v := if b.nvm.cmds.any (fun c => c.port = p) then b.cfgN .HST_LTR_ACTIVE_US else b.cfgN .HST_LTR_IDLE_US
    b.onPx p (fun x => { x with ltr := some v })
  else b

/-- Zone Descriptor Changed (R436) to a controller. -/
def zoneNotice (b : Block) (p : Port) : Block := notice b p 27 0xEF 0xBF

/-! ### Critical warning (R626) -/

/-- One bit of the critical warning; its rise raises the SMART/Health event under the Asynchronous Event Configuration
feature. -/
def setWarning (b : Block) (n : Nat) (v : Bool) : Block :=
  let was := bit b.hea.warning n
  let b := b.onHea (fun h => { h with warning := putBit h.warning n v })
  if v && !was then
    let info := if n = 0 then 2 else if n = 1 then 1 else 0
    (List.finRange 2).foldl (fun b p => if bit (feat b p 0x0B 0) n then asyncEvent b p 1 info 0x02 else b) b
  else b

/-- Bits 2, 3 and 4 as their causes stand: reliability, read-only, volatile memory backup. -/
def refreshWarnings (b : Block) : Block :=
  let surfBad := (List.range 24).any (fun s => decide (b.get .BP_SURF_n_STATE s ∈ [3, 4]))
  let actBad := (List.finRange 4).any (fun a => b.srvMode a = .failed)
  let b := setWarning b 2 (decide (b.get .SYS_BOOT_UNCAL 0 = 1) || b.pwr.spinupFailed || b.ns.exhausted || actBad || surfBad)
  let b := setWarning b 3 (b.get .XL_STATE_RO 0 = 1)
  setWarning b 4 b.pwr.backupFailed

/-- Dirty DRAM in blocks of 4 KiB (R114): the write data, and the journal's tail, which is less than a page of 16 KiB and is counted
as one (log entry 120). -/
def dirtyCount (b : Block) : Nat := b.xl.dirty.length + (if b.ns.tail = 0 then 0 else 4)

/-- `PWR_DIRTY` as the dirty DRAM stands: MiB rounded up, and the most since power-on (R141). -/
def refreshDirty (b : Block) : Block :=
  let mib := (dirtyCount b + 255) / 256
  (b.putSat .PWR_DIRTY_NOW 0 mib).putSat .PWR_DIRTY_PEAK 0 (max (b.get .PWR_DIRTY_PEAK 0) mib)

/-- Blocks received: dirty from now on, in this order, each with what its key held before. -/
def dirtyAdd (b : Block) (keys : List Nat) : Block :=
  refreshDirty (b.onXl (fun x => { x with dirty := x.dirty ++ keys.map (fun k => ⟨k, nget 0 x.data k⟩) }))

/-- A block is on the media or in the NAND, or has been superseded: the oldest of its key is dirty no longer. -/
def dirtyDrop (b : Block) (key : Nat) : Block :=
  refreshDirty (b.onXl (fun x => { x with dirty := dropFirst (fun d => d.key = key) x.dirty }))

/-- A journal entry made (R470): it is dirty until its page is programmed. In PARK, where no dirty DRAM is held (R118), the page is
programmed at once. -/
def journalEntry (b : Block) : Block := if b.mode = .park then b else refreshDirty (b.onNs (fun s => { s with tail := s.tail + 1 }))

/-- The journal's tail is in the NAND. -/
def journalWritten (b : Block) : Block := refreshDirty (b.onNs (fun s => { s with tail := 0 }))

end Sys2Proof.Machine
end

