-- ==== Sys2Proof/Machine/RowCode.lean ====
section
/-! DEFINITION. The Reed-Solomon code over GF(2^8) (R424, R425), the accumulators of open rows (R428), the symbols of a row's sectors,
and the solve for a row's missing tracks (R437). -/

namespace Sys2Proof.Machine

/-! ### The code (R424) -/

/-- One doubling in GF(2^8) under 0x11D. -/
def gfDouble (a : Nat) : Nat := if 128 ≤ a then (2 * a % 256) ^^^ 0x1D else 2 * a

/-- Product in GF(2^8): n bits of b from the lowest, a doubled at each. -/
def gfMulBits : Nat → Nat → Nat → Nat
  | 0, _, _ => 0
  | n + 1, a, b => (if b % 2 = 1 then a else 0) ^^^ gfMulBits n (gfDouble a) (b / 2)

/-- Product in GF(2^8). -/
def gfMul (a b : Nat) : Nat := gfMulBits 8 (a % 256) (b % 256)

/-- The inverse in GF(2^8): the 254th power. -/
def gfInv (a : Nat) : Nat :=
  let a2 := gfMul a a
  let a4 := gfMul a2 a2
  let a8 := gfMul a4 a4
  let a16 := gfMul a8 a8
  let a32 := gfMul a16 a16
  let a64 := gfMul a32 a32
  let a128 := gfMul a64 a64
  gfMul (gfMul (gfMul a2 a4) (gfMul a8 a16)) (gfMul (gfMul a32 a64) a128)

/-- c(r, j): the coefficient of data track j in parity track r. -/
def parityCoef (r j : Nat) : Nat := gfInv (r ^^^ (8 + j))

/-- Every byte of a sector's symbols multiplied by a coefficient; at most n bytes. -/
def gfScale (c : Nat) : Nat → Nat → Nat
  | 0, _ => 0
  | n + 1, x => if x = 0 then 0 else gfMul c (x % 256) + 256 * gfScale c n (x / 256)

/-- The symbols of a sector (R425): 4,096 bytes of ciphertext and 8 of metadata. -/
def sectorBytes : Nat := 4104

/-! ### Open rows (R428) -/

/-- The accumulators of a row, empty where it has none yet. -/
def openRowOf (b : Block) (o : RowOwner) (k : Nat) : OpenRow :=
  (b.xl.openRows.find? (fun x => x.owner = o ∧ x.row = k)).getD ⟨o, k, [], []⟩

/-- The accumulators of a row replaced. -/
def putOpenRow (b : Block) (x : OpenRow) : Block :=
  b.onXl (fun t => { t with
    openRows := t.openRows.filter (fun y => !(decide (y.owner = x.owner ∧ y.row = x.row))) ++ [x] })

/-- A sector's contribution added into every accumulator; adding it again cancels it. -/
def accumulate (sums : NMap Nat) (m j sector symbols : Nat) : NMap Nat :=
  (List.range m).foldl (fun s r =>
    nset 0 s (r * 1024 + sector) (nget 0 s (r * 1024 + sector) ^^^ gfScale (parityCoef r j) sectorBytes symbols)) sums

/-- A data sector taken at the channel port: added once, however often it is rewritten. -/
def rowAdd (b : Block) (o : RowOwner) (k m j sector symbols : Nat) : Block :=
  let x := openRowOf b o k
  if nget 0 x.included (j * 1024 + sector) ≠ 0 then b
  else putOpenRow b { x with
    sums := accumulate x.sums m j sector symbols, included := nset 0 x.included (j * 1024 + sector) (symbols + 1) }

/-- A cut or failed sector removed by adding its contribution again. -/
def rowRemove (b : Block) (o : RowOwner) (k m j sector : Nat) : Block :=
  let x := openRowOf b o k
  let v := nget 0 x.included (j * 1024 + sector)
  if v = 0 then b
  else putOpenRow b { x with
    sums := accumulate x.sums m j sector (v - 1), included := nerase x.included (j * 1024 + sector) }

/-- The block that a conventional group holds at a position: the namespace and LBA of an extent mapped there (R389). -/
def groupBlock (b : Block) (id off : Nat) : Option Nat :=
  (b.xl.extents.find? (fun e => e.2 = id * 2 ^ 20 + off / 256 + 1)).map (fun e =>
    blockKey (e.1 / 2 ^ 32) (e.1 % 2 ^ 32 * 256 + off % 256))

/-- The key of the block at an offset of an owner's rows. -/
def ownerBlock (b : Block) (o : RowOwner) (off : Nat) : Option Nat :=
  match o with
  | .zone n lba => some (blockKey n (lba + off))
  | .conv id => groupBlock b id off
  | .mcache id => (b.xl.cached.find? (fun c => c.2 = id * 2 ^ 20 + off + 1)).map (fun c => c.1)

/-- A block's unit as a sector's 4,104 symbols (R425): the metadata bytes are zero where the namespace has none. -/
def wideUnit (b : Block) (key unit : Nat) : Nat :=
  match nsFind b (key / 2 ^ 48) with
  | some n => if n.meta8 then unit else unit * 2 ^ 64
  | none => unit * 2 ^ 64

/-- The symbols of a data sector of a row, ciphertext as it passes the channel port (R425); a sector that nothing was written to is
fill, zero. -/
def rowSymbols (b : Block) (o : RowOwner) (l : RowLog) (k j sector : Nat) : Nat :=
  match ownerBlock b o (k * rowBlocks l + j * l.t + sector) with
  | some key => wideUnit b key (nget 0 b.xl.data key - 1)
  | none => 0

/-- The symbols of a parity sector of a row (R424): its accumulator while the row is open, else the sum over the data tracks. -/
def paritySymbols (b : Block) (o : RowOwner) (l : RowLog) (k r sector : Nat) : Nat :=
  if k < l.rowsDone then
    (List.range (l.surfs.length - l.m)).foldl (fun x j => x ^^^ gfScale (parityCoef r j) sectorBytes (rowSymbols b o l k j sector)) 0
  else nget 0 (openRowOf b o k).sums (r * 1024 + sector)

/-- The data track of a row on a surface, or none where its track there is a parity track. -/
def dataTrackOf (l : RowLog) (k s : Nat) : Option Nat :=
  let n := ((dataSurfs l k).takeWhile (fun x => decide (x ≠ s))).length
  if n < (dataSurfs l k).length then some n else none

/-- The parity track of a row on a surface. -/
def parityTrackOf (l : RowLog) (k s : Nat) : Nat := ((List.range l.m).takeWhile (fun r => decide (paritySurf l k r ≠ s))).length

/-- The symbols of a row's sector on a surface. -/
def sectorSymbols (b : Block) (o : RowOwner) (l : RowLog) (k s sector : Nat) : Nat :=
  match dataTrackOf l k s with
  | some j => rowSymbols b o l k j sector
  | none => paritySymbols b o l k (parityTrackOf l k s) sector

/-- The contribution of a cut sector of a data track taken out of its row's accumulators (R428). -/
def removeCut (b : Block) (a : Act) (index : Nat) (job : Option TsJob) : Block :=
  match job with
  | none => b
  | some t => match b.xl.active.find? (fun r => r.tag = t.tag) with
    | some q => match q.for_ with
      | .data o k j => match ownerLog b o with
        | some l => if l.m = 0 then b else rowRemove b o k l.m j (logicalOf b (headSurf a t.head).val t.track index)
        | none => b
      | _ => b
    | none => b

/-! ### The solve (R437) -/

/-- A row of a matrix over GF(2^8) multiplied by a factor. -/
def gfRow (c : Nat) (xs : List Nat) : List Nat := xs.map (gfMul c)

/-- The first row of a list with a pivot in a column, and the rows without it. -/
def pickPivot (c : Nat) : List (List Nat) → Option (List Nat × List (List Nat))
  | [] => none
  | r :: rs =>
    if r.getD c 0 ≠ 0 then some (r, rs)
    else (pickPivot c rs).map (fun x => (x.1, r :: x.2))

/-- Gauss-Jordan elimination of n columns from c on: `done` holds the rows whose pivots are set, the latest first. -/
def gfEliminate : Nat → Nat → List (List Nat) → List (List Nat) → Option (List (List Nat))
  | 0, _, done, _ => some done.reverse
  | n + 1, c, done, rows =>
    match pickPivot c rows with
    | none => none
    | some (p, rest) =>
      let p := gfRow (gfInv (p.getD c 0)) p
      let clear := fun (q : List Nat) => q.zipWith (fun x y => x ^^^ gfMul (q.getD c 0) y) p
      gfEliminate n (c + 1) (p :: done.map clear) (rest.map clear)

/-- The inverse of a square matrix of n rows. -/
def gfInverse (n : Nat) (rows : List (List Nat)) : Option (List (List Nat)) :=
  let wide := (rows.zip (List.range n)).map (fun x => x.1 ++ (List.range n).map (fun i => if i = x.2 then 1 else 0))
  (gfEliminate n 0 [] wide).map (fun m => m.map (fun r => r.drop n))

/-- The symbols of a parity sector computed from those of data tracks. -/
def encodeParity (r : Nat) (known : List (Nat × Nat)) : Nat :=
  known.foldl (fun x d => x ^^^ gfScale (parityCoef r d.1) sectorBytes d.2) 0

/-- The symbols of missing data tracks, from the known ones and as many parity sectors (R424, R437). -/
def solveTracks (missing : List Nat) (known parity : List (Nat × Nat)) : Option (List (Nat × Nat)) :=
  let rhs := parity.map (fun p => p.2 ^^^ encodeParity p.1 known)
  (gfInverse missing.length (parity.map (fun p => missing.map (parityCoef p.1)))).map (fun inv =>
    (missing.zip inv).map (fun x =>
      (x.1, (x.2.zip rhs).foldl (fun y c => y ^^^ gfScale c.1 sectorBytes c.2) 0)))

end Sys2Proof.Machine
end

