-- ==== Sys2Proof/Machine/Gates.lean ====
section
/-! DEFINITION. The channel islands' gates and frames (R243, R307, R337 to R341), the rewrite queue (R349), micro-trap
requests (R342), and TSa's halt and reload (R347, R348). -/

namespace Sys2Proof.Machine

/-- A change to TSa. -/
def Block.onTs (b : Block) (a : Act) (f : Ts → Ts) : Block := { b with ts := vupd b.ts a f }
/-- A change to AEa. -/
def Block.onAst (b : Block) (a : Act) (f : Assist → Assist) : Block := { b with ast := vupd b.ast a f }
/-- A change to CHa. -/
def Block.onCh (b : Block) (a : Act) (f : Channel → Channel) : Block := { b with ch := vupd b.ch a f }
/-- A change to SEa. -/
def Block.onSrv (b : Block) (a : Act) (f : Servo → Servo) : Block := { b with srv := vupd b.srv a f }

/-- A trap requested (R342): 0 CHFAULT, 1 WUNSAFE, 2 WEDGE, 3 STOP. It stays pending until it is taken. -/
def trapRequest (b : Block) (a : Act) (n : Nat) : Block :=
  b.put .TS_STATE_PEND a.val (setBit (b.get .TS_STATE_PEND a.val) n)

/-! ### Rewrite queue -/

/-- A sector flagged for rewrite (R349): a second flag only adds its cause; a full queue takes no more. -/
def flagRewrite (b : Block) (a : Act) (index buf cause : Nat) (job : Option TsJob) : Block :=
  match job with
  | none => b
  | some j =>
    b.onTs a (fun t =>
      if t.rwq.any (fun e => e.index = index) then
        { t with rwq := updFirst (fun e => e.index = index) (fun e => { e with cause := setBit e.cause cause }) t.rwq }
      else if 64 ≤ t.rwq.length then t
      else { t with rwq := t.rwq ++ [⟨index, buf, nget 0 t.rewrites index, 2 ^ cause, j⟩] })

/-! ### Gates at the connector -/

/-- A drive current latched at the fall of AG (R277) counted in its head's average per hour of writing (R268): `old` and `new` are the
writer-on times before and after, in ns. -/
def countDrive (v : Assist) (h i old new : Nat) : Assist :=
  let sum := nget 0 v.drvSum h + i
  let n := nget 0 v.drvN h + 1
  if old / 3600000000000 < new / 3600000000000 then
    { v with drvAvg := nset 0 v.drvAvg h (sum / n), drvSum := nerase v.drvSum h, drvN := nerase v.drvN h }
  else { v with drvSum := nset 0 v.drvSum h sum, drvN := nset 0 v.drvN h n }

/-- WG and AG fall together (R243); the head's assist-on and writer-on times grow, the writer's by `ASR.AG_LEAD` less since WG rose that
much later (R243, R268), and the drive current is latched (R277), a value the spec takes from the preamp. -/
def writeGatesFall (b : Block) (a : Act) : Block :=
  let v := vget b.ast a
  let h := b.get .AST_STATE_HEAD a.val
  match v.agAt with
  | none => b
  | some t =>
    let on := (b.now - t) * 1000
    let old := nget 0 v.wonNs h
    let new := old + (on - b.cfgN .ASR_AG_LEAD)
    let (i, b) := b.fresh 65536
    let b := b.onAst a (fun v => countDrive { v with
      aonNs := nset 0 v.aonNs h (nget 0 v.aonNs h + on), wonNs := nset 0 v.wonNs h new, agAt := none, wgAt := none } h i old new)
    ((b.put .AST_STATE_AG a.val 0).put .AST_STATE_WG a.val 0).put .AST_HLAS_IDRV (6 * a.val + h) i

/-- AG and WG rise for the active head, AG at once and WG `ASR.AG_LEAD` nanoseconds later, within the same step (R243). -/
def writeGatesRise (b : Block) (a : Act) : Block :=
  let b := b.onAst a (fun v => { v with agAt := some (v.agAt.getD b.now), wgAt := some (v.wgAt.getD b.now) })
  ((b.put .AST_STATE_AG a.val 1).put .AST_STATE_WG a.val 1).put .AST_STATE_LOOP a.val 3

/-- Write gate lowered. -/
def lowerWg (b : Block) (a : Act) : Block :=
  writeGatesFall (b.onTs a (fun t => { t with wg := false, wgFell := t.wgFell || t.wg })) a

/-- Read gate lowered. -/
def lowerRg (b : Block) (a : Act) : Block := b.onTs a (fun t => { t with rg := false })

/-- A servo-gate raise held for the other gates applies once both are low (R340). -/
def releaseSg (b : Block) (a : Act) : Block :=
  b.onTs a (fun t => if t.sgHeld && !t.rg && !t.wg then { t with sg := true, sgHeld := false, wedgeDone := false } else t)

/-- The frame in progress cut (R307, R338, R340): a write sector is flagged for rewrite unless write gate was kept low
across it, and its contribution leaves the accumulators of its row (R428); a read sector has no samples kept and goes to rung 5. -/
def cutFrame (b : Block) (a : Act) : Block :=
  match (vget b.ts a).frame with
  | none => b.onTs a (fun t => { t with cut := true })
  | some f =>
    let b := (b.onAst a (fun v => { v with held := false })).onTs a (fun t => { t with frame := none, cut := true })
    if f.write then (if f.silent then b else flagRewrite (removeCut b a f.index f.job) a f.index f.buf 2 f.job)
    else
      b.onCh a (fun c => { c with
        sectors := updAll (fun (x : SectorRead) => decide (x.index = f.index ∧ x.phase = .onTheFly))
          (fun x => { x with phase := .reread, rung := 5, slot := none }) c.sectors })

/-- Write gate dropped by the island (R206, R340): WG and AG fall, and a write frame that was being written is cut. -/
def cutWrite (b : Block) (a : Act) : Block :=
  if (vget b.ts a).wg then releaseSg (cutFrame (lowerWg b a) a) a else b

/-- The channel island's own action on a late sequencer result (R31): write gate falls, and the sector of a write frame in
progress is flagged for rewrite whether or not write gate was high. -/
def cutLate (b : Block) (a : Act) : Block :=
  let write := match (vget b.ts a).frame with | some f => f.write | none => false
  if write then releaseSg (cutFrame (lowerWg b a) a) a else lowerWg b a

/-- Write gate dropped on every actuator (R26, R150). -/
def cutAllWrites (b : Block) : Block := (List.finRange 4).foldl cutWrite b

/-- Every gate lowered and the frame cut (R346, R348). -/
def gatesLow (b : Block) (a : Act) : Block :=
  let b := lowerRg (lowerWg b a) a
  let b := if (vget b.ts a).frame.isSome then cutFrame b a else b
  b.onTs a (fun t => { t with sg := false, sgHeld := false })

/-- A channel fault (R246, R262): WG and AG fall without engine involvement, and CHFAULT is requested. CHa shows the fault until its
next frame or retune (R316, DEDUCED). -/
def channelFault (b : Block) (a : Act) : Block :=
  let b := if b.get .CH_STATE_MODE a.val = 4 then b else b.put .CH_STATE_MODE a.val 5
  trapRequest (cutWrite b a) a 0

/-- CHa's state once no frame is in progress (R316): replay only while a sector is on its ladder, else idle. -/
def channelRest (b : Block) (a : Act) : Block :=
  if b.get .CH_STATE_MODE a.val ∈ [1, 2, 3] ∧ (vget b.ts a).frame.isNone = true then
    b.put .CH_STATE_MODE a.val (if (vget b.ch a).sectors.any (fun x => decide (x.phase ≠ .onTheFly)) then 3 else 0)
  else b

/-- Write-unsafe raised by a cause (R205, R206): the write in progress is cut, and WUNSAFE is requested. -/
def raiseWu (b : Block) (a : Act) (n : Nat) : Block :=
  let b := b.put .SRV_WU_CAUSE a.val (setBit (b.get .SRV_WU_CAUSE a.val) n)
  let b := b.onSrv a (fun v => { v with goodRun := 0 })
  let b := if b.get .SRV_STATE_WU a.val = 0
    then trapRequest ((b.bump .SRV_WU_COUNT a.val).put .SRV_STATE_WU a.val 1) a 1 else b
  cutWrite b a

/-- A late assist step (R31): the assist and heater commands are held for the rest of the sector in progress, which is marked
for read-after-write verification. -/
def holdAssist (b : Block) (a : Act) : Block :=
  match (vget b.ts a).frame with
  | some f =>
    let b := b.onAst a (fun v => { v with held := true })
    if f.write then b.onTs a (fun t => { t with marked := f.index :: t.marked.filter (· ≠ f.index) }) else b
  | none => b

/-- An engine shown as running or stopped in `SYS_ENG_RUN` (R42). -/
def engineShown (b : Block) (e : Engine) (on : Bool) : Block :=
  let at_ := fun (f : Field) (n : Nat) => b.put f 0 (putBit (b.get f 0) n on)
  match e with
  | .cc n => at_ .SYS_ENG_RUN_CC n.val
  | .ts a => at_ .SYS_ENG_RUN_TS a.val
  | .se a => at_ .SYS_ENG_RUN_SE a.val
  | .spe => at_ .SYS_ENG_RUN_SPE 0
  | .ae a => at_ .SYS_ENG_RUN_AE a.val
  | .le p => at_ .SYS_ENG_RUN_LE p.val
  | .sv => at_ .SYS_ENG_RUN_SV 0

/-! ### The bits of an armed or immediate set (R337 to R340) -/

/-- The channel operation of a set, before gates are raised. `wgRaise` tells that the set raises WG. -/
def applyChop (b : Block) (a : Act) (chop : Nat) (wgRaise : Bool) : Block :=
  let t := vget b.ts a
  let i := b.get .TS_FT_INDEX a.val
  let start := fun (write scan silent : Bool) =>
    (b.onAst a (fun v => { v with held := false })).onTs a (fun t => { t with
      frame := some ⟨write, scan, false, silent, i, t.openBuf, t.cur⟩, frameDone := false, cut := false, pmFound := false })
  let refuse := fun (flag : Bool) =>
    let b := b.onTs a (fun t => { t with frame := none, frameDone := false, pmFound := false, cut := true })
    if flag then flagRewrite b a i t.openBuf 2 t.cur else b
  if chop = 1 then (if t.sg then refuse false else start false false false)
  else if chop = 6 then (if t.sg then refuse false else start false true false)
  else if chop = 2 then
    if t.bufPoison then start true false true
    else if !t.bufReady then refuse true
    else if t.sg then refuse true
    else if wgRaise && !writePermit b a then refuse true
    else start true false false
  else if chop = 3 then b.onTs a (fun t => { t with frame := t.frame.map (fun f => { f with paused := true }) })
  else if chop = 4 then
    match t.frame with
    | none => b
    | some f =>
      if t.sg || (f.write && !f.silent && !writePermit b a) then cutFrame b a
      else b.onTs a (fun t => { t with frame := t.frame.map (fun f => { f with paused := false }) })
  else if chop = 5 then cutFrame b a
  else b

/-- A set's WG raise (R340): applied where WR_PERMIT holds and the frame is a write frame, and with no effect across poisoned data;
otherwise the frame is cut or not started. -/
def raiseWg (b : Block) (a : Act) : Block :=
  let t := vget b.ts a
  let frame := match t.frame with | some f => if f.write then (if f.silent then 2 else 1) else 0 | none => 0
  if frame = 2 then b
  else if decide (frame = 1) && !t.sg && writePermit b a then writeGatesRise (b.onTs a (fun t => { t with wg := true })) a
  else cutFrame b a

/-- A set's RG raise (R340): not applied while SG is high, nor with a RESUME of a frame that was cut. -/
def raiseRg (b : Block) (a : Act) (chop : Nat) : Block :=
  let t := vget b.ts a
  if t.sg then cutFrame b a
  else if chop = 4 ∧ t.frame.isNone = true then b
  else b.onTs a (fun t => { t with rg := true })

/-- A set of gate and channel fields applied at one bit, under the gate rules of R340. -/
def applySet (b : Block) (a : Act) (x : ArmedSet) : Block :=
  let b := if x.rg = 2 then lowerRg b a else b
  let b := if x.wg = 2 then
      let mid := (match (vget b.ts a).frame with | some f => f.write && !f.paused && !f.silent | none => false)
      let b := lowerWg b a
      if mid && decide (x.chop ≠ 3) then cutFrame b a else b
    else b
  let b := if x.sg = 2 then b.onTs a (fun t => { t with sg := false, sgHeld := false }) else b
  let b := applyChop b a x.chop (x.wg = 1)
  let b := if x.rg = 1 then raiseRg b a x.chop else b
  let b := if decide (x.wg = 1) && !(decide (x.chop = 2 ∨ x.chop = 4) && (vget b.ts a).frame.isNone) then raiseWg b a else b
  let b := if x.sg = 1 then b.onTs a (fun t =>
      if t.rg || t.wg then { t with sgHeld := true } else { t with sg := true, wedgeDone := false }) else b
  releaseSg b a

/-! ### A wedge, a halt and a reload -/

/-- The end of a wedge as the servo island stamps it (R331, R336). -/
def wedgeEnds (b : Block) (a : Act) (index : Nat) (missed : Bool) : Block :=
  b.onTs a (fun t => { t with wedgeDone := true, wedgeIndex := index, wedgeMissed := missed, wedgeEnd := t.bit })

/-- TSa halted with its gates low (R347): the frame, the armed set and the work in its queues are gone. -/
def tsHalt (b : Block) (a : Act) : Block :=
  let b := lowerRg (lowerWg b a) a
  let b := b.onTs a (fun t => { t with
    frame := none, armed := none, expAt := none, sg := false, sgHeld := false,
    jobs := [], cur := none, rwq := [], unverified := [], marked := [], await := false, stopForced := false })
  let b := engineShown b (.ts a) false
  (((b.put .TS_STATE_STATE a.val 5).put .TS_STATE_PEND a.val 0).put .TS_STATE_STOPREQ a.val 0).put .TS_STATE_TRAP
    a.val 0

/-- A job requeued from its first unfinished sector (R348); defective positions are not counted. -/
def requeued (b : Block) (a : Act) (j : TsJob) (done : Nat) : TsJob :=
  let s := (headSurf a j.head).val
  { j with first := positionOf b s j.track (logicalOf b s j.track j.first + done), count := j.count - done }

/-- The overlay words of the running image for an actuator, by control-store address (R353, R355). -/
def overlayWords (b : Block) (a : Act) : NMap Nat :=
  (List.range (b.cfgN .TSO_WORDS a.val)).foldl (fun m k =>
    nset (csDefault (0x800 + k)) m (0x800 + k) (b.cfgN .TSO_WORD a.val k)) []

/-- The dispatch entry of an op: the overlay's where it is not 0 for ops 0 to 3, else the base program's (R329,
R353). -/
def dispatchEntry (b : Block) (a : Act) (op : Nat) : Nat :=
  let o := b.cfgN .TSO_DISPATCH a.val op
  if op < 4 ∧ o ≠ 0 then o else Config.baseDispatch op % 4096

/-- TSa's program reloaded from its DRAM copy and TSa restarted at dispatch, the job in progress requeued (R32, R348,
R355). -/
def tsReload (b : Block) (a : Act) : Block :=
  let cs := overlayWords b a
  let b := b.onTs a (fun t => { t with
    cs := cs
    jobs := (match t.cur with | some j => requeued b a j t.transferred :: t.jobs | none => t.jobs)
    cur := none, frame := none, armed := none, expAt := none, btDone := false, lateArm := false
    wgAtTrap := false, rgAtTrap := false, await := true, savedAwait := false, stopForced := false
    bufPtr := 0, openBuf := 0, transferred := 0 })
  let b := (List.range 16).foldl (fun b op => b.put .TS_DISP_n_ADDR (16 * a.val + op) (dispatchEntry b a op)) b
  let b := (b.putBool .TS_VER_OVL a.val (decide (b.cfgN .TSO_WORDS a.val ≠ 0))).put .TS_VER_OVLWORDS a.val
    (b.cfgN .TSO_WORDS a.val)
  let b := engineShown b (.ts a) true
  (b.put .TS_STATE_STATE a.val 1).put .TS_STATE_TRAP a.val 0

end Sys2Proof.Machine
end

