-- ==== Sys2Proof/Machine/Media.lean ====
section
/-! DEFINITION. Blocks on their way to and from the media: media requests (R554), relocated sectors (R382), rows written in order (R380, R442), reads and reconstruction (R385, R437 to R440), surface states (R434 to R436),
zone transitions (R443) and the Final Reserve (R403, R404). -/

namespace Sys2Proof.Machine

/-! ### Media requests (R554) -/

/-- Requests of an actuator's queue. -/
def actQueue (b : Block) (a : Act) : List MediaReq := vget b.xl.queues a

/-- A request queued at its actuator, which holds 256; further ones wait in order of arrival. -/
def enqueueReq (b : Block) (r : MediaReq) : Block :=
  if (actQueue b r.act).length < 256 then
    b.onXl (fun x => { x with queues := vupd x.queues r.act (fun q => q ++ [r]) })
  else b.onXl (fun x => { x with beyond := x.beyond ++ [r] })

/-- Waiting requests of an actuator admitted as far as its queue has room. -/
def admitBeyond (b : Block) (a : Act) : Block :=
  let room := 256 - (actQueue b a).length
  let mine := (b.xl.beyond.filter (fun r => r.act = a)).take room
  b.onXl (fun x => { x with
    beyond := x.beyond.filter (fun r => !mine.any (fun y => y.tag = r.tag))
    queues := vupd x.queues a (fun q => q ++ mine) })

/-- A new request for sectors of one track. -/
def newReq (b : Block) (f : ReqFor) (surf track first count : Nat) (write urgent : Bool) : Block :=
  let a : Act := ⟨surf / 6 % 4, by omega⟩
  let tag := b.xl.nextTag
  let r : MediaReq := ⟨tag, f, a, surf, trackZone b track, track, first, count, write, urgent, b.now, count, 0, false,
    false⟩
  enqueueReq (b.onXl (fun x => { x with nextTag := tag + 1 })) r

/-- The request being served under a tag. -/
def activeReq (b : Block) (tag : Nat) : Option MediaReq := b.xl.active.find? (fun r => r.tag = tag)

/-- A request being served replaced. -/
def putReq (b : Block) (r : MediaReq) : Block :=
  b.onXl (fun x => { x with active := updFirst (fun y => y.tag = r.tag) (fun _ => r) x.active })

/-- A request done: no longer served, and its actuator's queue may take a waiting one. -/
def endReq (b : Block) (r : MediaReq) : Block :=
  admitBeyond (b.onXl (fun x => { x with active := x.active.filter (fun y => y.tag ≠ r.tag) })) r.act

/-- A request or a reconstruction of a media patrol is in hand (R593, R658). -/
def patrolInHand (b : Block) : Bool :=
  ((List.finRange 4).flatMap (actQueue b) ++ b.xl.beyond ++ b.xl.active).any (fun r => decide (r.for_ = .patrol)) ||
    b.xl.recons.any (fun x => decide (x.for_ = .patrol))

/-! ### NAND slots of user blocks -/

/-- A NAND block replaced. -/
def putNand (b : Block) (n : Nat) (x : NBlock) : Block :=
  b.onNs (fun s => { s with blocks := nset nandDefault s.blocks n x })

/-- The slot that holds a key becomes invalid: what it held is on the media, or has been replaced. -/
def dropSlot (b : Block) (key : Nat) : Block :=
  let at_ := nget 0 b.ns.map key
  if at_ = 0 then b
  else
    let n := (at_ - 1) / 8192
    let k := (at_ - 1) % 8192
    let x := nandBlock b n
    let b := putNand b n { x with slots := match x.slots.find? (fun e => e.1 = k) with
      | some e => ninsert (nerase x.slots k) k { e.2 with valid := false }
      | none => x.slots }
    b.onNs (fun s => { s with map := nerase s.map key })

/-- A received block is on the media in an owner's rows: it is no longer dirty, or its staged copy is released (R35, R465). A cached
block's slot is given up for its media-cache row (R390), and stays where the rows hold what the cached write has replaced. -/
def releaseBlock (b : Block) (o : RowOwner) (key : Nat) : Block :=
  let cached := b.xl.cached.any (fun c => c.1 = key)
  match o with
  | .mcache _ => dropSlot b key
  | _ =>
    if cached then b
    else if nget 0 b.ns.map key ≠ 0 then (dropSlot b key).onXl (fun x => { x with staged := x.staged.filter (· ≠ key) })
    else dirtyDrop b key

/-! ### Free space (R403 to R405) -/

/-- Read-only entered where free bands are below the Final Reserve or the NAND is exhausted (R404, R405). It is left
by READ_ONLY_EXIT only. -/
def evalSpace (b : Block) : Block :=
  let below := b.xl.belowReserve || decide (freeBands b < finalReserve b)
  let b := b.onXl (fun x => { x with belowReserve := below })
  if below || b.ns.exhausted then refreshWarnings (b.put .XL_STATE_RO 0 1) else b

/-! ### Bands (R392 to R394) -/

/-- A band's entry replaced. -/
def putBand (b : Block) (phys s : Nat) (x : BandInfo) : Block :=
  journalEntry (b.onXl (fun t => { t with bands := nset ⟨0, 0, 0, 0⟩ t.bands (phys * 32 + s) x }))

/-- A band due for a copy under a cause's priority; a stronger cause replaces a weaker one. -/
def bandDue (b : Block) (phys s cause : Nat) : Block :=
  let key := phys * 32 + s
  match b.xl.due.find? (fun d => d.1 = key) with
  | some d => if cause < d.2
      then b.onXl (fun x => { x with due := updFirst (fun d => d.1 = key) (fun _ => (key, cause)) x.due }) else b
  | none => b.onXl (fun x => { x with due := x.due ++ [(key, cause)] })

/-- The disturb counters of the neighbouring bands of a track just written (R393, R394). -/
def disturbNeighbours (b : Block) (s track : Nat) : Block :=
  let own := trackBand b track
  let reach := b.cfgN .XLT_DIST_TRK
  let near := ((List.range reach).map (fun d => track - (d + 1))) ++ ((List.range reach).map (fun d => track + (d + 1)))
  let bands := ((near.filter (isBandTrack b)).map (trackBand b)).filter
    (fun p => decide (p ≠ own) || decide (b.cfgN .FMT_Z_KIND 0 (trackZone b track) = 1))
  bands.eraseDups.foldl (fun b p =>
    let x := bandInfo b p s
    let b := putBand b p s { x with disturb := min (x.disturb + 1) 0xFFFF }
    if b.cfgN .XLT_DIST_LIM ≤ x.disturb + 1 then bandDue b p s 3 else b) b

/-- A track of a band written: its first track renews the stamp and clears the counter, and the highest preamp
temperature is kept (R392). -/
def trackWritten (b : Block) (s track row : Nat) : Block :=
  let b := disturbNeighbours b s track
  let p := trackBand b track
  let x := bandInfo b p s
  let t := (vget b.ast ⟨s / 6 % 4, by omega⟩).temp
  if b.cfgN .FMT_Z_KIND 0 (trackZone b track) = 1 then b
  else putBand b p s (if row = 0 then ⟨x.gen, b.now / 3600000000 % 2 ^ 24, t, 0⟩ else { x with temp := max x.temp t })

/-! ### Rows (R380, R428, R442) -/

/-- The surface's track of a row is on the media. -/
def trackPassed (l : RowLog) (k s : Nat) : Bool := decide (k < l.rowsDone) || decide ((k, s) ∈ l.passed)

/-- A track of a row passes: on the media, or virtual. -/
def passTrack (b : Block) (o : RowOwner) (k s : Nat) : Block :=
  match ownerLog b o with
  | some l => if trackPassed l k s then b else putLog b o { l with passed := l.passed ++ [(k, s)] }
  | none => b

/-- A track of a row becomes virtual (R442). -/
def makeVirtual (b : Block) (o : RowOwner) (k s m : Nat) : Block :=
  let v := setBit (virtualMask b o k) s
  let b := b.onXl (fun x => { x with
    degraded := x.degraded.filter (fun d => !(decide (d.1 = o ∧ d.2.1 = k))) ++ [(o, k, v, m)] })
  passTrack b o k s

/-- A request is in hand for a parity track of a row. -/
def parityInHand (b : Block) (o : RowOwner) (k r : Nat) : Bool :=
  let hit := fun (x : MediaReq) => decide (x.for_ = .parity o k r)
  (List.finRange 4).any (fun a => (actQueue b a).any hit) || b.xl.beyond.any hit || b.xl.active.any hit

/-- The parity tracks of a row are asked for once its data tracks have passed; those on a surface that is not written
are virtual (R380, R442). -/
def askParity (b : Block) (o : RowOwner) (l : RowLog) (k : Nat) : Block :=
  (List.range l.m).foldl (fun b r =>
    let s := paritySurf l k r
    match ownerLog b o with
    | none => b
    | some l' =>
      if trackPassed l' k s || parityInHand b o k r then b
      else if surfNoWrite b s then makeVirtual b o k s l.m
      else newReq b (.parity o k r) s (rowTrack b l k s) 0 l.t true false) b

/-- A row whose tracks have all passed is done, and its accumulators are released (R428). -/
def rowAdvance (b : Block) (o : RowOwner) (k : Nat) : Block :=
  match ownerLog b o with
  | none => b
  | some l =>
    if (dataSurfs l k).all (trackPassed l k) then
      let b := askParity b o l k
      match ownerLog b o with
      | none => b
      | some l =>
        if l.surfs.all (trackPassed l k) && decide (l.rowsDone ≤ k) then
          let b := putLog b o { l with rowsDone := k + 1, passed := l.passed.filter (fun x => k < x.1) }
          b.onXl (fun x => { x with openRows := x.openRows.filter (fun y => !(decide (y.owner = o ∧ y.row = k))) })
        else b
    else b

/-- An offset holds a host's block, and no fill. -/
def hostOffset (b : Block) (o : RowOwner) (off : Nat) : Bool :=
  match o with
  | .zone n lba => match zoneFind b n (lba / zoneSize) with | some z => decide (off < z.expected) | none => false
  | _ => true

/-- Sectors of a data track of a row handed to its actuator, or kept in the parity alone where the track is virtual. -/
def emitTrack (b : Block) (o : RowOwner) (l : RowLog) (off count : Nat) : Block :=
  let k := offRow l off
  let j := offTrack l off
  let first := offSector l off
  let s := dataSurf l k j
  let b := putLog b o { l with queued := off + count }
  if surfNoWrite b s then
    let b := (List.range count).foldl (fun b i =>
      let b := rowAdd b o k l.m j (first + i) (rowSymbols b o l k j (first + i))
      match ownerBlock b o (off + i) with
      | some key => if hostOffset b o (off + i) then releaseBlock b o key else b
      | none => b) b
    if first + count = l.t then rowAdvance (makeVirtual b o k s l.m) o k else b
  else newReq b (.data o k j) s (rowTrack b l k s) first count true false

/-- Whole data tracks handed to the actuators as far as the data received goes; at most n tracks (R380). -/
def feedTracks : Nat → Block → RowOwner → Block
  | 0, b, _ => b
  | n + 1, b, o =>
    match ownerLog b o with
    | none => b
    | some l =>
      let stop := (l.queued / max 1 l.t + 1) * l.t
      if l.t ≠ 0 ∧ stop ≤ l.wp then feedTracks n (emitTrack b o l l.queued (stop - l.queued)) o else b

/-- The tracks of an owner's rows that its data now fills. -/
def feedLog (b : Block) (o : RowOwner) : Block :=
  match ownerLog b o with
  | some l => feedTracks ((l.wp - l.queued) / max 1 l.t + 1) b o
  | none => b

/-- A part of a data track handed over after `XLT.RUN_WAIT` (R380). -/
def feedPartial (b : Block) (o : RowOwner) : Block :=
  let b := feedLog b o
  match ownerLog b o with
  | some l => if l.queued < l.wp then emitTrack b o l l.queued (l.wp - l.queued) else b
  | none => b

/-- The rest of the open row written with fill, and its parity (R385). -/
def fillRow (b : Block) (o : RowOwner) : Block :=
  match ownerLog b o with
  | some l =>
    let q := rowBlocks l
    let stop := if q = 0 then l.wp else ceilDiv l.wp q * q
    feedLog (putLog b o { l with wp := stop }) o
  | none => b

/-- A write request of a row's track whose sectors have all passed. -/
def rowReqDone (b : Block) (r : MediaReq) : Block :=
  let b := endReq b r
  match r.for_ with
  | .data o k j =>
    match ownerLog b o with
    | none => b
    | some l =>
      let b := trackWritten b r.surf r.track k
      let base := k * rowBlocks l + j * l.t
      let keys := (List.range (r.first + r.count)).filterMap (fun i =>
        if r.first ≤ i ∧ hostOffset b o (base + i) = true then ownerBlock b o (base + i) else none)
      let b := keys.foldl (fun b k => releaseBlock b o k) b
      let b := match o with
        | .conv _ => b.onXl (fun x => { x with convPending := x.convPending - r.count })
        | _ => b
      if r.first + r.count = l.t then rowAdvance (passTrack b o k r.surf) o k else b
  | .parity o k _ => rowAdvance (passTrack (trackWritten b r.surf r.track k) o k r.surf) o k
  | _ => b

/-- A write request whose sectors have all passed. A relocated sector stands for one of the request that it was written for. -/
def writeReqDone (b : Block) (r : MediaReq) : Block :=
  match r.for_ with
  | .moved _ _ _ _ of =>
    let b := journalEntry (trackWritten (endReq b r) r.surf r.track 0)
    match of.bind (activeReq b) with
    | none => b
    | some q =>
      let q := { q with left := q.left - 1 }
      let b := putReq b q
      if q.left = 0 then rowReqDone b q else b
  | _ => rowReqDone b r

/-! ### Relocated sectors (R382) -/

/-- A logical sector of a conventional track that a relocated sector can take: no media-cache row lies there, nothing is relocated to it,
and its position is good. -/
def relocFree (b : Block) (s track i : Nat) : Bool :=
  let k := sectorKey s track i
  !b.xl.mcRows.any (fun r => decide (r.log.band = 2 ^ 32 + track ∧ s ∈ r.log.surfs)) && !b.xl.reloc.any (fun e => e.2 = k) &&
    !decide (sectorKey s track (positionOf b s track i) ∈ b.xl.grown)

/-- Where a relocated sector goes: on its own surface where that is ACTIVE, else on the first ACTIVE one in row order; the innermost
conventional track first, and there the first free sector. The spec names no place (DESIGN CHOICE, log entry 158). -/
def relocPlace (b : Block) (s : Nat) : Option (Nat × Nat × Nat) :=
  (([s] ++ rowOrder.filter (fun x => decide (x ≠ s))).filter (fun x => decide (surfState b x = 1))).findSome? (fun x =>
    (convTrackList b).reverse.findSome? (fun t =>
      ((List.range (zoneT b (trackZone b t))).find? (relocFree b x t)).map (fun i => (x, t, i))))

/-- A sector of a row on a surface relocated (R382): the relocation table points reads to a conventional track, where it is written. None
where every conventional track is full. -/
def relocate (b : Block) (o : RowOwner) (row surf sector key : Nat) (of : Option Nat) : Option Block :=
  (relocPlace b surf).map (fun p =>
    let b := journalEntry (b.onXl (fun x => { x with
      reloc := x.reloc.filter (fun e => e.1 ≠ key) ++ [(key, sectorKey p.1 p.2.1 p.2.2)] }))
    newReq b (.moved o row surf sector of) p.1 p.2.1 p.2.2 1 true false)

/-- A relocated sector's write is in hand: its data is still in DRAM. -/
def moveInHand (b : Block) (o : RowOwner) (row surf sector : Nat) : Bool :=
  let hit := fun (x : MediaReq) => match x.for_ with
    | .moved p k s i _ => decide (p = o ∧ k = row ∧ s = surf ∧ i = sector)
    | _ => false
  (List.finRange 4).any (fun a => (actQueue b a).any hit) || b.xl.beyond.any hit || b.xl.active.any hit

/-- Where a row's sector on a surface is read (R382): its surface, track and logical sector. -/
def sectorSpot (b : Block) (l : RowLog) (k s sector : Nat) : Nat × Nat × Nat :=
  let t := rowTrack b l k s
  match b.xl.reloc.find? (fun e => e.1 = sectorKey s t (positionOf b s t sector)) with
  | some e => (e.2 / 2 ^ 36, e.2 / 2 ^ 14 % 2 ^ 22, e.2 % 2 ^ 14)
  | none => (s, t, sector)

/-- A row's sector on a surface cannot be read where it is (R437). -/
def sectorMissing (b : Block) (o : RowOwner) (l : RowLog) (k s sector : Nat) : Bool :=
  let p := sectorSpot b l k s sector
  if p = (s, rowTrack b l k s, sector) then trackMissing b o l k s else surfNoRead b p.1

end Sys2Proof.Machine
end

