-- ==== Sys2Proof/Machine/NandLog.lean ====
section
/-! DEFINITION. The NAND as a log (R460 to R463, R472, R474): blocks and superblocks, the pages that a pool writes next, the journal on
both dies (R470), the HOLDUP reserve (R466 to R469), and dirty DRAM written to the write stage or, in HOLDUP, to the reserve (R102,
R114, R126). -/

namespace Sys2Proof.Machine

/-! ### Blocks -/

/-- A block's die. -/
def blkDie (n : Nat) : Nat := n / 1392
/-- A block's plane. -/
def blkPlane (n : Nat) : Nat := n % 1392 / 348

/-- A block that serves: neither a factory bad block nor retired. -/
def blkGood (b : Block) (n : Nat) : Bool := decide (n < 2784) && !(nandBlock b n).factoryBad && !(nandBlock b n).retired

/-- A good block that is erased, serves no pool and is outside the HOLDUP reserve. -/
def blkFree (b : Block) (n : Nat) : Bool :=
  let x := nandBlock b n
  blkGood b n && decide (x.pool = .none ∧ x.ptr = 0) && x.erased && !inReserve b n

/-- A page of a block is known erased (R472). -/
def knownErased (x : NBlock) (page : Nat) : Bool := x.erased && decide (x.ptr ≤ page ∧ page < 2048)

/-- A block whose next page may be programmed. -/
def blkOpen (b : Block) (n : Nat) : Bool :=
  let x := nandBlock b n
  blkGood b n && knownErased x x.ptr && !x.scan

/-- Keys of valid slots of a block, in slot order, with their slots. -/
def validSlots (b : Block) (n : Nat) : List (Nat × NSlot) := (nandBlock b n).slots.filter (fun e => e.2.valid)

/-- The block of a list with the least of a measure, the first of equals. -/
def leastBlk (f : Nat → Nat) : List Nat → Option Nat
  | [] => none
  | n :: ns => match leastBlk f ns with
    | some m => if f m < f n then some m else some n
    | none => some n

/-- The pool of a role's code: 1 reserve, 2 journal, 3 Sepia, 4 write stage, 5 spare, 6 media cache (R463). -/
def poolOf (role : Fin 7) : NPool :=
  if role = 1 then .reserve else if role = 2 then .journal else if role = 3 then .sepia else if role = 4 then .stage
  else if role = 5 then .spare else if role = 6 then .cache else .none

/-! ### Superblocks (R462, R463, R474) -/

/-- The free blocks of a plane. -/
def planeFree (b : Block) (die plane : Nat) : List Nat :=
  ((List.range 348).map (fun i => 1392 * die + 348 * plane + i)).filter (blkFree b)

/-- The free superblocks of a die: one block of each plane makes one. -/
def freeSbs (b : Block) (die : Nat) : Nat :=
  ((List.range 4).map (fun p => (planeFree b die p).length)).foldl min 348

/-- The free superblock of a die with the lowest erase counts (R474). -/
def freeSb (b : Block) (die : Nat) : Option (List Nat) :=
  let bs := (List.range 4).filterMap (fun p => leastBlk (fun n => (nandBlock b n).ec) (planeFree b die p))
  if bs.length = 4 then some bs else none

/-- Blocks that a pool may hold (R463, R481, R486): a smaller setting takes no block away, and the pool takes none until it is under
it. -/
def poolSize (b : Block) (pool : NPool) : Nat :=
  match pool with
  | .journal => b.cfgN .NND_JRNL_BLOCKS
  | .sepia => b.cfgN .NND_SEP_BLOCKS
  | .stage => stageBlocks b
  | .cache => cacheBlocks b
  | _ => 0

/-- Blocks that a pool holds. -/
def poolCount (b : Block) (pool : NPool) : Nat := ((b.ns.sbs.filter (fun s => s.pool = pool)).map (fun s => s.blocks.length)).sum

/-- Blocks taken into a pool as a superblock of its. -/
def takeBlocks (b : Block) (pool : NPool) (bs : List Nat) : Block :=
  bs.foldl (fun b n => putNand b n { nandBlock b n with pool := pool }) (b.onNs (fun s => { s with sbs := s.sbs ++ [⟨pool, bs⟩] }))

/-- A free superblock of a die taken into a pool: within the pool's size, or from the headroom of the spare pool for a copy (R463). -/
def takeSb (b : Block) (pool : NPool) (die : Nat) (copy : Bool) : Option (List Nat × Block) :=
  if !copy && decide (poolSize b pool < poolCount b pool + 4) then none
  else (freeSb b die).map (fun bs => (bs, takeBlocks b pool bs))

/-- The die with the more free superblocks. -/
def roomierDie (b : Block) : Nat := if freeSbs b 0 < freeSbs b 1 then 1 else 0

/-- The blocks of a superblock that are programmed next (R462): all four together where they stand at the same page, else the first
of those at the lowest page. -/
def nextOf (b : Block) (bs : List Nat) : List Nat :=
  let us := bs.filter (blkOpen b)
  let m := us.foldl (fun m n => min m (nandBlock b n).ptr) 2048
  let ms := us.filter (fun n => decide ((nandBlock b n).ptr = m))
  if ms.length = 4 then ms else ms.take 1

/-- The blocks that a pool's log is written to next (R474): those of an open superblock, on one die where the pool keeps one log on
each, else of a new superblock. -/
def nextBlocks (b : Block) (pool : NPool) (die : Option Nat) : Option (List Nat × Block) :=
  match (b.ns.sbs.filter (fun s => decide (s.pool = pool) && (match die with
      | some d => s.blocks.any (fun n => blkDie n = d)
      | none => true))).find? (fun s => !(nextOf b s.blocks).isEmpty) with
  | some s => some (nextOf b s.blocks, b)
  | none => takeSb b pool (die.getD (roomierDie b)) false

/-- The die's temperature in 0.1 °C, as its sensor last read it (R478, R612). -/
def dieTemp (b : Block) (die : Nat) : Int := bitsSigned 16 (b.get .THM_SENS_n_NOW (20 + die))

/-- One page programmed with up to four slots: the pointer passes it, the first program of a block records its hour and die
temperature (R478), and the map follows. -/
def programPage (b : Block) (n : Nat) (pool : NPool) (keys : List Nat) : Block :=
  let x := nandBlock b n
  let hour := b.now / 3600000000
  let x := if x.ptr = 0 then { x with hour := hour, temp := dieTemp b (blkDie n) } else x
  let at_ := keys.zip (List.range keys.length)
  let slots := at_.foldl (fun m e =>
    ninsert (nerase m (4 * x.ptr + e.2)) (4 * x.ptr + e.2) ⟨e.1, pool, nget 0 b.xl.data e.1, b.ns.seq + e.2, true⟩) x.slots
  let b := putNand b n { x with pool := pool, ptr := x.ptr + 1, slots := slots, wrote := hour, ckpt := b.ns.ckpts }
  b.onNs (fun s => { s with
    seq := (s.seq + keys.length) % 2 ^ 32
    map := at_.foldl (fun m e => ninsert (nerase m e.1) e.1 (8192 * n + 4 * x.ptr + e.2 + 1)) s.map })

/-- Pages of the same number programmed in each of some blocks, four slots to a page. -/
def programBlocks (pool : NPool) : List Nat → Block → List Nat → Block
  | [], b, _ => b
  | n :: ns, b, keys => programBlocks pool ns (programPage b n pool (keys.take 4)) (keys.drop 4)

/-- Slots written as a pool's log; at most m programs. -/
def writeSlots (pool : NPool) : Nat → Block → List Nat → Block
  | 0, b, _ => b
  | m + 1, b, keys =>
    if keys.isEmpty then b
    else match nextBlocks b pool none with
      | some (bs, b) => writeSlots pool m (programBlocks pool bs b (keys.take (4 * bs.length))) (keys.drop (4 * bs.length))
      | none => b

/-! ### The journal (R470) -/

/-- One journal page programmed on a die. -/
def journalCopy (b : Block) (die : Nat) : Block :=
  match nextBlocks b .journal (some die) with
  | some (bs, b) => programBlocks .journal (bs.take 1) b []
  | none => b

/-- The journal's tail is programmed as a page on both dies (R470). -/
def journalPage (b : Block) : Block :=
  if b.ns.tail = 0 then b
  else journalWritten ((journalCopy (journalCopy b 0) 1).onNs (fun s => { s with jrnlPages := s.jrnlPages + 1 }))

/-- A checkpoint of all the tables written on both dies (R470). -/
def checkpoint (b : Block) : Block :=
  journalWritten ((journalCopy (journalCopy b 0) 1).onNs (fun s => { s with jrnlPages := 0, ckptAt := b.now, ckpts := s.ckpts + 1 }))

/-! ### Dirty DRAM to the NAND -/

/-- One staged block is in the NAND: it is no longer dirty, and its DRAM copy is held until it is on media; a cached write's slot is
its media-cache entry (R464, R465). -/
def stageBlock (b : Block) (key : Nat) : Block :=
  let cached := b.xl.cached.any (fun c => c.1 = key)
  let b := dirtyDrop (if nget 0 b.ns.map key ≠ 0 then dropSlot b key else b) key
  if cached then b else b.onXl (fun x => { x with staged := x.staged.filter (· ≠ key) ++ [key] })

/-- At most m programs of dirty blocks to the write stage, oldest first. A block overtaken by a later one of its key goes with it. -/
def stagePages : Nat → Block → Block
  | 0, b => b
  | m + 1, b =>
    if b.xl.dirty.isEmpty then b
    else match nextBlocks b .stage none with
      | some (bs, b) =>
        let keys := ((b.xl.dirty.take (4 * bs.length)).map (fun d => d.key)).eraseDups
        stagePages m (programBlocks .stage bs (keys.foldl stageBlock b) keys)
      | none => b

/-- Dirty DRAM destaged to the NAND (R102, R126): nothing is dirty any longer, as far as the write stage has room. -/
def flushDirty (b : Block) : Block := journalPage (stagePages b.xl.dirty.length b)

/-! ### The HOLDUP reserve (R466 to R469) -/

/-- The superblocks wanted in the reserve: two for data and one for metadata on each die. -/
def rsvWanted : List (Nat × Bool) := [(0, false), (0, false), (0, true), (1, false), (1, false), (1, true)]

/-- The reserve's place k filled with an erased superblock of its die, where the place stands empty. -/
def fillRsv (b : Block) (w : Nat × Bool) : Block :=
  let have_ := (b.ns.rsv.filter (fun r => decide (r.die = w.1 ∧ r.forMeta = w.2))).length
  if (rsvWanted.filter (· = w)).length ≤ have_ then b
  else match freeSb b w.1 with
    | some bs => b.onNs (fun s => { s with rsv := s.rsv ++ [⟨w.1, w.2, bs⟩] })
    | none => b

/-- A superblock of the reserve that is no longer whole and erased. -/
def rsvSpent (b : Block) (r : NRsv) : Bool :=
  !r.blocks.all (fun n => blkGood b n && (nandBlock b n).erased && decide ((nandBlock b n).ptr = 0))

/-- The reserve replenished (R466): superblocks that a flush has used leave it, to be freed once what they hold has been restaged, and
erased ones take their places. -/
def replenish (b : Block) : Block :=
  let used := b.ns.rsv.filter (rsvSpent b)
  let b := b.onNs (fun s => { s with rsv := s.rsv.filter (fun r => !decide (r ∈ used)) })
  let b := used.foldl (fun b r => takeBlocks b .reserve (r.blocks.filter (fun n => blkGood b n && !blkFree b n))) b
  rsvWanted.foldl fillRsv b

/-- The blocks of the reserve that are programmed next, by superblock of a die. -/
def rsvNext (b : Block) (die : Nat) (forMeta : Bool) : List (List Nat) :=
  ((b.ns.rsv.filter (fun r => decide (r.die = die ∧ r.forMeta = forMeta))).map (fun r => nextOf b r.blocks)).filter (fun g => !g.isEmpty)

/-- The metadata superblocks of both dies receive a program (R468): the pending list and the journal head, or the seal. -/
def metaPages (b : Block) : Block :=
  (List.range 2).foldl (fun b d => programBlocks .reserve ((rsvNext b d true).headD []) b []) b

/-- The flush starts: its data is divided between the dies in proportion to their ready data superblocks (R468). -/
def startFlush (b : Block) : Block :=
  metaPages (journalWritten (b.onNs (fun s => { s with
    share := #v[rsvReady b 0 false, rsvReady b 1 false], flushed := Vector.replicate 2 0 })))

/-- The die that takes the flush's next pages: the one that is behind its share, or the other where it has no page left (R468,
R469). -/
def flushDie (b : Block) : Nat :=
  let s := b.ns.share
  let f := b.ns.flushed
  if (rsvNext b 0 false).isEmpty then 1
  else if (rsvNext b 1 false).isEmpty then 0
  else if f[0] * s[1] ≤ f[1] * s[0] then 0 else 1

/-- The oldest dirty blocks programmed into blocks of the reserve, four to a page, in receipt order (R114, R468). -/
def flushInto (b : Block) (bs : List Nat) : Block :=
  let keys := ((b.xl.dirty.take (4 * bs.length)).map (fun d => d.key)).eraseDups
  let b := programBlocks .reserve bs (keys.foldl stageBlock b) keys
  b.onNs (fun s => { s with flushed := s.flushed.mapIdx (fun d f => if blkDie (bs.headD 0) = d then f + bs.length else f) })

/-- At most m programs of the flush. -/
def flushPages : Nat → Block → Block
  | 0, b => b
  | m + 1, b =>
    if b.xl.dirty.isEmpty then b
    else match (rsvNext b (flushDie b) false).head? with
      | some bs => flushPages m (flushInto b bs)
      | none => b

/-- The n oldest dirty blocks flushed to the reserve in receipt order (R114, R468). -/
def flushReserve (b : Block) (n : Nat) : Block :=
  let rest := b.xl.dirty.drop n
  let b := flushPages n (b.onXl (fun x => { x with dirty := x.dirty.take n }))
  refreshDirty (b.onXl (fun x => { x with dirty := x.dirty ++ rest }))

/-! ### HOLDUP and loss of power (R472, R496) -/

/-- Blocks that lose their known-erased status beyond the pointer. -/
def notErased (b : Block) (ns : List Nat) : Block := ns.foldl (fun b n => putNand b n { nandBlock b n with erased := false }) b

/-- A copy abandoned (R496): the source stays mapped, and its target is to be erased. -/
def abandonCopy (b : Block) (c : NCopy) : Block :=
  notErased (b.onNs (fun s => { s with copies := s.copies.filter (fun d => d ≠ c) })) c.target

/-- HOLDUP abandons the erases and copies in progress (R472, R496). -/
def abandonNand (b : Block) : Block :=
  let erasing := b.ns.erases.toList.flatMap (fun e => match e with | some x => x.blocks | none => [])
  let b := notErased (b.onNs (fun s => { s with erases := Vector.replicate 2 none })) erasing
  b.ns.copies.foldl abandonCopy b

/-- A NAND block that is open at the seal, or when power goes, loses its known-erased status (R472). -/
def nandPowerLoss (x : NBlock) : NBlock := if 0 < x.ptr ∧ x.ptr < 2048 then { x with erased := false } else x

/-- The journal is sealed: every open block loses its known-erased status (R472). -/
def sealNand (b : Block) : Block :=
  journalWritten ((metaPages b).onNs (fun s => { s with blocks := s.blocks.map (fun (e : Nat × NBlock) => (e.1, nandPowerLoss e.2)) }))

/-- The first BOOT reads the factory bad-block marks into the grown-defect table and fills the reserve (R463, R476). -/
def readMarks (b : Block) : Block :=
  if b.ns.factory.isSome then b
  else
    let marks := (b.ns.marks.filter (· < 2784)).eraseDups
    let b := marks.foldl (fun b n => putNand b n { nandBlock b n with factoryBad := true }) b
    replenish (b.onNs (fun s => { s with factory := some (2784 - marks.length) }))

end Sys2Proof.Machine
end

