-- ==== Sys2Proof/Machine/Commands.lean ====
section
/-! DEFINITION. I/O commands in execution: who they are, the fences that hold them (R557 to R563), reservations (R570), the
zone actions and admin commands that wait for others (R569, R585, R586, R591), and how a command ends. -/

namespace Sys2Proof.Machine

/-! ### Commands in execution -/

/-- A command in execution, by its controller, queue and identifier. -/
def cmdFind (b : Block) (p : Port) (sq cid : Nat) : Option Cmd :=
  b.nvm.cmds.find? (fun c => c.port = p ∧ c.sq = sq ∧ c.cid = cid)

/-- The same command. -/
def sameCmd (c d : Cmd) : Bool := decide (c.port = d.port ∧ c.sq = d.sq ∧ c.cid = d.cid)

/-- A command in execution replaced. -/
def putCmd (b : Block) (c : Cmd) : Block :=
  b.onNvm (fun n => { n with cmds := updFirst (sameCmd c) (fun _ => c) n.cmds })

/-- The most I/O commands in execution since power-on (R575). -/
def execPeak (b : Block) : Block := b.put .NV_EXEC_PEAK 0 (max (b.get .NV_EXEC_PEAK 0) (min 4096 (execNow b)))

/-- A command no longer in execution: what its reads still bring is dropped. -/
def dropCmd (b : Block) (c : Cmd) : Block :=
  let b := b.onNvm (fun n => { n with cmds := n.cmds.filter (fun d => !sameCmd c d) })
  let b := b.onPx c.port (fun x => { x with
    out := updAll (fun (o : OutRead) => decide (o.for_ = .command c.sq c.cid)) (fun o => { o with for_ := .gone }) x.out })
  refreshLtr b c.port

/-- The blocks a command reads: a Copy's sources, or its own range. -/
def cmdSources (c : Cmd) : List Nat := if c.kind = .copy then c.src else (List.range c.nlb).map (fun i => c.slba + i)

/-- The data a read returns: the block's latest fully received data (R555), deciphered as it leaves the media or the NAND (R33,
R87), and zero where none is. -/
def readTokens (b : Block) (nsid : Nat) (lbas : List Nat) : List Nat :=
  lbas.map (fun l =>
    match nsFind b nsid with
    | some n => (match nget 0 b.xl.data (blockKey nsid l) with | 0 => 0 | c + 1 => plainUnit b n l c)
    | none => 0)

/-- The actuator that a job holds out of service: its number plus 1 is the fourth parameter while it does. -/
def jobAct (j : Job) : Option Nat := if j.params.getD 3 0 = 0 then none else some (j.params.getD 3 0 - 1)

/-- A job replaced by its slot. -/
def putJob (b : Block) (j : Job) : Block :=
  b.onNvm (fun n => { n with jobs := updFirst (fun x => x.slot = j.slot) (fun _ => j) n.jobs })

/-- The counts of a job that runs, of a type, advanced (R605). -/
def countJob (b : Block) (type da db : Nat) : Block :=
  let mine := fun (j : Job) => decide (j.type = type) && (decide (j.state = 2) || decide (j.state = 3))
  let add := fun (j : Job) => { j with countA := j.countA + da, countB := j.countB + db }
  b.onNvm (fun n => { n with jobs := updFirst mine add n.jobs })

/-- The result of a Device Self-test entered in its log, newest first, of 20 (R593, log entry 6): self-test code, and 0 no failure,
2 ended by a reset, 7 a segment failed, 8 ended otherwise. -/
def enterSelfTest (b : Block) (p : Port) (code result : Nat) : Block :=
  b.onNv p (fun c => { c with selfTests := ((code, result) :: c.selfTests).take 20 })

/-- A job that a Device Self-test started, as its fifth parameter tells, is entered in that log when it ends (R593). -/
def logSelfTest (b : Block) (j : Job) (result : Nat) : Block :=
  if j.params.getD 4 0 = 1 then
    enterSelfTest b j.ctrl 2 (if result = 0 then 0 else if result = 3 then 2 else if result = 2 then 8 else 7) else b

/-- The Job Ended event (R600). -/
def jobEvent (b : Block) (p : Port) : Block :=
  let other : Port := 1 - p
  let b := asyncEvent b p 7 0x80 0xC2
  if bit (feat b other 0xC0 0) 0 then asyncEvent b other 7 0x80 0xC2 else b

/-! ### Namespaces, fences and reservations -/

/-- A namespace attached to a controller (R569). -/
def nsAttached (b : Block) (p : Port) (nsid : Nat) : Option Namespace := (nsFind b nsid).filter (fun n => bit n.attached p.val)

/-- A fence concerns commands to a namespace (R557, R559): it names it, or it is a broadcast of a controller the namespace is
attached to. -/
def fenceConcerns (b : Block) (f : Cmd) (nsid : Nat) : Bool :=
  decide (f.nsid = nsid) || (decide (f.nsid = 0xFFFFFFFF) && (nsAttached b f.port nsid).isSome)

/-- The fences in execution that come before an entry in the list of commands in execution, which is in order of fetch. -/
def fencesBefore : List Cmd → Cmd → List Cmd
  | [], _ => []
  | d :: ds, c => if sameCmd c d then [] else if d.kind = .fence then d :: fencesBefore ds c else fencesBefore ds c

/-- A command is after a fence in execution and held by it (R559, R561). -/
def fenceHolds (b : Block) (c : Cmd) : Bool :=
  b.nvm.cmds.any (fun f => decide (f.kind = .fence) && !sameCmd c f && decide (f.stamp < c.stamp) && fenceConcerns b f c.nsid) ||
    (fencesBefore b.nvm.cmds c).any (fun f => decide (f.stamp = c.stamp) && fenceConcerns b f c.nsid)

/-- The host of a controller holds a namespace's reservation (R570): types 5 and 6 are held by every registrant. -/
def holdsReservation (n : Namespace) (r : Reservation) (host : Nat) : Bool :=
  decide (r.holder = host) || (decide (5 ≤ r.kind) && n.registrants.any (fun x => x.1 = host))

/-- A command conflicts with a namespace's reservation (R570), by the six types: 1 Write Exclusive, 2 Exclusive Access, 3 and
4 the same for registrants only, 5 and 6 for all registrants. -/
def reservationConflict (b : Block) (p : Port) (n : Namespace) (write : Bool) : Bool :=
  match n.reservation with
  | none => false
  | some r =>
    let host := (vget b.nv p).hostId
    let registered := n.registrants.any (fun x => x.1 = host)
    let open_ := holdsReservation n r host || (decide (3 ≤ r.kind) && registered)
    if r.kind % 2 = 1 then write && !open_ else !open_

/-! ### A zone's work withdrawn (R387, R398, R591) -/

/-- The data requests of an owner's rows that are in hand. -/
def dataReqs (b : Block) (o : RowOwner) : List (Nat × Nat × MediaReq) :=
  let all := ((List.finRange 4).flatMap (actQueue b)) ++ b.xl.beyond ++ b.xl.active
  all.filterMap (fun r => match r.for_ with | .data o' k j => if o' = o then some (k, j, r) else none | _ => none)

/-- The offsets of an owner's rows whose received blocks are not on the media yet. -/
def unreleased (b : Block) (o : RowOwner) (l : RowLog) : List Nat :=
  let rs := dataReqs b o
  (List.range l.wp).filter (fun off => decide (l.queued ≤ off) || rs.any (fun x =>
    let base := x.1 * rowBlocks l + x.2.1 * l.t + x.2.2.first
    decide (base ≤ off ∧ off < base + x.2.2.count)))

/-- A request is made for an owner's rows. -/
def reqOfOwner (o : RowOwner) (r : MediaReq) : Bool :=
  match r.for_ with
  | .data o' _ _ => decide (o' = o)
  | .parity o' _ _ => decide (o' = o)
  | .moved o' _ _ _ _ => decide (o' = o)
  | _ => false

/-- Everything in hand for an owner's rows given up: requests, accumulators, degraded and pending rows. -/
def dropOwner (b : Block) (o : RowOwner) : Block :=
  let b := match ownerLog b o with
    | some l => (unreleased b o l).foldl (fun b off =>
        match ownerBlock b o off with
        | some key => if hostOffset b o off then releaseBlock b o key else b
        | none => b) b
    | none => b
  let b := b.onXl (fun x => { x with
    queues := x.queues.map (fun q => q.filter (fun r => !reqOfOwner o r))
    beyond := x.beyond.filter (fun r => !reqOfOwner o r)
    active := x.active.filter (fun r => !reqOfOwner o r)
    openRows := x.openRows.filter (fun y => !decide (y.owner = o))
    degraded := x.degraded.filter (fun d => !decide (d.1 = o)) })
  let pend := b.pwr.pending.filter (fun r => !decide (r.owner = o))
  let b := { b with
    pwr := { b.pwr with pending := pend, provisional := b.pwr.provisional.filter (fun r => !decide (r.owner = o)) } }
  b.put .PWR_PENDING_ROWS 0 pend.length

/-- A band emptied on a surface (R387, R392, R398, R382, R375): a new generation, a new stamp, no copy of it, no relocated
sector in it, and its grown defects take effect. -/
def renewBand (b : Block) (g s : Nat) : Block :=
  let phys := bandOf b g s
  let x := bandInfo b phys s
  let t := (vget b.ast ⟨s / 6 % 4, by omega⟩).temp
  let b := putBand b phys s ⟨(x.gen + 1) % 2 ^ 32, b.now / 3600000000 % 2 ^ 24, t, 0⟩
  let inBand := fun (k : Nat) => decide (k / 2 ^ 36 = s) && decide (trackBand b (k / 2 ^ 14 % 2 ^ 22) = phys)
  b.onXl (fun x => { x with
    due := x.due.filter (fun d => d.1 ≠ phys * 32 + s)
    copies := x.copies.filter (fun c => !decide (c.band = g ∧ c.surf = s))
    taken := x.taken.filter (fun t => !x.copies.any (fun c => decide (c.band = g ∧ c.surf = s ∧ t = c.target * 32 + s)))
    reloc := x.reloc.filter (fun e => !inBand e.1)
    defects := x.defects ++ (x.grown.filter inBand).filter (fun k => !decide (k ∈ x.defects))
    grown := x.grown.filter (fun k => !inBand k) })

/-- The user data of a range of blocks is no longer addressable, and its lost sectors are forgotten (R387, R433). -/
def eraseRange (b : Block) (nsid lba n : Nat) : Block :=
  let out := fun (k : Nat) => !decide (blockKey nsid lba ≤ k ∧ k < blockKey nsid lba + n)
  b.onXl (fun x => { x with data := x.data.filter (fun e => out e.1), lost := x.lost.filter out })

/-- Extension band sets with no live segment are free again (R449). -/
def freeExtensions (b : Block) : Block :=
  b.onXl (fun x => { x with extSets := x.extSets.filter (fun g =>
    x.zones.any (fun z => match z.log.ext with | some e => decide (e.1 = g) | none => false)) })

/-- A row layout with nothing written. -/
def emptyLog (b : Block) (g m : Nat) : RowLog := ⟨g, none, [], m, zoneT b (setPlace b g).1, 0, 0, 0, []⟩

/-- A zone returned to Empty (R387); a rebuilt zone becomes an ordinary one on a free band-set index (R449). -/
def zoneToEmpty (b : Block) (z : Zone) : Block :=
  let b := dropOwner b (zoneOwner z)
  let b := z.log.surfs.foldl (fun b s => renewBand b z.log.band s) b
  let b := eraseRange b z.nsid (z.k * zoneSize) zoneSize
  let free := { z with state := ZState.empty, log := emptyLog b z.log.band z.log.m, expected := 0, cap := 0, rebuilt := false }
  let b := freeExtensions (putZone b free)
  if z.rebuilt then
    let g := ((freeSets b).filter (fun g => g ≠ z.log.band)).headD z.log.band
    putZone b { free with log := emptyLog b g z.log.m }
  else b

/-- A zone leaves Empty: its rows run over the present active surfaces, and its capacity is fixed (R379, R381). -/
def zoneBegun (b : Block) (z : Zone) : Zone :=
  if z.state = .empty then
    { z with cap := zoneCap b z, log := { z.log with surfs := activeSurfs b } }
  else z

/-! ### Zone actions (R585) -/

/-- Zones may be active, and open, up to `XLT.MAX_ACTIVE` (R386): none, or the status of the limit that opening a zone
exceeds. -/
def openLimit (b : Block) (z : Zone) : Option Status :=
  if !zoneIsActive z && decide (b.cfgN .XLT_MAX_ACTIVE ≤ activeZones b) then some .tooManyActive
  else if !zoneIsOpen z && decide (b.cfgN .XLT_MAX_ACTIVE ≤ openZones b) then some .tooManyOpen
  else none

/-- A write rejected under R383 or R404, counted in `XL_WREJ`. -/
def countRejected (b : Block) (st : Status) : Block :=
  if st = .zoneInvalidWrite then b.bump .XL_WREJ_ZIW 0
  else if st = .capacityExceeded then b.bump .XL_WREJ_CAPEX 0 else b

/-- Close. -/
def zoneClose (b : Block) (z : Zone) : Block × Status :=
  if zoneIsOpen z then (putZone b { z with state := .closed }, .success)
  else if z.state = .closed then (b, .success) else (b, .zoneTransition)

/-- Open. -/
def zoneOpen (b : Block) (z : Zone) : Block × Status :=
  if z.state = .explicit then (b, .success)
  else if z.state ∈ [.empty, .closed, .implicit] then
    match openLimit b z with
    | some st => (b, st)
    | none => (putZone b { zoneBegun b z with state := .explicit }, .success)
  else (b, .zoneTransition)

/-- Finish (R385, R404): the rest of the open row is fill, and its parity follows. -/
def zoneFinish (b : Block) (z : Zone) : Block × Status :=
  if z.state = .full then (b, .success)
  else if z.state ∈ [.readOnly, .offline] then (b, .zoneTransition)
  else if b.get .XL_STATE_RO 0 = 1 then (countRejected b .capacityExceeded, .capacityExceeded)
  else (fillRow (putZone b { zoneBegun b z with state := .full }) (zoneOwner z), .success)

/-- Reset (R387). -/
def zoneReset (b : Block) (z : Zone) : Block × Status :=
  if z.state = .empty then (b, .success)
  else if z.state ∈ [.readOnly, .offline] then (b, .zoneTransition)
  else (zoneToEmpty b z, .success)

/-- Offline (R443): from Read Only alone; the zone's bands are free, as an index bound to no zone. -/
def zoneOffline (b : Block) (z : Zone) : Block × Status :=
  if z.state = .offline then (b, .success)
  else if z.state = .readOnly then
    let b := zoneToEmpty b z
    (match zoneFind b z.nsid z.k with | some y => putZone b { y with state := .offline } | none => b, .success)
  else (b, .zoneTransition)

/-- A zone action by its code: 1 Close, 2 Finish, 3 Open, 4 Reset, 5 Offline. -/
def zoneAction (b : Block) (z : Zone) (act : Nat) : Block × Status :=
  if act = 1 then zoneClose b z else if act = 2 then zoneFinish b z else if act = 3 then zoneOpen b z
  else if act = 4 then zoneReset b z else zoneOffline b z

/-- The zones that Select All chooses for an action, as NVMe defines them (log entry 6). -/
def selectAll (act : Nat) (z : Zone) : Bool :=
  if act = 1 then zoneIsOpen z
  else if act = 2 then zoneIsActive z
  else if act = 3 then decide (z.state = .closed)
  else if act = 4 then zoneIsActive z || decide (z.state = .full)
  else decide (z.state = .readOnly)

/-- The zones a waiting action acts on, as their numbers; `nlb` 0 stands for Select All. -/
def actionZones (b : Block) (c : Cmd) (act : Nat) : List Nat :=
  if c.nlb = 0 then
    (List.range ((nsFind b c.nsid).map (fun n => n.size / zoneSize) |>.getD 0)).filter (fun k =>
      match zoneFind b c.nsid k with | some z => selectAll act z | none => false)
  else [c.slba / zoneSize]

/-- A command in execution reaches a zone's blocks. -/
def cmdInZone (c : Cmd) (nsid k : Nat) : Bool :=
  decide (c.nsid = nsid) && decide (c.kind ≠ .fence) &&
    (match c.kind with | .zone _ => decide (c.nlb = 0 ∨ c.slba / zoneSize = k)
                       | .instant _ => false
                       | _ => decide (c.slba / zoneSize ≤ k ∧ k ≤ (c.slba + c.nlb - 1) / zoneSize))

/-- The commands before one in the list of commands in execution. -/
def cmdsBefore : List Cmd → Cmd → List Cmd
  | [], _ => []
  | d :: ds, c => if sameCmd c d then [] else d :: cmdsBefore ds c

/-- A zone action whose zones no earlier command in execution reaches (R586). -/
def actionReady (b : Block) (c : Cmd) (act : Nat) : Bool :=
  let before := cmdsBefore b.nvm.cmds c
  (actionZones b c act).all (fun k => !before.any (fun d => cmdInZone d c.nsid k))

/-- A zone action done on each of its zones in ascending order: the first status that is no success stands. -/
def actOnZones (b : Block) (c : Cmd) (act : Nat) : Block × Status :=
  (actionZones b c act).foldl (fun r k =>
    match zoneFind r.1 c.nsid k with
    | some z => let x := zoneAction r.1 z act
                (x.1, if r.2 = .success then x.2 else r.2)
    | none => r) (b, .success)

/-! ### Namespaces deleted (R388, R591) -/

/-- Data space of the conventional pool at the present active surfaces (R388), for parity counts up to the largest. -/
def poolSpace (b : Block) (pool : List Nat) (m : Nat) : Nat :=
  let w := b.cfgN .XLT_CONV_WIDTH
  let n := (activeSurfs b).length
  (pool.map (fun g => b.cfgN .FMT_BAND_TRK * zoneT b (setPlace b g).1 * n * (w - m) / max 1 w)).sum

/-- The data space that the conventional namespaces call for (R388). -/
def poolNeed (b : Block) : Nat :=
  ((b.xl.namespaces.filter (fun n => !n.zoned)).map (fun n => ceilDiv (n.size * 100) (100 - b.cfgN .XLT_CONV_OP))).sum

/-- Pool indices without a group given back as far as the remaining namespaces do not call for them. -/
def shrinkPool (b : Block) : Block :=
  b.xl.pool.foldl (fun b g =>
    let rest := b.xl.pool.filter (· ≠ g)
    if b.xl.groups.any (fun x => x.log.band = g) then b
    else if poolNeed b ≤ poolSpace b rest (convM b) then b.onXl (fun x => { x with pool := rest }) else b) b

/-- A job that holds no actuator ends with a result (R597, R600). -/
def closeJob (b : Block) (j : Job) (result : Nat) : Block :=
  let (f, b) := b.fresh 10001
  let b := logSelfTest b j result
  jobEvent (putJob b { j with
    state := 4, result := result, stop := b.now, retrieved := false, progress := if result = 0 then 10000 else f }) j.ctrl

/-- Namespace Attribute Changed at the controllers of a mask, with the namespace in their Changed Namespace List (R569). -/
def nsNotice (b : Block) (mask nsid : Nat) : Block :=
  (List.finRange 2).foldl (fun b p =>
    if bit mask p.val then
      let b := b.onNv p (fun c => { c with changedNs := if nsid ∈ c.changedNs then c.changedNs else c.changedNs ++ [nsid] })
      notice b p 8 0x00 0x04
    else b) b

/-- A conventional group freed: its bands are free, and its extents invalid. -/
def freeGroup (b : Block) (g : Group) : Block :=
  let b := dropOwner b (.conv g.id)
  let b := g.log.surfs.foldl (fun b s => renewBand b g.log.band s) b
  b.onXl (fun x => { x with
    groups := x.groups.filter (fun y => y.id ≠ g.id)
    extents := x.extents.filter (fun e => (e.2 - 1) / 2 ^ 20 ≠ g.id) })

/-- Closed media-cache rows that hold no cached block any longer are free (R391). -/
def freeMcRows (b : Block) : Block :=
  let empty := b.xl.mcRows.filter (fun r => r.closed && !b.xl.cached.any (fun c => decide (0 < c.2 ∧ (c.2 - 1) / 2 ^ 20 = r.id)))
  empty.foldl (fun b r => (dropOwner b (.mcache r.id)).onXl (fun x => { x with mcRows := x.mcRows.filter (fun y => y.id ≠ r.id) })) b

/-- The open media-cache row closed at its present end (R423, R442). -/
def closeMcRow (b : Block) : Block :=
  let open_ := b.xl.mcRows.filter (fun r => !r.closed)
  freeMcRows (open_.foldl (fun b r =>
    fillRow (b.onXl (fun x => { x with mcRows := updFirst (fun y => y.id = r.id) (fun y => { y with closed := true }) x.mcRows }))
      (.mcache r.id)) b)

/-- What a namespace holds is gone (R89, R591): its zones are Empty but for those Offline, and its groups, cached blocks and lost
sectors are freed. -/
def wipeNamespace (b : Block) (nsid : Nat) : Block :=
  let b := (b.xl.zones.filter (fun z => z.nsid = nsid ∧ z.state ≠ .offline)).foldl (fun b z => zoneToEmpty b z) b
  let b := (b.xl.groups.filter (fun g => g.nsid = nsid)).foldl freeGroup b
  let mine := b.xl.cached.filter (fun c => c.1 / 2 ^ 48 = nsid)
  let b := mine.foldl (fun b c => if nget 0 b.ns.map c.1 ≠ 0 then dropSlot b c.1 else dirtyDrop b c.1) b
  freeMcRows (b.onXl (fun x => { x with
    cached := x.cached.filter (fun c => c.1 / 2 ^ 48 ≠ nsid)
    data := x.data.filter (fun e => e.1 / 2 ^ 48 ≠ nsid)
    lost := x.lost.filter (fun k => k / 2 ^ 48 ≠ nsid)
    extents := x.extents.filter (fun e => e.1 / 2 ^ 32 ≠ nsid) }))

/-- A namespace's media key replaced by a new one of 512 bits, kept only wrapped under the key-encryption key (R88, R89). -/
def rekey (b : Block) (nsid : Nat) : Block :=
  let (n, b) := b.fresh 0
  b.onXl (fun x => { x with
    namespaces := updFirst (fun y => y.nsid = nsid) (fun y =>
      { y with key := Config.keyWrap.val.1 (Config.deviceKek b.fuses.secret) (Config.drbg n % 2 ^ 512) }) x.namespaces })

/-- A namespace deleted (R591): its key is destroyed, its bands, pool and lost sectors are freed, and jobs that name it end
Cancelled. -/
def deleteNamespace (b : Block) (nsid : Nat) : Block :=
  let b := wipeNamespace b nsid
  let b := b.onXl (fun x => { x with
    zones := x.zones.filter (fun z => z.nsid ≠ nsid)
    changed := x.changed.filter (fun c => c.1 ≠ nsid), told := x.told.filter (fun e => e.1 / 2 ^ 32 ≠ nsid)
    namespaces := x.namespaces.filter (fun n => n.nsid ≠ nsid) })
  let b := freeExtensions (shrinkPool b)
  (b.nvm.jobs.filter (fun j => decide (j.nsid = nsid ∧ nsid ≠ 0 ∧ j.state ≠ 4))).foldl (fun b j =>
    closeJob (if j.type = 1 then b.onNvm (fun n => { n with patrol := [] }) else b) j 2) b

/-! ### Waiting commands, and commands that end -/

/-- The data counters of the SMART log, in blocks that a command has transferred, and its host commands (R625). -/
def countHost (b : Block) (c : Cmd) (done : Bool) : Block :=
  let n := if done then c.nlb else 0
  b.onHea (fun h => match c.kind with
    | .read => { h with hostReads := h.hostReads + 1, dataRead := h.dataRead + n }
    | .verify => { h with hostReads := h.hostReads + 1 }
    | .write | .append => { h with hostWrites := h.hostWrites + 1, dataWritten := h.dataWritten + n }
    | .zeroes | .copy => { h with hostWrites := h.hostWrites + 1 }
    | .fence | .zone _ | .instant _ => h)

/-- Free bands stay at or above the Final Reserve with n more conventional blocks counted (R404). -/
def spaceFor (b : Block) (n : Nat) : Bool :=
  let c := b.onXl (fun x => { x with convPending := x.convPending + n })
  decide (finalReserve c ≤ freeBands c)

/-- The check of a write to a zone: the zone's state, then the expected pointer, the capacity and the limits of R386. -/
def zoneWriteCheck (b : Block) (z : Zone) (slba nlb : Nat) (append : Bool) : Status :=
  if z.state = .readOnly then .zoneReadOnly
  else if z.state = .offline then .zoneOffline
  else if z.state = .full then .zoneFull
  else if !append && decide (slba % zoneSize ≠ z.expected) then .zoneInvalidWrite
  else if !append && decide (zoneCap b z < z.expected + nlb) then .zoneBoundary
  else (openLimit b z).getD .success

/-- The check of a write to a namespace. -/
def writeCheck (b : Block) (n : Namespace) (slba nlb : Nat) (append : Bool) : Status :=
  if n.size < slba + nlb then .lbaOutOfRange
  else if b.get .XL_STATE_RO 0 = 1 then .capacityExceeded
  else if n.zoned then
    match zoneFind b n.nsid (slba / zoneSize) with
    | some z => zoneWriteCheck b z slba nlb append
    | none => .lbaOutOfRange
  else if spaceFor b nlb then .success else .capacityExceeded

/-- A write accepted to its zone: it is open, and the expected pointer moves (R383). A position is given to an append only
when its data is in. -/
def acceptWrite (b : Block) (n : Namespace) (slba nlb : Nat) (append : Bool) : Block :=
  if n.zoned then
    match zoneFind b n.nsid (slba / zoneSize) with
    | some z =>
      let z := zoneBegun b z
      putZone b { z with
        state := if zoneIsOpen z then z.state else .implicit
        expected := if append then z.expected else z.expected + nlb }
    | none => b
  else b

/-- A write to a zone that is not checked yet: a zone action that acts on its zone is among the commands before it, or another such
write is (R586). -/
def checkedLater (b : Block) (before : List Cmd) (c : Cmd) : Bool :=
  let k := c.slba / zoneSize
  before.any (fun d => decide (d.nsid = c.nsid) &&
    (match d.kind with
     | .zone act => decide (k ∈ actionZones b d act)
     | _ => decide (d.phase = .behind ∧ d.slba / zoneSize = k)))

/-- A write behind a zone action that is done: checked against the state it has left, and accepted or refused (R586). -/
def settleBehind (b : Block) (c : Cmd) : Block :=
  if c.phase ≠ .behind ∨ checkedLater b (cmdsBefore b.nvm.cmds c) c = true then b
  else
    match nsFind b c.nsid with
    | none => complete (dropCmd b c) c.port c.sq c.cid .invalidNamespace
    | some n =>
      match writeCheck b n c.slba c.nlb (decide (c.kind = .append)) with
      | .success => putCmd (acceptWrite b n c.slba c.nlb (decide (c.kind = .append))) { c with phase := if fenceHolds b c then .fenced else .checked }
      | st => complete (countRejected (dropCmd b c) st) c.port c.sq c.cid st

/-- A zone action that waits, done once nothing before it reaches its zones, with its completion; and a write behind one (R586). -/
def settleAction (b : Block) (c : Cmd) : Block :=
  match c.kind with
  | .zone act =>
    if c.phase = .waiting ∧ actionReady b c act = true then
      let r := actOnZones (dropCmd b c) c act
      complete r.1 c.port c.sq c.cid r.2
    else b
  | _ => settleBehind b c

/-- The namespaces that a waiting admin command acts on. -/
def waitTargets (b : Block) (w : AdminWait) : List Nat :=
  if w.nsid = 0xFFFFFFFF then b.xl.namespaces.map (fun n => n.nsid) else [w.nsid]

/-- A namespace formatted (R89): its content is gone, its media key is replaced where the erase is cryptographic, and it takes the
metadata size and the protection information asked for. -/
def formatNamespace (b : Block) (meta8 : Bool) (dps : Nat) (crypto : Bool) (nsid : Nat) : Block :=
  let b := wipeNamespace b nsid
  let b := if crypto then rekey b nsid else b
  b.onXl (fun x => { x with
    namespaces := updFirst (fun y => y.nsid = nsid) (fun y => { y with meta8 := meta8, dps := dps }) x.namespaces })

/-- What a waiting admin command does once it may. -/
def waitEffect (b : Block) (w : AdminWait) : Block :=
  match w.op with
  | .detach => b
  | .delete => (waitTargets b w).foldl deleteNamespace b
  | .format meta8 dps crypto => (waitTargets b w).foldl (formatNamespace · meta8 dps crypto ·) b
  | .sanitize =>
    let b := (waitTargets b w).foldl (fun b n => rekey (wipeNamespace b n) n) b
    b.onNvm (fun n => { n with sanitize := 1 })

/-- A cryptographic erase: a sanitize operation, or a Format NVM that does the same (R89). -/
def AdminWait.erases (w : AdminWait) : Bool :=
  match w.op with
  | .sanitize => true
  | .format _ _ crypto => crypto
  | .detach | .delete => false

/-- Power is being lost: cryptographic erases in progress are kept in the NAND, to go on at the next RUN (R89). -/
def keepErases (b : Block) : Block :=
  b.onNvm (fun n => { n with
    erases := n.erases ++ n.waits.filter AdminWait.erases, waits := n.waits.filter (fun w => !w.erases) })

/-- Cryptographic erases that a power loss cut go on, before any namespace is served (R89). -/
def resumeErases (b : Block) : Block :=
  let l := b.nvm.erases
  if l.isEmpty then b else evalSpace (l.foldl waitEffect (b.onNvm (fun n => { n with erases := [] })))

/-- An admin command whose namespaces have no command in execution from the controllers concerned (R89, R569). -/
def settleAdmin (b : Block) (w : AdminWait) : Block :=
  if b.nvm.cmds.any (fun c => (decide (c.nsid = w.nsid) || decide (w.nsid = 0xFFFFFFFF)) && bit w.mask c.port.val) then b
  else
    let b := b.onNvm (fun n => { n with waits := n.waits.filter (fun x => !decide (x.port = w.port ∧ x.cid = w.cid)) })
    complete (evalSpace (waitEffect b w)) w.port 0 w.cid .success

/-- Everything that waited for a command now ended. -/
def settleWaits (b : Block) : Block :=
  let b := b.nvm.cmds.foldl settleAction b
  b.nvm.waits.foldl settleAdmin b

/-- A command in execution ends with its completion entry; a successful read leaves the data it started with as the answer
(R555), and what waited for it goes on. -/
def finishCmd (b : Block) (c : Cmd) (st : Status) (dw0 dw1 : Nat := 0) : Block :=
  let st := if st = .success ∧ (c.kind = .read ∨ c.kind = .verify) then c.bad.getD .success else st
  let b := countHost (dropCmd b c) c (decide (st = .success))
  let b := if st ∈ [.unrecoveredRead, .guardCheck, .appTagCheck, .refTagCheck] then
      b.onHea (fun h => { h with mediaErrors := h.mediaErrors + 1 }) else b
  let b := if st = .success ∧ c.kind = .read then b.answer (.data c.data) else b
  settleWaits (complete b c.port c.sq c.cid st dw0 dw1)

/-- One media request, or one reconstructed sector, of a command has ended; the command ends with the last of them, and a Copy
has its data. -/
def cmdPart (b : Block) (p : Port) (sq cid : Nat) (st : Status) : Block :=
  match cmdFind b p sq cid with
  | none => b
  | some c =>
    let c := { c with need := c.need - 1, status := if c.status = .success then st else c.status }
    let b := putCmd b c
    if c.need ≠ 0 then b
    else if c.kind = .copy ∧ c.status = .success then putCmd b { c with phase := .receiving }
    else finishCmd b c c.status

end Sys2Proof.Machine
end

