-- ==== Sys2Proof/Machine/Surfaces.lean ====
section
/-! DEFINITION. Where a block is read from, reconstruction (R385, R437 to R440), reads of the host (R554, R555), and surface
states with what follows a change of one (R434 to R443). -/

namespace Sys2Proof.Machine

/-! ### Where a block is (R385, R389, R391) -/

/-- Where a block's data lies. -/
inductive Place where
  /-- never written: zeros, without media access -/
  | zeros
  /-- in DRAM or the NAND -/
  | near
  /-- in the lost-sector list -/
  | lost
  /-- on a track of a row -/
  | media (o : RowOwner) (off : Nat)
  deriving DecidableEq, Repr

/-- The place of an offset of an owner's rows. -/
def rowPlace (b : Block) (o : RowOwner) (off : Nat) : Place :=
  match ownerLog b o with
  | none => .zeros
  | some l =>
    if l.wp ≤ off then .zeros
    else
      let k := offRow l off
      let s := dataSurf l k (offTrack l off)
      if trackPassed l k s && !moveInHand b o k s (offSector l off) then .media o off else .near

/-- The place of a block. -/
def blockPlace (b : Block) (n : Namespace) (lba : Nat) : Place :=
  if blockKey n.nsid lba ∈ b.xl.lost then .lost
  else if n.zoned then
    match zoneFind b n.nsid (lba / zoneSize) with
    | some z => if z.state = .empty ∨ z.state = .offline then .zeros else rowPlace b (zoneOwner z) (lba % zoneSize)
    | none => .zeros
  else match b.xl.cached.find? (fun c => c.1 = blockKey n.nsid lba) with
  | some c => if c.2 = 0 then .near else rowPlace b (.mcache ((c.2 - 1) / 2 ^ 20)) ((c.2 - 1) % 2 ^ 20)
  | none =>
    let e := nget 0 b.xl.extents (n.nsid * 2 ^ 32 + lba / 256)
    if e = 0 then .zeros else rowPlace b (.conv ((e - 1) / 2 ^ 20)) ((e - 1) % 2 ^ 20 * 256 + lba % 256)

/-! ### Reconstruction (R437 to R440) -/

/-- The tracks of a row that cannot be read for a reconstruction: its target, those that are out, and the sources that have failed
(R437, R439). -/
def missingTracks (b : Block) (l : RowLog) (x : Recon) : List Nat :=
  l.surfs.filter (fun s => decide (s = x.surf ∨ s ∈ x.failed) || sectorMissing b x.owner l x.row s x.sector)

/-- The parity tracks of a row that can be read, in ascending order. An open row's parity is its accumulators in DRAM,
which need no read (R429). -/
def paritySources (b : Block) (l : RowLog) (x : Recon) : List Nat :=
  ((List.range l.m).map (paritySurf l x.row)).filter (fun s => !decide (s ∈ missingTracks b l x))

/-- The number of missing tracks that are data tracks. -/
def missingData (b : Block) (l : RowLog) (x : Recon) : Nat :=
  ((dataSurfs l x.row).filter (fun s => decide (s ∈ missingTracks b l x))).length

/-- A reconstruction that cannot be made or has failed: its command's part ends unrecovered. -/
def reconFails (b : Block) (x : Recon) : Block :=
  let b := b.onXl (fun t => { t with recons := t.recons.filter (fun y => y.id ≠ x.id) })
  match x.for_ with
  | .host p sq cid _ => cmdPart b p sq cid .unrecoveredRead
  | .patrol => countJob b 1 0 1
  | _ => b

/-- The sources of a reconstruction: every available data track, and of the available parity tracks the e_d of lowest r
and one more as the check track (R437). -/
def reconSources (b : Block) (l : RowLog) (x : Recon) : List Nat :=
  let ds := (dataSurfs l x.row).filter (fun s => !decide (s ∈ missingTracks b l x))
  if x.row < l.rowsDone then ds ++ (paritySources b l x).take (missingData b l x + 1)
  else ds.filter (trackPassed l x.row)

/-- The read of a source of a reconstruction, where its sector is now. -/
def askSource (b : Block) (l : RowLog) (x : Recon) (s : Nat) (urgent : Bool) : Block :=
  let p := sectorSpot b l x.row s x.sector
  newReq b (.source x.id) p.1 p.2.1 p.2.2 1 false urgent

/-- The reads of a reconstruction's sources. -/
def readSources (b : Block) (x : Recon) (urgent : Bool) : Block :=
  match ownerLog b x.owner with
  | none => b
  | some l =>
    let ss := reconSources b l x
    let b := b.onXl (fun t => { t with
      recons := updFirst (fun y => y.id = x.id) (fun y => { y with sourcesLeft := ss.length }) t.recons })
    ss.foldl (fun b s => askSource b l x s urgent) b

/-- A row is parity-pending (R123, R125). -/
def rowIsPending (b : Block) (o : RowOwner) (k : Nat) : Bool := b.pwr.pending.any (fun r => decide (r.owner = o ∧ r.row = k))

/-- A sector read by reconstruction: one solve, whose sources are read first; with more than m tracks out it cannot be
made (R437, R439), nor in a row whose parity is pending (R125). -/
def startRecon (b : Block) (f : ReqFor) (o : RowOwner) (k surf sector : Nat) (urgent : Bool) : Block :=
  match ownerLog b o with
  | none => b
  | some l =>
    let id := b.xl.nextTag
    let x : Recon := ⟨id, f, surf, rowTrack b l k surf, sector, o, k, 0, [], false, id⟩
    let b := b.onXl (fun t => { t with nextTag := id + 1, recons := t.recons ++ [x] })
    if rowIsPending b o k || decide (l.m < (missingTracks b l x).length) then reconFails b x else readSources b x urgent

/-- A sector of a lost position entered in the lost-sector list (R433). -/
def listLost (b : Block) (key : Nat) : Block :=
  if key ∈ b.xl.lost then b
  else (journalEntry (b.onXl (fun x => { x with lost := x.lost ++ [key] }))).sepia 0x0901 (srcCC 0) (key / 2 ^ 48) (key % 2 ^ 48)

/-! ### Reads of the host (R554, R555) -/

/-- A block's sector on the media (R379, R382): its row and surface, its logical sector there, where it is read, and its LBA. -/
structure Spot where
  owner : RowOwner
  row : Nat
  surf : Nat
  sector : Nat
  at_ : Nat × Nat × Nat
  lba : Nat
  deriving DecidableEq, Repr

/-- The sectors of blocks on the media. -/
def mediaSectors (b : Block) (n : Namespace) (lbas : List Nat) : List Spot :=
  lbas.filterMap (fun lba =>
    match blockPlace b n lba with
    | .media o off => (ownerLog b o).map (fun l =>
        let k := offRow l off
        let s := dataSurf l k (offTrack l off)
        ⟨o, k, s, offSector l off, sectorSpot b l k s (offSector l off), lba⟩)
    | _ => none)

/-- One sector follows another on the track where both are read, and in their row. -/
def followsOn (x y : Spot) : Bool :=
  decide (x.owner = y.owner ∧ x.row = y.row ∧ x.surf = y.surf ∧ x.sector + 1 = y.sector ∧
    (x.at_.1, x.at_.2.1, x.at_.2.2 + 1) = y.at_ ∧ x.lba + 1 = y.lba)

/-- Consecutive sectors of one track joined into one run: its first sector and its length. -/
def joinRuns : List Spot → List (Spot × Nat)
  | [] => []
  | x :: rest =>
    match joinRuns rest with
    | (y, n) :: rs => if followsOn x y then (x, n + 1) :: rs else (x, 1) :: (y, n) :: rs
    | [] => [(x, 1)]

/-- The sectors of a run are read by reconstruction (R437). -/
def runMissing (b : Block) (x : Spot) : Bool :=
  match ownerLog b x.owner with
  | some l => sectorMissing b x.owner l x.row x.surf x.sector
  | none => false

/-- A run asked for: one request on a track that can be read, one reconstruction a sector otherwise. -/
def askRun (b : Block) (c : Cmd) (r : Spot × Nat) : Block :=
  let x := r.1
  if runMissing b x then
    (List.range r.2).foldl (fun b i =>
      startRecon b (.host c.port c.sq c.cid (x.lba + i)) x.owner x.row x.surf (x.sector + i) c.urgent) b
  else newReq b (.host c.port c.sq c.cid x.lba) x.at_.1 x.at_.2.1 x.at_.2.2 r.2 false c.urgent

/-- A command's reads of the media: it needs each run, and each sector that is reconstructed; a block in the lost-sector
list fails it. What it returns is what its blocks hold now (R555). A Copy with nothing to read has its data. -/
def startReads (b : Block) (n : Namespace) (c : Cmd) : Block :=
  let lbas := cmdSources c
  let runs := joinRuns (mediaSectors b n lbas)
  let lost := lbas.any (fun l => decide (blockPlace b n l = .lost))
  let need : Nat := (runs.map (fun r => if runMissing b r.1 then r.2 else 1)).sum
  let st := if lost then Status.unrecoveredRead else .success
  let c := { c with phase := .media, need := need, status := st, data := readTokens b c.nsid lbas }
  let b := putCmd b c
  if need ≠ 0 then runs.foldl (fun b r => askRun b c r) b
  else if c.kind = .copy ∧ st = .success then putCmd b { c with phase := .receiving }
  else finishCmd b c st

/-! ### Zones and groups that lose surfaces (R436, R442, R443) -/

/-- A zone must become Read Only (R443). -/
def mustReadOnly (b : Block) (z : Zone) : Bool :=
  let l := z.log
  if l.m = 0 then
    (l.surfs.zip (List.range l.surfs.length)).any (fun x => surfNoWrite b x.1 && decide (x.2 * l.t < l.wp))
  else
    (List.range (rowsHeld l)).any (fun k => decide (l.m < goneCount b (zoneOwner z) l k)) ||
      (zoneIsActive z && decide (l.m < (l.surfs.filter (surfNoWrite b)).length))

/-- Zones made Read Only where R443 says so. -/
def zonesReadOnly (b : Block) : Block :=
  b.onXl (fun x => { x with zones := x.zones.map (fun z =>
    if decide (z.state ∈ [.implicit, .explicit, .closed, .full]) && mustReadOnly b z then { z with state := .readOnly }
    else z) })

/-- An open group or media-cache row with a track on a surface that is not written is closed at its current row (R442). -/
def closeGroups (b : Block) : Block :=
  let hit := b.xl.groups.filter (fun g => !g.closed && g.log.surfs.any (surfNoWrite b))
  let b := hit.foldl (fun b g => fillRow (putGroup b { g with closed := true }) (.conv g.id)) b
  if b.xl.mcRows.any (fun r => !r.closed && r.log.surfs.any (surfNoWrite b)) then closeMcRow b else b

/-- Zones whose reported capacity changed are listed for the notice of R436. -/
def listChanged (b : Block) : Block :=
  let zs := (b.xl.zones.filter (fun z => z.state = .empty)).map (fun z => (z.nsid, z.k))
  b.onXl (fun x => { x with changed := x.changed ++ zs.filter (fun z => !decide (z ∈ x.changed)) })

/-- Queued requests on a surface that is no longer read or written: a write is made virtual, a read reconstructed, and a
source of a reconstruction asks for the sources afresh (R437, R442). -/
def rerouteReq (b : Block) (r : MediaReq) : Block :=
  match r.for_ with
  | .data o k j =>
    match ownerLog b o with
    | some l => if surfNoWrite b r.surf then emitTrack b o l (k * rowBlocks l + j * l.t + r.first) r.count
                else enqueueReq b r
    | none => b
  | .parity o k _ =>
    match ownerLog b o with
    | some l => if surfNoWrite b r.surf then rowAdvance (makeVirtual b o k r.surf l.m) o k else enqueueReq b r
    | none => b
  | .host p sq cid lba =>
    match cmdFind b p sq cid with
    | none => b
    | some c => if surfNoRead b r.surf then
        let b := putCmd b { c with need := c.need + r.count - 1 }
        match nsFind b c.nsid with
        | some n => (joinRuns (mediaSectors b n ((List.range r.count).map (fun i => lba + i)))).foldl (fun b x => askRun b c x) b
        | none => b
      else enqueueReq b r
  | .moved o k s i of =>
    if surfNoWrite b r.surf then
      match b.xl.reloc.find? (fun e => e.2 = sectorKey r.surf r.track r.first) with
      | some e => (relocate b o k s i e.1 of).getD b
      | none => b
    else enqueueReq b r
  | .patrol => if surfNoRead b r.surf then b else enqueueReq b r
  | .source id =>
    match b.xl.recons.find? (fun x => x.id = id) with
    | none => b
    | some x => if surfNoRead b r.surf then
        match ownerLog b x.owner with
        | some l => if l.m < (missingTracks b l x).length then reconFails b x
                    else readSources b x r.urgent
        | none => b
      else enqueueReq b r

/-- The requests queued on a surface taken out and sent where its new state says. -/
def rerouteSurf (b : Block) (s : Nat) : Block :=
  let a : Act := ⟨s / 6 % 4, by omega⟩
  let mine := (actQueue b a ++ b.xl.beyond).filter (fun r => r.surf = s)
  let b := b.onXl (fun x => { x with
    queues := vupd x.queues a (fun q => q.filter (fun r => r.surf ≠ s)), beyond := x.beyond.filter (fun r => r.surf ≠ s) })
  mine.foldl rerouteReq b

/-- Every copy whose target lies on a surface ended, and its target freed (R398). -/
def endCopies (b : Block) (s : Nat) : Block :=
  b.onXl (fun x => { x with
    copies := x.copies.filter (fun c => c.surf ≠ s)
    taken := x.taken.filter (fun t => !x.copies.any (fun c => decide (c.surf = s ∧ t = c.target * 32 + s))) })

/-- A surface's state and cause (R434): recorded, reported, and followed by zones, groups, queued requests and free
space. An UNAVAILABLE surface keeps the state it returns to. -/
def setSurface (b : Block) (s st cause : Nat) : Block :=
  let old := surfState b s
  if old = st ∧ b.get .BP_SURF_n_CAUSE s = cause then b
  else
    let before := (activeSurfs b).length
    let b := b.onXl (fun x => { x with
      surfTime := nset 0 x.surfTime s b.now
      surfBefore := if st = 2 then (if old = 2 then x.surfBefore else nset 1 x.surfBefore s old)
                    else nset 1 x.surfBefore s 1 })
    let b := (b.put .BP_SURF_n_STATE s st).put .BP_SURF_n_CAUSE s cause
    let b := if surfNoWrite b s then endCopies b s else b
    let b := b.sepia 0x0902 (srcCC 0) s (16 * st + cause)
    let b := vendorEvent b 0x82 0xC3
    let b := if (activeSurfs b).length = before then b else listChanged b
    evalSpace (refreshWarnings (rerouteSurf (closeGroups (zonesReadOnly b)) s))

/-- A head becomes write-failed (R259): the bit is set, a write in progress on it is cut, and its surface passes from
ACTIVE to WRITE_FAILED, at once or when it returns to service. -/
def writeFail (b : Block) (a : Act) (h : Fin 6) : Block :=
  let s := (headSurf a h).val
  let b := b.put .AST_STATE_WFAIL a.val (setBit (b.get .AST_STATE_WFAIL a.val) h.val)
  let b := if b.get .AST_STATE_HEAD a.val = h.val then cutWrite b a else b
  if surfState b s = 1 then setSurface b s 3 1
  else if surfState b s = 2 ∧ nget 1 b.xl.surfBefore s = 1 then
    b.onXl (fun x => { x with surfBefore := nset 1 x.surfBefore s 3 })
  else b

/-- Both readers of a head are faulty (R263, R434). -/
def readersLost (b : Block) (a : Act) (h : Fin 6) : Block :=
  let s := (headSurf a h).val
  if surfState b s = 5 then setSurface b s 5 7
  else if surfState b s ∈ [1, 2, 3] then setSurface b s 4 3 else b

/-- An actuator's surfaces become LOST with it (R211); a RETIRING one keeps its state with the cause (R434). -/
def actuatorLost (b : Block) (a : Act) : Block :=
  (actSurfs a).foldl (fun b s =>
    if surfState b s.val = 5 then setSurface b s.val 5 6
    else if surfState b s.val ∈ [1, 2, 3] then setSurface b s.val 4 2 else b) b

/-- An actuator goes out of service for a job (R203, R266, R434). -/
def actuatorOut (b : Block) (a : Act) : Block :=
  (actSurfs a).foldl (fun b s =>
    if surfState b s.val = 5 ∧ b.get .BP_SURF_n_CAUSE s.val = 5 then setSurface b s.val 5 8
    else if surfState b s.val ∈ [1, 3] then setSurface b s.val 2 4 else b) b

/-- An actuator returns to service: UNAVAILABLE surfaces to their earlier state, LOST ones to ACTIVE after a
recalibration that passed, where their readers work (R434, R435). -/
def actuatorBack (b : Block) (a : Act) (recalibrated : Bool) : Block :=
  (actSurfs a).foldl (fun b s =>
    let st := surfState b s.val
    let cause := b.get .BP_SURF_n_CAUSE s.val
    let h : Fin 6 := ⟨s.val % 6, by omega⟩
    let wf := bit (b.get .AST_STATE_WFAIL a.val) h.val
    if st = 2 then
      let old := nget 1 b.xl.surfBefore s.val
      setSurface b s.val old (if old = 3 then 1 else 0)
    else if st = 5 ∧ (cause = 8 ∨ (recalibrated = true ∧ cause = 6)) then setSurface b s.val 5 5
    else if recalibrated && decide (st = 4 ∧ cause = 2) && decide ((vget b.ast a).readerBad[h.val] ≠ 3) then
      (if wf then setSurface b s.val 3 1 else setSurface b s.val 1 0)
    else b) b

end Sys2Proof.Machine
end

