-- ==== Sys2Proof/Machine/Mechanics.lean ====
section
/-! DEFINITION. What the mechanics do whatever asks for it: jobs ending, unload, load and retract (R203, R209 to R220),
the spindle's brakes and starts (R160 to R173, R742), and the modes (R99 to R108). -/

namespace Sys2Proof.Machine

/-! ### Jobs that hold an actuator (R203, R266, R595 to R600) -/

/-- An activation swaps the actuator's engines: commands for it wait (R82). -/
def swapHolds (b : Block) (a : Act) : Bool :=
  match b.fcs.activation with
  | some v => decide (v.phase = 3 ∧ v.act = a.val)
  | none => false

/-- A running or cancelling job holds the actuator. -/
def jobHolds (b : Block) (a : Act) : Bool :=
  b.nvm.jobs.any (fun j => decide (j.state = 2 ∨ j.state = 3) && decide (jobAct j = some a.val))

/-- An Actuator Recalibration runs for the actuator (R212). -/
def recalRuns (b : Block) (a : Act) : Bool :=
  b.nvm.jobs.any (fun j => decide (j.type = 4 ∧ j.state = 2 ∧ jobAct j = some a.val))

/-- An actuator has failed and no recalibration has brought it back: its surfaces still show it (R211, R434). -/
def actFailed (b : Block) (a : Act) : Bool :=
  (actSurfs a).any (fun s =>
    let st := surfState b s.val
    let c := b.get .BP_SURF_n_CAUSE s.val
    decide ((st = 4 ∧ c = 2) ∨ (st = 5 ∧ c = 6)))

/-- A Media Patrol job runs. -/
def patrolRuns (b : Block) : Bool := b.nvm.jobs.any (fun j => decide (j.type = 1 ∧ j.state = 2))

/-- A recalibration's measurement is over (R203): its test signal, its hold on writes and the disabled feed-forward end, and the
actuator settles afresh. -/
def recalOver (b : Block) : Block :=
  let b := match b.nvm.recal with
    | some r =>
      let a : Act := ⟨r.act % 4, by omega⟩
      if b.srvMode a = SrvMode.recal then b.put .SRV_STATE_MODE a.val SrvMode.settle.code else b
    | none => b
  b.onNvm (fun n => { n with recal := none })

/-- A job ended with a result; the actuator it held returns to service unless it has failed (R597, R600). -/
def endJob (b : Block) (j : Job) (result : Nat) : Block :=
  let held := jobAct j
  let again := j
  let (f, b) := b.fresh 10001
  let j := { j with
    state := 4, result := result, stop := b.now, params := j.params.take 3, retrieved := false
    progress := if result = 0 then 10000 else f }
  let b := logSelfTest (putJob b j) again result
  let b := match held with
    | some n =>
      let a : Act := ⟨n % 4, by omega⟩
      let b := if j.type = 4 then recalOver b else b
      if b.srvMode a = .failed then b else actuatorBack b a false
    | none => b
  jobEvent b j.ctrl

/-- The six ordered pairs of a recalibration, as subjects 4 × source + target (R605): the others as sources, then as targets. -/
def recalPairs (a : Act) : List Nat :=
  let others := (List.range 4).filter (fun i => i ≠ a.val)
  others.map (fun i => 4 * i + a.val) ++ others.map (fun i => 4 * a.val + i)

/-- The items of the last run and those that failed in it (R608), which set `SYS_CALCTL.FAIL` (R76, R95). -/
def lastRun (b : Block) (asked failed : Nat) : Block :=
  ({ b with fcs := { b.fcs with calAsked := asked, calFailed := failed } }).putBool .SYS_CALCTL_FAIL 0 (decide (failed ≠ 0))

/-- The taps that a measurement has fitted to a pair's records, with the target's responses (R201): the fit is the module's own, and
its values are free. -/
def freeResult (b : Block) (pair : Nat) : CalResult × Block :=
  let r := (List.range 20).foldl (fun (acc : List Int × Block) _ =>
    let d := acc.2.fresh (2 ^ 32)
    (acc.1 ++ [(d.1 : Int)], d.2)) ([], b)
  let w := r.2.fresh (2 ^ 32)
  let o := w.2.fresh (2 ^ 32)
  (⟨5, pair, r.1, w.1, o.1⟩, o.2)

/-- The pairs that a recalibration has measured by now (R203): those with the other actuators as sources after its step 2, and all
six after its step 3. -/
def pairsMeasured (r : Recal) : List Nat :=
  let all := recalPairs ⟨r.act % 4, by omega⟩
  if r.phase ≤ 2 then [] else if r.phase = 3 then all.take 3 else all

/-- A measurement cut by an unload, a retract or a loop fault on an actuator taking part (R203): the job ends at once; the pairs that
were measured and pass are written, and the result is Partial where there is one. -/
def cutMeasurement (b : Block) : Block :=
  match b.nvm.jobs.find? (fun j => j.type = 4 ∧ j.state = 2), b.nvm.recal with
  | some j, some r =>
    let m := (pairsMeasured r).foldl (fun (acc : List CalResult × Block) k =>
      let d := freeResult acc.2 k
      (acc.1 ++ [d.1], d.2)) ([], b)
    let all := recalPairs ⟨r.act % 4, by omega⟩
    let ok := (calAccepted m.2 m.1).map (fun x => x.subject)
    let pass := maskOf (all.map (fun k => decide (k ∈ ok)))
    let b := lastRun (calCommit m.2 m.1) (2 ^ 5) (2 ^ 5)
    endJob b { j with countA := pass, countB := 63 - pass } (if pass = 0 then 6 else 1)
  | some j, none => endJob b j 6
  | none, _ => b

/-! ### An actuator's work taken back -/

/-- Injection stopped (R222): EN is cleared. -/
def stopInjection (b : Block) (a : Act) : Block :=
  let b := b.put .SRV_INJ_CTL_EN a.val 0
  if b.srvMode a = .inject then b.put .SRV_STATE_MODE a.val SrvMode.follow.code else b

/-- A request put back at the head of its actuator's queue. -/
def requeueFront (b : Block) (r : MediaReq) : Block :=
  b.onXl (fun x => { x with queues := vupd x.queues r.act (fun q => r :: q) })

/-- Track jobs not begun go back to the actuator's queue; TSa is asked to stop the one in progress (R346). -/
def withdrawJobs (b : Block) (a : Act) : Block :=
  let js := (vget b.ts a).jobs
  let b := b.onTs a (fun t => { t with jobs := [] })
  let b := js.reverse.foldl (fun b j =>
    match activeReq b j.tag with
    | some r => requeueFront (b.onXl (fun x => { x with active := x.active.filter (fun y => y.tag ≠ r.tag) }))
        { r with first := logicalOf b r.surf r.track j.first, count := j.count }
    | none => b) b
  if decide (1 ≤ b.get .TS_STATE_STATE a.val ∧ b.get .TS_STATE_STATE a.val ≤ 4) && (vget b.ts a).cur.isSome
  then trapRequest (b.put .TS_STATE_STOPREQ a.val 1) a 3 else b

/-- A normal unload asked for (R216, R218): a seek in progress ends at once; under servo control the head seeks to the outer guard
band, then climbs the ramp. In SAFE the loop re-acquires first (R210), and the unload follows. -/
def requestUnload (b : Block) (a : Act) : Block :=
  if !loaded b a || decide ((vget b.srv a).retract ≠ .idle) || decide (b.srvMode a = .unloading) then b
  else
    let b := raiseWu (withdrawJobs (stopInjection b a) a) a 4
    let climb := decide (b.srvMode a = .loading)
    let b := b.onSrv a (fun v => { v with ref := 0, climbing := climb, seekN := 0, loadDue := false })
    cutMeasurement (b.put .SRV_STATE_MODE a.val SrvMode.unloading.code)

/-- Every loaded actuator asked to unload (R166). -/
def unloadAll (b : Block) : Block := (List.finRange 4).foldl requestUnload b

/-- The active head of an actuator chosen (R186): what the runout adaptation has gathered belongs to the head before (R195). -/
def selectHead (b : Block) (a : Act) (surf : Nat) : Block :=
  if b.get .SRV_STATE_HEAD a.val = surf then b
  else (b.onSrv a (fun v => { v with revPes := [] })).put .SRV_STATE_HEAD a.val surf

/-- The head that a load uses: the active one, or where that is none of the actuator's populated surfaces the lowest of them (R186). -/
def loadHead (b : Block) (a : Act) : Nat :=
  let mine := (actSurfs a).filter (fun s => bit (b.cfgN .PLT_SURFACES) s.val)
  let now := b.get .SRV_STATE_HEAD a.val
  if mine.any (fun s => decide (s.val = now)) then now
  else match mine with | s :: _ => s.val | [] => now

/-- An actuator leaves its ramp (R217): the milliactuator serves again after a current limit (R721). -/
def startLoad (b : Block) (a : Act) : Block :=
  let b := b.onSrv a (fun v => { v with
    loadWedges := 0, markRun := 0, loadDue := false, speedReload := false, maLimited := false, safeLaw := false, plausRun := 0, safeWedges := 0
    reacquired := false, readSettled := false, writeSettled := false, settleRun := 0, readRun := 0, climbing := false
    unloadWanted := false, markSeen := false })
  raiseWu ((selectHead b a (loadHead b a)).put .SRV_STATE_MODE a.val SrvMode.loading.code) a 4

/-- Every loaded actuator asked to unload for want of speed, to reload once the spindle is locked (R166, R171, R176). -/
def unloadForSpeed (b : Block) : Block :=
  (List.finRange 4).foldl (fun b a =>
    if loaded b a && decide ((vget b.srv a).retract = .idle) && decide (b.srvMode a ≠ .unloading) then
      (requestUnload b a).onSrv a (fun v => { v with speedReload := true })
    else b) b

/-- An actuator unloaded for want of speed that may load again: the spindle is locked, and the mode is RUN or SPINUP to it. -/
def reloadDue (b : Block) (a : Act) : Bool :=
  (vget b.srv a).speedReload && decide (b.srvMode a = .unloaded) && decide ((vget b.srv a).retract = .idle) &&
    decide (b.get .SPN_STATE_LOCK 0 = 1) && decide (b.mode = .run) && decide (b.get .PWR_MODE_TARGET 0 = Mode.run.code)

/-- The actuators unloaded for want of speed load again (R166). -/
def reloadAll (b : Block) : Block := (List.finRange 4).foldl (fun b a => if reloadDue b a then startLoad b a else b) b

/-- Every populated actuator on its ramp and in service loads, where its retract has ended and the mode calls for it
(R100, R220). -/
def loadAll (b : Block) : Block :=
  (List.finRange 4).foldl (fun b a =>
    if b.populated a && decide (b.srvMode a = .unloaded) && decide ((vget b.srv a).retract = .idle) &&
        decide (b.get .SPN_STATE_LOCK 0 = 1) then startLoad b a else b) b

/-- After servo lock (R212): an actuator that an Actuator Recalibration loads stays write-unsafe. -/
def actuatorLoaded (b : Block) (a : Act) : Block :=
  if recalRuns b a then raiseWu b a 6 else b

/-- The island retract controller starts (R219): the coil is driven to the ramp without SEa. -/
def startRetract (b : Block) (a : Act) : Block :=
  let b := raiseWu (withdrawJobs (stopInjection b a) a) a 4
  let b := b.onSrv a (fun v => { v with
    retract := .driving, reloads := none, loadDue := false, speedReload := false, unloadWanted := false
    coil := some (b.cfgN .SRV_RET_BEMF a.val, b.cfgN .SRV_RET_IMAX a.val) })
  cutMeasurement (((b.put .SRV_STATE_MODE a.val SrvMode.retract.code).put .SRV_STATE_ISLAND_RET a.val 1).put
    .SRV_STATE_LOCK a.val 0)

/-- Every populated actuator that is in service. -/
def inService (b : Block) : List Act :=
  (List.finRange 4).filter (fun a => b.populated a && decide (b.srvMode a ≠ .failed))

/-- The lowest-numbered populated actuator. -/
def firstPopulated (b : Block) : Nat :=
  match (List.finRange 4).find? (fun a => b.populated a) with | some a => a.val | none => 0

/-! ### The spindle's brakes -/

/-- A brake change or clamp test recorded as code 0x0302 with the bus voltage (R172). -/
def brakeEvent (b : Block) (busMv : Nat) : Block := b.sepia 0x0302 srcSPE (b.get .SPN_BRAKE_LAST 0) busMv

/-- A short brake for a purpose (R160, R162, R163, R170). -/
def shortBrake (b : Block) (g : SpnGoal) : Block :=
  (({ b with spn := { b.spn with goal := g, brakeWait := false } }).put .SPN_STATE_STATE 0 SpnMode.short.code).put
    .SPN_BRAKE_LAST 0 2

/-- An entry to SHORT on a clamp fault, counted since power-on and since manufacture (R181, R603). -/
def clampShort (b : Block) : Block := (b.bump .SPN_BRAKE_SHORTS 0).onHea (fun h => { h with clampShorts := h.clampShorts + 1 })

/-- Braking begins for a goal (R168, R170): regenerative, or SHORT where the clamp is faulty or the rotor angle is not
known. A spindle that stands still is left alone. -/
def startBrake (b : Block) (g : SpnGoal) : Block :=
  let bus := b.get .SPN_BUS_NOW 0
  if b.spnMode = .stopped then { b with spn := { b.spn with goal := g, brakeWait := false } }
  else if b.get .SPN_BRAKE_CLAMPBAD 0 = 1 then brakeEvent (clampShort (shortBrake b g)) bus
  else if b.spn.angleKnown then
    brakeEvent ((({ b with spn := { b.spn with goal := g, brakeWait := false } }).put .SPN_STATE_STATE 0
      SpnMode.regen.code).put .SPN_BRAKE_LAST 0 1) bus
  else brakeEvent (shortBrake b g) bus

/-- A set speed changed in RUN or IDLE, the heads on their ramps (R176): the spindle brakes down to it, or drives up to it. -/
def startSlow (b : Block) : Block :=
  let b := { b with spn := { b.spn with holdSpeed := none, brakeWait := false, goal := .run, starting := true } }
  if setSpeed b < b.get .SPN_STATE_SPEED 0 then startBrake b .slow else b

/-- A brake that waited for the actuators begins when every one is on its ramp (R742). -/
def brakeIfReady (b : Block) : Block :=
  if b.spn.brakeWait && !(List.finRange 4).any (loaded b) then
    match b.spn.goal with
    | .restart => brakeEvent (shortBrake b .restart) (b.get .SPN_BUS_NOW 0)
    | .slow => startSlow b
    | g => startBrake b g
  else b

/-- A brake for PARK asked for: the loaded actuators unload first (R742). -/
def askBrake (b : Block) : Block :=
  let b := unloadAll b
  if (List.finRange 4).any (loaded b) then { b with spn := { b.spn with goal := .park, brakeWait := true, holdSpeed := none } }
  else startBrake b .park

/-- What SPE goes on with once the rotor's angle is known again (R162, R165, R742): it drives, or it takes up the brake in which
it lost the rotor. -/
def resumeGoal (b : Block) : Block :=
  let b := { b with spn := { b.spn with
    lost := false, lostWait := false, angleKnown := true, rising := true, integ := 0, torqueRef := 0, implRun := 0, zcRun := 0
    zcLoss := 0, zeroSteps := 0, starting := decide (b.get .SPN_STATE_LOCK 0 = 0) } }
  let drive := b.put .SPN_STATE_STATE 0 (if b.cfgN .SPD_FALLBACK = 1 then SpnMode.sixstep.code else SpnMode.dtc.code)
  match b.spn.goal with
  | .run => drive
  | .rest => b.put .SPN_STATE_STATE 0 SpnMode.float.code
  | .park | .slow => if b.spn.brakeWait then drive else startBrake b b.spn.goal
  | .restart | .retry | .giveUp =>
    if b.spn.brakeWait then drive else brakeEvent (shortBrake b b.spn.goal) (b.get .SPN_BUS_NOW 0)

/-- GENERATOR at HOLDUP entry (R173, R119): at once where the rotor angle is known, after a catch otherwise; a rotor
below 30 % of set speed supplies nothing. -/
def generatorEntry (b : Block) : Block :=
  if 10 * b.get .SPN_STATE_SPEED 0 < 3 * setSpeed b then
    if b.spnMode = .stopped then b else b.put .SPN_STATE_STATE 0 SpnMode.float.code
  else
    let known := b.spn.angleKnown && !decide (b.spnMode ∈ [.float, .catching, .coast]) && !b.spn.lostWait &&
      !(decide (b.spnMode = .sixstep) && b.spn.lost)
    let b := { b with spn := { b.spn with zeroSteps := 0, lostWait := false, brakeWait := false, holdSpeed := none } }
    b.put .SPN_STATE_STATE 0 (if known then SpnMode.generator.code else SpnMode.catching.code)

/-- The bridge floats when SPE has failed (R32), a short brake's as well, and its fall-back catches the motor. -/
def speFloat (b : Block) : Block :=
  if decide (b.spnMode ∈ [.stopped, .float, .coast]) then b
  else
    { b with spn := { b.spn with catchTries := 0, angleKnown := false, implRun := 0, lostWait := false, zeroSteps := 0 } }.put
      .SPN_STATE_STATE 0 SpnMode.catching.code

/-- The rotor is lost (R164, R167): counted and recorded; SIXSTEP begins at the next estimated sector boundary (R165). -/
def rotorLost (b : Block) (pct : Nat) : Block :=
  let b := { b with spn := { b.spn with lostWait := true, implRun := 0, zeroSteps := 0 } }
  (b.bump .SPN_FAULT_PLAUS 0).sepia 0x0301 srcSPE pct (b.get .SPN_STATE_SPEED 0)

/-- Spindle deadline misses in two successive control steps (R31, R164, R183): the bridge floats, and SPE goes on as for a loss of
the rotor. Where SPE has no rotor angle to commutate from, the motor is caught. -/
def rotorLostFloat (b : Block) : Block :=
  if decide (b.spnMode ∈ [.stopped, .float, .coast, .catching]) || b.spn.lostWait then b
  else if b.spn.angleKnown && decide (b.spnMode ∈ [.dtc, .regen, .sixstep, .forced]) then
    (rotorLost b 0).put .SPN_STATE_STATE 0 SpnMode.float.code
  else
    (speFloat b).bump .SPN_FAULT_PLAUS 0 |>.sepia 0x0301 srcSPE 0 (b.get .SPN_STATE_SPEED 0)

/-- A table entry at a rotor angle in 1/65536 revolution, interpolated between the bins of 1/1024 revolution beside it (R196). -/
def tableAtAngle (b : Block) (s : Setting) (a angle : Nat) : Int :=
  let k := angle / 64 % 1024
  let u := b.cfg s a k
  u + (b.cfg s a ((k + 1) % 1024) - u) * (angle % 64 : Nat) / 64

/-- The table slot assigned to the spindle loop at a rotor angle in 1/65536 revolution, in its units (R159, R196, R225). -/
def spindleTable (b : Block) (angle : Nat) : Int :=
  (List.range 4).foldl (fun (s : Int) a =>
    s + (if b.cfgN .SRV_TBL0_LOOP a = 3 then tableAtAngle b .SRV_TBL0 a angle else 0) +
      (if b.cfgN .SRV_TBL1_LOOP a = 3 then tableAtAngle b .SRV_TBL1 a angle else 0)) 0

/-- Lock gone: the modes in which the spindle is at rest or supplies the bus show none (R138, R150); the last revolution begins
anew. -/
def clearLock (b : Block) : Block :=
  ({ b with spn := { b.spn with turn := 0, turnSteps := 0 } }.put .SPN_STATE_LOCK 0 0).put .PWR_MODE_SPDLOCK 0 0

/-! ### Modes (R99 to R108) -/

/-- The mode entered, with its cause (R138). -/
def enterMode (b : Block) (m : Mode) (cause : Nat) : Block :=
  let b := { b with pwr := { b.pwr with passed := b.pwr.passed || decide (m = Mode.idle ∨ m = Mode.park) } }
  (((b.put .PWR_MODE_MODE 0 m.code).put .PWR_MODE_TARGET 0 m.code).put .PWR_MODE_CAUSE 0 cause).put
    .PWR_MODE_REVERSING 0 0

/-- The mode being entered (R138); a transition turned back shows as reversing. -/
def setTarget (b : Block) (m : Mode) (cause : Nat) : Block :=
  let t := b.get .PWR_MODE_TARGET 0
  let moving := decide (t ≠ b.get .PWR_MODE_MODE 0) && decide (t ≠ m.code)
  ((b.put .PWR_MODE_TARGET 0 m.code).put .PWR_MODE_CAUSE 0 cause).putBool .PWR_MODE_REVERSING 0
    (moving && decide (m.code = b.get .PWR_MODE_MODE 0))

/-- Pending rows joined to a list, each row listed once (R123). -/
def mergeRows (l r : List PendRow) : List PendRow :=
  l ++ r.filter (fun x => !l.any (fun y => decide (y.owner = x.owner ∧ y.row = x.row)))

/-- The mask of the data tracks of a row that are on media. -/
def rowMask (l : RowLog) (k : Nat) : Nat :=
  maskOf ((dataSurfs l k).map (trackPassed l k))

/-- Every open stripe row (R123): a row begun and not done, of an active zone or an open group. -/
def openRows (b : Block) : List PendRow :=
  (allLogs b).filterMap (fun x =>
    let l := x.2
    if l.m ≠ 0 ∧ l.rowsDone < rowsHeld l then
      some ⟨x.1, l.rowsDone, rowMask l l.rowsDone, (bandInfo b (bandOf b l.band (l.surfs.headD 0)) (l.surfs.headD 0)).gen⟩
    else none)

/-- The rows' work restarted from what is verified: requests, jobs, relocations in hand and accumulators of the last power cycle are gone, and
data beyond the tracks that passed is written again (R123, R124). Band copies are abandoned, and their targets are free (R398). -/
def dropMedia (b : Block) : Block :=
  let back := fun (l : RowLog) =>
    let base := l.rowsDone * rowBlocks l
    let full := ((List.range (l.surfs.length - l.m)).filter (fun j =>
      decide ((l.rowsDone, dataSurf l l.rowsDone j) ∈ l.passed))).length
    { l with queued := min l.wp (base + full * l.t) }
  let moving := (((List.finRange 4).flatMap (actQueue b)) ++ b.xl.beyond ++ b.xl.active).filterMap (fun r => match r.for_ with
    | .moved _ _ _ _ _ => some (sectorKey r.surf r.track r.first)
    | _ => none)
  b.onXl (fun x => { x with
    reloc := x.reloc.filter (fun e => !decide (e.2 ∈ moving))
    mcRows := x.mcRows.map (fun r => { r with log := back r.log })
    queues := Vector.replicate 4 [], beyond := [], active := [], recons := [], openRows := []
    copies := [], taken := x.taken.filter (fun t => !x.copies.any (fun c => t = c.target * 32 + c.surf))
    zones := x.zones.map (fun z => { z with log := back z.log })
    groups := x.groups.map (fun g => { g with log := back g.log }) })

/-- The received data handed to the actuators again. -/
def refeed (b : Block) : Block := (allLogs b).foldl (fun b x => feedLog b x.1) b

/-- A media command fails with Namespace Not Ready (R167): its requests are withdrawn. -/
def failMedia (b : Block) : Block :=
  let hit := b.nvm.cmds.filter (fun c => decide (c.kind ∈ [.read, .verify, .write, .append, .zeroes, .copy]) &&
    decide (c.phase ∉ [.staging, .waiting]))
  let host := fun (r : MediaReq) => match r.for_ with | .host _ _ _ _ => true | _ => false
  let b := b.onXl (fun x => { x with
    queues := x.queues.map (fun q => q.filter (fun r => !host r)), beyond := x.beyond.filter (fun r => !host r)
    active := x.active.filter (fun r => !host r)
    recons := x.recons.filter (fun y => match y.for_ with | .host _ _ _ _ => false | _ => true)
    zones := x.zones.map (fun z => { z with expected := z.log.wp }) })
  hit.foldl (fun b c => finishCmd b c .namespaceNotReady) b

/-- Sepia's buffer is empty in PARK, where records are written through (R118, R652). -/
def sepPark (b : Block) : Block :=
  if b.sep.up && decide (0 < sepBuffered b) then ((sepFlushAll b).put .SEP_STATE_LAST 0 3).put .SEP_FLUSH2_LASTSTART 0 0 else b

/-- Entry to PARK (R99, R102): dirty DRAM and Sepia's buffer are in the NAND, the provisional list holds the open rows, and the spindle
rests. -/
def enterPark (b : Block) (cause : Nat) : Block :=
  let b := sepPark (flushDirty b)
  let b := { b with
    pwr := { b.pwr with provisional := if b.mode = Mode.boot then b.pwr.provisional else openRows b }
    spn := { b.spn with goal := .rest, brakeWait := false, inAttempt := false, holdSpeed := none, lostWait := false, obsSpeed := 0 } }
  refreshWarnings (enterMode (clearLock (b.put .SPN_STATE_STATE 0 SpnMode.stopped.code)) .park cause)

/-- The way to PARK begins (R102): destage, the provisional list, unload, brake. -/
def parkTransition (b : Block) (cause : Nat) : Block :=
  let b := flushDirty b
  let b := { b with pwr := { b.pwr with provisional := openRows b } }
  askBrake (setTarget b .park cause)

/-- A thermal stage of 3 or 4 is in force (R620, R622). -/
def stageStops (b : Block) : Bool := decide (3 ≤ b.get .THM_STAGE_STAGE 0)

/-- A factory calibration of items that need the spindle runs (R100). -/
def calSpins (b : Block) : Bool :=
  decide (b.get .SYS_CALCTL_BUSY 0 = 1) &&
    (bit (b.get .SYS_CALCTL_ITEMS 0) 5 || bit (b.get .SYS_CALCTL_ITEMS 0) 6)

/-- The mode that conditions call for (R100, R126, R617). -/
def wantedMode (b : Block) : Mode :=
  let ps := b.get .PWR_MODE_PS_EFF 0
  if b.pwr.pwdisDown || stageStops b || b.pwr.spinupFailed || b.boot.recovery ||
      (decide (b.get .SYS_BOOT_UNCAL 0 = 1) && !calSpins b) then .park
  else if ps ≤ 2 then .run else if ps = 3 then .idle else .park

/-- SPINUP entered (R100, R160): the bridge floats for the measurement of the induced voltage, and the mode that conditions call
for is pursued; where that is PARK, SPINUP passes to it once the spindle is below 60 rpm. -/
def enterSpinup (b : Block) (cause : Nat) : Block :=
  let b := { b with spn := { b.spn with
    goal := .run, fails := 0, spinupAt := b.now, lossRestart := false, brakeWait := false, zcSeen := false
    catchTries := 0, trips := [], inAttempt := false, lostWait := false, lost := false, zeroSteps := 0, holdSpeed := none
    angleKnown := false, clampDue := true } }
  let b := ((clearLock b).put .SPN_STATE_STATE 0 SpnMode.float.code).put .SPN_SPINUP_TRIES 0 0
  let b := enterMode b .spinup cause
  match wantedMode b with
  | .run => b.put .PWR_MODE_TARGET 0 Mode.run.code
  | .idle => b.put .PWR_MODE_TARGET 0 Mode.idle.code
  | _ => parkTransition b cause

/-- Spin-up has failed for good (R100, R163, R167): PARK, the reliability warning, and media commands fail. -/
def spinupFailure (b : Block) : Block :=
  let b := { b with pwr := { b.pwr with spinupFailed := true } }
  refreshWarnings (failMedia (enterPark b 0x09))

/-- The namespaces of lost blocks, each once. -/
def lostSpaces (l : List DirtyBlock) : List Nat := (l.map (fun d => d.key / 2 ^ 48)).eraseDups

/-- After a HOLDUP that fell short (R120): what the lost blocks' keys held before stands again, each zone's write pointer is set
behind its last flushed block, and the first and last LBA lost in each namespace are recorded. -/
def restoreShort (b : Block) : Block :=
  let lost := b.pwr.shortLost
  let b := { b with pwr := { b.pwr with shortLost := [] } }
  let b := (lostSpaces lost).foldl (fun b n =>
    let lbas := (lost.filter (fun d => d.key / 2 ^ 48 = n)).map (fun d => d.key % 2 ^ 48)
    b.sepiaCont 0x0202 srcSV n (lbas.foldl min (lbas.headD 0)) [[lbas.foldl max 0]]) b
  b.onXl (fun x => { x with
    data := lost.reverse.foldl (fun m d => nset 0 m d.key d.prior) x.data
    cached := x.cached.filter (fun c => !lost.any (fun d => d.key = c.1))
    zones := x.zones.map (fun z =>
      let base := blockKey z.nsid (z.k * zoneSize)
      let offs := (lost.filter (fun d => decide (base ≤ d.key ∧ d.key < base + z.log.wp))).map (fun d => d.key - base)
      let at_ := offs.foldl min z.log.wp
      if at_ < z.log.wp then
        { z with log := { z.log with wp := at_, queued := min z.log.queued at_ }, expected := at_
                 state := if z.state = .full then .closed else z.state }
      else z) })

/-- Blocks that a flush skipped for poison enter the lost-sector list (R694, R695). -/
def loseSkipped (b : Block) : Block :=
  let b' := { b with pwr := { b.pwr with skipped := [] } }
  b.pwr.skipped.foldl (fun b k => (listLost b k).onXl (fun x => { x with data := nerase x.data k })) b'

/-- A reset of kind L (R12). A factory calibration that spun the module up from PARK goes on, and shows so (R95, R100, log entry 127). -/
def passageReset (b : Block) : Block :=
  let busy := b.get .SYS_CALCTL_BUSY 0
  let b := (List.finRange 2).foldl (fun b p => resetRegs b .L p) b
  (b.put .SYS_CALCTL_BUSY 0 busy).put .SYS_CALCTL_START 0 busy

/-- RUN entered (R68, R100, R102, R124): a spin-up's time shows, a passage through IDLE or PARK is a reset of kind L (R12), the
provisional list is withdrawn, FCS operations that HOLDUP cut are done again, and the media serve. -/
def enterRun (b : Block) (cause : Nat) : Block :=
  let b := if b.mode = .spinup then b.putSat .SPN_SPINUP_TIME 0 ((b.now - b.spn.spinupAt) / 10000) else b
  let b := if b.pwr.passed then passageReset b else b
  let b := { b with pwr := { b.pwr with provisional := [], spinupFailed := false, passed := false } }
  let b := resumeErases (redoAbandoned b)
  refeed (loseSkipped (restoreShort (refreshWarnings (enterMode b .run cause))))

/-- IDLE entered (R100). -/
def enterIdle (b : Block) (cause : Nat) : Block :=
  let b := if b.mode = .spinup then b.putSat .SPN_SPINUP_TIME 0 ((b.now - b.spn.spinupAt) / 10000) else b
  refreshWarnings (enterMode { b with pwr := { b.pwr with spinupFailed := false } } .idle cause)

/-- The servo is locked on every actuator in service, and at least one is loaded (R100). -/
def actuatorsReady (b : Block) : Bool :=
  let s := inService b
  !s.isEmpty && s.all (tracking b)

/-- A mode's work is done (R100): SPINUP to RUN or IDLE, RUN to IDLE, IDLE to RUN; or a transition has been turned back whole
(R107). In SPINUP at lock the actuators load;
with every one FAILED the spin-up has failed. SPINUP does not end before journal replay is complete (R471). -/
def modeProgress (b : Block) : Block :=
  let t := b.get .PWR_MODE_TARGET 0
  let cause := b.get .PWR_MODE_CAUSE 0
  let lock := decide (b.get .SPN_STATE_LOCK 0 = 1)
  if b.mode = .spinup then
    if !lock then b
    else if t = Mode.idle.code then
      if (List.finRange 4).any (loaded b) then unloadAll b else if b.boot.journalUp then enterIdle b 0x0B else b
    else if t = Mode.run.code then
      if (inService b).isEmpty then spinupFailure b
      else if actuatorsReady b then (if b.boot.journalUp then enterRun b 0x0B else b)
      else loadAll b
    else b
  else if b.mode = .run ∧ t = Mode.idle.code then
    if (List.finRange 4).any (loaded b) then b else enterIdle b cause
  else if b.mode = .idle ∧ t = Mode.run.code then
    if actuatorsReady b && lock then enterRun b cause else loadAll b
  else if b.mode = .run ∧ t = Mode.run.code ∧ b.get .PWR_MODE_REVERSING 0 = 1 then
    -- a transition turned back: the actuators that had begun to unload load again (R107)
    if actuatorsReady b && lock then b.put .PWR_MODE_REVERSING 0 0 else loadAll b
  else if b.mode = .idle ∧ t = Mode.idle.code ∧ b.get .PWR_MODE_REVERSING 0 = 1 then
    if (List.finRange 4).any (loaded b) then unloadAll b
    else if lock then b.put .PWR_MODE_REVERSING 0 0 else b
  else b

/-- An actuator has failed (R211): recorded with its last residuals, its surfaces lost; with every actuator failed a
spin-up fails. -/
def residualWords (b : Block) (a : Act) : List (List Nat) :=
  let r := (vget b.srv a).residuals
  (List.range 6).map (fun i => (r.drop (11 * i)).take 11)

/-- An actuator has failed (R211). -/
def failActuator (b : Block) (a : Act) (cause : Nat) : Block :=
  let b := withdrawJobs (stopInjection b a) a
  let b := ((b.put .SRV_STATE_MODE a.val SrvMode.failed.code).put .SRV_STATE_LOCK a.val 0)
  let b := b.onSrv a (fun v => { v with reloads := none, loadDue := false, loadFails := 0, safeLaw := false, unloadWanted := false })
  let b := b.sepiaCont 0x0402 (srcSE a) a.val cause (residualWords b a)
  let b := cutMeasurement (refreshWarnings (actuatorLost b a))
  modeProgress (brakeIfReady b)

/-- A loop fault (R209 to R211): the safe law, write-unsafe and SAFE; the third within 10 minutes fails the actuator. The states of the
law start from zero and the window of 64 wedges from empty: the spec does not say what they become (DESIGN CHOICE, log entry 147). -/
def loopFault (b : Block) (a : Act) : Block :=
  let unloads := decide (b.srvMode a = .unloading)
  if !tracking b a && !(unloads && !(vget b.srv a).climbing) then b
  else
    let times := b.now :: ((vget b.srv a).faultTimes.filter (fun t => b.now < t + 600000000))
    let b := stopInjection (b.bump .SRV_FAULT_LOOP a.val) a
    let b := b.sepiaCont 0x0401 (srcSE a) a.val (vget b.srv a).wedge (residualWords b a)
    let b := b.onSrv a (fun v => { v with
      faultTimes := times, safeLaw := true, safeAt := b.now, plausRun := 0, safeWedges := 0, reacquired := false
      implRun := 0, window := [], x := [], unloadWanted := unloads || v.unloadWanted })
    let b := cutMeasurement (raiseWu (withdrawJobs (b.put .SRV_STATE_MODE a.val SrvMode.safe.code) a) a 7)
    if 3 ≤ times.length then failActuator b a 2 else b

/-! ### Power states (R104 to R108) -/

/-- A transition reversed toward RUN or IDLE with the spindle braking: it is caught (R107, R162). -/
def resumeSpin (b : Block) : Block :=
  let b := { b with spn := { b.spn with goal := .run, brakeWait := false } }
  if b.spn.lostWait then b
  else if decide (b.spnMode ∈ [.regen, .short, .coast, .float, .stopped]) then
    ({ b with spn := { b.spn with catchTries := 0 } }).put .SPN_STATE_STATE 0 SpnMode.catching.code
  else b

/-- The wanted mode pursued from the present one (R100, R107, R621). -/
def pursue (b : Block) (cause : Nat) : Block :=
  let w := wantedMode b
  if !b.pwr.powered || decide (b.mode ∈ [.boot, .holdup]) || decide (b.get .PWR_MODE_TARGET 0 = w.code) then b
  else match b.mode with
    | .park => if w = .park then setTarget b .park cause else enterSpinup b cause
    | .spinup =>
      if w = .park then
        if decide (b.get .THM_STAGE_STAGE 0 = 3) && !b.pwr.pwdisDown then b else parkTransition b cause
      else modeProgress ((if w = .idle then unloadAll else id) (resumeSpin (setTarget b w cause)))
    | _ =>
      if w = .park then parkTransition b cause
      else if w = .idle then modeProgress (unloadAll (resumeSpin (setTarget b .idle cause)))
      else modeProgress (loadAll (resumeSpin (setTarget b .run cause)))

/-- `PWR_MODE.ACT_LIMIT` of a power state (R138). -/
def actLimit (ps : Nat) : Nat := if ps = 0 then 4 else if ps = 1 then 3 else if ps = 2 then 2 else 0

/-- The effective power state (R105): the lowest request of the enabled controllers, or the thermal cap above it. -/
def effectivePs (b : Block) : Nat :=
  let r := (if b.get .NV_CTL_EN 0 = 1 then [b.get .PWR_MODE_PS_C1 0] else []) ++
    (if b.get .NV_CTL_EN 1 = 1 then [b.get .PWR_MODE_PS_C2 0] else [])
  let eff := match r with | [] => 0 | x :: xs => xs.foldl min x
  match b.pwr.cap with | some c => max c eff | none => eff

/-- The effective state evaluated, and the mode it calls for pursued (R105, R100). -/
def powerEval (b : Block) (cause : Nat) : Block :=
  let ps := effectivePs b
  pursue ((b.put .PWR_MODE_PS_EFF 0 ps).put .PWR_MODE_ACT_LIMIT 0 (actLimit ps)) cause

/-- A controller's requested power state (R105); the last operational one is kept for R107. -/
def setRequest (b : Block) (p : Port) (ps : Nat) : Block :=
  let b := b.put (if p = 0 then .PWR_MODE_PS_C1 else .PWR_MODE_PS_C2) 0 ps
  if ps ≤ 2 then { b with pwr := { b.pwr with lastOper := vupd b.pwr.lastOper p (fun _ => ps) } } else b

/-- A controller's requested power state. -/
def requestOf (b : Block) (p : Port) : Nat := b.get (if p = 0 then .PWR_MODE_PS_C1 else .PWR_MODE_PS_C2) 0

/-- An I/O command under a non-operational state (R107): the request returns to the last operational state, unless a
thermal stop holds the module (R620). -/
def ioArrived (b : Block) (p : Port) : Block :=
  let going := decide (b.get .PWR_MODE_TARGET 0 = Mode.idle.code ∨ b.get .PWR_MODE_TARGET 0 = Mode.park.code)
  if decide (3 ≤ requestOf b p) && (decide (3 ≤ b.get .PWR_MODE_PS_EFF 0) || going) && !stageStops b then
    powerEval (setRequest b p (vget b.pwr.lastOper p)) 0x08
  else b

/-- The state that a controller's Autonomous Power State Transition calls for (R108): enabled, idle for the time its
table gives the present state, and nothing in execution. Entry n of the table is feature selector n + 1: the idle time in
ms in bits [31:8], the target state in bits [7:3]. -/
def apstTarget (b : Block) (p : Port) : Option Nat :=
  let ps := requestOf b p
  let e := feat b p 0x0C (ps + 1)
  let idleMs := (b.now - (vget b.nv p).lastDone) / 1000
  if bit (feat b p 0x0C 0) 0 && decide (e / 256 ≠ 0) && decide (e / 256 ≤ idleMs) &&
      !b.nvm.cmds.any (fun c => c.port = p) && decide (3 ≤ e / 8 % 32 ∧ e / 8 % 32 ≤ 4) then some (e / 8 % 32)
  else none

end Sys2Proof.Machine
end

