-- ==== Sys2Proof/Machine/Preamp.lean ====
section
/-! DEFINITION. Frames of the Preamp Serial Link (R244, R245) and what an accepted one leaves in the preamp (R249). -/

namespace Sys2Proof.Machine

/-- CRC-8 with polynomial x^8 + x^2 + x + 1 and initial value 0 over bytes, most significant bit first (R245). -/
def crc8 (bytes : List Nat) : Nat :=
  bytes.foldl (fun c x => (List.range 8).foldl (fun c _ =>
    if 128 ≤ c then (c * 2 % 256) ^^^ 0x07 else c * 2) (c ^^^ (x % 256))) 0

/-- The four bytes of a 32-bit number, most significant first. -/
def bytes4 (w : Nat) : List Nat := [w / 2 ^ 24 % 256, w / 2 ^ 16 % 256, w / 2 ^ 8 % 256, w % 256]

/-- The bits of a WRITE frame that the CRC covers (R244). -/
def writeFrameBits (head addr data : Nat) : Nat :=
  0b0001 * 2 ^ 28 + head % 16 * 2 ^ 24 + addr % 256 * 2 ^ 16 + data % 65536

/-- The bits of a FAST frame that the CRC covers (R244). -/
def fastFrameBits (head assist heater : Nat) : Nat :=
  0b0100 * 2 ^ 28 + head % 16 * 2 ^ 24 + assist % 4096 * 2 ^ 12 + heater % 4096

/-- The 16 bits of a READ frame that the CRC covers (R244). -/
def readFrameBits (head addr : Nat) : Nat := 0b0010 * 2 ^ 12 + head % 16 * 2 ^ 8 + addr % 256

/-- A WRITE or FAST frame whole, with its CRC. -/
def frame40 (bits : Nat) : Nat := bits * 256 + crc8 (bytes4 bits)

/-- A READ frame whole, with its CRC. -/
def frame24 (bits : Nat) : Nat := bits * 256 + crc8 [bits / 256, bits % 256]

/-- The last frame sent on an actuator's link. -/
def frameSent (b : Block) (a : Act) (frame : Nat) : Block := b.onAst a (fun v => { v with lastFrame := frame })

/-- The heads that a WRITE frame addresses: one, or every head for head field 0xF (R244). -/
def addressed (head : Nat) : List Nat := if head = 15 then List.range 6 else [head]

/-- A WRITE frame accepted: the register holds the data, and 0 written to the safe-state register takes the addressed heads' assist and
heater settings to 0 (R249). -/
def preampTakes (b : Block) (a : Act) (head addr data : Nat) : Block :=
  (addressed head).foldl (fun b h =>
    let b := b.onAst a (fun v => { v with pre := nset 0 v.pre (h * 256 + addr % 256) (data % 65536) })
    if addr % 256 = 0 ∧ data % 65536 = 0 then b.put .AST_HCLR_HTR (6 * a.val + h) 0 else b) b

/-- A WRITE frame that AEa sends within another step, accepted (log entry 154). -/
def wireWrite (b : Block) (a : Act) (head addr data : Nat) : Block :=
  preampTakes (frameSent b a (frame40 (writeFrameBits head addr data))) a head addr data

/-- A FAST frame that AEa sends within another step, accepted (log entry 154): the settings last sent (R273) and the head's heater
setting (R278). -/
def wireFast (b : Block) (a : Act) (h assist heater : Nat) : Block :=
  let b := (b.put .AST_CMD_ASSIST a.val assist).put .AST_CMD_HEATER a.val heater
  (frameSent b a (frame40 (fastFrameBits h assist heater))).put .AST_HCLR_HTR (6 * a.val + h) heater

/-- An address of the preamp's own map, which lies above the safe-state register (R249). -/
def preampAddr (n : Nat) : Nat := 1 + Config.preampReg n % 255

/-- The reader biases of a head sent when it is selected (R283). -/
def sendBiases (b : Block) (a : Act) (h : Nat) : Block :=
  let s := 6 * a.val + h
  wireWrite (wireWrite b a h (preampAddr 0) (b.cfgN .HDS_BIAS_L s)) a h (preampAddr 1) (b.cfgN .HDS_BIAS_T s)

/-- The write current of a head and recording zone, sent when either changes (R306). -/
def sendWriteCurrent (b : Block) (a : Act) (h z : Nat) : Block :=
  wireWrite b a h (preampAddr 2) (b.cfgN .HDS_IW (6 * a.val + h) z)

/-- Every populated head's settings rewritten with WRITE frames (R246): biases, write current, assist and heater settings. The head in
use has the settings last sent, the others an assist setting of 0. -/
def rewriteSettings (b : Block) (a : Act) : Block :=
  ((List.range 6).filter (fun h => bit (b.cfgN .PLT_SURFACES) (6 * a.val + h))).foldl (fun b h =>
    let b := sendWriteCurrent (sendBiases b a h) a h (b.get .AST_STATE_ZONE a.val)
    let b := wireWrite b a h (preampAddr 4) (if b.get .AST_STATE_HEAD a.val = h then b.get .AST_CMD_ASSIST a.val else 0)
    wireWrite b a h (preampAddr 5) (b.get .AST_HCLR_HTR (6 * a.val + h))) b

end Sys2Proof.Machine
end

