-- ==== Sys2Proof/Machine/Reservations.lean ====
section
/-! DEFINITION. Reservations (R570): registering, reporting, acquiring, preempting and releasing, and their notifications. The spec
names the commands, the six types and 16 registrants; what each action does is the NVMe standard's (log entry 6). -/

namespace Sys2Proof.Machine

/-- A namespace replaced by its identifier. -/
def putNs (b : Block) (n : Namespace) : Block :=
  b.onXl (fun x => { x with namespaces := updFirst (fun m => m.nsid = n.nsid) (fun _ => n) x.namespaces })

/-- The key that a host has registered. -/
def resKey (n : Namespace) (host : Nat) : Option Nat := (n.registrants.find? (fun r => r.1 = host)).map (fun r => r.2)

/-- A host is registered with a key, or is registered and the key is to be ignored. -/
def resAuthorised (n : Namespace) (host key : Nat) (ignore : Bool) : Bool :=
  match resKey n host with | some k => ignore || decide (k = key) | none => false

/-- A reservation notification to the controllers of hosts other than the one that acts: type 1 Registration Preempted, 2
Reservation Released, 3 Reservation Preempted. Reservation Notification Mask silences a type. -/
def resNotify (b : Block) (actor nsid type : Nat) (hosts : List Nat) : Block :=
  (List.finRange 2).foldl (fun b p =>
    let h := (vget b.nv p).hostId
    if h ∈ hosts ∧ h ≠ actor ∧ bit (feat b p 0x82 nsid) type = false ∧ b.get .NV_CTL_RDY p.val = 1 then
      let b := b.onNv p (fun c => { c with resNotes := c.resNotes ++ [(type, nsid)] })
      asyncEvent b p 6 0 0x80
    else b) b

/-- Persist Through Power Loss changed: 2 clears it, 3 sets it; the feature shows it. -/
def setPtpl (n : Namespace) (change : Nat) : Namespace :=
  if change = 2 then { n with ptpl := false } else if change = 3 then { n with ptpl := true } else n

/-- The reservation after some hosts have been unregistered: released where its holder is gone, or for types 5 and 6 the last
registrant. -/
def afterLeaving (n : Namespace) (gone : List Nat) : Namespace :=
  let regs := n.registrants.filter (fun r => !decide (r.1 ∈ gone))
  let res := match n.reservation with
    | some r => if (if 5 ≤ r.kind then regs.isEmpty else decide (r.holder ∈ gone)) then none else some r
    | none => none
  { n with registrants := regs, reservation := res }

/-- Reservation Register: action 0 registers, 1 unregisters, 2 replaces the key. -/
def resRegister (b : Block) (host : Nat) (n : Namespace) (action : Nat) (ignore : Bool) (cur new change : Nat) :
    Block × Status :=
  let done := fun (m : Namespace) => { setPtpl m change with resGen := (n.resGen + 1) % 2 ^ 32 }
  if host = 0 then (b, .commandSequence)
  else if action = 0 then
    match resKey n host with
    | some k => if k = new then (putNs b (done n), .success) else (b, .reservationConflict)
    | none =>
      if 16 ≤ n.registrants.length then (b, .reservationConflict)
      else (putNs b (done { n with registrants := n.registrants ++ [(host, new)] }), .success)
  else if action = 1 then
    if resAuthorised n host cur ignore then
      let m := afterLeaving n [host]
      let freed := n.reservation.isSome && m.reservation.isNone
      let b := putNs b (done m)
      let shared := match n.reservation with | some r => decide (3 ≤ r.kind) | none => false
      (if freed && shared then resNotify b host n.nsid 2 (n.registrants.map (fun r => r.1)) else b, .success)
    else (b, .reservationConflict)
  else if action = 2 then
    if resAuthorised n host cur ignore then
      (putNs b (done { n with registrants := updFirst (fun r => r.1 = host) (fun r => (r.1, new)) n.registrants }), .success)
    else (b, .reservationConflict)
  else (b, .invalidField)

/-- Reservation Report: generation, type, number of registrants, PTPL, then for each whether it holds the reservation, its host
identifier and its key. -/
def resReport (n : Namespace) : List Nat :=
  [n.resGen, (match n.reservation with | some r => r.kind | none => 0), n.registrants.length, if n.ptpl then 1 else 0] ++
    n.registrants.flatMap (fun r =>
      [if (match n.reservation with | some x => holdsReservation n x r.1 | none => false) then 1 else 0, r.1, r.2])

/-- The hosts that a preemption unregisters: the holder named by its key, every other registrant of an all-registrants
reservation named by key 0, else the registrants with the key. -/
def preempted (n : Namespace) (host prKey : Nat) : List Nat :=
  let others := n.registrants.filter (fun r => r.1 ≠ host)
  match n.reservation with
  | some r =>
    if 5 ≤ r.kind ∧ prKey = 0 then others.map (fun x => x.1)
    else (others.filter (fun x => x.2 = prKey)).map (fun x => x.1)
  | none => (others.filter (fun x => x.2 = prKey)).map (fun x => x.1)

/-- A preemption takes the reservation: it names the holder, or all registrants. -/
def preemptTakes (n : Namespace) (prKey : Nat) : Bool :=
  match n.reservation with
  | some r => if 5 ≤ r.kind then decide (prKey = 0) else decide (resKey n r.holder = some prKey)
  | none => false

/-- Reservation Acquire: action 0 acquires, 1 preempts, 2 preempts and aborts. The hosts preempted come with it. -/
def resAcquire (b : Block) (host : Nat) (n : Namespace) (action : Nat) (ignore : Bool) (cur prKey kind : Nat) :
    Block × Status × List Nat :=
  if host = 0 then (b, .commandSequence, [])
  else if !resAuthorised n host cur ignore then (b, .reservationConflict, [])
  else if kind = 0 ∨ 6 < kind ∨ 2 < action then (b, .invalidField, [])
  else if action = 0 then
    match n.reservation with
    | none => (putNs b { n with reservation := some ⟨host, kind⟩ }, .success, [])
    | some r =>
      if holdsReservation n r host && decide (r.kind = kind) then (b, .success, []) else (b, .reservationConflict, [])
  else
    let gone := preempted n host prKey
    let takes := preemptTakes n prKey
    if gone.isEmpty && !takes then (b, .reservationConflict, [])
    else
      let m := { afterLeaving n gone with resGen := (n.resGen + 1) % 2 ^ 32 }
      let m := if takes then { m with reservation := some ⟨host, kind⟩ } else m
      let b := resNotify (putNs b m) host n.nsid 1 gone
      let b := if takes then resNotify b host n.nsid 3 (m.registrants.map (fun r => r.1)) else b
      (b, .success, gone)

/-- Reservation Release: action 0 releases, 1 clears the reservation and every registration. -/
def resRelease (b : Block) (host : Nat) (n : Namespace) (action : Nat) (ignore : Bool) (cur kind : Nat) : Block × Status :=
  let hosts := n.registrants.map (fun r => r.1)
  if host = 0 then (b, .commandSequence)
  else if !resAuthorised n host cur ignore then (b, .reservationConflict)
  else if action = 0 then
    match n.reservation with
    | none => (b, .success)
    | some r =>
      if !holdsReservation n r host then (b, .success)
      else if r.kind ≠ kind then (b, .invalidField)
      else
        let b := putNs b { n with reservation := none }
        (if 3 ≤ r.kind then resNotify b host n.nsid 2 hosts else b, .success)
  else if action = 1 then
    let b := putNs b { n with registrants := [], reservation := none, resGen := (n.resGen + 1) % 2 ^ 32 }
    (resNotify b host n.nsid 3 hosts, .success)
  else (b, .invalidField)

end Sys2Proof.Machine
end

