-- ==== Sys2Proof/Machine/Completion.lean ====
section
/-! DEFINITION. How track jobs end for those who asked: sectors recovered and unrecovered (R301, R395), reconstruction's
sources (R437 to R439), sectors verified and write faults (R311, R375, R382), poison at the writer (R694), pending rows
(R431), and head settings (R256, R265). -/

namespace Sys2Proof.Machine

/-! ### Reads -/

/-- The reconstruction with a number. -/
def reconFind (b : Block) (id : Nat) : Option Recon := b.xl.recons.find? (fun x => x.id = id)

/-- A reconstruction replaced. -/
def putRecon (b : Block) (x : Recon) : Block :=
  b.onXl (fun t => { t with recons := updFirst (fun y => y.id = x.id) (fun _ => x) t.recons })

/-- A read request whose sectors have all been dealt with: its command's part ends, or its source is in hand. -/
def readReqDone (b : Block) (q : MediaReq) : Block :=
  let b := endReq b q
  match q.for_ with
  | .host p sq cid _ => cmdPart b p sq cid .success
  | .source id => match reconFind b id with
    | some x => putRecon b { x with sourcesLeft := x.sourcesLeft - 1 }
    | none => b
  | _ => b

/-- One sector of a read request dealt with. -/
def readOne (b : Block) (q : MediaReq) : Block :=
  let q := { q with left := q.left - 1 }
  let b := putReq b q
  let b := if q.for_ = .patrol then countJob b 1 1 0 else b
  if q.left = 0 then readReqDone b q else b

/-- A track of a shingled band that one read has shown weak (R395). -/
def weakTrack (b : Block) (q : MediaReq) : Block :=
  if q.weak then b
  else
    let b := putReq b { q with weak := true }
    if b.cfgN .FMT_Z_KIND 0 (trackZone b q.track) = 0 then bandDue b (trackBand b q.track) q.surf 2 else b

/-- A sector recovered at a rung (R301, R395). -/
def sectorRecovered (b : Block) (a : Act) (r : SectorRead) (rung : Nat) : Block :=
  let b := if 5 ≤ rung then b.sepia 0x0602 (srcTS a) (6 * a.val + r.head.val) (r.track % 2 ^ 22 + rung * 2 ^ 56) else b
  match activeReq b r.tag with
  | none => b
  | some q =>
    let q := { q with recovered := q.recovered + (if 1 ≤ rung then 1 else 0) }
    let b := putReq b q
    let b := if b.cfgN .XLT_WEAK_RUNG ≤ rung ∨ b.cfgN .XLT_WEAK_N ≤ q.recovered then weakTrack b q else b
    match activeReq b r.tag with | some q => readOne b q | none => b

/-- The surface whose track of a reconstruction's row a source request reads. -/
def sourceSurf (b : Block) (l : RowLog) (x : Recon) (q : MediaReq) : Nat :=
  (l.surfs.find? (fun s => decide (sectorSpot b l x.row s x.sector = (q.surf, q.track, q.first)))).getD q.surf

/-- One more track of a reconstruction's row is out (R439): the next parity track takes its place, the check is given up,
or the reconstruction fails. -/
def sourceLost (b : Block) (x : Recon) (q : MediaReq) : Block :=
  match ownerLog b x.owner with
  | none => b
  | some l =>
    let before := reconSources b l x
    let x := { x with failed := x.failed ++ [sourceSurf b l x q] }
    if l.m < (missingTracks b l x).length then reconFails b x
    else
      match (reconSources b l x).filter (fun s => !decide (s ∈ before)) with
      | s :: _ => askSource (putRecon b { x with sourcesLeft := x.sourcesLeft + 1 }) l x s q.urgent
      | [] => putRecon b x

/-- A source whose ladder stopped at rung 4 (R439). -/
def sourceFailed (b : Block) (_ : Act) (r : SectorRead) : Block :=
  match activeReq b r.tag with
  | none => b
  | some q =>
    let b := match q.for_ with
      | .source id => match reconFind b id with | some x => sourceLost b x q | none => b
      | _ => b
    match activeReq b r.tag with | some q => readOne b q | none => b

/-- The ladder of a job's sectors stops at rung 4 (R439): a source of a reconstruction whose row holds at least one
unavailable track fewer than m, and which is not being repeated (R438). -/
def sourceShort (b : Block) (_ : Act) (tag : Nat) : Bool :=
  match activeReq b tag with
  | some q => match q.for_ with
    | .source id => match reconFind b id with
      | some x => match ownerLog b x.owner with
        | some l => !x.repeated && decide ((missingTracks b l x).length < l.m)
        | none => false
      | none => false
    | _ => false
  | none => false

/-- A host's sector at rung 8 (R301): reconstructed where its row has parity, unrecovered otherwise. -/
def hostUnrecovered (b : Block) (q : MediaReq) (p : Port) (sq cid lba : Nat) : Block :=
  match cmdFind b p sq cid with
  | none => b
  | some c =>
    match nsFind b c.nsid with
    | none => b
    | some n =>
      match blockPlace b n lba with
      | .media o off =>
        match ownerLog b o with
        | some l =>
          if l.m = 0 then putCmd b { c with status := if c.status = .success then .unrecoveredRead else c.status }
          else startRecon (putCmd b { c with need := c.need + 1 }) (.host p sq cid lba) o (offRow l off)
            (dataSurf l (offRow l off) (offTrack l off)) (offSector l off) q.urgent
        | none => b
      | _ => b

/-- The row that a track of a surface belongs to (R379, R448): its owner and number, of a band, of an extension's rows, or of a
media-cache row on a conventional track. -/
def trackRow (b : Block) (s track : Nat) : Option (RowOwner × RowLog × Nat) :=
  if isBandTrack b track then
    (bandServes b (trackBand b track) s).bind (fun x =>
      let l := x.2.1
      let k := match l.ext with
        | some (g, r0) => if x.2.2 = g ∧ g ≠ l.band then b.cfgN .FMT_BAND_TRK + bandRow b track - r0 else bandRow b track
        | none => bandRow b track
      if k < rowsHeld l ∧ rowTrack b l k s = track then some (x.1, l, k) else none)
  else (b.xl.mcRows.find? (fun r => decide (r.log.band = 2 ^ 32 + track ∧ s ∈ r.log.surfs))).map (fun r => (.mcache r.id, r.log, 0))

/-- A patrolled sector at rung 8 (R593): handled as a host's, reconstructed where its row has parity, unrecovered otherwise. -/
def patrolUnrecovered (b : Block) (q : MediaReq) (sector : Nat) : Block :=
  match trackRow b q.surf q.track with
  | some (o, l, k) => if l.m = 0 then countJob b 1 0 1 else startRecon b .patrol o k q.surf sector false
  | none => countJob b 1 0 1

/-- A sector unrecovered at rung 8 (R301, R395). -/
def sectorUnrecovered (b : Block) (_ : Act) (r : SectorRead) : Block :=
  match activeReq b r.tag with
  | none => b
  | some q =>
    let b := weakTrack b q
    let b := match q.for_ with
      | .host p sq cid lba => hostUnrecovered b q p sq cid (lba + (logicalOf b q.surf q.track r.index - q.first))
      | .patrol => patrolUnrecovered b q (logicalOf b q.surf q.track r.index)
      | .source id => match reconFind b id with | some x => sourceLost b x q | none => b
      | _ => b
    match activeReq b r.tag with | some q => readOne b q | none => b

/-! ### Writes -/

/-- A write sector at the channel port enters the accumulators of its row (R428). -/
def parityAdd (b : Block) (_ : Act) (f : TsFrame) : Block :=
  match f.job with
  | none => b
  | some j => match activeReq b j.tag with
    | some q => match q.for_ with
      | .data o k t => match ownerLog b o with
        | some l =>
          let i := logicalOf b q.surf q.track f.index
          if l.m = 0 then b else rowAdd b o k l.m t i (rowSymbols b o l k t i)
        | none => b
      | _ => b
    | none => b

/-- A failed sector's contribution removed (R428). -/
def parityRemove (b : Block) (a : Act) (e : RwEntry) : Block := removeCut b a e.index (some e.job)

/-- One sector of a write request has passed read-after-write. -/
def writeOne (b : Block) (tag : Nat) : Block :=
  match activeReq b tag with
  | none => b
  | some q =>
    let q := { q with left := q.left - 1 }
    let b := putReq b q
    if q.left = 0 then writeReqDone b q else b

/-- A sector has passed read-after-write (R310). -/
def sectorVerified (b : Block) (_ : Act) (e : RwEntry) : Block := writeOne b e.job.tag

/-- The place in the relocation table that a write fault's sector is entered under: its own, or that of the sector relocated to it. -/
def faultKey (b : Block) (q : MediaReq) (key : Nat) : Nat :=
  match b.xl.reloc.find? (fun e => e.2 = sectorKey q.surf q.track (logicalOf b q.surf q.track (key % 2 ^ 14))) with
  | some e => e.1
  | none => key

/-- The sector of a write fault relocated (R350, R382); where no conventional track has room it counts as dealt with (log entry 158). -/
def relocateFault (b : Block) (q : MediaReq) (key : Nat) : Block :=
  let i := logicalOf b q.surf q.track (key % 2 ^ 14)
  let done := fun (b : Block) => writeOne b q.tag
  match q.for_ with
  | .data o k _ => (relocate b o k q.surf i key (some q.tag)).elim (done b) id
  | .parity o k _ => (relocate b o k q.surf i key (some q.tag)).elim (done b) id
  | .moved o k s j of => (relocate b o k s j (faultKey b q key) of).elim (done b) (fun b => endReq b q)
  | _ => done b

/-- A write fault of a band (R311): the position becomes grown-defective (R375), the sector is relocated to a
conventional track (R382), and a band whose track holds more defects than its zone spares is remapped (R374, R376). -/
def writeFault (b : Block) (a : Act) (e : RwEntry) : Block :=
  let s := 6 * a.val + e.job.head.val
  let key := sectorKey s e.job.track e.index
  let b := journalEntry (b.onXl (fun x => { x with grown := if key ∈ x.grown then x.grown else x.grown ++ [key] }))
  let z := trackZone b e.job.track
  let b := if b.cfgN .FMT_Z_SPARE_SECT 0 z < trackDefects b s e.job.track ∧ b.cfgN .FMT_Z_KIND 0 z = 0
    then bandDue b (trackBand b e.job.track) s 0 else b
  match activeReq b e.job.tag with
  | some q => relocateFault b q key
  | none => b

/-- Poison met (R694, R695): counted and recorded with its consumer and place; its owner acts at POISON_OWNER_RECOVERY. -/
def poisonSeen (b : Block) (count : Field) (consumer kind place : Nat) : Block :=
  let b := (b.bump count 0).sepia 0x0F04 (srcCC 0) consumer place
  { b with mm := { b.mm with owed := b.mm.owed ++ [(kind, place)] } }

/-- A poisoned sector at the writer (R303, R694): nothing is written in its frame, and its owner uses the other copy. -/
def poisonedSector (b : Block) (_ : Act) (f : TsFrame) : Block :=
  poisonSeen b .MEM_POISON_MEDIA 4 4 (match f.job with | some j => j.tag * 1024 + f.index | none => f.index)

/-- TSa posts an error for a job, or a stop ends it (R333, R346): the sectors that have not passed the head are asked for
again. -/
def jobStopped (b : Block) (_ : Act) (j : TsJob) (transferred : Nat) : Block :=
  match activeReq b j.tag with
  | none => b
  | some q =>
    if j.count ≤ transferred then b
    else requeueFront b { q with first := logicalOf b q.surf q.track j.first + transferred, count := j.count - transferred }

/-! ### Pending rows (R431 to R433) -/

/-- The accumulators of a row formed again from its data tracks on media; unwritten sectors count as zero. -/
def reformRow (b : Block) (o : RowOwner) (l : RowLog) (k : Nat) : Block :=
  let b := b.onXl (fun x => { x with openRows := x.openRows.filter (fun y => !(decide (y.owner = o ∧ y.row = k))) })
  ((List.range (l.surfs.length - l.m)).filter (fun j => trackPassed l k (dataSurf l k j))).foldl (fun b j =>
    (List.range l.t).foldl (fun b i => rowAdd b o k l.m j i (rowSymbols b o l k j i)) b) b

/-- A pending row's parity has passed read-after-write: final parity where every data track is on media, interim parity
otherwise, whose accumulators stay. Data sectors that could not be read enter the lost-sector list. -/
def pendingRowDone (b : Block) (o : RowOwner) (k : Nat) (lost : List Nat) : Block :=
  match ownerLog b o with
  | none => b
  | some l =>
    let b := lost.foldl (fun b off =>
      match ownerBlock b o (k * rowBlocks l + off) with
      | some key => let b := listLost b key
                    b.onXl (fun x => { x with data := nerase x.data key })
      | none => b) b
    let b := reformRow b o l k
    let done := fun (r : MediaReq) => match r.for_ with | .parity p row _ => decide (p = o ∧ row = k) | _ => false
    let b := b.onXl (fun x => { x with
      queues := x.queues.map (fun q => q.filter (fun r => !done r)), beyond := x.beyond.filter (fun r => !done r) })
    if (dataSurfs l k).all (trackPassed l k) && decide (l.rowsDone ≤ k) then
      let b := putLog b o { l with rowsDone := k + 1, passed := l.passed.filter (fun x => k < x.1) }
      feedLog (b.onXl (fun x => { x with
        openRows := x.openRows.filter (fun y => !(decide (y.owner = o ∧ y.row = k))) })) o
    else feedLog b o

/-! ### Head settings (R251, R256, R265 to R267)

Item 6 of the calibration record holds for subject 64 × surface + zone: 0 p_cal, 1 m_t, 2 and 3 the read and write heater
settings, 4 the contact power, 5 temp_cal, 6 the threshold current or onset bias. -/

/-- The read or write heater setting of a head and zone: the characterised value and what has been learned. -/
def heaterSetting (b : Block) (a : Act) (h z : Nat) (write : Bool) : Int :=
  let s := 6 * a.val + h
  let k := 64 * h + z
  if write then b.cal 6 (64 * s + z) 3 + nget 0 (vget b.ast a).wrDev k
  else b.cal 6 (64 * s + z) 2 + nget 0 (vget b.ast a).rdDev k

/-- A heater setting learned: never below 0, above `HDS.HTR_MAX`, or above 90 % of the contact power (R256). The read
setting's ratio to the characterised one is the clearance drift (R268). -/
def setHeater (b : Block) (a : Act) (h z : Nat) (write : Bool) (v : Int) : Block :=
  let s := 6 * a.val + h
  let k := 64 * h + z
  let sub := 64 * s + z
  let v := max 0 (min v (min (b.cfg .HDS_HTR_MAX s) (b.cal 6 sub 4 * 9 / 10)))
  if write then b.onAst a (fun x => { x with wrDev := nset 0 x.wrDev k (v - b.cal 6 sub 3) })
  else
    let b := b.onAst a (fun x => { x with rdDev := nset 0 x.rdDev k (v - b.cal 6 sub 2) })
    if b.cal 6 sub 2 ≤ 0 then b else b.putSat .AST_HCLR_DRIFT s (v * 1000 / b.cal 6 sub 2).toNat

/-- The heater setting that AEa applies: 0 for a heater that is faulty (R263). -/
def headHeater (b : Block) (a : Act) (h z : Nat) (write : Bool) : Nat :=
  if bit (vget b.ast a).htrDead h then 0 else (heaterSetting b a h z write).toNat

/-- The assist setting of a head and zone (R251), rounded to the nearest, halves upward, and clamped. -/
def assistSetting (b : Block) (a : Act) (h : Fin 6) (z : Nat) : Nat :=
  let s := headSurf a h
  let sub := 64 * s.val + z
  let p := b.cal 6 sub 0
  let t := nget 0 (vget b.ast a).trims (64 * h.val + z)
  let n := p * (10000 + b.cfg .ASR_TC * ((vget b.ast a).temp - b.cal 6 sub 5)) * (1000 + t)
  (max 0 (min (b.cfg .HDS_ASSIST_MAX s.val) ((2 * n + 10000000) / 20000000))).toNat

/-- The recording zone whose trim a head's register shows (R276), with its saturation: `ASR.TRIM_SAT` sectors in a row at a limit. -/
def showTrim (b : Block) (a : Act) (h z : Nat) : Block :=
  let s := 6 * a.val + h
  let n := nget 0 (vget b.ast a).satRun (64 * h + z)
  let lim := b.cfg .ASR_TRIM_SAT
  ((b.put .AST_HTRIM_ZONE s z).putBool .AST_HTRIM_SATHI s (decide (lim ≤ n))).putBool .AST_HTRIM_SATLO s (decide (lim ≤ -n))

/-- The settings of the active head sent for a write, from the stored trim (R254), or its read heater setting. -/
def applySettings (b : Block) (a : Act) (write : Bool) : Block :=
  let h : Fin 6 := ⟨b.get .AST_STATE_HEAD a.val % 6, by omega⟩
  let z := b.get .AST_STATE_ZONE a.val
  wireFast b a h.val (if write then assistSetting b a h z else b.get .AST_CMD_ASSIST a.val) (headHeater b a h.val z write)

/-- A wedge of the actuator as AEa takes it (R257): the write heater setting is applied at the wedge before a write's first sector, and
the preheat begins; after a write the read setting is restored at the next wedge. -/
def heaterWedge (b : Block) (a : Act) (index : Nat) : Block :=
  let v := vget b.ast a
  match v.heatAt with
  | some w =>
    if w = index then (applySettings b a true).onAst a (fun v => { v with heatAt := none, preheat := true, restore := false }) else b
  | none =>
    if v.restore then ((applySettings b a false).onAst a (fun v => { v with restore := false })).put .AST_STATE_LOOP a.val 1 else b

/-- A track job that wrote has ended: the read heater setting is due (R257). -/
def writeOver (b : Block) (a : Act) (j : TsJob) : Block :=
  if j.op = 1 ∨ j.op = 2 then b.onAst a (fun v => { v with restore := true, wrReady := false, preheat := false, heatAt := none }) else b

/-- A threshold current or onset bias measured by Nimbus (R267). -/
def storeThreshold (b : Block) (surf v : Nat) : Block := b.putSat .AST_HLAS_ITH surf v

/-- After item 6 of heads has been rewritten (R254, R259): their trims and learned settings start afresh, and a surface
that was WRITE_FAILED for want of item 6 values alone is in service. -/
def afterCalibration (b : Block) (accepted : List (Nat × Nat)) : Block :=
  let heads := ((accepted.filter (fun x => x.1 = 6)).map (fun x => x.2 / 64)).eraseDups
  heads.foldl (fun b s =>
    let a : Act := ⟨s / 6 % 4, by omega⟩
    let h := s % 6
    let keep := fun (m : NMap Int) => m.filter (fun e => e.1 / 64 ≠ h)
    let b := b.onAst a (fun v => { v with
      trims := keep v.trims, rdDev := keep v.rdDev, wrDev := keep v.wrDev, satRun := keep v.satRun })
    let b := ((b.put .AST_HCLR_DRIFT s 1000).put .AST_HTRIM_SATHI s 0).put .AST_HTRIM_SATLO s 0
    if surfState b s = 3 ∧ headWriteFailed b a h = false then setSurface b s 1 0 else b) b

/-- Heads without accepted item 6 values are write-failed (R259): their ACTIVE surfaces are not written. -/
def failUncalibrated (b : Block) : Block :=
  (List.range 24).foldl (fun b s =>
    let a : Act := ⟨s / 6 % 4, by omega⟩
    if surfState b s = 1 ∧ headWriteFailed b a (s % 6) = true then setSurface b s 3 1 else b) b

end Sys2Proof.Machine
end

