-- ==== Sys2Proof/Machine/Codeword.lean ====
section
/-! DEFINITION. What the channel makes of a sector: CRC-64 (R291), the codeword (R290), the frame (R294), write precompensation (R305) and the
verify metric (R309). -/

namespace Sys2Proof.Machine

/-! ### CRC-64 (R291) -/

/-- One byte taken into a CRC with the polynomial of ECMA-182. -/
def crc64Byte (c x : Nat) : Nat :=
  (List.range 8).foldl (fun c _ => if 2 ^ 63 ≤ c then (c * 2 % 2 ^ 64) ^^^ 0x42F0E1EBA9EA3693 else c * 2) (c ^^^ (x % 256 * 2 ^ 56))

/-- The CRC-64 of the first n bytes of a number of so many bytes, most significant first. -/
def crc64 (seed bytes w : Nat) : Nat :=
  (List.range bytes).foldl (fun c i => crc64Byte c (w / 256 ^ (bytes - 1 - i) % 256)) seed

/-- The initial value: the low 24 bits of the band write generation, the surface, the data track and the sector index. -/
def crcSeed (gen surf track index : Nat) : Nat :=
  gen % 2 ^ 24 * 2 ^ 40 + surf % 32 * 2 ^ 35 + track % 2 ^ 22 * 2 ^ 13 + index % 2 ^ 13

/-- A decoded information part of 4,112 bytes passes: its last 8 bytes are the CRC-64 of the user data and metadata. -/
def crcMatches (gen surf track index info : Nat) : Bool :=
  decide (crc64 (crcSeed gen surf track index) 4104 (info / 2 ^ 64 % 2 ^ 32832) = info % 2 ^ 64)

/-! ### The codeword (R290) -/

/-- User data and metadata, 4,104 bytes, with their CRC-64. -/
def infoPart (gen surf track index unit : Nat) : Nat :=
  unit % 2 ^ 32832 * 2 ^ 64 + crc64 (crcSeed gen surf track index) 4104 (unit % 2 ^ 32832)

/-- A 128-bit word rotated left. -/
def rot128 (x n : Nat) : Nat := let w := x % 2 ^ 128; (w * 2 ^ (n % 128)) % 2 ^ 128 + w / 2 ^ (128 - n % 128)

/-- A circulant, given by its first row, applied to a block. -/
def circulantMul (c x : Nat) : Nat := (List.range 128).foldl (fun acc i => if c.testBit i then acc ^^^ rot128 x i else acc) 0

/-- Block j of the information part, the first most significant. -/
def infoBlock (info j : Nat) : Nat := info / 2 ^ (128 * (256 - j)) % 2 ^ 128

/-- Parity block r: the sum of the 257 information blocks under their circulants. -/
def parityBlock (info r : Nat) : Nat :=
  (List.range 257).foldl (fun acc j => acc ^^^ circulantMul (Config.ldpcCirculant r j) (infoBlock info j)) 0

/-- The codeword of 36,864 bits: the information part and 31 parity blocks. -/
def codeword (info : Nat) : Nat := (List.range 31).foldl (fun acc r => acc * 2 ^ 128 + parityBlock info r) (info % 2 ^ 32896)

/-! ### The frame (R294) and write precompensation (R305) -/

/-- The 2T pattern 0b1100 over a number of bits that is a multiple of 4. -/
def pattern2T (bits : Nat) : Nat := (List.range (bits / 4)).foldl (fun acc _ => acc * 16 + 0b1100) 0

/-- The bits of a sector's frame, the first in time most significant, and their number. -/
def sectorFrame (b : Block) (cw : Nat) : Nat × Nat :=
  let pre := b.cfgN .CHN_PRE_BITS
  let pad := b.cfgN .CHN_PAD_BITS
  let marks := (pattern2T pre * 2 ^ 32 + b.cfgN .CHN_PM_PAT) * 2 ^ 18432 + cw / 2 ^ 18432
  (((marks * 2 ^ 16 + b.cfgN .CHN_SM_PAT) * 2 ^ 18432 + cw % 2 ^ 18432) * 2 ^ pad + pattern2T pad, pre + 32 + 36864 + 16 + pad)

/-- The transitions of NRZ data, as bit positions from the frame's start. -/
def transitions (bits len : Nat) : List Nat :=
  (List.range len).filter (fun i => decide (0 < i) && (bits.testBit (len - 1 - i) != bits.testBit (len - i)))

/-- Each transition's instant in 1/64 bit: earlier by `CHN.PRECOMP1` where the transition before lies 1 bit ahead of it, by `CHN.PRECOMP2`
where it lies 2 bits ahead. -/
def precompensated (p1 p2 : Nat) : Option Nat → List Nat → List Nat
  | _, [] => []
  | before, i :: is =>
    let shift := match before with
      | some k => if i = k + 1 then p1 else if i = k + 2 then p2 else 0
      | none => 0
    (64 * i - shift) :: precompensated p1 p2 (some i) is

/-- What WDX carries for a codeword written in a recording zone (R304, R305). -/
def writeData (b : Block) (zone cw : Nat) : List Nat :=
  let f := sectorFrame b cw
  precompensated (b.cfgN .CHN_PRECOMP1 0 zone) (b.cfgN .CHN_PRECOMP2 0 zone) none (transitions f.1 f.2)

/-- The 4,104 bytes of a write request's sector (R290, R425): ciphertext and metadata of a data track, or symbols of a parity track. -/
def writtenUnit (b : Block) (q : MediaReq) (sector : Nat) : Nat :=
  match q.for_ with
  | .data o k j => match ownerLog b o with | some l => rowSymbols b o l k j sector | none => 0
  | .parity o k r => match ownerLog b o with | some l => paritySymbols b o l k r sector | none => 0
  | .moved o k s i _ => match ownerLog b o with | some l => sectorSymbols b o l k s i | none => 0
  | _ => 0

/-- CHa encodes a track job's sector and sends its frame (R304). -/
def sendSector (b : Block) (a : Act) (j : TsJob) (index : Nat) : Block :=
  match activeReq b j.tag with
  | some q =>
    let info := infoPart j.gen (headSurf a j.head).val j.track index (writtenUnit b q (logicalOf b q.surf q.track index))
    b.onCh a (fun c => { c with wdx := writeData b j.zone (codeword info) })
  | none => b

/-! ### The verify metric (R309) -/

/-- The greatest number below 2^k that satisfies a test which falls from true to false. -/
def greatest (p : Nat → Bool) : Nat → Nat → Nat
  | 0, acc => acc
  | k + 1, acc => if p (acc + 2 ^ k) then greatest p k (acc + 2 ^ k) else greatest p k acc

/-- 10·log10 of a ratio in 0.1 dB, to the nearest, halves upward; a ratio below 10^−20 counts as that. -/
def tenthDb (power err : Nat) : Int :=
  let p := (power * 10 ^ 20) ^ 200
  let e := err ^ 200
  (greatest (fun k => decide (10 ^ k * e ≤ p)) 14 0 + 1 : Int) / 2 - 2000

/-- The metric of a scored sector: the power of the ideal response against the mean squared difference from it. Where either is 0 the
ratio has no logarithm, and the metric is a free value (DESIGN CHOICE, log entry 155). -/
def verifyMetric (b : Block) (power err : Nat) : Int × Block :=
  if power = 0 ∨ err = 0 then let (v, b) := b.fresh 4096; ((v : Int), b) else (tenthDb power err, b)

end Sys2Proof.Machine
end

