-- ==== Sys2Proof/Machine/Caches.lean ====
section
/-! DEFINITION. The caches (R673 to R678): the L1s of the control cores, the slices of L2 with their miss registers and eviction buffers,
and the write-back of dirty lines. Memory stands once, as every agent sees it (R674), so that an access changes which lines the caches
hold and which of them are dirty, and the counts that show it. -/

namespace Sys2Proof.Machine

/-- The register fields that a memory access writes (R704, R705). -/
def cacheFields : List Field := [.MEM_MISS_PEAK, .MEM_MISS_FULL, .MEM_MISS_MERGED, .MEM_EVB_RECLAIM, .MEM_EVB_WAITED]

/-! ### Lines, slices and sets -/

/-- A line of DRAM (R36, R674). -/
def isDramLine (line : Nat) : Bool := decide (0x10000000 ≤ line ∧ line < 0x20000000)

/-- The slice of a line (R674): address bits [7:6] XOR bits [15:14]. -/
def sliceOf (line : Nat) : Fin 4 := ⟨(line % 4 ^^^ line / 256 % 4) % 4, by omega⟩

/-- The set of a line in its slice, one of 2,048, and in an L1, one of 256: address bits [18:8] and [13:6] (DESIGN CHOICE, log entry
175). -/
def l2Set (line : Nat) : Nat := line / 4 % 2048
/-- The set of a line in an L1. -/
def l1Set (line : Nat) : Nat := line % 256

/-- The write policy of a line's class (R677, R702): 0 write-back, 1 write-through, 2 uncached. -/
def linePolicy (b : Block) (line : Nat) : Nat := b.cfgN .MEM_POL 0 (Config.dramClass (64 * line)).val

/-- Slice i of L2. -/
def sliceAt (b : Block) (i : Fin 4) : L2Slice := vget b.mm.caches.l2 i

/-- A slice updated. -/
def onSlice (b : Block) (i : Fin 4) (f : L2Slice → L2Slice) : Block :=
  { b with mm := { b.mm with caches := { b.mm.caches with l2 := vupd b.mm.caches.l2 i f } } }

/-- The L1s of a core updated. -/
def onL1 (b : Block) (c : Fin 12) (f : CoreL1 → CoreL1) : Block :=
  { b with mm := { b.mm with caches := { b.mm.caches with l1 := vupd b.mm.caches.l1 c f } } }

/-- The ways carved out of every slice (R679): those of the image, or eight in recovery mode, whatever the image says. -/
def carveWays (b : Block) : Nat := if b.get .MEM_L2_RECOV 0 = 1 then 8 else b.get .MEM_L2_CARVE 0

/-! ### L1 (R673, R674) -/

/-- Lines of an L1 without those that satisfy a test. -/
def CoreL1.drop (l : CoreL1) (p : Nat → Bool) : CoreL1 :=
  ⟨l.instr.filter (fun x => !p x.line), l.data.filter (fun x => !p x.line)⟩

/-- The lines that satisfy a test leave the L1s of every core but the one given. -/
def dropL1 (b : Block) (but : Option (Fin 12)) (p : Nat → Bool) : Block :=
  (List.finRange 12).foldl (fun b c => if but = some c then b else onL1 b c (fun l => l.drop p)) b

/-- A core's L1 holds a line. -/
def l1Holds (b : Block) (c : Fin 12) (fetch : Bool) (line : Nat) : Bool :=
  let l := vget b.mm.caches.l1 c
  (if fetch then l.instr else l.data).any (fun x => decide (x.line = line))

/-- A line taken into one of the four ways of its set: a free one, or the way given. -/
def l1Take (ls : List L1Line) (line victim : Nat) : List L1Line :=
  let set := ls.filter (fun x => decide (l1Set x.line = l1Set line))
  let w := ((List.range 4).find? (fun w => !set.any (fun x => decide (x.way = w)))).getD victim
  ⟨line, w⟩ :: ls.filter (fun x => !decide (l1Set x.line = l1Set line ∧ x.way = w))

/-- A line read into a core's L1 (R673). Which line it replaces is open: a free value. -/
def l1Fill (b : Block) (c : Fin 12) (fetch : Bool) (line : Nat) : Block :=
  if l1Holds b c fetch line then b
  else
    let v := b.fresh 4
    onL1 v.2 c (fun l => if fetch then { l with instr := l1Take l.instr line v.1 } else { l with data := l1Take l.data line v.1 })

/-! ### L2: lines and evictions (R674, R676) -/

/-- A dirty line enters the eviction buffer. With eight there it waits until DRAM accepts the oldest (R676). -/
def evictLine (b : Block) (i : Fin 4) (line : Nat) : Block :=
  onSlice b i (fun s => { s with evict := takeLast 7 s.evict ++ [⟨line, false⟩] })

/-- A line taken into a free way of its set among those not carved out (R679), or in place of another: which is open, a free value.
L2 includes every L1, so that the line replaced leaves those too. -/
def l2Fill (b : Block) (i : Fin 4) (line : Nat) (dirty : Bool) : Block :=
  let ways := 16 - carveWays b
  let set := (sliceAt b i).lines.filter (fun x => decide (l2Set x.line = l2Set line))
  match (List.range ways).find? (fun w => !set.any (fun x => decide (x.way = w))) with
  | some w => onSlice b i (fun s => { s with lines := ⟨line, w, dirty⟩ :: s.lines })
  | none =>
    let v := b.fresh ways
    let b := match set.find? (fun x => decide (x.way = v.1)) with
      | some o =>
        let b := dropL1 v.2 none (fun l => decide (l = o.line))
        if o.dirty then evictLine b i o.line else b
      | none => v.2
    onSlice b i (fun s => { s with
      lines := ⟨line, v.1, dirty⟩ :: s.lines.filter (fun x => !decide (l2Set x.line = l2Set line ∧ x.way = v.1)) })

/-- A slice holds a line. -/
def l2Holds (b : Block) (i : Fin 4) (line : Nat) : Bool := (sliceAt b i).lines.any (fun x => decide (x.line = line))

/-! ### Requests (R675, R676) -/

/-- A request for a line: a store or a read, the core whose L1 it passes with whether it fetches an instruction, and its class
(R21). -/
structure MemReq where
  line : Nat
  store : Bool
  core : Option (Fin 12 × Bool)
  realTime : Bool
  deriving DecidableEq, Repr

/-- A store leaves its line dirty under write-back alone (R677). -/
def MemReq.dirties (q : MemReq) (b : Block) : Bool := q.store && decide (linePolicy b q.line = 0)

/-- The L1 a request fills: that of a core that reads (R673: the data L1 allocates on reads only). -/
def MemReq.fill (q : MemReq) : List (Fin 12 × Bool) := if q.store then [] else q.core.toList

/-- A request answered from L2. -/
def l2Hit (b : Block) (i : Fin 4) (q : MemReq) : Block :=
  let b := if q.dirties b then onSlice b i (fun s => { s with
      lines := updAll (fun x => decide (x.line = q.line)) (fun x => { x with dirty := true }) s.lines }) else b
  q.fill.foldl (fun b c => l1Fill b c.1 c.2 q.line) b

/-- DRAM answers a miss register: its line enters L2 and the L1s that asked for it, and the register is free. -/
def missAnswered (b : Block) (i : Fin 4) (m : MissReg) : Block :=
  let b := l2Fill (onSlice b i (fun s => { s with miss := s.miss.filter (fun x => decide (x ≠ m)) })) i m.line m.dirty
  m.fills.foldl (fun b c => l1Fill b c.1 c.2 m.line) b

/-- DRAM answers the oldest registers of a slice, n of them. -/
def missesAnswered (b : Block) (i : Fin 4) (n : Nat) : Block :=
  ((sliceAt b i).miss.take n).foldl (fun b m => missAnswered b i m) b

/-- DRAM answers every read that L2 awaits (R701: within 80 ns). -/
def allAnswered (b : Block) : Block :=
  (List.finRange 4).foldl (fun b i => missesAnswered b i (sliceAt b i).miss.length) b

/-- A primary miss takes a register (R675, R704). -/
def takeMiss (b : Block) (i : Fin 4) (q : MemReq) : Block :=
  let m : MissReg := ⟨q.line, 1, q.realTime, q.dirties b, q.fill⟩
  let b := onSlice b i (fun s => { s with miss := s.miss ++ [m] })
  b.put .MEM_MISS_PEAK 0 (max (b.get .MEM_MISS_PEAK 0) (sliceAt b i).miss.length)

/-- A register is free for a request of a class: one of the sixteen serves the real-time class alone (R675). -/
def missRoom (s : L2Slice) (realTime : Bool) : Bool :=
  decide (s.miss.length < 16 ∧ (realTime = true ∨ (s.miss.filter (fun m => !m.realTime)).length < 15))

/-- How many of a slice's registers, oldest first, DRAM answers until one is free for a request of a class. -/
def missWait (s : L2Slice) (realTime : Bool) : Nat :=
  if realTime then 1 else s.miss.findIdx (fun m => !m.realTime) + 1

/-- A miss (R675): it joins the register of its line, up to eight requests, or takes a free one; else it waits at the slice until DRAM
answers the register it waits for, and is counted (R704; DEDUCED, log entry 176). -/
def l2Miss (b : Block) (i : Fin 4) (q : MemReq) : Block :=
  match (sliceAt b i).miss.find? (fun m => decide (m.line = q.line)) with
  | some m =>
    if m.requests < 8 then
      (onSlice b i (fun s => { s with miss := updFirst (fun x => decide (x.line = q.line)) (fun x => { x with
        requests := x.requests + 1, dirty := x.dirty || q.dirties b, fills := x.fills ++ q.fill }) s.miss })).bump .MEM_MISS_MERGED 0
    else l2Hit (missAnswered (b.bump .MEM_MISS_FULL 0) i m) i q
  | none =>
    if missRoom (sliceAt b i) q.realTime then takeMiss b i q
    else takeMiss (missesAnswered (b.bump .MEM_MISS_FULL 0) i (missWait (sliceAt b i) q.realTime)) i q

/-- What DRAM has done for a slice since its last request is open (R701 bounds it, and the model's clock counts microseconds): how many
evictions it has accepted, whether the next is started, and how many reads it has answered are free values. -/
def dramProgress (b : Block) (i : Fin 4) : Block :=
  let s := sliceAt b i
  if s.evict.isEmpty && s.miss.isEmpty then b
  else
    let e := b.fresh (s.evict.length + 1)
    let n := e.2.fresh (s.evict.length + 1)
    let m := n.2.fresh (s.miss.length + 1)
    let b := onSlice m.2 i (fun s =>
      let left := s.evict.drop e.1
      { s with evict := (left.take n.1).map (fun x => { x with started := true }) ++ left.drop n.1 })
    missesAnswered b i m.1

/-- A request at its slice (R674 to R676): the line in L2 is a hit; in the eviction buffer it moves back and its write is cancelled, or,
where that has started, the request waits for DRAM and then misses. -/
def l2Request (b : Block) (q : MemReq) : Block :=
  let i := sliceOf q.line
  let b := dramProgress b i
  if l2Holds b i q.line then l2Hit b i q
  else match (sliceAt b i).evict.find? (fun x => decide (x.line = q.line)) with
    | some x =>
      let b := onSlice b i (fun s => { s with evict := s.evict.filter (fun y => !decide (y.line = q.line)) })
      if x.started then l2Miss (b.bump .MEM_EVB_WAITED 0) i q
      else l2Hit (l2Fill (b.bump .MEM_EVB_RECLAIM 0) i q.line true) i q
    | none => l2Miss b i q

/-- A read that a core's L1 answers itself. -/
def l1Serves (b : Block) (q : MemReq) : Bool :=
  !q.store && (match q.core with | some c => l1Holds b c.1 c.2 q.line | none => false)

/-- A memory access (R673 to R677): a read that a core's L1 holds goes no further; a store invalidates every other core's copy; uncached
classes pass the caches by. -/
def lineAccess (b : Block) (q : MemReq) : Block :=
  if !isDramLine q.line || decide (linePolicy b q.line = 2) then b
  else if l1Serves b q then b
  else
    let b := if q.store then dropL1 b (q.core.map (fun c => c.1)) (fun l => decide (l = q.line)) else b
    l2Request b q

/-- An access to the bytes of a range, line by line in ascending order; each is answered before the next step of the machine. -/
def rangeAccess (b : Block) (x len : Nat) (store : Bool) (core : Option (Fin 12 × Bool)) : Block :=
  if len = 0 then b
  else allAnswered ((List.range ((x + len - 1) / 64 - x / 64 + 1)).foldl (fun b k => lineAccess b ⟨x / 64 + k, store, core, false⟩) b)

/-! ### Write-back (R678) -/

/-- L2 writes back every dirty line: DRAM has accepted the evictions, and no line is dirty. -/
def writeBackAll (b : Block) : Block :=
  { b with mm := { b.mm with caches := { b.mm.caches with l2 := b.mm.caches.l2.map (fun s => { s with
      lines := s.lines.map (fun x => { x with dirty := false }), evict := [] }) } } }

/-- L2 writes back the lines that satisfy a test, and the caches hold them no more. -/
def writeBackWhere (b : Block) (p : Nat → Bool) : Block :=
  let b := dropL1 b none p
  { b with mm := { b.mm with caches := { b.mm.caches with l2 := b.mm.caches.l2.map (fun s => { s with
      lines := s.lines.filter (fun x => !p x.line), evict := s.evict.filter (fun x => !p x.line) }) } } }

/-- An activation brings the policies of its image into use (R678): the lines of each class whose policy changes are written back and
invalidated first. -/
def policiesChanged (old b : Block) : Block := writeBackWhere b (fun l => decide (linePolicy old l ≠ linePolicy b l))

end Sys2Proof.Machine
end

