-- ==== Sys2Proof/Machine/Io.lean ====
section
/-! DEFINITION. I/O commands from check to end: write checks (R383, R404), data received (R121, R122, R384), zones and
conventional groups written (R388 to R391, R401), commands started and released from fences (R560, R561), and commands ended
by a reset, an abort or a recovery (R133, R564, R566). -/

namespace Sys2Proof.Machine

/-- The keys of a range of blocks. -/
def rangeKeys (nsid lba n : Nat) : List Nat := (List.range n).map (fun i => blockKey nsid (lba + i))

/-! ### Budgets -/

/-- The dirty-DRAM cap in blocks (R467): 96 MiB for each erased data superblock of the HOLDUP reserve. -/
def dirtyCap (b : Block) : Nat := 24576 * (rsvReady b 0 false + rsvReady b 1 false)

/-- Slots of the write stage not programmed since their blocks' last erase; none while the NAND is above its limit (R624). -/
def stageRoom (b : Block) : Nat :=
  if b.thm.nandHot ≠ 0 then 0 else
  stageBlocks b * 8192 - stageUsed b

/-- A range covers whole aligned extents (R389, R390). -/
def wholeExtents (slba nlb : Nat) : Bool := decide (slba % 256 = 0 ∧ nlb % 256 = 0)

/-- A write is staged before its completion (R464). -/
def isStaged (b : Block) (n : Namespace) (slba nlb : Nat) : Bool :=
  !((n.zoned || wholeExtents slba nlb) && decide (b.cfgN .NND_BYPASS_KIB ≤ 4 * nlb ∧ slba % 4 = 0 ∧ nlb % 4 = 0))

/-! ### Writes that fail (R384) -/

/-- A command writes blocks. -/
def writesBlocks (k : CmdKind) : Bool := decide (k ∈ [.write, .append, .zeroes, .copy])

/-- An accepted write whose place in its zone was taken at the check, and which has not been applied. -/
def holdsPlace (c : Cmd) : Bool :=
  decide (c.kind ∈ [.write, .zeroes, .copy]) && c.bad.isNone && decide (c.phase ∉ [.staging, .behind])

/-- The expected pointer of R383 for what is still accepted. -/
def resetExpected (b : Block) (nsid k : Nat) : Block :=
  match zoneFind b nsid k with
  | some z =>
    let n := ((b.nvm.cmds.filter (fun c => holdsPlace c && decide (c.nsid = nsid ∧ c.slba / zoneSize = k))).map
      (fun c => c.nlb)).sum
    if z.state ∈ [.implicit, .explicit, .closed] then putZone b { z with expected := z.log.wp + n } else b
  | none => b

/-- A write whose data is all in is not undone (R121, R564). -/
def fullyReceived (c : Cmd) : Bool := writesBlocks c.kind && decide (c.phase ∈ [.staging, .waiting])

/-- Later writes that satisfy a test and were checked against a pointer beyond a failed one fail with Zone Invalid Write (R384); a held
one fails when it starts. -/
def failBehind (b : Block) (c : Cmd) (test : Cmd → Bool) : Block :=
  match nsFind b c.nsid with
  | none => b
  | some n =>
    if n.zoned && decide (c.kind ∈ [.write, .zeroes, .copy]) then
      let later := b.nvm.cmds.filter (fun d => holdsPlace d && !sameCmd c d && test d &&
        decide (d.nsid = c.nsid ∧ d.slba / zoneSize = c.slba / zoneSize ∧ c.slba < d.slba))
      let b := later.foldl (fun b d =>
        let b := countRejected b .zoneInvalidWrite
        if d.phase = .fenced then putCmd b { d with bad := some .zoneInvalidWrite }
        else
          let b := if d.phase = .waiting then (rangeKeys d.nsid d.slba d.nlb).foldl dirtyDrop b else b
          finishCmd b d .zoneInvalidWrite) b
      resetExpected b c.nsid (c.slba / zoneSize)
    else b

/-- Every later write checked against a pointer beyond a failed one fails (R384). -/
def failLater (b : Block) (c : Cmd) : Block := failBehind b c (fun _ => true)

/-- A write that fails before its data is in (R384). -/
def failWrite (b : Block) (c : Cmd) (st : Status) : Block := failLater (finishCmd b c st) c

/-! ### Conventional groups (R389, R401) -/

/-- A list kept sorted by a key while an element enters. -/
def insertBy (key : Nat → Nat) (x : Nat) : List Nat → List Nat
  | [] => [x]
  | y :: ys => if key x < key y then x :: y :: ys else y :: insertBy key x ys

/-- A list sorted by a key; equal keys keep their order. -/
def sortBy (key : Nat → Nat) (l : List Nat) : List Nat := l.foldl (fun acc x => insertBy key x acc) []

/-- A head's wear in ms of assist-on time (R268, R400), by surface. -/
def wearMs (b : Block) (s : Nat) : Nat := nget 0 (vget b.ast ⟨s / 6 % 4, by omega⟩).aonNs (s % 6) / 1000000

/-- The `XLT.CONV_WIDTH` surfaces chosen by R401 among candidates, in row order, or none where there are too few. -/
def chooseSurfs (b : Block) (cand : List Nat) : Option (List Nat) :=
  let w := b.cfgN .XLT_CONV_WIDTH
  let worn := sortBy (wearMs b) cand
  let picked :=
    if b.get .XL_STATE_LEVEL 0 = 1 then
      worn.foldl (fun acc s =>
        if acc.length < w ∧ (acc.filter (fun t => t / 6 = s / 6)).length < (w + 1) / 2 then acc ++ [s] else acc) []
    else (List.range 4).flatMap (fun a => (worn.filter (fun s => s / 6 = a)).take (w / 4 + (if a < w % 4 then 1 else 0)))
  if picked.length = w then some (rowOrder.filter (fun s => decide (s ∈ picked))) else none

/-- The surfaces of a new group at an index (R401), or none where too few have a free band. -/
def groupSurfs (b : Block) (g : Nat) : Option (List Nat) :=
  chooseSurfs b (rowOrder.filter (fun s => decide (surfState b s = 1) &&
    !b.xl.groups.any (fun x => decide (x.log.band = g) && decide (s ∈ x.log.surfs))))

/-- A new open group for a namespace at the first pool index that has room for one. -/
def newGroup (b : Block) (n : Namespace) : Option (Group × Block) :=
  (b.xl.pool.findSome? (fun g => (groupSurfs b g).map (fun ss => (g, ss)))).map (fun x =>
    let gr : Group := ⟨b.xl.nextGroup, n.nsid, { emptyLog b x.1 n.profile with surfs := x.2 }, false, b.now / 3600000000⟩
    (gr, b.onXl (fun t => { t with groups := t.groups ++ [gr], nextGroup := t.nextGroup + 1 })))

/-- Extents that a group holds. -/
def groupExtents (b : Block) (l : RowLog) : Nat := b.cfgN .FMT_BAND_TRK * rowBlocks l / 256

/-- The open group of a namespace, made where it has none. -/
def openGroup (b : Block) (n : Namespace) : Option (Group × Block) :=
  match b.xl.groups.find? (fun g => decide (g.nsid = n.nsid) && !g.closed) with
  | some g => some (g, b)
  | none => newGroup b n

/-- A cached block's copy given up (R390): its NAND slot, or its place in DRAM. -/
def dropCached (b : Block) (key : Nat) : Block :=
  match b.xl.cached.find? (fun c => c.1 = key) with
  | none => b
  | some c =>
    let b := if nget 0 b.ns.map key ≠ 0 then dropSlot b key
      else if c.2 ≠ 0 then b else dirtyDrop b key
    freeMcRows (b.onXl (fun x => { x with cached := x.cached.filter (fun d => d.1 ≠ key) }))

/-- The place of an extent given up: what of it has not reached the media is no longer dirty. -/
def releaseExtent (b : Block) (key : Nat) : Block :=
  let e := nget 0 b.xl.extents key
  if e = 0 then b
  else
    let o : RowOwner := .conv ((e - 1) / 2 ^ 20)
    let at_ := (e - 1) % 2 ^ 20 * 256
    match ownerLog b o with
    | none => b
    | some l => ((unreleased b o l).filter (fun off => decide (at_ ≤ off ∧ off < at_ + 256))).foldl (fun b off =>
        match ownerBlock b o off with | some k => releaseBlock b o k | none => b) b

/-- One whole extent placed at the log head (R390); none where the pool has no room for a group. -/
def placeExtent (b : Block) (n : Namespace) (ext : Nat) : Option Block :=
  match openGroup b n with
  | none => none
  | some (g, b) =>
    let pos := g.log.wp / 256
    let b := (rangeKeys n.nsid (ext * 256) 256).foldl dropCached b
    let key := n.nsid * 2 ^ 32 + ext
    let b := releaseExtent b key
    let b := b.onXl (fun x => { x with
      extents := ninsert (nerase x.extents key) key (g.id * 2 ^ 20 + pos + 1), convPending := x.convPending + 256 })
    let full := decide (groupExtents b g.log ≤ pos + 1)
    let b := putGroup b { g with log := { g.log with wp := g.log.wp + 256 }, lastHour := b.now / 3600000000, closed := full }
    some (if full then fillRow b (.conv g.id) else feedLog b (.conv g.id))

/-- A block held as a cached write (R390): the newest of its key. -/
def cacheBlock (b : Block) (key : Nat) : Block :=
  let b := dropCached b key
  b.onXl (fun x => { x with cached := x.cached ++ [(key, 0)] })

/-- Received data of a conventional namespace placed: whole aligned extents at the log head, the rest as cached writes. -/
def placeConv (b : Block) (n : Namespace) (slba nlb : Nat) : Block :=
  if wholeExtents slba nlb then
    (List.range (nlb / 256)).foldl (fun b i =>
      match placeExtent b n (slba / 256 + i) with
      | some b' => b'
      | none => (rangeKeys n.nsid (slba + 256 * i) 256).foldl cacheBlock b) b
  else (rangeKeys n.nsid slba nlb).foldl cacheBlock b

/-- Blocks deallocated (R391): they read as zeros, and whole extents give up their places. -/
def deallocate (b : Block) (n : Namespace) (slba nlb : Nat) : Block :=
  let b := (rangeKeys n.nsid slba nlb).foldl dropCached b
  let b := eraseRange b n.nsid slba nlb
  let whole := (List.range (nlb / 256 + 1)).filter (fun i =>
    let e := (slba + 255) / 256 + i
    decide (e * 256 + 256 ≤ slba + nlb))
  let b := whole.foldl (fun b i => releaseExtent b (n.nsid * 2 ^ 32 + (slba + 255) / 256 + i)) b
  b.onXl (fun x => { x with extents := whole.foldl (fun m i => nerase m (n.nsid * 2 ^ 32 + (slba + 255) / 256 + i)) x.extents })

/-! ### Data received (R121, R384) -/

/-- The data of a range, ciphered as it goes to the media or the NAND (R33, R87). -/
def setTokens (b : Block) (n : Namespace) (slba : Nat) (ds : List Nat) : Block :=
  b.onXl (fun x => { x with
    data := (ds.zip (List.range ds.length)).foldl (fun m d =>
      nset 0 m (blockKey n.nsid (slba + d.2)) (cipherUnit b n (slba + d.2) d.1 + 1)) x.data
    lost := x.lost.filter (fun k => !decide (blockKey n.nsid slba ≤ k ∧ k < blockKey n.nsid slba + ds.length)) })

/-- A write whose data is in: it completes when it is durable (R34, R464, R465). -/
def writeDurable (b : Block) (c : Cmd) (n : Namespace) : Block :=
  let pending := ((b.nvm.cmds.filter (fun d => d.phase = .staging)).map (fun d => d.need)).sum
  if isStaged b n c.slba c.nlb && decide (pending + c.nlb ≤ stageRoom b) then
    putCmd b { c with phase := .staging, need := c.nlb }
  else if c.kind = .append then finishCmd b c .success (c.slba % 2 ^ 32) (c.slba / 2 ^ 32)
  else finishCmd b c .success

/-- The reference tag of a block's protection information moved on: the last four of its eight bytes, the highest first. -/
def moveRefTag (token by_ : Nat) : Nat :=
  let at_ := 2 ^ (8 * 4100)
  let bytes := (List.range 4).map (fun i => token / (at_ * 256 ^ i) % 256)
  let tag := (bytes.foldl (fun v x => v * 256 + x) 0 + by_) % 2 ^ 32
  token % at_ + ((List.range 4).map (fun i => tag / 256 ^ (3 - i) % 256 * 256 ^ i)).sum * at_

/-- A Zone Append's data with its reference tags remapped, where the command asks for it under protection types 1 and 2: each by the
distance of the position given from the zone's first LBA (R587; the standard's rule, log entry 170). -/
def remapped (c : Cmd) (n : Namespace) (at_ : Nat) : List Nat :=
  if c.remap && decide (n.dps % 8 = 1 ∨ n.dps % 8 = 2) then c.data.map (fun t => moveRefTag t at_) else c.data

/-- A write applied at an offset of its zone, behind which the write pointer then stands (R383). -/
def landAt (b : Block) (c : Cmd) (n : Namespace) (z : Zone) (at_ : Nat) : Block :=
  let c := { c with slba := z.k * zoneSize + at_ }
  let b := setTokens b n c.slba (remapped c n at_)
  let wp := at_ + c.nlb
  let b := putZone b { z with
    log := { z.log with wp := wp }
    state := if wp = z.cap then .full else z.state
    expected := if c.kind = .append then z.expected + c.nlb else max z.expected wp }
  let b := putCmd b c
  writeDurable (feedLog b (zoneOwner z)) c n

/-- A write applied at its zone's write pointer (R383). -/
def landZone (b : Block) (c : Cmd) (n : Namespace) (z : Zone) : Block := landAt b c n z z.log.wp

/-- Received writes that stood behind one another are applied as the pointer reaches them; at most n. -/
def landWaiting : Nat → Block → Namespace → Nat → Block
  | 0, b, _, _ => b
  | m + 1, b, n, k =>
    match zoneFind b n.nsid k with
    | none => b
    | some z =>
      match b.nvm.cmds.find? (fun c => decide (c.phase = .waiting ∧ c.nsid = n.nsid) && holdsPlace c &&
          decide (c.slba = k * zoneSize + z.log.wp)) with
      | some c => landWaiting m (landZone b c n z) n k
      | none => b

/-- The received write of a zone that waits at the lowest block. -/
def firstWaiting (b : Block) (nsid k : Nat) : Option Cmd :=
  let ws := b.nvm.cmds.filter (fun c => decide (c.phase = .waiting ∧ c.nsid = nsid ∧ c.slba / zoneSize = k) && holdsPlace c)
  ws.find? (fun c => ws.all (fun d => decide (c.slba ≤ d.slba)))

/-- Received writes whose predecessors a reset has dropped are applied where they stand (R121, R122, R133): the blocks that were dropped
before them are never written and read as zeros (DESIGN CHOICE, log entry 139); at most n. -/
def landGaps : Nat → Block → Namespace → Nat → Block
  | 0, b, _, _ => b
  | m + 1, b, n, k =>
    match zoneFind b n.nsid k, firstWaiting b n.nsid k with
    | some z, some c =>
      if b.nvm.cmds.any (fun d => holdsPlace d && decide (d.phase ≠ .waiting ∧ d.nsid = n.nsid ∧ d.slba / zoneSize = k ∧ d.slba < c.slba))
      then b else landGaps m (landAt b c n z (c.slba % zoneSize)) n k
    | _, _ => b

/-- A write to a zone whose data is in: applied at the pointer, kept until the pointer reaches it, or failed where it can no
longer stand (R383, R384, R443). -/
def receiveZone (b : Block) (c : Cmd) (n : Namespace) (z : Zone) : Block :=
  let off := c.slba % zoneSize
  if z.state = .readOnly ∨ z.state = .offline then failWrite b c .zoneReadOnly
  else if c.kind = .append then
    if z.state = .full then failWrite b c .zoneFull
    else if z.cap < z.expected + c.nlb then failWrite b c .zoneBoundary
    else
      let b := dirtyAdd b (rangeKeys n.nsid (z.k * zoneSize + z.log.wp) c.nlb)
      landWaiting b.nvm.cmds.length (landZone b c n z) n z.k
  else if off = z.log.wp then
    let b := dirtyAdd b (rangeKeys n.nsid c.slba c.nlb)
    landWaiting b.nvm.cmds.length (landZone b c n z) n z.k
  else if off < z.log.wp then failWrite (countRejected b .zoneInvalidWrite) c .zoneInvalidWrite
  else putCmd (dirtyAdd b (rangeKeys n.nsid c.slba c.nlb)) { c with phase := .waiting }

/-- The status of a protection-information check (R573). -/
def piStatus : PiCheck → Status
  | .ok => .success
  | .guard => .guardCheck
  | .app => .appTagCheck
  | .ref => .refTagCheck

/-- A write's data is fully in DRAM (R122, R383, R573): without poison it is applied; poisoned or failing its check it is
refused whole. -/
def receiveWrite (b : Block) (c : Cmd) (data : List Nat) (poison : Bool) (pi : PiCheck) : Block :=
  match nsFind b c.nsid with
  | none => failWrite b c .invalidNamespace
  | some n =>
    if poison then failWrite b c .dataTransferError
    else if n.dps % 8 ≠ 0 ∧ pi ≠ .ok then failWrite b c (piStatus pi)
    else
      let ds := (List.range c.nlb).map (fun i => data.getD i 0 % 2 ^ (8 * unitBytes n))
      let c := { c with data := ds }
      let b := putCmd b c
      if n.zoned then
        match zoneFind b n.nsid (c.slba / zoneSize) with
        | some z => evalSpace (receiveZone b c n z)
        | none => failWrite b c .lbaOutOfRange
      else
        let b := dirtyAdd b (rangeKeys n.nsid c.slba c.nlb)
        let b := placeConv (setTokens b n c.slba ds) n c.slba c.nlb
        evalSpace (writeDurable b c n)

/-- Media work reaches a zone or group only once its pending row is complete (R124). -/
def rowPending (b : Block) (nsid lba : Nat) : Bool :=
  b.pwr.pending.any (fun r => match r.owner with
    | .zone n z => decide (n = nsid ∧ z / zoneSize = lba / zoneSize)
    | _ => false)

/-- Write data is fetched from a host (R35, R103, R465, R513, R518, R561): in RUN or IDLE with the spindle locked, over a
port that sends requests, within the dirty budget, and
once a reserve that a flush has used is whole again (R466). A Copy, a Write Zeroes and a write
from the Controller Memory Buffer take no transfer over the link (R551). -/
def mayReceive (b : Block) (c : Cmd) : Bool :=
  decide (c.phase = .receiving) && decide (b.mode = .run ∨ b.mode = .idle) && decide (b.get .SPN_STATE_LOCK 0 = 1) &&
    (decide (c.kind ∈ [.copy, .zeroes]) || c.cmb.isSome || hostReachable b c.port) && decide (dirtyCount b + c.nlb ≤ dirtyCap b) &&
    !rowPending b c.nsid c.slba && !b.ns.rsv.any (fun r => r.blocks.any (fun n => decide (0 < (nandBlock b n).ptr)))

/-! ### Reads of the host's memory (R506, R507) -/

/-- The bytes of one write-data read (R506): the Max_Read_Request_Size of Device Control, default 512 bytes, and
`HST.MRRS_CAP`. -/
def readSize (b : Block) (p : Port) : Nat :=
  128 * 2 ^ min (configReg (vget b.px p) 0x78 0x2910 / 2 ^ 12 % 8) (min 5 (b.cfgN .HST_MRRS_CAP))

/-- The reads that a write's data takes: its pages are read in aligned pieces. -/
def readsOf (b : Block) (c : Cmd) : Nat := if c.cmb.isSome then 0 else c.nlb * (4096 / min 4096 (readSize b c.port))

/-- 10-bit tags are in use (R507): `HST.TAG_MODE` and 10-bit Tag Requester Enable, bit 12 of Device Control 2. -/
def tenBitTags (b : Block) (p : Port) : Bool :=
  decide (b.cfgN .HST_TAG_MODE = 1) && bit (configReg (vget b.px p) 0x98 0) 12

/-- The lowest tag and the number of tags. -/
def tagRange (b : Block) (p : Port) : Nat × Nat := if tenBitTags b p then (256, 768) else (0, 256)

/-- The next free tag in rotation after the last one issued (R507); none where every tag is outstanding or in quarantine. -/
def freeTag (b : Block) (p : Port) : Option Nat :=
  let r := tagRange b p
  let x := vget b.px p
  let start := if r.1 ≤ x.lastTag ∧ x.lastTag < r.1 + r.2 then x.lastTag - r.1 + 1 else 0
  ((List.range r.2).map (fun i => r.1 + (start + i) % r.2)).find? (fun t =>
    !x.out.any (fun o => o.tag = t) && !x.quarantine.any (fun q => q.1 = t))

/-- A read request sent, where a tag is free. -/
def issueRead (b : Block) (p : Port) (f : ReadFor) : Option Block :=
  (freeTag b p).map (fun t =>
    let o : OutRead := ⟨t, f, b.get .PX_CTO_TMS p.val, b.now⟩
    let b := (touchLink b p).onPx p (fun x => { x with out := x.out ++ [o], lastTag := t })
    b.putSat .PX_TAGS_PEAK p.val (max (b.get .PX_TAGS_PEAK p.val) (vget b.px p).out.length))

/-- The reads outstanding for a command. -/
def readsOut (b : Block) (c : Cmd) : Nat :=
  ((vget b.px c.port).out.filter (fun o => decide (o.for_ = .command c.sq c.cid))).length

/-- At most n reads sent for a command. -/
def pumpCmd : Nat → Block → Cmd → Block
  | 0, b, _ => b
  | n + 1, b, c =>
    match issueRead b c.port (.command c.sq c.cid) with
    | some b => pumpCmd n b c
    | none => b

/-- The write-data reads of a port that may be sent, in the order of fetch; without a free tag they wait. -/
def pumpReads (b : Block) (p : Port) : Block :=
  (b.nvm.cmds.filter (fun c => decide (c.port = p ∧ c.kind ∈ [.write, .append]))).foldl (fun b c =>
    if mayReceive b c then pumpCmd (c.need - c.waited - readsOut b c) b c else b) b

/-! ### Commands withdrawn (R302, R564) -/

/-- A purpose is that of a command. -/
def forCmd (c : Cmd) (f : ReqFor) : Bool :=
  match f with
  | .host p sq cid _ => decide (p = c.port ∧ sq = c.sq ∧ cid = c.cid)
  | _ => false

/-- Media work of some purposes withdrawn (R302, R564, R597): its requests and reconstructions go, the sectors being read for it are
needed no longer, and a track job in progress is cut at the next sector boundary. -/
def withdrawFor (b : Block) (mine : ReqFor → Bool) : Block :=
  let ids := (b.xl.recons.filter (fun x => mine x.for_)).map (fun x => x.id)
  let gone := fun (r : MediaReq) => mine r.for_ ||
    (match r.for_ with | .source id => decide (id ∈ ids) | _ => false)
  let tags := (b.xl.active.filter gone).map (fun r => r.tag)
  let b := b.onXl (fun x => { x with
    queues := x.queues.map (fun q => q.filter (fun r => !gone r)), beyond := x.beyond.filter (fun r => !gone r)
    active := x.active.filter (fun r => !gone r), recons := x.recons.filter (fun x => !decide (x.id ∈ ids)) })
  (List.finRange 4).foldl (fun b a =>
    let b := b.onCh a (fun h => { h with
      sectors := updAll (fun (r : SectorRead) => decide (r.tag ∈ tags)) (fun r => { r with dropped := true }) h.sectors })
    let cut := match (vget b.ts a).cur with | some j => decide (j.tag ∈ tags) | none => false
    let b := b.onTs a (fun t => { t with jobs := t.jobs.filter (fun j => !decide (j.tag ∈ tags)) })
    let b := admitBeyond b a
    if cut then trapRequest (b.put .TS_STATE_STOPREQ a.val 1) a 3 else b) b

/-- A command's media work withdrawn (R302, R564). -/
def withdrawCmd (b : Block) (c : Cmd) : Block := withdrawFor b (forCmd c)

/-- A command in execution ended with a status. -/
def abortOne (b : Block) (c : Cmd) (st : Status) : Block :=
  let b := withdrawCmd b c
  if writesBlocks c.kind && c.bad.isNone && decide (c.phase ≠ .behind) then failWrite b c st else finishCmd b c st

/-! ### Zone reports (R584, R588) -/

/-- A zone state's code in a zone descriptor, the standard's. -/
def ZState.code : ZState → Nat
  | .empty => 1 | .implicit => 2 | .explicit => 3 | .closed => 4 | .readOnly => 0xD | .full => 0xE | .offline => 0xF

/-- A zone's attributes (R584): Finish Zone Recommended in bit 1, Reset Zone Recommended in bit 2. -/
def zoneAttributes (b : Block) (z : Zone) : Nat :=
  let finish := zoneIsActive z && decide (retireMask b ≠ 0) && retireZone b (retireMask b) z
  let base := blockKey z.nsid (z.k * zoneSize)
  let lost := b.xl.lost.any (fun k => decide (base ≤ k ∧ k < base + zoneSize))
  let below := (List.range (rowsHeld z.log)).any (fun k => decide (0 < goneCount b (zoneOwner z) z.log k))
  (if finish then 2 else 0) + (if lost || below then 4 else 0)

/-- A zone descriptor (R584): type, state, attributes, capacity, first LBA and write pointer, which is all ones where the standard
gives it no meaning. -/
def zoneDescriptor (b : Block) (z : Zone) : List Nat :=
  let first := z.k * zoneSize
  [2, z.state.code, zoneAttributes b z, zoneCap b z, first,
    if z.state ∈ [.full, .readOnly, .offline] then 2 ^ 64 - 1 else first + z.log.wp]

/-- A reporting option selects a zone: 0 all, then the seven states in the standard's order. -/
def reportSelects (opt : Nat) (z : Zone) : Bool :=
  if opt = 0 then true
  else match ([ZState.empty, .implicit, .explicit, .closed, .full, .readOnly, .offline] : List ZState)[opt - 1]? with
    | some st => decide (z.state = st)
    | none => false

/-- Report Zones (R588): the number of zones, and the descriptors of those from an LBA on that an option selects, as many as the
buffer and the limit of 32,767 take. With the Partial Report bit the number is that of the descriptors. -/
def zoneReport (b : Block) (n : Namespace) (slba opt : Nat) (partial_ : Bool) (room : Nat) : List Nat :=
  let ks := (List.range (n.size / zoneSize)).filter (fun k => slba / zoneSize ≤ k)
  let zs := (ks.filterMap (fun k => zoneFind b n.nsid k)).filter (reportSelects opt)
  let shown := zs.take (min room 32767)
  (if partial_ then shown.length else zs.length) :: shown.flatMap (zoneDescriptor b)

/-! ### Commands done whole when they start -/

/-- Reservation Acquire started; a preempt and abort ends the commands of the preempted hosts to the namespace, as Abort does,
those fully received apart (R570). -/
def startAcquire (b : Block) (c : Cmd) (n : Namespace) : Block :=
  let arg := fun (i : Nat) => c.src.getD i 0
  let r := resAcquire b (vget b.nv c.port).hostId n (arg 0) (arg 1 = 1) (arg 2) (arg 3) (arg 4)
  let b := r.1
  let hit := if arg 0 = 2 then b.nvm.cmds.filter (fun d =>
      decide (d.nsid = n.nsid ∧ d.cid < noCompletion) && decide ((vget b.nv d.port).hostId ∈ r.2.2) && !fullyReceived d) else []
  let b := hit.foldl (fun b d => match cmdFind b d.port d.sq d.cid with | some e => abortOne b e .abortRequested | none => b) b
  finishCmd b c r.2.1

/-- A command done whole when it starts: 0 Dataset Management's Deallocate, 1 to 4 the reservation commands, 5 Report Zones. -/
def startInstant (b : Block) (c : Cmd) (n : Namespace) (op : Nat) : Block :=
  let arg := fun (i : Nat) => c.src.getD i 0
  let host := (vget b.nv c.port).hostId
  if op = 0 then
    if reservationConflict b c.port n true then finishCmd b c .reservationConflict
    else if n.zoned then finishCmd b c .success
    else finishCmd (c.src.foldl (fun b r => deallocate b n (r / 2 ^ 32) (r % 2 ^ 32)) b) c .success
  else if op = 1 then
    let r := resRegister b host n (arg 0) (arg 1 = 1) (arg 2) (arg 3) (arg 4)
    finishCmd r.1 c r.2
  else if op = 2 then finishCmd (b.answer (.data (resReport n))) c .success
  else if op = 3 then startAcquire b c n
  else if op = 4 then
    let r := resRelease b host n (arg 0) (arg 1 = 1) (arg 2) (arg 3)
    finishCmd r.1 c r.2
  else if reservationConflict b c.port n false then finishCmd b c .reservationConflict
  else finishCmd (b.answer (.data (zoneReport b n (arg 0) (arg 1) (arg 2 = 1) (arg 3)))) c .success

/-! ### Commands started (R555, R561, R570) -/

/-- A command starts: fetched with no fence to hold it, or released from the one that held it. -/
def startCmd (b : Block) (c : Cmd) : Block :=
  match nsFind b c.nsid with
  | none => if c.kind = .fence then putCmd b { c with phase := .waiting } else finishCmd b c .invalidNamespace
  | some n =>
    match c.kind with
    | .fence => putCmd b { c with phase := .waiting }
    | .read | .verify =>
      if reservationConflict b c.port n false then finishCmd b c .reservationConflict else startReads b n c
    | .zone _ =>
      if reservationConflict b c.port n true then finishCmd b c .reservationConflict
      else settleWaits (putCmd b { c with phase := .waiting })
    | .instant op => startInstant b c n op
    | k =>
      match c.bad with
      | some st => finishCmd b c st
      | none =>
        if reservationConflict b c.port n true then failWrite b c .reservationConflict
        else if k = .copy then startReads b n c
        else if k = .zeroes ∧ n.zoned = false then finishCmd (deallocate b n c.slba c.nlb) c .success
        else if k = .zeroes then putCmd b { c with phase := .receiving }
        else pumpReads (putCmd b { c with phase := .receiving, need := readsOf b c, waited := 0 }) c.port

/-- Held commands that no fence holds any longer start in the order of their fetch (R561, R563). -/
def releaseFenced (b : Block) : Block :=
  (b.nvm.cmds.filter (fun c => c.phase = .fenced ∨ c.phase = .checked)).foldl (fun b c =>
    match cmdFind b c.port c.sq c.cid with
    | some d => if (d.phase = .fenced ∨ d.phase = .checked) ∧ fenceHolds b d = false then startCmd b d else b
    | none => b) b

/-- A command fetched and checked enters execution, held where a fence says so (R549, R561). -/
def beginCmd (b : Block) (c : Cmd) : Block :=
  let b := b.onNvm (fun n => { n with cmds := n.cmds ++ [c] })
  let b := execPeak b
  let b := if b.hea.actLow.isNone then b.onHea (fun h => { h with actLow := some b.now }) else b
  let b := refreshLtr b c.port
  if c.phase = .behind then b
  else if c.kind ≠ .fence ∧ fenceHolds b c = true then putCmd b { c with phase := .fenced } else startCmd b c

/-! ### Commands ended from outside (R133, R564, R566) -/

/-- A command in execution ended with a status, and a fence's held commands released (R563, R564). -/
def abortCmd (b : Block) (c : Cmd) (st : Status) : Block :=
  let b := abortOne b c st
  if c.kind = .fence then releaseFenced b else b

/-- A write that a reset dropped (R133): later ones that are not all in fail, and those that are all in are applied. -/
def resetBehind (b : Block) (c : Cmd) : Block :=
  let b := failBehind b c (fun d => !fullyReceived d)
  match nsFind b c.nsid with
  | some n => if n.zoned then resetExpected (landGaps b.nvm.cmds.length b n (c.slba / zoneSize)) n.nsid (c.slba / zoneSize) else b
  | none => b

/-- A command ended by a reset (R133): a write that is all in goes on without a completion, everything else is dropped. -/
def resetCmd (b : Block) (c : Cmd) : Block :=
  if fullyReceived c then
    let tag := b.xl.nextTag
    let b := b.onXl (fun x => { x with nextTag := tag + 1 })
    b.onNvm (fun n => { n with cmds := updFirst (sameCmd c) (fun d => { d with cid := noCompletion * (tag + 1) + d.cid }) n.cmds })
  else settleWaits (dropCmd (withdrawCmd b c) c)

/-- The commands of a controller ended by a reset, and what they held released (R133, R563). -/
def resetCmds (b : Block) (p : Port) : Block :=
  let mine := b.nvm.cmds.filter (fun c => decide (c.port = p ∧ c.cid < noCompletion))
  let b := mine.foldl (fun b c => match cmdFind b c.port c.sq c.cid with | some d => resetCmd b d | none => b) b
  let lost := mine.filter (fun c => writesBlocks c.kind && c.bad.isNone && !fullyReceived c)
  let b := lost.foldl resetBehind b
  let b := b.onNvm (fun n => { n with waits := n.waits.filter (fun w => w.port ≠ p) })
  releaseFenced b

/-! ### Queue recovery (R565 to R567) -/

/-- A queue recovery covers a submission queue. -/
def qrecNames (r : QueueRec) (q : Nat) : Bool := decide (q ≠ 0) && bit r.mask q

/-- A command in execution is covered. -/
def qrecCovers (p : Port) (r : QueueRec) (c : Cmd) : Bool :=
  decide (c.port = p ∧ c.stamp < r.stamp ∧ c.cid < noCompletion) && qrecNames r c.sq

/-- The first n entries of runs of one stamp taken away. -/
def dropRuns : Nat → List (Nat × Nat) → List (Nat × Nat)
  | _, [] => []
  | n, (t, k) :: rs => if k ≤ n then dropRuns (n - k) rs else (t, k - n) :: rs

/-- Entries of a queue that a stamp covers: fetched and not started, and still in host memory. -/
def coveredEntries (q : SubQueue) (stamp : Nat) : Nat × Nat :=
  ((q.fetched.filter (fun t => t < stamp)).length,
   ((q.waiting.filter (fun w => w.1 < stamp)).map (fun w => w.2)).sum)

/-- n covered entries of a queue taken out of it: first those fetched and not started, then those in host memory. -/
def takeCovered (q : SubQueue) (stamp n : Nat) : SubQueue :=
  let c := coveredEntries q stamp
  let f := min n c.1
  let w := min (n - f) c.2
  { q with
    fetched := (List.range f).foldl (fun l _ => dropFirst (fun t => t < stamp) l) q.fetched
    waiting := dropRuns w q.waiting
    head := (q.head + w) % max 1 q.size }

/-- A queue recovery begins (R566): covered commands in execution end, but for writes that are all in, which it waits for; the
covered entries not started complete with Command Abort Requested, and those that could not be read stay, as R512 says. -/
def qrecBegin (b : Block) (p : Port) (r : QueueRec) : QueueRec × Block :=
  let mine := b.nvm.cmds.filter (qrecCovers p r)
  let full := mine.filter fullyReceived
  let others := mine.filter (fun c => !fullyReceived c)
  let b := others.foldl (fun b c =>
    match cmdFind b c.port c.sq c.cid with | some d => abortCmd b d .abortRequested | none => b) b
  let listed := r.unfetched.filter (fun x => qrecNames r x.1)
  let left := ((vget b.nv p).sqs.filter (fun q => qrecNames r q.qid)).any (fun q =>
    let c := coveredEntries q r.stamp
    decide ((listed.filter (fun x => x.1 = q.qid)).length < c.1 + c.2))
  let b := b.onNv p (fun c => { c with sqs := c.sqs.map (fun q =>
    if qrecNames r q.qid then takeCovered q r.stamp (listed.filter (fun x => x.1 = q.qid)).length else q) })
  let b := listed.foldl (fun b x => complete b p x.1 x.2 .abortRequested) b
  ({ r with begun := true, unread := left, waits := full.map (fun c => (c.sq, c.cid))
            ended := mine.length + listed.length }, b)

/-- A queue recovery ends with its own completion (R565, R581): the commands ended, those of them whose completions are held,
and whether an entry could not be read. -/
def qrecEnd (b : Block) (p : Port) (r : QueueRec) : Block :=
  match r.delete with
  | some q => complete (b.onNv p (fun c => { c with sqs := c.sqs.filter (fun x => x.qid ≠ q) })) p 0 r.cid .success
  | none =>
  let held := ((vget b.nv p).held.filter (fun h => qrecNames r h.1)).length
  let ms := min 0xFF ((b.now - r.at_) / 1000)
  let b := b.bump .NV_QREC_COUNT p.val
  let b := (b.put .NV_QREC_MAXMS p.val (max (b.get .NV_QREC_MAXMS p.val) ms)).putSat .NV_QREC_ENDED p.val r.ended
  complete b p 0 r.cid .success
    (min r.ended 0xFFFF + min held 0x3FFF * 65536 + (if r.unread then 2 ^ 31 else 0))

/-- The queue recoveries of a controller, one at a time in the order of their fetch (R567); at most n ends are made. -/
def qrecPump : Nat → Block → Port → Block
  | 0, b, _ => b
  | n + 1, b, p =>
    match (vget b.nv p).qrec with
    | [] => b
    | r :: rest =>
      let x := if r.begun then (r, b) else qrecBegin b p r
      if x.1.waits.all (fun w => (cmdFind x.2 p w.1 w.2).isNone) then
        qrecPump n (qrecEnd (x.2.onNv p (fun c => { c with qrec := rest })) p x.1) p
      else x.2.onNv p (fun c => { c with qrec := x.1 :: rest })

/-- The queue recoveries of both controllers carried on. -/
def qrecAll (b : Block) : Block :=
  (List.finRange 2).foldl (fun b p => qrecPump (vget b.nv p).qrec.length b p) b

end Sys2Proof.Machine
end

