-- ==== Sys2Proof/Machine/Health.lean ====
section
/-! DEFINITION. The NVMe health data (R625, R626) and the snapshot that the management endpoint keeps of it (R128, R633). -/

namespace Sys2Proof.Machine

/-- A reading of 0.1 °C in two's complement as kelvin, rounded to the nearest (R615); an absent sensor reports 0. -/
def kelvin (w : Nat) : Nat :=
  if w = 0x8000 then 0 else ((bitsSigned 16 w + 2730 + 5) / 10).toNat

/-- The hottest of sensors lo to hi, as the register holds it; 0x8000 where none is valid. -/
def hottest (b : Block) (lo n : Nat) : Nat :=
  (List.range n).foldl (fun m i =>
    let w := b.get .THM_SENS_n_NOW (lo + i)
    if w = 0x8000 then m else if m = 0x8000 ∨ bitsSigned 16 m < bitsSigned 16 w then w else m) 0x8000

/-- Temperature sensors 0 to 8 of the SMART log in kelvin (R625, R627): 0 is the composite temperature. -/
def smartSensor (b : Block) (n : Nat) : Nat :=
  if n = 0 then kelvin (b.get .THM_STAGE_TJ 0)
  else if n = 1 then kelvin (hottest b 0 16)
  else if n = 2 then kelvin (hottest b 16 2)
  else if n = 3 then kelvin (hottest b 18 2)
  else if n = 4 then kelvin (hottest b 20 2)
  else kelvin (b.get .THM_SENS_n_NOW (17 + n))

/-- A sensor of the SMART log is present. -/
def smartPresent (b : Block) (n : Nat) : Bool :=
  if n = 0 then true else if n = 1 then decide (hottest b 0 16 ≠ 0x8000) else if n = 2 then decide (hottest b 16 2 ≠ 0x8000)
  else if n = 3 then decide (hottest b 18 2 ≠ 0x8000) else if n = 4 then decide (hottest b 20 2 ≠ 0x8000)
  else decide (b.get .THM_SENS_n_NOW (17 + n) ≠ 0x8000)

/-- The recording zone and surface with the fewest spare bands left: its count as a percentage of its spares (R625). -/
def sparePercent (b : Block) : Nat :=
  let all := (activeSurfs b).flatMap (fun s =>
    ((List.range (b.cfgN .FMT_ZONES)).filter (fun z => decide (b.cfgN .FMT_Z_KIND 0 z = 0))).map (fun z =>
      ((freeSpares b z s).length, b.cfgN .FMT_Z_SPARE_BANDS 0 z)))
  let least := all.foldl (fun (m : Option (Nat × Nat)) x => match m with
    | none => some x
    | some y => if x.1 < y.1 then some x else some y) none
  match least with
  | some (n, t) => if t = 0 then 100 else min 100 (n * 100 / t)
  | none => 100

/-- The spare NAND pool left, in percent of its size at manufacture. -/
def nandSparePercent (b : Block) : Nat :=
  let n := factoryGood b * b.cfgN .NND_SPARE_PCT / 100
  if n = 0 then 100 else (n - grownBlocks b) * 100 / n

/-- Available Spare (R625). -/
def availableSpare (b : Block) : Nat := min (sparePercent b) (nandSparePercent b)

/-- The critical warning's spare bit (R626). -/
def refreshSpare (b : Block) : Block := setWarning b 0 (decide (availableSpare b < 10))

/-- The throttle that the thermal stage and a hot DRAM die call for (R617 to R619, R624): token share, power-state cap and clock
division. During HOLDUP and the flush of a hard trip both clocks run at full rate and tokens are not enforced. -/
def refreshThrottle (b : Block) : Block :=
  let s := b.get .THM_STAGE_STAGE 0
  let full := decide (b.mode = .holdup) || b.thm.trip
  let hot := decide (2 ≤ s) || decide (b.thm.dramHot ≠ 0)
  let token := if full then 100 else if hot then b.cfgN .THR_TOK2 else if s = 1 then b.cfgN .THR_TOK1 else 100
  let cap := if 3 ≤ s then 4 else if s = 2 then b.cfgN .THR_CAP_PS else 0
  let b := { b with pwr := { b.pwr with cap := if cap = 0 then none else some cap } }
  (((b.put .THM_STAGE_TOKEN 0 token).put .THM_STAGE_CAP 0 cap).putBool .THM_STAGE_NANDDIV 0 (!full && decide (1 ≤ s))).putBool
    .THM_STAGE_DRAMDIV 0 (!full && hot)

/-- The bridge floats for a thermal stop in SPINUP (R621): the attempt timers stop. -/
def floatSpinup (b : Block) : Block :=
  let b := unloadAll b
  let b := { b with
    spn := { b.spn with goal := .rest, brakeWait := false, angleKnown := false }
    thm := { b.thm with floated := true, stopAt := some b.now } }
  b.put .SPN_STATE_STATE 0 SpnMode.float.code

/-- Power-on hours (R136). -/
def powerOnHours (b : Block) : Nat := min (b.sys.powerOnUs / 3600000000) 0xFFFFFFFF

/-- The SMART/Health log (R625): critical warning, composite temperature, available spare and its threshold, percentage
used, data units read and written, read and write commands, busy minutes, power cycles, power-on hours, unsafe shutdowns,
media errors, error log entries, warning and critical minutes, then sensors 1 to 8. -/
def smartLog (b : Block) : List Nat :=
  let units := fun (n : Nat) => (n * 8 + 999) / 1000
  let h := b.hea
  [h.warning, smartSensor b 0, availableSpare b, 10, min 255 (b.get .OCH_STATE_WORSTPCT 0), units h.dataRead, units h.dataWritten,
    h.hostReads, h.hostWrites, h.busyUs / 60000000, h.powerCycles, powerOnHours b, h.unsafeShutdowns, h.mediaErrors,
    h.errorEntries, h.warnUs / 60000000, h.critUs / 60000000] ++ (List.range 8).map (fun i => smartSensor b (i + 1))

/-- Log page 0xC0's indicators (R603): identifier, percent used, flags and raw value of each. -/
def ochreLog (b : Block) : List Nat :=
  (List.range 132).flatMap (fun n =>
    [b.get .OCH_IND_n_A_ID n, b.get .OCH_IND_n_A_PCT n, b.get .OCH_IND_n_A_FLAGS n, b.get .OCH_IND_n_B_RAW n])

/-- The health snapshot taken (R128, R633); the mode is its last entry. -/
def takeSnapshot (b : Block) : Block :=
  b.onHea (fun h => { h with snapshot := smartLog b ++ [b.mode.code], snapOchre := ochreLog b, snapAt := b.now })

end Sys2Proof.Machine
end

