-- ==== Sys2Proof/Machine/Resets.lean ====
section
/-! DEFINITION. The resets by their letters (R130 to R135), the ports at a reset (R513, R515), power going off and BOOT beginning
(R116, R126, R128, R137, R738), factory unlock (R40, R92), spare rows (R686, R687), and the image taken into use (R738). -/

namespace Sys2Proof.Machine

/-! ### Factory unlock and the diagnostic window (R38, R40, R92) -/

/-- Factory unlock is active on a port. -/
def unlocked (b : Block) (p : Port) : Bool := (vget b.px p).unlockAt.isSome

/-- Factory unlock is active on some port. -/
def anyUnlocked (b : Block) : Bool := (List.finRange 2).any (unlocked b)

/-- A factory unlock is over (R222): the injections that stood under it stop; one that a control core started stops with the last
unlock. -/
def unlockOver (b : Block) (p : Port) : Block :=
  (List.finRange 4).foldl (fun b a =>
    let y := (vget b.srv a).injBy
    if y = p.val + 1 ∨ (y = 3 ∧ unlocked b 0 = false ∧ unlocked b 1 = false) then
      stopInjection (b.onSrv a (fun v => { v with injBy := 0 })) a
    else b) b

/-- The AER uncorrectable mask of a port; its default masks the Uncorrectable Internal Error alone (R516, log entry 6). -/
def aerMask (x : PciPort) : Nat := match x.config.find? (fun e => e.1 = 0x108 / 4) with | some e => e.2 | none => 0x400000

/-- The AER uncorrectable severity of a port, 1 for fatal, and its correctable mask, as the standard has them (R516, log entry 6). -/
def aerSeverity (x : PciPort) : Nat := match x.config.find? (fun e => e.1 = 0x10C / 4) with | some e => e.2 | none => 0x462030
/-- The AER correctable mask. -/
def aerCorMask (x : PciPort) : Nat := match x.config.find? (fun e => e.1 = 0x114 / 4) with | some e => e.2 | none => 0x6000

/-- An error detected in a class, 0 correctable, 1 non-fatal, 2 fatal: its bit of Device Status, and the message that the host's settings
allow (R516, R517; the enables are the standard's, log entry 6). -/
def errDetected (x : PciPort) (cls : Fin 3) (ur masked : Bool) : PciPort :=
  let enabled := bit (configReg x 0x78 0x2910) cls.val || (decide (cls ≠ 0) && bit (configReg x 0x04 0) 8)
  { x with
    devSta := setBit x.devSta cls.val ||| (if ur then 8 else 0)
    errSent := if enabled && !masked then vupd x.errSent cls (· + 1) else x.errSent }

/-- An error's uncorrectable status bit, and where it is not masked and no header is held, its header with the First Error Pointer
(R516). -/
def aerStatus (x : PciPort) (n hdr : Nat) : PciPort :=
  { x with
    aerUnc := setBit x.aerUnc n
    header := if bit (aerMask x) n then x.header else some (x.header.getD (n, hdr)) }

/-- An uncorrectable error logged in AER and signalled as the host's mask and severity say (R516, R517). -/
def aerUncorrectable (b : Block) (p : Port) (n hdr : Nat) : Block :=
  b.onPx p (fun x => errDetected (aerStatus x n hdr) (if bit (aerSeverity x) n then 2 else 1) (n = 20) (bit (aerMask x) n))

/-- A correctable error logged in AER and signalled (R516). -/
def aerCorrectable (b : Block) (p : Port) (n : Nat) : Block :=
  b.onPx p (fun x => errDetected { x with aerCor := setBit x.aerCor n } 0 false (bit (aerCorMask x) n))

/-- An uncorrectable error reported as an Advisory Non-Fatal Error (R509, R510, R516): its status bit with its header, and the
correctable status' bit 13. One that the host has made fatal is no advisory. -/
def aerAdvisory (b : Block) (p : Port) (n hdr : Nat) : Block :=
  if bit (aerSeverity (vget b.px p)) n then aerUncorrectable b p n hdr
  else b.onPx p (fun x =>
    errDetected { aerStatus x n hdr with aerCor := setBit x.aerCor 13 } 0 (n = 20) (bit (aerCorMask x) 13 || bit (aerMask x) n))

/-- An access refused with Unsupported Request (R38, R516, R527): logged in AER bit 20 with its header, as advisory, and
counted. -/
def refuseWindow (b : Block) (p : Port) (hdr : Nat) : Block := (aerAdvisory b p 20 hdr).bump .PX_RXERR_UR p.val

/-- A discarded window write: counted with its port (R40, R45). -/
def discardWrite (b : Block) (p : Port) : Block :=
  let b := b.bump .SYS_DIAG_WDROP_COUNT 0
  if p = 0 then b.put .SYS_DIAG_WDROP_P0 0 1 else b.put .SYS_DIAG_WDROP_P1 0 1

/-- A write that acts only under factory unlock (R40): on its own port for a host, whose write is else discarded, and on some port for a
control core. -/
def unlockedWrite (b : Block) (w : Agent) (f : Block → Block) : Block :=
  match w with
  | .core => if anyUnlocked b then f b else b
  | .port p => if unlocked b p then f b else discardWrite b p

/-! ### A controller and a port (R130 to R135, R513, R515, R547) -/

/-- Configuration registers whose fields are sticky (R135, R516): the AER masks and the severity, by offset / 4. -/
def stickyConfig (k : Nat) : Bool := decide (k ∈ [0x108 / 4, 0x10C / 4, 0x114 / 4])

/-- The completion timeout of a port in ms (R508). -/
def timeoutMs (b : Block) (p : Port) : Nat := b.get .PX_CTO_TMS p.val

/-- The reads outstanding at a port are given up (R513): their completions will be discarded, and their tags are in quarantine
for 2 × T. -/
def abandonReads (b : Block) (p : Port) : Block :=
  let now := b.now
  b.onPx p (fun x => { x with
    discard := x.discard ++ x.out.map (fun o => o.tag)
    quarantine := x.quarantine ++ x.out.map (fun o => (o.tag, now + 2000 * o.tms))
    out := [] })

/-- C of a port's controller (R130, R133, R135): commands end without completion, queues and requests are gone, features
return to their saved values, Autonomous Power State Transition is off, the buffer is zeroed, and the request is PS0. -/
def controllerReset (b : Block) (p : Port) : Block :=
  let b := orphanJobs (resetCmds b p) p
  let b := b.onNv p (fun c => { c with
    sqs := [], cqs := [], granted := none, held := [], aers := [], events := [], masked := [], lastServed := [],
    credits := [], qrec := [], shutAt := none, hostId := 0, snaps := [], messages := [], changedZones := [], changedNs := [], resNotes := []
    feats := c.saved.filter (fun e => e.1 / 65536 ≠ 0x0C) })
  let b := unlockOver (b.onPx p (fun x => { x with unlockAt := none, fetchStopped := false })) p
  let b := { b with
    mm := { b.mm with cmbEpoch := vupd b.mm.cmbEpoch p (· + 1) }
    pwr := { b.pwr with lastOper := vupd b.pwr.lastOper p (fun _ => 0) } }
  let b := resetRegs b .C p
  powerEval (b.put .PX_DOE_UNLOCK p.val 0) 0x01

/-- F of a port's function (R515): as a clear of Bus Master Enable, and then the controller's reset; non-sticky configuration
returns to its reset values. -/
def functionReset (b : Block) (p : Port) : Block :=
  let b := abandonReads b p
  let b := b.onPx p (fun x => { x with
    config := x.config.filter (fun e => stickyConfig e.1), ats := [], invalidations := [], doe := ⟨false, false, false, []⟩
    intx := false, ltr := none, devSta := 0, pba := [] })
  controllerReset (((resetRegs b .F p).put .PX_CTO_TMS p.val 40).put .PX_LINK_DSTATE p.val 0) p

/-- A port's link goes down (R113, R515): nothing is outstanding on it any longer. A port that does not exist shows OFF (R500). -/
def linkDown (b : Block) (p : Port) : Block :=
  let b := abandonReads b p
  ((((b.put .PX_LINK_STATE p.val (if (vget b.px p).present then 0 else 0xB)).put .PX_LINK_RATE p.val 0).put .PX_LINK_WIDTH p.val 0).put .PX_LINK_FLIT p.val
    0).put .PX_LINK_DSTATE p.val 0

/-- The function and controller parts of a P or H reset of a port (R130). -/
def portPart (b : Block) (p : Port) (l : ResetLetter) : Block := functionReset (resetRegs b l p) p

/-- P of a port (R117, R515): the link is down, and everything not kept across P returns to its reset value. -/
def portReset (b : Block) (p : Port) : Block := portPart (linkDown b p) p .P

/-- A reset put off to the end of an activation (R86, R134). -/
def deferReset (b : Block) (r : DeferredReset) : Block :=
  { b with fcs := { b.fcs with deferred := b.fcs.deferred ++ [r] } }


/-- An activation armed by a commit starts once a reset that includes C has completed (R80, R82). It does not exist in recovery
mode (R73). -/
def startArmed (b : Block) : Block :=
  match b.fcs.armed with
  | some k =>
    if b.fcs.activation.isSome || b.boot.recovery then b
    else { b with fcs := { b.fcs with armed := none, activation := some ⟨1, 0, k, b.fcs.running, none⟩ } }
  | none => b

/-- A reset carried out, or put off while an activation runs (R86, R134). -/
def resetOrDefer (b : Block) (r : DeferredReset) (f : Block → Block) : Block :=
  if b.fcs.activation.isSome then deferReset b r else startArmed (f b)

/-- N: C of both ports, with CSTS.NSSRO set at both (R130, R547). -/
def subsystemReset (b : Block) : Block :=
  (List.finRange 2).foldl (fun b p => (controllerReset b p).onNv p (fun c => { c with nssro := true })) b

/-- A reset put off, now carried out. -/
def deferredReset (b : Block) (r : DeferredReset) : Block :=
  match r with
  | .perst p => portPart b p .P
  | .hot p => portPart b p .H
  | .flr p => (functionReset b p).onPx p (fun x => { x with flr := false })
  | .ctrl p => controllerReset b p
  | .subsystem => subsystemReset b

/-! ### The spindle and the heads as a whole -/

/-- The preamp of an actuator takes its safe state (R249, R264): one broadcast WRITE frame of 0x0000 to address 0x00 sets every heater
and assist setting to 0. -/
def preampSafe (b : Block) (a : Act) : Block :=
  let b := wireWrite b a 15 0 0
  let b := (b.put .AST_CMD_ASSIST a.val 0).put .AST_CMD_HEATER a.val 0
  let b := b.onAst a (fun v => { v with wrReady := false, preheat := false, heatAt := none, restore := false })
  if b.mode = .holdup then b.put .AST_STATE_LOOP a.val 7 else b

/-- The Uluantane comparator takes the write-driver supply from every preamp (R31): no write gate rises until the supplies are
switched on again, at BOOT or at a warm return. -/
def preampSupplyOff (b : Block) : Block :=
  let b := cutAllWrites b
  { b with pwr := { b.pwr with wrSupplyOff := true } }

/-- Nimbus stops what it runs (R82, R622); the run counts as neither passed nor failed. -/
def stopNimbus (b : Block) : Block :=
  let b := match b.nim.run with
    | some r => if r.kind = 1 then b.put .SYS_ENG_RUN_CC 0 (setBit (b.get .SYS_ENG_RUN_CC 0) r.target) else b
    | none => b
  ({ b with nim := { b.nim with run := none } }).put .NIM_STATE_KIND 0 0xF

/-- The actuator a Nimbus media run of a kind uses: that of the channel or of the surface named. -/
def nimAct (kind : Fin 7) (target : Nat) : Act :=
  if kind = 2 then ⟨target % 4, by omega⟩ else ⟨(target / 6) % 4, by omega⟩

/-- Host work has arrived for an actuator: a Nimbus run on it releases it, unfinished (R659); an Extended Self-Test takes its time whether
or not the actuator is idle (R662). -/
def nimYield (b : Block) (a : Act) : Block :=
  match b.nim.run with
  | some r => if decide (r.kind ∈ [2, 4, 5, 6]) && decide (nimAct r.kind r.target = a) && decide (b.get .NIM_STATE_EST 0 = 0) then
      let b := if r.kind = 6 then b.onXl (fun x => { x with queues := vupd x.queues a (fun q => q.filter (fun r => r.for_ ≠ .patrol)) })
        else b
      stopNimbus b
    else b
  | none => b

/-- An actuator's request queue is empty, and nothing is served from it. -/
def queueEmpty (b : Block) (a : Act) : Bool := (actQueue b a).isEmpty && !b.xl.active.any (fun r => r.act = a)

/-- A NAND die has neither an erase nor a copy in progress. -/
def dieIdle (b : Block) (die : Nat) : Bool :=
  (match b.ns.erases[die % 2]? with | some e => e.isNone | none => true) && !b.ns.copies.any (fun c => c.die = die)

/-! ### Sepia at a flush (R654) -/

/-- Sepia's flush in a HOLDUP (R113, R654). -/
def sepFlushForHoldup (b : Block) : Block := sepFlushAll b

/-! ### Power goes off and comes back (R116, R126, R128, R135, R137, R738) -/

/-- A field whose value the NAND holds for the next BOOT. -/
def storedField (f : Field) : Bool := decide (f.info.reset = .stored)

/-- Fields that stand across a loss of the core supply: those kept across D, but for the stored ones, which the NAND holds and
which read 0 until they are read back (R738). -/
def keepAtPower (key : Nat) : Bool :=
  let f := Field.ofNat (key / 256)
  decide (.D ∈ f.info.kept) && !storedField f

/-- Fields that the NAND holds. -/
def savedAtPower (key : Nat) : Bool :=
  let f := Field.ofNat (key / 256)
  decide (.D ∈ f.info.kept) && storedField f

/-- What the NAND holds for the next BOOT: the values saved now, but for fields that this BOOT had not read back, which keep what
the NAND held (R738). -/
def mergeSaved (old new : NMap Nat) : NMap Nat := old.foldl (fun m e => ninsert (nerase m e.1) e.1 e.2) new

/-- What is journaled of a head's assist state (R470). -/
def assistPowerLoss (v : Assist) : Assist :=
  { Assist.reset with
    trims := v.trims, rdDev := v.rdDev, wrDev := v.wrDev, aonNs := v.aonNs, wonNs := v.wonNs, drvSum := v.drvSum, drvN := v.drvN
    drvAvg := v.drvAvg, readerBad := v.readerBad
    htrDead := v.htrDead }

/-- The port after D: absent from the bus, with its presence and its AER log kept (R135). -/
def portPowerLoss (x : PciPort) : PciPort :=
  { PciPort.reset 0 with
    present := x.present, perst := x.perst, aerUnc := x.aerUnc, aerCor := x.aerCor, header := x.header, pmeEn := x.pmeEn
    wake := x.wake, config := x.config.filter (fun e => stickyConfig e.1) }

/-- Reservations and registrations without Persist Through Power Loss are released (R135). -/
def reservationsPowerLoss (n : Namespace) : Namespace :=
  if n.ptpl then n else { n with registrants := [], reservation := none }

/-- With 12 V and the auxiliary rail both gone, the retention domain loses what it holds (R128, R135, R137). -/
def loseRetention (b : Block) : Block :=
  { b with
    regs := []
    sys := { b.sys with devTime := b.pwr.savedTime, hostTs := none, hostTsAt := 0 }
    px := b.px.map (fun x => { PciPort.reset 0 with present := x.present, perst := x.perst })
    hea := { b.hea with snapshot := [], snapOchre := [] }
    pwr := { b.pwr with retention := ⟨none, none⟩, huLost := true } }

/-- Every supply but the retention domain's goes off (R116, R126): a reset of kind D, and no mode is current. Running jobs end
Interrupted (R135). Where neither 12 V nor the auxiliary rail is left, nothing feeds the retention domain (R128). -/
def powerOff (b : Block) : Block :=
  let mode := b.get .PWR_MODE_MODE 0
  let b := abandonNand (keepErases (fcsAbandon (takeSnapshot b)))
  let b := (b.nvm.jobs.filter (fun j => j.state ≠ 4)).foldl (fun b j => endJob b j 3) b
  let b := (List.finRange 2).foldl portReset b
  let b := dropMedia { b with nvm := { b.nvm with cmds := [], waits := [], patrol := [] } }
  let b := { b with
    sys := { b.sys with sagHold := false, missRuns := [], shadow := Vector.replicate 2 none }
    sep := { b.sep with
      halfA := [], halfB := [], reserve := [], held := [], flushA := false, flushB := false, flushDue := false, up := false, bootMade := 0
      buckets := [], staged := [], stagedBy := 0, fillB := false }
    fcs := { b.fcs with
      jobs := [], target := none, staged := ⟨none, none⟩, stagedNext := 0, armed := none, activation := none, deferred := [], cal := none
      calPort := none }
    boot := { b.boot with
      active := false, halted := none, enginesUp := false, journalUp := false, recovery := false, verified := false
      current := none, candidates := [], phy := false }
    spn := { Spindle.reset with clampUs := b.spn.clampUs }
    srv := Vector.replicate 4 Servo.reset
    ast := b.ast.map assistPowerLoss
    ch := b.ch.map (fun (c : Channel) => { Channel.reset with saved := c.saved })
    deep := ⟨[], Vector.replicate 2 none, []⟩
    ts := Vector.replicate 4 Ts.reset
    xl := { b.xl with
      namespaces := b.xl.namespaces.map reservationsPowerLoss
      dirty := [], staged := [], changed := [] }
    ns := { b.ns with
      blocks := b.ns.blocks.map (fun (e : Nat × NBlock) => (e.1, nandPowerLoss e.2)) , jrnlHalf := none, rdOffset := Vector.replicate 2 0 }
    px := b.px.map portPowerLoss
    nim := { b.nim with run := none, late := [] }
    thm := { Block.reset.thm with
      entries := b.thm.entries, hist := b.thm.hist, histAt := b.now, sensLow := b.thm.sensLow, sensAt := b.thm.sensAt }
    hea := { b.hea with notified := Vector.replicate 2 false, actLow := none }
    mm := { b.mm with
      caches := Caches.reset, spared := [], rowHits := [], poison := [], draining := 0, owed := [], scrubWord := 0, scrubLine := 0
      offEpoch := b.mm.offEpoch + 1 }
    pwr := { b.pwr with powered := false, pwdisDown := false, spinupFailed := false, provisional := [], cap := none } }
  let b := { b with
    pwr := { b.pwr with savedRegs := mergeSaved b.pwr.savedRegs (b.regs.filter (fun e => savedAtPower e.1)) }
    regs := b.regs.filter (fun e => keepAtPower e.1) }
  let b := b.put .PWR_MODE_MODE 0 mode
  if b.pwr.v12 || b.pwr.aux then b else loseRetention b

/-- Power returns and BOOT begins (R100, R625): the mode is BOOT, and a power cycle is counted. -/
def beginBoot (b : Block) : Block :=
  let b := b.onHea (fun h => { h with powerCycles := h.powerCycles + 1 })
  let b := { b with
    pwr := { b.pwr with
      powered := true, afterHoldup := false, braking := false, pwdisDown := false, wrSupplyOff := false, passed := false }
    boot := { b.boot with
      active := false, halted := none, enginesUp := false, journalUp := false, recovery := false, phy := false } }
  enterMode b .boot 0x00

/-- A PWDIS power-down ends in PARK (R126): the supplies go off. Where PWDIS has been deasserted meanwhile, BOOT follows
(R127). -/
def powerDownIfDue (b : Block) : Block :=
  if b.mode = .park ∧ (b.pwr.pwdisDown || b.pwr.pwdis) = true then
    let b := powerOff b
    if b.pwr.pwdis || !b.pwr.v12 then b else beginBoot b
  else b

/-- HOLDUP stops an activation (R85): its commit is never completed, and each engine keeps the firmware it holds. One that is armed
stays so for the P reset of a warm return (R80, R117). -/
def endActivationForHoldup (b : Block) : Block :=
  { b with fcs := { b.fcs with activation := none, deferred := [] } }

/-! ### Values read back at BOOT (R738) -/

/-- Sepia's stored fields. -/
def sepiaField (f : Field) : Bool := decide (f ∈ [.SEP_STATE_ERA, .SEP_STATE_KEEP, .SEP_SEQ_NEXT])

/-- The saved fields that satisfy a test read back. -/
def restoreFields (b : Block) (p : Field → Bool) : Block :=
  let hit := b.pwr.savedRegs.filter (fun e => p (Field.ofNat (e.1 / 256)))
  let b := hit.foldl (fun b e => b.put (Field.ofNat (e.1 / 256)) (e.1 % 256) e.2) b
  { b with pwr := { b.pwr with savedRegs := b.pwr.savedRegs.filter (fun e => !p (Field.ofNat (e.1 / 256))) } }

/-- Sepia's stored fields read back when the engines start (R654). -/
def restoreSepia (b : Block) : Block := restoreFields b sepiaField

/-- Every other stored field read back when the journal has been replayed (R471). -/
def restoreStored (b : Block) : Block := restoreFields b (fun _ => true)

/-- The fields that image, firmware and journal would fill read 0 in recovery mode (R738). -/
def clearSourced (b : Block) : Block :=
  { b with regs := b.regs.filter (fun e =>
      let f := Field.ofNat (e.1 / 256)
      !decide (f.info.reset ∈ [.image, .firmware, .stored])) }

/-! ### Spare rows (R686, R687) -/

/-- Banks with their spare rows: 96 of the L1s, 256 of L2, 16 of the scratch SRAM, 16 of the control stores, then the rest. -/
def spareBanks : Nat := 384 + Config.otherSramBanks

/-- Spare rows of a bank. -/
def bankSpares (n : Nat) : Nat := if 96 ≤ n ∧ n < 352 then 8 else 4

/-- Spare rows left in a bank. -/
def freeRows (b : Block) (n : Nat) : Nat := bankSpares n - (b.mm.spared.filter (fun r => r.bank = n ∧ !r.column)).length

/-- Spare columns left in a bank: L2 has 2 in each, every other array 1. -/
def freeColumns (b : Block) (n : Nat) : Nat :=
  (if 96 ≤ n ∧ n < 352 then 2 else 1) - (b.mm.spared.filter (fun r => r.bank = n ∧ r.column)).length

/-- `MEM_SPARE` as the spares stand: those of banks with repairs counted one by one, the rest whole. -/
def refreshSpareRows (b : Block) : Block :=
  let banks := ((b.mm.spared.filter (fun r => !r.column)).map (fun r => r.bank)).eraseDups
  let total := 96 * 4 + 256 * 8 + 32 * 4 + 4 * Config.otherSramBanks
  let used := (banks.map (fun n => bankSpares n - freeRows b n)).sum
  let least := banks.foldl (fun m n => min m (freeRows b n)) 4
  ((b.putSat .MEM_SPARE_FREE 0 (total - used)).putSat .MEM_SPARE_LEAST 0 least).putSat .MEM_SPARE_NOSPARE 0
    (banks.filter (fun n => freeRows b n = 0)).length

/-- A row or column switched to a spare of its bank, where one is free. -/
def useSpare (b : Block) (r : Spare) : Block :=
  if (if r.column then freeColumns b r.bank else freeRows b r.bank) = 0 ∨ r ∈ b.mm.spared then b
  else refreshSpareRows { b with mm := { b.mm with spared := b.mm.spared ++ [r] } }

/-- Repairs applied at BOOT (R687). -/
def applyRepairs (b : Block) (l : List Spare) : Block := refreshSpareRows (l.foldl useSpare b)

/-- A repair made in service (R687): switched at once, and saved in the list of the bank that is not running, or in the journal
where that list is full or the bank is unusable. -/
def spareRow (b : Block) (bank row : Nat) : Block :=
  let r : Spare := ⟨false, bank, row % 65536⟩
  if freeRows b bank = 0 then b
  else
    let b := useSpare b r
    let other := 1 - b.fcs.running
    let k := vget b.fcs.banks other
    if k.repairs.length < 256 ∧ k.unusable = false then onBank b other (fun k => { k with repairs := k.repairs ++ [r] })
    else { b with mm := { b.mm with repairs := b.mm.repairs ++ [r] } }

/-! ### The running firmware and image (R738) -/

/-- The fields that show the running firmware. -/
def applyFirmware (b : Block) (fw : FwPart) : Block :=
  let b := ((b.put .ID_FWVER_MAJOR 0 (fw.version / 2 ^ 24)).put .ID_FWVER_MINOR 0 (fw.version / 2 ^ 16)).put .ID_FWVER_BUILD
    0 fw.version
  (List.range 4).foldl (fun b a => b.put .TS_VER_IFACE a fw.iface) b

/-- The fields that show the running image, but for those that a reset of kind A keeps. -/
def showImage (b : Block) (m : Image) : Block :=
  let b := { b with image := m }
  let b := (b.put .ID_IMGVER_VER 0 (b.cfgN .HDR_IMAGE_VER)).put .DX_MODE_ALIGN 0 (b.cfgN .MEM_DX_ALIGN_MODE)
  let b := (b.put .MEM_L2_CARVE 0 (b.cfgN .MEM_CARVE_WAYS)).put .MEM_L2_CMB 0 (b.cfgN .MEM_CMB_KIB)
  (List.range 4).foldl (fun b a =>
    let b := b.put .AST_STATE_TYPE a (b.cfgN .PLT_ASSIST)
    let b := ((b.put .SRV_TBLMAP_T0_LOOP a (b.cfgN .SRV_TBL0_LOOP a)).put .SRV_TBLMAP_T0_INDEX a
      (b.cfgN .SRV_TBL0_INDEX a)).put .CH_STATE_RAWMODE a (b.cfgN .CHN_RAW_MODE)
    (b.put .SRV_TBLMAP_T1_LOOP a (b.cfgN .SRV_TBL1_LOOP a)).put .SRV_TBLMAP_T1_INDEX a (b.cfgN .SRV_TBL1_INDEX a)) b

/-- The fields that show the image taken into use at BOOT. -/
def applyImage (b : Block) (m : Image) : Block :=
  (List.range 4).foldl (fun b a => b.put .SRV_XFF_SRC a (b.cfgN .SRV_XFF_EN a)) (showImage b m)

/-- A bank's firmware and image taken into use at BOOT (R71, R738). -/
def applyRunning (b : Block) (fw : FwPart) (m : Image) : Block :=
  let b := applyImage (applyFirmware b fw) m
  let exists_ := bit (b.cfgN .HST_PORTS) 1 && decide (b.get .PX_LINK_DPEN 1 = 1)
  let b := b.onPx 1 (fun x => { x with present := exists_ })
  if !exists_ then linkDown b 1 else if b.get .PX_LINK_STATE 1 = 0xB then b.put .PX_LINK_STATE 1 0 else b

/-! ### Memory at a reset (R135, R550) -/

/-- The internal address at which the carve-out begins (R36). -/
def carveBase : Nat := 0x01000000

/-- The first byte and the length of a controller's share of the Controller Memory Buffer (R550, R680). -/
def cmbShare (b : Block) (p : Port) : Nat × Nat :=
  let n := 1024 * b.get .MEM_L2_CMB 0
  if (vget b.px 1).present then (carveBase + p.val * (n / 2), n / 2) else (carveBase, if p = 0 then n else 0)

/-- Memory after a step that may reset: nothing is left once the core has lost power, and a controller's buffer is zeroed with
its reset. -/
def memAfter (m : NMap Byte) (old new : Block) : NMap Byte :=
  if old.mm.offEpoch ≠ new.mm.offEpoch then []
  else (List.finRange 2).foldl (fun (m : NMap Byte) (p : Port) =>
    if vget old.mm.cmbEpoch p = vget new.mm.cmbEpoch p then m
    else m.filter (fun e => !decide ((cmbShare old p).1 ≤ e.1 ∧ e.1 < (cmbShare old p).1 + (cmbShare old p).2))) m

/-- A command that may reset a controller or take the power away. -/
def State.onReset (s : State) (f : Block → Block) : Host.Outcome State Fault Refusal :=
  .next { s with mem := memAfter s.mem s.blk (f s.blk), blk := f s.blk }

end Sys2Proof.Machine
end

