-- ==== Sys2Proof/Machine/Fcs.lean ====
section
/-! DEFINITION. The FCS routines and jobs (R60 to R66), calibration (R74 to R78). The bytes that FCS_READ copies go to memory: see the file
on the memories. -/

namespace Sys2Proof.Machine

/-- The checks that program and erase share, in the order of R64: range, self bank (never in recovery mode, R738),
busy. -/
def fcsCheck (b : Block) (bank : Fin 2) (rangeOk : Bool) : Nat :=
  if !rangeOk then 0x04
  else if !b.boot.recovery && decide (bank = b.fcs.running) then 0x01
  else if b.fcs.op.isSome then 0x03
  else 0x00

/-- An operation started: `FCS_STAT.BUSY` and `OPBANK` show it (R96). -/
def fcsStart (b : Block) (o : FcsOp) : Block :=
  fcsReturn ((({ b with fcs := { b.fcs with op := some o } }).put .FCS_STAT_BUSY 0 1).put .FCS_STAT_OPBANK 0 o.bank.val) 0

/-- FCS_PROGRAM (R62, R64): 1 to 256 bytes inside one 256-byte page, every byte of it blank. -/
def fcsProgram (bank : Fin 2) (addr : Nat) (data : List Byte) (b : Block) : Block :=
  let n := data.length
  let rangeOk := decide (1 ≤ n ∧ n ≤ 256 ∧ addr + n ≤ fcsBankBytes ∧ addr / 256 = (addr + n - 1) / 256)
  let c := fcsCheck b bank rangeOk
  if c ≠ 0 then fcsReturn b c
  else if (List.range n).any (fun i => bankByte bank (vget b.fcs.banks bank) (addr + i) ≠ 0xFF) then fcsReturn b 0x02
  else fcsStart b ⟨bank, false, addr, data.map (fun d => d.toNat), none⟩

/-- FCS_PROGRAM. -/
def execFcsProgram (bank : Fin 2) (addr : Nat) (data : List Byte) (s : State) : Host.Outcome State Fault Refusal :=
  s.onBlock (fcsProgram bank addr data)

/-- FCS_ERASE (R62, R64): one sector, its address sector-aligned. -/
def fcsErase (bank : Fin 2) (addr : Nat) (b : Block) : Block :=
  let c := fcsCheck b bank (decide (addr < fcsBankBytes ∧ addr % 65536 = 0))
  if c ≠ 0 then fcsReturn b c else fcsStart b ⟨bank, true, addr, [], none⟩

/-- FCS_ERASE. -/
def execFcsErase (bank : Fin 2) (addr : Nat) (s : State) : Host.Outcome State Fault Refusal :=
  s.onBlock (fcsErase bank addr)

/-- FCS_STATUS (R62): the state that `FCS_STAT` reports. -/
def execFcsStatus (s : State) : Host.Outcome State Fault Refusal :=
  s.onBlock (fun b => b.answer (.words [b.readWord 0xA0000]))

/-- The register that counts a bank's bad-sector entries (R96). -/
def badField (bank : Fin 2) : Field := if bank = 0 then .FCS_STAT_BAD0 else .FCS_STAT_BAD1

/-- A sector whose operation failed its verification (R60, R65): remapped to the next spare, which is erased, and
FCS_VERIFY returned; with no spare left FCS_NO_SPARE; sector 0 is never remapped. In the last two cases the bank is
unusable for update. -/
def fcsVerifyFailed (b : Block) (bank : Fin 2) (sector : Nat) : Block :=
  let k := vget b.fcs.banks bank
  if sector = 0 then
    fcsReturn { b with fcs := { b.fcs with banks := vupd b.fcs.banks bank (fun k => { k with unusable := true }) } } 0x05
  else if k.bad.length < 32 then
    let b := { b with
      fcs := { b.fcs with
      banks := vupd b.fcs.banks bank (fun k =>
        { bankEraseSector k sector with bad := k.bad ++ [(sector, 480 + k.bad.length)] }) } }
    fcsReturn (b.put (badField bank) 0 (k.bad.length + 1)) 0x05
  else
    fcsReturn { b with fcs := { b.fcs with banks := vupd b.fcs.banks bank (fun k => { k with unusable := true }) } } 0x06

/-- The number that recovery mode gives a written bank: R61 has one programmed and gives no value; one more than the greater of those
programmed, and 1 where none is (DESIGN CHOICE, log entry 124). -/
def recoverySeq (b : Block) : Nat :=
  match (vget b.fcs.banks 0).seq, (vget b.fcs.banks 1).seq with
  | some x, some y => ((if serialGt 32 y x then y else x) + 1) % 2 ^ 32
  | some x, none => (x + 1) % 2 ^ 32
  | none, some y => (y + 1) % 2 ^ 32
  | none, none => 1

/-- A rolling activation of a bank begins (R82), for the commit that waits for it, if any. -/
def beginActivation (b : Block) (k : Fin 2) (commit : Option (Port × Nat × Nat)) : Block :=
  { b with fcs := { b.fcs with armed := none, activation := some ⟨1, 0, k, b.fcs.running, commit⟩ } }

/-- A bank written by a commit (R61): firmware and image; the number stays blank. -/
def bankWritten (k : FcsBank) (fw : FwPart) (m : Image) : FcsBank :=
  { k with desc := .intact, revoke := 0xFF, fw := some fw, img := some m }

/-- The completion of a commit that a controller still awaits. -/
def commitDone (b : Block) (who : Option (Port × Nat)) (st : Status) : Block :=
  match who with
  | some (p, cid) => complete b p 0 cid st
  | none => b

/-- A job's last sector has been written (R61, R77, R80): the commit completes, arms its bank or starts the activation; the record in
use lies in the slot just written. -/
def jobWritten (b : Block) (j : FcsJob) : Block :=
  match j with
  | .commit who k fw m action =>
    let b := onBank b k (fun x => bankWritten x fw m)
    if action = 3 then beginActivation b k (who.map (fun w => (w.1, 0, w.2)))
    else commitDone (if action = 1 then { b with fcs := { b.fcs with armed := some k } } else b) who .success
  | .cal k c =>
    let b := onBank b k (fun x => { x with cal := some c })
    if b.fcs.cal = some c then { b with fcs := { b.fcs with calBank := k.val } } else b

/-- A job that its bank can no longer take (R60, R65): a commit completes with Invalid Firmware Slot (log entry 125), and a record is not
written. -/
def jobFailed (b : Block) (j : FcsJob) : Block :=
  match j with
  | .commit who _ _ _ _ => commitDone b who .invalidSlot
  | .cal _ _ => b

/-- The sector of a job that a failed verification concerns: one of its own, or sector 0, which a commit writes too. -/
def jobSector (j : FcsJob) (sector : Nat) : Nat :=
  match j with
  | .commit _ _ _ _ _ => if sector ≤ 448 then sector else 1
  | .cal _ _ => if 449 ≤ sector ∧ sector ≤ 452 then sector else 449

/-- FCS_OPERATION_DONE (R65, R66): the operation in progress ends, verified or not; of a job, its last one, or one whose sector the job
rewrites on the spare it is given. -/
def fcsOperationDone (verified : Bool) (sector : Nat) (b : Block) : Block :=
  match b.fcs.op with
  | none => b
  | some o =>
    let ended := fun (b : Block) => ({ b with fcs := { b.fcs with op := none } }).put .FCS_STAT_BUSY 0 0
    match o.job with
    | none =>
      if verified then
        startJobs (fcsReturn (onBank (ended b) o.bank (fun k =>
          if o.erase then bankEraseSector k (o.addr / 65536) else bankProgram k o.addr o.data)) 0x00)
      else startJobs (fcsVerifyFailed (ended b) o.bank (o.addr / 65536))
    | some j =>
      if verified then startJobs (jobWritten (fcsReturn (ended b) 0x00) j)
      else
        let b := fcsVerifyFailed b o.bank (jobSector j sector)
        if (vget b.fcs.banks o.bank).unusable then startJobs (jobFailed (ended b) j) else b

/-- FCS_OPERATION_DONE. -/
def execFcsOperationDone (verified : Bool) (sector : Nat) (s : State) : Host.Outcome State Fault Refusal :=
  s.onBlock (fcsOperationDone verified sector)

/-! ### Calibration runs -/

/-- Items that need the spindle (R100): cross-actuator feed-forward and assist characterisation. -/
def calNeedsSpindle (items : Nat) : Bool := bit items 5 || bit items 6

/-- The port under whose factory unlock a write to `SYS_CALCTL.START` acts (R78, R92, R95): the writing host's own, or for a control core
one that holds an unlock. -/
def calUnlock (b : Block) (w : Agent) : Option Port :=
  match w with
  | .port p => if unlocked b p then some p else none
  | .core => (List.finRange 2).find? (unlocked b)

/-- SYS_CALCTL_START (R78, R95): under factory unlock, calibration of the items in ITEMS starts; in uncalibrated PARK,
items that need the spindle start a SPINUP (R100). -/
def sysCalctlStart (w : Agent) (b : Block) : Block :=
  match calUnlock b w with
  | none => (match w with | .port p => discardWrite b p | .core => b)
  | some p =>
    if b.get .SYS_CALCTL_BUSY 0 = 1 then b
    else
      let b := ((b.put .SYS_CALCTL_START 0 1).put .SYS_CALCTL_BUSY 0 1).put .SYS_CALCTL_FAIL 0 0
      let b := { b with fcs := { b.fcs with calPort := some p, calItems := b.get .SYS_CALCTL_ITEMS 0, calAsked := b.get .SYS_CALCTL_ITEMS 0, calFailed := 0 } }
      if b.mode = .park ∧ b.get .SYS_BOOT_UNCAL 0 = 1 ∧ calNeedsSpindle (b.get .SYS_CALCTL_ITEMS 0) = true then
        enterSpinup b 0x0A
      else b

/-- SYS_CALCTL_START. -/
def execSysCalctlStart (w : Agent) (s : State) : Host.Outcome State Fault Refusal := s.onBlock (sysCalctlStart w)

/-- CALIBRATION_RUN_END (R76, R77, R95): of the run in progress, the items it was asked for are judged; what passes is written, and a
failing item, pair or head sets `SYS_CALCTL.FAIL`. In a module still uncalibrated in RUN the mode passes to PARK (R100). Surfaces whose
heads or taps passed again follow R211, R212 and R259. -/
def calibrationRunEnd (rs : List CalResult) (b : Block) : Block :=
  b.guard (decide (b.get .SYS_CALCTL_BUSY 0 = 1)) (fun b =>
    let asked := b.fcs.calItems
    let rs := rs.filter (fun r => bit asked r.item)
    let ok := calAccepted b rs
    let failed := (List.range 7).foldl (fun (m : Nat) i => if bit asked i && itemFailed b ok i then setBit m i else m) 0
    let b := calCommit b rs
    let b := ((b.put .SYS_CALCTL_START 0 0).put .SYS_CALCTL_BUSY 0 0).putBool .SYS_CALCTL_FAIL 0 (decide (failed ≠ 0))
    let b := { b with fcs := { b.fcs with calPort := none, calAsked := asked, calFailed := failed } }
    let b := afterCalibration b (ok.map (fun r => (r.item, r.subject)))
    if b.mode = .run ∧ b.get .SYS_BOOT_UNCAL 0 = 1 then parkTransition b 0x0A else b)

/-- CALIBRATION_RUN_END. -/
def execCalibrationRunEnd (rs : List CalResult) (s : State) : Host.Outcome State Fault Refusal :=
  s.onBlock (calibrationRunEnd rs)

end Sys2Proof.Machine
end

