-- ==== Sys2Proof/Machine/ImageCheck.lean ====
section
/-! DEFINITION. The checks an image and a firmware part must pass (R48 to R57 and the image checks of every chapter),
each failure under its code of `SYS_BOOT.FAIL` (R94). -/

namespace Sys2Proof.Machine

/-! ### Structure (R48 to R51) -/

/-- The major version of a record type that a firmware part supports (R50). -/
def fwSupports (fw : FwPart) (r : ImgRecord) : Bool := fw.majors.any (fun x => decide (x.1 = r.type ∧ x.2.1 = r.major))

/-- The highest minor version of a record's type and major version that a firmware part knows (R50). -/
def fwMinor (fw : FwPart) (r : ImgRecord) : Nat :=
  match fw.majors.find? (fun x => decide (x.1 = r.type ∧ x.2.1 = r.major)) with | some x => x.2.2 | none => 0

/-- The records that count: one of an unsupported major version without CRITICAL is ignored (R50). -/
def liveRecords (fw : FwPart) (m : Image) : List ImgRecord := m.records.filter (fwSupports fw)

/-- The image as the firmware understands it: an ignored record's fields take their defaults (R49, R50). -/
def effective (fw : FwPart) (m : Image) : Image :=
  { m with
      vals := m.vals.filter (fun e =>
        let k := Setting.ofNat (e.1 / 4096 / 32)
        (liveRecords fw m).any (fun r => decide (r.type = recordCode (settingInfo k).record ∧ r.inst = e.1 / 4096 % 32))) }

/-- The instances a record type must have (R49). -/
def requiredInsts (m : Image) (t : Nat) : List Nat :=
  if t = 0x03 then (List.range 24).filter (fun s => bit (imgGet m .PLT_SURFACES 0 0).toNat s)
  else if t = 0x05 then (List.range 4).filter (fun a => bit (imgGet m .PLT_ACTUATORS 0 0).toNat a)
  else [0]

/-- The required record types (R49). -/
def requiredTypes : List Nat := [0x01, 0x02, 0x03, 0x04, 0x05, 0x06, 0x07, 0x08, 0x0A, 0x0B, 0x0C, 0x0D, 0x11]

/-- A required record is missing. -/
def recordMissing (m : Image) (rs : List ImgRecord) : Bool :=
  requiredTypes.any (fun t => (requiredInsts m t).any (fun i => !rs.any (fun r => decide (r.type = t ∧ r.inst = i))))

/-- A record's own form: its length and, for a type that may not repeat, its instance (R48); a listed type (R49). -/
def recordForm (r : ImgRecord) : Bool :=
  decide (1 ≤ r.type ∧ r.type ≤ 0x11) && decide (r.length % 8 = 0 ∧ 16 ≤ r.length ∧ r.length ≤ 1048576) &&
    (if r.type = 0x03 then decide (r.inst < 24)
     else if r.type = 0x05 ∨ r.type = 0x09 then decide (r.inst < 4)
     else decide (r.inst = 0))

/-- A record's content beside its fields' values: reserved flags and bytes are 0; the length is its version's; and a record of a higher
minor version, whose fields beyond the known ones are ignored, is no shorter (R48, R50). A required record carries CRITICAL. -/
def recordContent (fw : FwPart) (m : Image) (r : ImgRecord) : Bool :=
  let n := recordLength m r
  decide (r.flags < 2 ∧ r.rsvd = 0) && (!decide (r.type ∈ requiredTypes) || r.critical) &&
    r.extra.all (fun e => decide (n ≤ e.1 ∧ e.1 < r.length ∧ e.2 < 256)) &&
    (if r.minor ≤ fwMinor fw r then decide (r.length = n) else decide (n ≤ r.length))

/-- The records tile the region from the Header to `HDR.IMAGE_LEN` (R51), and no type has too many instances (R49): a
surface or actuator that is not populated carries none of those that go with one. -/
def structureOk (m : Image) : Bool :=
  (match m.records with | r :: _ => decide (r.type = 0x01) | [] => false) && m.records.all recordForm &&
    decide ((m.records.map (fun r => r.length)).sum = (imgGet m .HDR_IMAGE_LEN 0 0).toNat) &&
    (m.records.map (fun r => r.type * 32 + r.inst)).Nodup &&
    m.records.all (fun r =>
      if r.type = 0x03 then bit (imgGet m .PLT_SURFACES 0 0).toNat r.inst
      else if r.type = 0x05 then bit (imgGet m .PLT_ACTUATORS 0 0).toNat r.inst
      else true)

/-! ### Ranges -/

/-- A value within its field's range. The integrator indices also take 0xFF for none (R224). -/
def inRange (k : Setting) (v : Int) : Bool :=
  let i := settingInfo k
  decide (i.lo ≤ v ∧ v ≤ i.hi ∧ v % (i.mult : Int) = 0) &&
    (if k ∈ [Setting.SRV_INT_IDX_VCM, .SRV_INT_IDX_MA, .SRV_SAFE_INT_VCM, .SRV_SAFE_INT_MA] then
      decide (v ≤ 11 ∨ v = 0xFF)
     else true)

/-- Every value the image lists is one of its field's, and every field of one value that has no default is given one in
range by each record that carries it. -/
def rangesOk (m : Image) (rs : List ImgRecord) : Bool :=
  m.vals.all (fun e =>
    let k := Setting.ofNat (e.1 / 4096 / 32)
    decide (e.1 / 4096 / 32 < settingAll.length) && decide (e.1 % 4096 < (settingInfo k).count) && inRange k e.2) &&
  settingAll.all (fun k =>
    decide ((settingInfo k).count ≠ 1) || (settingInfo k).dflt.isSome ||
      (rs.filter (fun r => decide (r.type = recordCode (settingInfo k).record))).all (fun r =>
        inRange k (imgGet m k r.inst 0)))

/-! ### Checks of the chapters. Each reads the image as a block's running one. -/

/-- Populated actuators of the image. -/
def imgActs (b : Block) : List Nat := (List.range 4).filter (fun a => bit (b.cfgN .PLT_ACTUATORS) a)

/-- R54: no surface of an actuator that is not populated, and none of a platter beyond the stack. -/
def platformOk (b : Block) : Bool :=
  (List.range 24).all (fun s => !bit (b.cfgN .PLT_SURFACES) s ||
    (bit (b.cfgN .PLT_ACTUATORS) (s / 6) && decide (s / 2 < b.cfgN .PLT_PLATTERS)))

/-- R157, in µV: `SPD.KE` × `SPD.SET_RPM` × `SPD.FW_MIN` % stays within 90 % of 10.2 V at R148's depth. -/
def spindleOk (b : Block) : Bool :=
  decide (b.cfgN .SPD_KE * b.cfgN .SPD_SET_RPM * b.cfgN .SPD_FW_MIN * 6250 ≤
    900 * 10200000 * (625 - 10 * b.cfgN .SPD_MIN_WINDOW))

/-- R194: no pole of magnitude above 0.9999, by the conditions on 1 + a1 z⁻¹ + a2 z⁻² scaled to that radius. -/
def polesOk (a1 a2 : Nat) : Bool :=
  !fspecial a1 && !fspecial a2 &&
    decide ((fval a2).natAbs * 10 ^ 8 ≤ 9999 ^ 2 * 2 ^ 149) &&
    decide (((fval a1).natAbs * 9999 * 10 ^ 4 : Int) ≤ (9999 : Int) ^ 2 * 2 ^ 149 + fval a2 * 10 ^ 8)

/-- The settings that hold binary32 coefficients (R191, R194). -/
def coefSettings : List Setting :=
  [.SRV_CTRL_A, .SRV_CTRL_B, .SRV_CTRL_C, .SRV_CTRL_D, .SRV_SAFE_A, .SRV_SAFE_B, .SRV_SAFE_C, .SRV_SAFE_D,
   .SRV_MODEL_A, .SRV_MODEL_B, .SRV_MODEL_C, .SRV_NOTCH]

/-- Slot assignments of R196: slot, loop as actuator × 4 + loop code (3 for the spindle's, which all records share), and
whether the index is the rotor angle. -/
def slotAssignments (b : Block) : List (Nat × Nat × Bool) :=
  (imgActs b).flatMap (fun a =>
    [(0, b.cfgN .SRV_TBL0_LOOP a, b.cfgN .SRV_TBL0_INDEX a), (1, b.cfgN .SRV_TBL1_LOOP a, b.cfgN .SRV_TBL1_INDEX a)].filterMap
      (fun x => if x.2.1 = 0 then none
        else some (x.1, (if x.2.1 = 3 then 3 else 4 * a + x.2.1), decide (x.2.2 = 1))))

/-- R187, R191, R194 and R197. -/
def servoOk (b : Block) : Bool :=
  let acts := imgActs b
  let slots := slotAssignments b
  acts.all (fun a => decide (b.cfgN .SRV_WEDGES a = b.cfgN .SRV_WEDGES (acts.headD 0))) &&
    b.image.vals.all (fun e =>
      !decide (Setting.ofNat (e.1 / 4096 / 32) ∈ coefSettings) || !fspecial e.2.toNat) &&
    acts.all (fun a => (List.range 12).all (fun n =>
      polesOk (b.cfgN .SRV_NOTCH a (5 * n + 3)) (b.cfgN .SRV_NOTCH a (5 * n + 4)))) &&
    decide ((slots.map (fun x => x.1)).Nodup) && decide ((slots.map (fun x => x.2.1)).Nodup) &&
    slots.all (fun x => decide (x.2.1 ≠ 3) || x.2.2)

/-- R288: the readers' distance is at most 8,192 bits in every zone; the record gives the distance in nm. -/
def headsOk (b : Block) : Bool :=
  (List.range 24).all (fun s => !bit (b.cfgN .PLT_SURFACES) s ||
    (List.range (b.cfgN .FMT_ZONES)).all (fun z =>
      decide (Config.zoneBits (b.cfgN .HDS_RDL_DT s + b.cfgN .HDS_RDT_DT s) (b.cfgN .FMT_Z_BAUD 0 z) z ≤ 8192)))

/-- Bit positions in which a w-bit pattern differs from its own shift by n bits. -/
def shiftDiffers (w p n : Nat) : Nat :=
  ((List.range (w - n)).filter (fun i => p.testBit i != p.testBit (i + n))).length

/-- R314. -/
def channelOk (b : Block) : Bool :=
  decide (b.cfgN .CHN_PM_W ≤ b.cfgN .CHN_WIDE_W) &&
    [1, 2, 3, 4].all (fun n => decide (8 ≤ shiftDiffers 32 (b.cfgN .CHN_PM_PAT) n) &&
      decide (4 ≤ shiftDiffers 16 (b.cfgN .CHN_SM_PAT) n)) &&
    (List.range (b.cfgN .FMT_ZONES)).all (fun z => decide (2 * b.cfgN .CHN_CTLE_FC 0 z ≤ b.cfgN .FMT_Z_BAUD 0 z))

/-- The targets of a word of a given number of branch bits: NEXT with every combination ORed in (R335). -/
def mwTargets (w : Nat) : List Nat := (List.range (2 ^ mwBrN w)).map (fun i => mwNext w ||| i)

/-- R354 for one overlay. -/
def overlayOk (b : Block) (fw : FwPart) (a : Nat) : Bool :=
  let n := b.cfgN .TSO_WORDS a
  let ins := fun t => decide (0x800 ≤ t ∧ t < 0x800 + n)
  bit (b.cfgN .PLT_ACTUATORS) a && decide (b.cfgN .TSO_IFACE a = fw.iface) &&
    (List.range n).all (fun i =>
      let w := b.cfgN .TSO_WORD a i
      !mwIllegal w && (List.range 4).all (fun j => decide (j < mwBrN w) || decide (mwBsel w j = 0)) &&
        decide (mwNext w % 2 ^ mwBrN w = 0) && decide (mwSeq w = 0 ∨ mwSeq w = 2) &&
        (decide (mwSeq w = 2) || (mwTargets w).all ins)) &&
    (List.range 4).all (fun d => decide (b.cfgN .TSO_DISPATCH a d = 0) || ins (b.cfgN .TSO_DISPATCH a d))

/-- The sector positions of every usable track of one surface (R408). -/
def usablePositions (b : Block) : Nat :=
  ((List.range (b.cfgN .FMT_ZONES)).map (fun z =>
    b.cfgN .FMT_Z_SPT 0 z *
      (if b.cfgN .FMT_Z_KIND 0 z = 0 then bandsIn b z * b.cfgN .FMT_BAND_TRK
       else (zoneEnd b z - b.cfgN .FMT_Z_TRACK 0 z - b.cfgN .FMT_CAL_TRK + 1) / 2))).sum

/-- The fit check of R408 for a recording zone: baud is in Mb/s, so that 0.600 µs are 6 × baud / 10 bits. -/
def zoneFits (b : Block) (z : Nat) : Bool :=
  let baud := b.cfgN .FMT_Z_BAUD 0 z
  let bits := b.cfgN .FMT_Z_SPT 0 z * (b.cfgN .CHN_PRE_BITS + b.cfgN .CHN_PAD_BITS + 36912 + b.cfgN .FMT_Z_GAP 0 z) +
    b.cfgN .SRV_WEDGES ((imgActs b).headD 0) * ceilDiv (6 * baud) 10
  decide (bits * b.cfgN .FMT_RPM ≤ baud * 60000000)

/-- R408. -/
def formatOk (b : Block) : Bool :=
  let zs := List.range (b.cfgN .FMT_ZONES)
  let surfs := popCount 24 (b.cfgN .PLT_SURFACES)
  let cap := 4096 * usablePositions b * surfs
  let native := b.cfgN .PLT_NATIVE_GB * 10 ^ 9
  decide (b.cfgN .FMT_RPM = b.cfgN .SPD_SET_RPM) && decide (b.cfgN .FMT_Z_TRACK 0 0 = 0) &&
    zs.all (fun z => decide (b.cfgN .FMT_Z_TRACK 0 z < zoneEnd b z)) &&
    (imgActs b).all (fun a => decide (b.cfgN .FMT_TRACKS ≤ b.cfgN .SRV_STROKE_TRK a)) && zs.all (zoneFits b) &&
    zs.all (fun z => decide (b.cfgN .FMT_Z_KIND 0 z = 1) ||
      (decide (b.cfgN .FMT_Z_SPARE_BANDS 0 z + 1 ≤ bandsIn b z) &&
        decide (b.cfgN .FMT_BAND_TRK * surfs * zoneT b z ≤ 1048576))) &&
    zs.all (fun z => decide (b.cfgN .FMT_Z_SPARE_SECT 0 z < b.cfgN .FMT_Z_SPT 0 z)) &&
    zs.any (fun z => decide (b.cfgN .FMT_Z_KIND 0 z = 1)) &&
    decide ((native - cap) * 100 ≤ cap) && decide ((cap - native) * 100 ≤ cap)

/-- The offsets that an override of the Recorder record lists (R663). -/
def overrideOffsets (b : Block) (e : Nat) : List Nat :=
  (List.range (b.cfgN .REC_OVR 0 (13 * e + 4))).map (fun i => b.cfgN .REC_OVR 0 (13 * e + 5 + i))

/-- R663, R664: each code once, no critical code changed, and at most 8 offsets, aligned and outside the reserved range
of R37. -/
def recorderOk (b : Block) : Bool :=
  let es := List.range (b.cfgN .REC_OVR_N)
  let code := fun e => b.cfgN .REC_OVR 0 (13 * e)
  decide ((es.map code).Nodup) &&
    es.all (fun e =>
      (decide (sepOwnSeverity (code e) ≠ 3) || decide (b.cfgN .REC_OVR 0 (13 * e + 3) ∈ [3, 0xFF])) &&
        decide (b.cfgN .REC_OVR 0 (13 * e + 4) ≤ 8) &&
        (overrideOffsets b e).all (fun o => decide (o % 4 = 0) && !decide (0xAC000 ≤ o ∧ o ≤ 0xEFFFF)))

/-- R409, R637, R680 and R702. -/
def limitsOk (b : Block) : Bool :=
  decide (b.cfgN .XLT_MC_LOW < b.cfgN .XLT_MC_HIGH) &&
    decide (b.cfgN .THR_T1 < b.cfgN .THR_T2 ∧ b.cfgN .THR_T2 < b.cfgN .THR_T3) &&
    decide (b.cfgN .THR_TOK2 < b.cfgN .THR_TOK1 ∧ b.cfgN .THR_RESUME_C < b.cfgN .THR_T1) &&
    decide (b.cfgN .MEM_CMB_KIB ≤ 512 * b.cfgN .MEM_CARVE_WAYS) && decide (b.cfgN .HST_PORTS = 1 ∨ b.cfgN .HST_PORTS = 3) &&
    (List.range 6).all (fun c =>
      let p := b.cfgN .MEM_POL 0 c
      if c = 0 then decide (p = 0) else if c < 3 then decide (p ≤ 1) else decide (1 ≤ p ∧ p ≤ 2))

/-- Every check of the chapters on an image, for the firmware that runs with it. -/
def contentOk (b : Block) (fw : FwPart) (m : Image) : Bool :=
  let rs := liveRecords fw m
  let x := { b with image := effective fw m }
  rangesOk x.image rs && platformOk x && spindleOk x && servoOk x && headsOk x && channelOk x &&
    (rs.filter (fun r => decide (r.type = 0x09))).all (fun r => overlayOk x fw r.inst) && formatOk x && recorderOk x &&
    limitsOk x && rs.all (recordContent fw m)

/-! ### A package and a bank -/

/-- The firmware part's signature (R90), of a part that fits its region (R58). -/
def fwSigned (fw : FwPart) : Bool :=
  decide (fw.size ≤ 384 * 65536) && Config.ecdsaVerify Config.birgeashKey fw.digest fw.sig

/-- The image's public key fills an unrevoked fused slot (R51). -/
def keySlotOk (b : Block) (m : Image) : Bool :=
  let n := (imgGet m .HDR_KEY_SLOT 0 0).toNat
  decide (b.fuses.keySlots.getD n none = some (Config.sha384 97 (imgGet m .HDR_PUBKEY 0 0).toNat)) &&
    !b.fuses.revoked.getD n false

/-- The image's signature under the key in its Header (R51). -/
def imgSigned (m : Image) : Bool :=
  Config.ecdsaVerify (imgGet m .HDR_PUBKEY 0 0).toNat (imageDigest m) (imgGet m .HDR_SIG 0 0).toNat

/-- `PLT.ACTUATORS` names an actuator beyond the fused count (R54). -/
def platformBeyond (b : Block) (m : Image) : Bool :=
  decide (2 ^ b.get .ID_PART_ACT 0 ≤ (imgGet m .PLT_ACTUATORS 0 0).toNat)

/-- The security versions are below the fused ones (R51, R90). -/
def svnLow (b : Block) (fw : FwPart) (m : Image) : Bool :=
  decide (fw.svn < b.fuses.fwSvn) || decide ((imgGet m .SEC_SVN 0 0).toNat < b.fuses.imgSvn)

/-- The reason an image fails with a firmware part, as `SYS_BOOT.FAIL` codes it; 0 when it passes. The checks are made
in the order of the codes (DESIGN CHOICE, log entry 101). -/
def imageCode (b : Block) (fw : FwPart) (m : Image) : Nat :=
  if !imgSigned m then 0x03
  else if !keySlotOk b m then 0x04
  else if m.records.any (fun r => !decide (r.crc = recordCrc m r)) then 0x05
  else if recordMissing m m.records then 0x06
  else if m.records.any (fun r => r.critical && !fwSupports fw r) then 0x07
  else if svnLow b fw m then 0x08
  else if platformBeyond b m then 0x0A
  else if fw.version < (imgGet m .HDR_FW_MIN 0 0).toNat then 0x0B
  else if !structureOk m then 0x0C
  else if recordMissing m (liveRecords fw m) || !contentOk b fw m then 0x0D
  else 0

/-- The reason a bank fails, as `SYS_BOOT.FAIL` codes it; 0 when it passes (R51, R71, R90, R94). -/
def bankCheck (b : Block) (k : FcsBank) : Nat :=
  match bankFw k, bankImg k with
  | some fw, some m => if !fwSigned fw then 0x02 else imageCode b fw m
  | none, _ => 0x02
  | some fw, none => if !fwSigned fw then 0x02 else 0x03

/-! ### Format-bound content (R57) -/

/-- The records that are format-bound, as the bytes of each (R57). -/
def boundRecords (m : Image) : List (List Nat) :=
  [0x02, 0x04, 0x0A].map (fun t => (m.records.filter (fun r => r.type = t)).map (recordNat m))

/-- The format-bound fields of the other records (R57). -/
def boundFields (m : Image) : List Int :=
  (List.range 4).map (fun a => imgGet m .SRV_WEDGES a 0) ++
    [imgGet m .CHN_PRE_BITS 0 0, imgGet m .CHN_PAD_BITS 0 0, imgGet m .CHN_PM_PAT 0 0, imgGet m .CHN_SM_PAT 0 0,
     imgGet m .SPD_SET_RPM 0 0]

/-- Two images differ in a byte of a format-bound record or field (R57). -/
def formatChanges (m n : Image) : Bool :=
  !decide (boundRecords m = boundRecords n) || !decide (boundFields m = boundFields n)

end Sys2Proof.Machine
end

