-- ==== Sys2Proof/Machine/Boot.lean ====
section
/-! DEFINITION. BOOT (R69 to R73) and the end of journal replay. -/

namespace Sys2Proof.Machine

/-- The BOOT step reached, as `SYS_BOOT.STAGE` codes the rows of R69's table (R94). -/
def bootStage (b : Block) (n : Nat) : Block := b.put .SYS_BOOT_STAGE 0 n

/-- Milliseconds since BOOT began. -/
def bootMs (b : Block) : Nat := (b.now - b.boot.start) / 1000

/-- BOOT's registers at its start: a new report, nothing tried yet (R94). -/
def bootClear (b : Block) : Block :=
  (((((((bootStage b 2).put .SYS_BOOT_RECOVERY 0 0).put .SYS_BOOT_UNCAL 0 0).put .SYS_BOOT_FALLBACK 0 0).put
    .SYS_BOOT_BANK 0 0).put .SYS_BOOT_FAIL 0 0).put .SYS_BOOT_TIME 0 0).put .MEM_L2_RECOV 0 0

/-- `PWR_HOLDUP` written as a record of SHORT, WARM, DUR, FLUSH and ENERGY (R139). -/
def putHoldup (b : Block) (r : Bool × Bool × Nat × Nat × Nat) : Block :=
  ((((b.putBool .PWR_HOLDUP_SHORT 0 r.1).putBool .PWR_HOLDUP_WARM 0 r.2.1).putSat .PWR_HOLDUP_DUR 0 r.2.2.1).putSat
    .PWR_HOLDUP_FLUSH 0 r.2.2.2.1).putSat .PWR_HOLDUP_ENERGY 0 r.2.2.2.2

/-- `PWR_HOLDUP` restored at BOOT (R120, R139): from the retention domain; else, after a shortfall whose record was
lost, SHORT with unknown DUR and ENERGY and the FLUSH found in the reserve; else as the seal saved it. -/
def restoreHoldup (b : Block) : Block :=
  match b.pwr.retention.holdup with
  | some r => putHoldup b r
  | none =>
    match b.pwr.shortFlush with
    | some f => putHoldup b (true, false, 0x3FF, f, 0x3FF)
    | none => match b.pwr.sealedHoldup with
      | some r => putHoldup b r
      | none => b

/-- BOOT may begin (R69, R116, R127): 12 V valid, the auxiliary rail valid or derived from it (R717), PWDIS
deasserted, and 100 ms of 12 V after a HOLDUP without warm return. -/
def bootEnabled (b : Block) : Bool :=
  b.mode = .boot && b.pwr.powered && b.pwr.v12 && !b.pwr.pwdis && !b.boot.active && b.boot.halted.isNone &&
    decide (b.get .SYS_BOOT_STAGE 0 = 0xA ∨ !b.boot.enginesUp)

/-- BOOT_START (R69, R72): SV and CC0 start from the boot ROM with empty caches (DESIGN CHOICE, log entry 175), the pins are sampled,
the PHYs are released, the fuses are read and the fuse map's spare rows and columns applied. A failed fuse block or boot memory halts BOOT, with the fault code that NVMe-MI reports
(R635), and the PHYs stop: both links stay down until power is removed. -/
def bootStart (fusesOk bootMemOk dualPort : Bool) (b : Block) : Block :=
  b.guard (bootEnabled b) (fun b =>
    let b := bootClear b
    let b := { b with
      boot := { b.boot with
      active := true, start := b.now, candidates := [], current := none, rejected := false, verified := false,
      halted := none, recovery := false, enginesUp := false, journalUp := false, phy := fusesOk && bootMemOk }
      mm := { b.mm with caches := Caches.reset } }
    let b := (b.putBool .PX_LINK_DPEN 0 dualPort).putBool .PX_LINK_DPEN 1 dualPort
    let b := restoreHoldup b
    if !fusesOk then { b with boot := { b.boot with active := false, halted := some 1 } }
    else if !bootMemOk then { b with boot := { b.boot with active := false, halted := some 2 } }
    else bootStage (applyRepairs b b.fuses.spares) 3)

/-- BOOT_START. -/
def execBootStart (fusesOk bootMemOk dualPort : Bool) (s : State) : Host.Outcome State Fault Refusal :=
  s.onBlock (bootStart fusesOk bootMemOk dualPort)

/-- Recovery mode (R73, R738): only an admin queue on each port, no firmware, image or journal from a bank; the fields
those fill read 0, and the time to the entry shows. -/
def recoveryEntry (b : Block) : Block :=
  let b := { b with boot := { b.boot with recovery := true, enginesUp := true, current := none, candidates := [] } }
  let b := clearSourced b
  ((((b.put .SYS_BOOT_RECOVERY 0 1).put .SYS_BOOT_BANK 0 0).put .FCS_STAT_RUNBANK 0 0).put .MEM_L2_RECOV 0 1).putSat
    .SYS_BOOT_TIME 0 (bootMs b)

/-- DRAM_TRAINING_DONE (R72): on a failure the module enters recovery mode, running from the L2 carve-out. -/
def dramTrainingDone (ok : Bool) (b : Block) : Block :=
  b.guard (b.boot.active && decide (b.get .SYS_BOOT_STAGE 0 = 3)) (fun b =>
    if ok then bootStage b 4 else recoveryEntry b)

/-- DRAM_TRAINING_DONE. -/
def execDramTrainingDone (ok : Bool) (s : State) : Host.Outcome State Fault Refusal := s.onBlock (dramTrainingDone ok)

/-- A bank is a candidate for BOOT (R71): an intact descriptor and REVOKE 0xFF. -/
def bankCandidate (k : FcsBank) : Bool := decide (bankDesc k = .intact) && decide (k.revoke = 0xFF)

/-- The candidates in the order they are tried (R71): the greater sequence number by serial-number arithmetic first,
bank 0 on equal numbers, and a bank whose number is still blank after one whose number is programmed. -/
def bootOrder (k0 k1 : FcsBank) : List (Fin 2) :=
  match bankCandidate k0, bankCandidate k1 with
  | true, true =>
    match k0.seq, k1.seq with
    | some a, some c => if serialGt 32 c a then [1, 0] else [0, 1]
    | none, some _ => [1, 0]
    | _, none => [0, 1]
  | true, false => [0]
  | false, true => [1]
  | false, false => []

/-- A bank rejected (R71): its reason in `SYS_BOOT.FAIL`, and a record of code 0x0101. -/
def bankRejected (b : Block) (bank : Fin 2) (code : Nat) : Block :=
  let b := (b.put .SYS_BOOT_FAIL 0 code)
  let b := { b with boot := { b.boot with rejected := true } }
  b.sepia 0x0101 srcSV bank.val code

/-- The bank that BOOT tries now: `SYS_BOOT.BANK` and `FCS_STAT.RUNBANK` show it (R71, R738). -/
def tryBank (b : Block) (c : Fin 2) (rest : List (Fin 2)) : Block :=
  let b := { b with boot := { b.boot with current := some c, candidates := rest } }
  (b.put .SYS_BOOT_BANK 0 c.val).put .FCS_STAT_RUNBANK 0 c.val

/-- BOOT_DESCRIPTORS_READ (R71): the bad-sector tables and repair lists are taken, the banks put in order, and a
written but damaged descriptor is a rejection, whatever its REVOKE byte reads (DESIGN CHOICE, log entry 128). With no candidate no bank
is chosen, and the module enters recovery mode. -/
def bootDescriptorsRead (b : Block) : Block :=
  b.guard (b.boot.active && decide (b.get .SYS_BOOT_STAGE 0 = 4) && !b.boot.recovery) (fun b =>
    let k0 := vget b.fcs.banks 0
    let k1 := vget b.fcs.banks 1
    let b := (b.put .FCS_STAT_BAD0 0 k0.bad.length).put .FCS_STAT_BAD1 0 k1.bad.length
    let b := applyRepairs b (k0.repairs ++ k1.repairs)
    let b := if bankDesc k0 = .damaged then bankRejected b 0 0x01 else b
    let b := if bankDesc k1 = .damaged then bankRejected b 1 0x01 else b
    match bootOrder k0 k1 with
    | [] => recoveryEntry b
    | c :: cs => tryBank (bootStage b 5) c cs)

/-- BOOT_DESCRIPTORS_READ. -/
def execBootDescriptorsRead (s : State) : Host.Outcome State Fault Refusal := s.onBlock bootDescriptorsRead

/-- The calibration record BOOT uses (R77): a correct CRC and the greater count, then the later time, then bank 0's. -/
def chooseCal (c0 c1 : Option CalRecord) : Option (CalRecord × Nat) :=
  match c0, c1 with
  | some a, some c =>
    if c.count > a.count ∨ (c.count = a.count ∧ c.time > a.time) then some (c, 1) else some (a, 0)
  | some a, none => some (a, 0)
  | none, some c => some (c, 1)
  | none, none => none

/-- The older of two records whose newer one is unreadable shows as code 0x0102 (R77, R648): the record used has a
count lower than a slot that lost its CRC would have held. -/
def calOlder (b : Block) : Bool :=
  let k0 := vget b.fcs.banks 0
  let k1 := vget b.fcs.banks 1
  match chooseCal (bankCal k0) (bankCal k1) with
  | some (c, n) =>
    let k := if n = 0 then k1 else k0
    match k.cal with
    | some o => (bankCal k).isNone && decide (c.count ≤ o.count)
    | none => false
  | none => false

/-- The calibration slot chosen and its values applied, or BOOT goes on uncalibrated (R72, R77). -/
def bootCalibration (b : Block) : Block :=
  let older := calOlder b
  match chooseCal (bankCal (vget b.fcs.banks 0)) (bankCal (vget b.fcs.banks 1)) with
  | some (c, n) =>
    let b := { b with fcs := { b.fcs with cal := some c, calBank := n } }
    if older then b.sepia 0x0102 srcSV c.count 0 else b
  | none => ({ b with fcs := { b.fcs with cal := none } }).put .SYS_BOOT_UNCAL 0 1

/-- The steps of R69 that the bank being tried completes: its firmware's (6) where that is read and signed, and its image's too (7)
where every check passes. A bank tried after a rejection starts from the descriptors' step again (log entry 129). -/
def bankStage (k : FcsBank) (readOk : Bool) (code : Nat) : Nat :=
  if code = 0 then 7
  else if readOk && (match bankFw k with | some fw => fwSigned fw | none => false) then 6 else 5

/-- BOOT_BANK_VERIFIED (R71): the firmware and image of the bank being tried pass every check, or the bank is rejected
and the other candidate tried; with none left the module enters recovery mode. The calibration slot is then chosen. -/
def bootBankVerified (readOk : Bool) (b : Block) : Block :=
  b.guard (b.boot.active && !b.boot.recovery && !b.boot.verified && decide (5 ≤ b.get .SYS_BOOT_STAGE 0)) (fun b =>
    match b.boot.current with
    | none => b
    | some c =>
      let k := vget b.fcs.banks c
      let code := if readOk then bankCheck b k else 0x09
      let b := bootStage b (bankStage k readOk code)
      if code = 0 then
        let b := { b with fcs := { b.fcs with running := c }, boot := { b.boot with verified := true } }
        bootStage (bootCalibration (b.putBool .SYS_BOOT_FALLBACK 0 b.boot.rejected)) 8
      else
        let b := bankRejected b c code
        match b.boot.candidates with
        | [] => recoveryEntry b
        | d :: ds => tryBank b d ds)

/-- BOOT_BANK_VERIFIED. -/
def execBootBankVerified (readOk : Bool) (s : State) : Host.Outcome State Fault Refusal :=
  s.onBlock (bootBankVerified readOk)

/-- The records held from BOOT numbered in the order in which they were made, and flushed when the engines start (R654, R656). -/
def sepBootFlush (b : Block) : Block :=
  let n := sepBuffered b + b.sep.held.length
  let rs := sepSorted (b.sep.halfA ++ b.sep.halfB ++ b.sep.reserve ++ b.sep.held)
  let b := { b with sep := { b.sep with
    halfA := [], halfB := [], reserve := [], held := [], fillB := false, flushDue := false, up := true, bootMade := 0 } }
  let b := rs.foldl (fun b r => let x := sepNumber b r; sepToPool x.2 [x.1]) b
  (((b.put .SEP_FLUSH2_RECORDS 0 n).put .SEP_FLUSH2_LASTSTART 0 1).put .SEP_STATE_LAST 0 0)

/-- The firmware and image of the bank booted are taken into use (R56, R738). -/
def takeRunning (b : Block) : Block :=
  let k := vget b.fcs.banks b.fcs.running
  match bankFw k, bankImg k with
  | some fw, some m => applyRunning b fw (effective fw m)
  | _, _ => b

/-- Every engine, for `SYS_ENG_RUN` (R42). -/
def allEngines : List Engine :=
  (List.finRange 12).map .cc ++ (List.finRange 4).map .ts ++ (List.finRange 4).map .se ++ [.spe] ++ (List.finRange 4).map .ae ++
    (List.finRange 2).map .le ++ [.sv]

/-- ENGINES_START (R70, R654, R738): the engines start, the image and the firmware show, configuration requests are answered normally,
and Sepia's stored fields and records held from BOOT reach the NAND. -/
def enginesStart (b : Block) : Block :=
  b.guard (b.boot.active && b.boot.verified && decide (b.get .SYS_BOOT_STAGE 0 = 8)) (fun b =>
    let b := takeRunning { b with boot := { b.boot with enginesUp := true } }
    let b := allEngines.foldl (fun b e => engineShown b e true) b
    let b := sepBootFlush (restoreSepia b)
    let b := if b.get .PWR_HOLDUP_SHORT 0 = 1 ∧ b.pwr.shortFlush.isSome
      then b.sepia 0x0201 srcSV 2 (b.get .PWR_HOLDUP_FLUSH 0) else b
    bootStage ((List.finRange 4).foldl tsReload b) 9)

/-- ENGINES_START. -/
def execEnginesStart (s : State) : Host.Outcome State Fault Refusal := s.onBlock enginesStart

/-- BOOT_END (R69, R100): to SPINUP with a valid calibration record, PWDIS deasserted and the thermal stage below 3;
else to PARK. The first BOOT reads the NAND's factory marks (R476), and the journal is replayed from now on (R471). -/
def bootEnd (b : Block) : Block :=
  b.guard (b.boot.active && (b.boot.recovery || decide (b.get .SYS_BOOT_STAGE 0 = 9))) (fun b =>
    let b := { b with boot := { b.boot with active := false } }
    let b := if b.boot.recovery then b
      else (readMarks ((bootStage b 0xA).putSat .SYS_BOOT_TIME 0 (bootMs b))).put .NS_STATE_REPLAY 0 1
    if b.boot.recovery || b.fcs.cal.isNone then powerDownIfDue (enterPark b 0x07)
    else if b.pwr.pwdis || b.pwr.pwdisDown then powerDownIfDue (enterPark b 0x04)
    else if 3 ≤ b.get .THM_STAGE_STAGE 0 then enterPark b 0x03
    else enterSpinup b 0x0B)

/-- BOOT_END. -/
def execBootEnd (s : State) : Host.Outcome State Fault Refusal := s.onReset bootEnd

/-- The HOLDUP count after a loss of the retention domain (R140): the count that the NAND holds, and the entries since. -/
def restoreHucount (b : Block) : Block :=
  if b.pwr.huLost then
    { b.putSat .PWR_HUCOUNT_COUNT 0 (b.pwr.savedHu + b.get .PWR_HUCOUNT_COUNT 0) with pwr := { b.pwr with huLost := false } }
  else b

/-- JOURNAL_REPLAY_DONE (R471, R495): replay from the newest good checkpoint to the seal completes; the fields restored
from the journal read their values, a SPINUP that has waited goes on, and a gap is recorded as code 0x0A02 with the last good entry. -/
def journalReplayDone (ms : Nat) (gap : Option Nat) (b : Block) : Block :=
  b.guard (b.boot.enginesUp && !b.boot.recovery && !b.boot.journalUp && !b.boot.active) (fun b =>
    let b := { b with boot := { b.boot with journalUp := true } }
    let b := restoreHucount ((restoreStored b).put .PWR_PENDING_ROWS 0 b.pwr.pending.length)
    let b := applyRepairs b b.mm.repairs
    let b := (failUncalibrated b).putSat .NS_JRNL_REPLAY 0 ms
    let b := b.put .NS_STATE_REPLAY 0 0
    let b := match gap with
      | some g => b.sepia 0x0A02 (srcCC 0) 0 g
      | none => b
    if b.mode = .spinup then modeProgress b else b)

/-- JOURNAL_REPLAY_DONE. -/
def execJournalReplayDone (ms : Nat) (gap : Option Nat) (s : State) : Host.Outcome State Fault Refusal :=
  s.onBlock (journalReplayDone ms gap)

end Sys2Proof.Machine
end

