-- ==== Sys2Proof/Machine/Power.lean ====
section
/-! DEFINITION. Power loss and HOLDUP (R110 to R125), PWDIS (R126, R127), the supplies (R717), the spindle's fall below
60 rpm, Device Time's saves (R137) and the 12 V record (R142). -/

namespace Sys2Proof.Machine

/-- V12_STABLE (R116): 12 V has been at or above 10.8 V for 100 ms. During HOLDUP that makes a warm return possible;
after a HOLDUP without one, BOOT starts. -/
def v12Stable (b : Block) : Block :=
  let b := { b with pwr := { b.pwr with v12 := true, v12Held := true } }
  if b.pwr.afterHoldup && !b.pwr.pwdis && !b.pwr.powered then beginBoot b else b

/-- V12_STABLE. -/
def execV12Stable (s : State) : Host.Outcome State Fault Refusal := s.onBlock v12Stable

/-- AUX_SUPPLY_CHANGE (R128, R717): the retention domain's source changes; with 12 V absent as well, everything the
manual does not hold in the FCS flash or the NAND is lost. -/
def auxSupplyChange (valid : Bool) (b : Block) : Block :=
  let b := { b with pwr := { b.pwr with aux := valid } }
  if !valid && !b.pwr.v12 && !b.pwr.powered then loseRetention b else b

/-- AUX_SUPPLY_CHANGE. -/
def execAuxSupplyChange (valid : Bool) (s : State) : Host.Outcome State Fault Refusal :=
  s.onBlock (auxSupplyChange valid)

/-- The rows that become parity-pending at HOLDUP entry in a mode (R118, R123): in RUN and IDLE every open row, beside
those still pending, each listed once; in PARK and a SPINUP that followed it the provisional list is made current. -/
def holdupRows (b : Block) (m : Mode) : List PendRow :=
  match m with
  | .run | .idle => mergeRows b.pwr.pending (openRows b)
  | _ => mergeRows b.pwr.pending b.pwr.provisional

/-- CHa stops at HOLDUP entry (R302, R316): it shows that it is off, and is tuned anew before its next frame. AEa shows HOLDUP (R272). -/
def channelOff (b : Block) (a : Act) : Block :=
  ((b.onTs a (fun t => { t with chReady := false })).put .CH_STATE_MODE a.val 6).put .AST_STATE_LOOP a.val 7

/-- The channels and AEa come back with a warm return: idle, and off until the next request. -/
def channelsBack (b : Block) : Block :=
  (List.finRange 4).foldl (fun b a => (b.put .CH_STATE_MODE a.val 0).put .AST_STATE_LOOP a.val 0) b

/-- HOLDUP_ENTRY (R110, R113, R118, R123, R173, R264, R347): the input is isolated and HOLDUP entered; write gates
fall, the sequencers halt, the links go down, every preamp takes its safe state, loaded actuators retract, SPE becomes
a generator, and every open row becomes pending. An entry that no shutdown notification preceded counts as an unsafe
shutdown (R625). -/
def holdupEntry (b : Block) : Block :=
  if !b.pwr.powered then
    -- the core is off already: the retention domain alone loses its 12 V (R128)
    let b := { b with pwr := { b.pwr with v12 := false, v12Held := false } }
    if b.pwr.aux then b else loseRetention b
  else b.guard (decide (b.mode ≠ .holdup)) (fun b =>
    let m := b.mode
    let dirty := b.get .PWR_DIRTY_NOW 0
    let b := b.bump .PWR_HUCOUNT_COUNT 0
    let b := { b with
      pwr := { b.pwr with
      v12 := false, v12Held := false, pwdisDown := false
      holdup := some ⟨m, b.now, false, 0, 0, 0, false, false⟩
      pending := holdupRows b m, provisional := [] } }
    let b := (List.finRange 4).foldl (fun b a => channelOff (preampSafe (tsHalt (cutWrite b a) a) a) a) b
    let b := (List.finRange 2).foldl (fun b p => engineShown (linkDown b p) (.le p) false) b
    let b := abandonNand (endActivationForHoldup (keepErases (fcsAbandon b)))
    let b := { b with boot := { b.boot with active := false } }
    let b := (List.finRange 4).foldl (fun b a => if loaded b a then startRetract b a else b) b
    let b := if decide (m ∈ [.spinup, .run, .idle]) && !b.hea.notified[0] && !b.hea.notified[1] then
        b.onHea (fun h => { h with unsafeShutdowns := h.unsafeShutdowns + 1 })
      else b
    let b := writeBackAll (enterMode (clearLock (generatorEntry (dropMedia (stopNimbus b)))) .holdup 0x05)
    let b := refreshThrottle { b with thm := { b.thm with trip := false, floated := false, stopAt := none } }
    b.sepia 0x0201 srcSV m.code dirty)

/-- HOLDUP_ENTRY. -/
def execHoldupEntry (s : State) : Host.Outcome State Fault Refusal := s.onReset holdupEntry

/-- PENDING_LIST_PROGRAMMED (R123, R140, R143): the list is in the NAND with the journal head, and the flush starts. -/
def pendingListProgrammed (b : Block) : Block :=
  match b.pwr.holdup with
  | some h =>
    let b := if b.pwr.huLost then b else { b with pwr := { b.pwr with savedHu := b.get .PWR_HUCOUNT_COUNT 0 } }
    startFlush (({ b with pwr := { b.pwr with holdup := some { h with listed := true, listedAt := b.now } } }).put .PWR_PENDING_ROWS 0
      b.pwr.pending.length)
  | none => b

/-- PENDING_LIST_PROGRAMMED. -/
def execPendingListProgrammed (s : State) : Host.Outcome State Fault Refusal := s.onBlock pendingListProgrammed

/-- The flush throughput of a HOLDUP in MB/s (R494). -/
def flushRate (b : Block) (h : Holdup) (blocks : Nat) : Nat := blocks * 4096 / max 1 (b.now - h.listedAt)

/-- The flush skips the dirty blocks at the places given, whose lines are poisoned (R694): each is recorded, and its owner acts at the
next RUN. -/
def skipPoisoned (b : Block) (places : List Nat) : Block :=
  let keys := (places.filterMap (fun i => b.xl.dirty[i]?)).map (fun d => d.key)
  let b := keys.foldl (fun b k => b.sepia 0x0F04 (srcCC 0) 7 k) b
  refreshDirty { b.onXl (fun x => { x with dirty := x.dirty.filter (fun d => !decide (d.key ∈ keys)) }) with
    pwr := { b.pwr with skipped := b.pwr.skipped ++ keys.filter (fun k => !decide (k ∈ b.pwr.skipped)) } }

/-- HOLDUP_FLUSH_END (R113, R114, R694): the dirty DRAM is in the NAND, but for the blocks at the places `poisoned`; the Sepia buffer is
flushed, Device Time saved and the journal sealed. -/
def holdupFlushEnd (energy : Nat) (poisoned : List Nat) (b : Block) : Block :=
  match b.pwr.holdup with
  | some h => b.guard (h.listed && !h.flushDone && !h.short) (fun b =>
      let b := if poisoned = [] then b else skipPoisoned b poisoned
      let n := dirtyCount b
      let mib := ceilDiv n 256
      let b := sealNand (flushReserve (b.putSat .NS_RSV_RATE 0 (flushRate b h n)) b.xl.dirty.length)
      let b := takeSnapshot b
      -- in BOOT before the NAND is readable, the retention domain alone takes Device Time (R118)
      let b := if b.sep.up then
          let b := ((sepFlushForHoldup b).bump .SEP_FLUSH_HOLDUP 0).put .SEP_STATE_LAST 0 2
          let b := b.put .SEP_FLUSH2_LASTSTART 0 0
          { b with pwr := { b.pwr with savedTime := b.now } }
        else b
      { b with
          pwr := { b.pwr with
          holdup := some { h with flushed := mib, energy := energy, flushDone := true }
          retention := { b.pwr.retention with devTime := some b.now } } })
  | none => b

/-- HOLDUP_FLUSH_END. -/
def execHoldupFlushEnd (energy : Nat) (poisoned : List Nat) (s : State) : Host.Outcome State Fault Refusal :=
  s.onBlock (holdupFlushEnd energy poisoned)

/-- Milliseconds since a HOLDUP's trip. -/
def holdupMs (b : Block) (h : Holdup) : Nat := (b.now - h.start) / 1000

/-- HOLDUP ends without a warm return (R116): SPE short-brakes on what the internal bus still holds. The supplies go off when the
brake has ended. -/
def holdupBrake (b : Block) : Block :=
  shortBrake { b with pwr := { b.pwr with afterHoldup := true, braking := true } } .rest

/-- HOLDUP_SHORTFALL (R120): the rotor fell below 30 % of set speed before the seal. The flush stops at a block
boundary after the n oldest blocks, `PWR_HOLDUP` goes to the retention domain, the records in the Sepia buffer are lost (R654), and every supply
but the retention domain's goes off once the short brake has ended. The blocks lost, the suffix of what was received, are kept for the next RUN, which sets the pointers back. -/
def holdupShortfall (n energy : Nat) (b : Block) : Block :=
  match b.pwr.holdup with
  | some h => b.guard (!h.flushDone && !h.short) (fun b =>
      let n := if h.listed then min n b.xl.dirty.length else 0
      let mib := ceilDiv n 256
      let lost := b.xl.dirty.drop n
      let r := (true, false, min (holdupMs b h) 0x3FF, min mib 0x3FF, min energy 0x3FF)
      let b := flushReserve (b.putSat .NS_RSV_RATE 0 (flushRate b h n)) n
      let b := putHoldup b r
      let b := { b with
        sep := { b.sep with halfA := [], halfB := [], reserve := [], held := [], flushA := false, flushB := false,
                            flushDue := false }
        pwr := { b.pwr with
          holdup := some { h with short := true, flushed := mib, energy := energy }
          shortFlush := some mib, shortLost := lost, backupFailed := true
          retention := { b.pwr.retention with holdup := some r } } }
      let b := if b.sep.up then sepResume b else b
      holdupBrake { b with pwr := { b.pwr with holdup := none } })
  | none => b

/-- HOLDUP_SHORTFALL. -/
def execHoldupShortfall (n energy : Nat) (s : State) : Host.Outcome State Fault Refusal := s.onReset (holdupShortfall n energy)

/-- HOLDUP_END (R116, R117, R139): the outcome is recorded. With 100 ms of 12 V the module makes a warm return to
SPINUP, which the host sees as a P reset of both ports; otherwise SPE short-brakes, and every supply but the retention
domain's goes off when the brake ends. -/
def holdupEnd (energy : Nat) (b : Block) : Block :=
  match b.pwr.holdup with
  | some h => b.guard h.flushDone (fun b =>
      let warm := b.pwr.v12Held && !b.pwr.pwdis
      let r := (false, warm, min (holdupMs b h) 0x3FF, min h.flushed 0x3FF, min energy 0x3FF)
      let b := putHoldup b r
      let b := { b with
        pwr := { b.pwr with
        holdup := none, sealedHoldup := some r, shortFlush := none, backupFailed := false
        retention := { b.pwr.retention with holdup := some r } } }
      if warm then
        let b := channelsBack { b with pwr := { b.pwr with wrSupplyOff := false } }
        let b := (List.finRange 2).foldl (fun b p => engineShown (portReset b p) (.le p) true) (refreshWarnings b)
        let b := startArmed (refreshThrottle (enterSpinup b 0x06))
        if stageStops b then floatSpinup b else b
      else holdupBrake b)
  | none => b

/-- HOLDUP_END. -/
def execHoldupEnd (energy : Nat) (s : State) : Host.Outcome State Fault Refusal := s.onReset (holdupEnd energy)

/-- SHORT_BRAKE_END (R116): the bus fell below 5.0 V or 1 s passed; the bridge floats, and every supply but the retention
domain's goes off. BOOT starts at once where 12 V has held for long enough. -/
def shortBrakeEnd (b : Block) : Block :=
  b.guard b.pwr.braking (fun b =>
    let b := { b with pwr := { b.pwr with braking := false } }
    let b := powerOff (b.put .SPN_STATE_STATE 0 SpnMode.float.code)
    if b.pwr.afterHoldup && b.pwr.v12Held && !b.pwr.pwdis && !b.pwr.powered then beginBoot b else b)

/-- SHORT_BRAKE_END. -/
def execShortBrakeEnd (s : State) : Host.Outcome State Fault Refusal := s.onReset shortBrakeEnd

/-- PWDIS_ASSERT (R126, R127): PWDIS has been high for 1 ms. Fetching stops, the links go down, dirty DRAM goes to the
NAND, the pending list of every open row is programmed, the heads unload and the spindle brakes; from PARK the supplies
go off at once. During HOLDUP, before BOOT has started, and while no mode is current, only the pin's state changes. -/
def pwdisAssert (b : Block) : Block :=
  let b := { b with pwr := { b.pwr with pwdis := true } }
  let before := decide (b.mode = .boot) && !b.boot.active
  b.guard (b.pwr.powered && decide (b.mode ≠ .holdup) && !b.pwr.pwdisDown && !before) (fun b =>
    let b := { b with pwr := { b.pwr with pwdisDown := true } }
    let b := (List.finRange 2).foldl linkDown b
    let b := flushDirty b
    let b := { b with pwr := { b.pwr with pending := mergeRows b.pwr.pending (openRows b) } }
    let b := b.put .PWR_PENDING_ROWS 0 b.pwr.pending.length
    let b := { b with pwr := { b.pwr with savedTime := b.now } }
    if b.mode = .boot then b
    else if b.mode = .park then powerDownIfDue b
    else parkTransition b 0x04)

/-- PWDIS_ASSERT. -/
def execPwdisAssert (s : State) : Host.Outcome State Fault Refusal := s.onReset pwdisAssert

/-- PWDIS_DEASSERT (R127): BOOT starts where a power-down has completed; one in progress completes first. -/
def pwdisDeassert (b : Block) : Block :=
  let b := { b with pwr := { b.pwr with pwdis := false } }
  if !b.pwr.powered && !b.pwr.braking && b.pwr.v12 && (!b.pwr.afterHoldup || b.pwr.v12Held) then beginBoot b else b

/-- PWDIS_DEASSERT. -/
def execPwdisDeassert (s : State) : Host.Outcome State Fault Refusal := s.onBlock pwdisDeassert

/-- SPINDLE_BELOW_60RPM (R100, R126): a pending transition to PARK completes; the supplies then go off for a PWDIS
power-down. -/
def spindleBelow60 (b : Block) : Block :=
  b.guard (b.pwr.powered && decide (b.get .PWR_MODE_TARGET 0 = Mode.park.code) &&
      decide (b.mode ∈ [.spinup, .run, .idle])) (fun b =>
    let b := { b with spn := { b.spn with goal := .rest } }
    let b := b.put .SPN_STATE_STATE 0 SpnMode.stopped.code
    powerDownIfDue (enterPark b (b.get .PWR_MODE_CAUSE 0)))

/-- SPINDLE_BELOW_60RPM. -/
def execSpindleBelow60rpm (s : State) : Host.Outcome State Fault Refusal := s.onReset spindleBelow60

/-- DEVICE_TIME_SAVE (R137): the 10-minute timer saves Device Time to the NAND. -/
def execDeviceTimeSave (s : State) : Host.Outcome State Fault Refusal :=
  s.onBlock (fun b => { b with pwr := { b.pwr with savedTime := b.now } })

/-- PWR_V12_REFRESH (R142): the 12 V input in mV, and its lowest since power-on. -/
def execPwrV12Refresh (mv : Nat) (s : State) : Host.Outcome State Fault Refusal :=
  s.onBlock (fun b =>
    let v := min mv 0xFFFF
    (b.put .PWR_V12_NOW 0 v).put .PWR_V12_MIN 0 (min (b.get .PWR_V12_MIN 0) v))

/-- PENDING_ROW_COMPLETE (R124, R125, R431): the row's parity tracks have passed read-after-write; the row leaves the list.
Blocks of it that could not be read again are lost. -/
def pendingRowComplete (o : RowOwner) (row : Nat) (lost : List Nat) (b : Block) : Block :=
  b.guard (b.mode = .run && b.pwr.pending.any (fun r => r.owner = o ∧ r.row = row)) (fun b =>
    let rest := b.pwr.pending.filter (fun r => !(decide (r.owner = o ∧ r.row = row)))
    let b := { b with pwr := { b.pwr with pending := rest } }
    (pendingRowDone b o row lost).put .PWR_PENDING_ROWS 0 rest.length)

/-- PENDING_ROW_COMPLETE. -/
def execPendingRowComplete (o : RowOwner) (row : Nat) (lost : List Nat) (s : State) :
    Host.Outcome State Fault Refusal :=
  s.onBlock (pendingRowComplete o row lost)

/-- APST_IDLE_EXPIRY (R108): the controller's idle time has passed with APST enabled; its request becomes the state its
table names. -/
def apstIdleExpiry (p : Port) (b : Block) : Block :=
  match apstTarget b p with
  | some ps => powerEval (setRequest b p ps) 0x02
  | none => b

/-- APST_IDLE_EXPIRY. -/
def execApstIdleExpiry (p : Port) (s : State) : Host.Outcome State Fault Refusal := s.onBlock (apstIdleExpiry p)

end Sys2Proof.Machine
end

