-- ==== Sys2Proof/Machine/Observer.lean ====
section
/-! DEFINITION. What SPE measures and computes at a control step (R147, R148, R151 to R156, R159, R164): the sensed currents and
voltages, the flux observer, the comparators and the switching table, field weakening, and the speed loop. Speeds are in 1/8 rpm.
A phase vector stands for its projections on the axes of phases a, b and c. Irrational factors are taken to seven digits
(log entry 141). -/

namespace Sys2Proof.Machine

/-! ### Sensing (R147) -/

/-- A 12-bit voltage code in mV (log entry 140). -/
def senseMv (c : Fin 4096) : Nat := 5 * c.val

/-- A 12-bit current code in mA, two's complement (log entry 140). -/
def senseMa (c : Fin 4096) : Int := if c.val < 2048 then 4 * (c.val : Int) else 4 * (c.val : Int) - 16384

/-- The three phase currents in mA: one sampled while its leg's low side did not conduct is not valid, and the last valid one of
that phase stands (R147). -/
def phaseCurrents (b : Block) (x : SpnSample) : Vector Int 3 :=
  let i := b.spn.i
  #v[if bit x.low.val 0 then senseMa x.ia else i[0], if bit x.low.val 1 then senseMa x.ib else i[1],
     if bit x.low.val 2 then senseMa x.ic else i[2]]

/-- The integer square root, found bit by bit from 2^(k-1) down. -/
def isqrtFrom (n : Nat) : Nat → Nat → Nat
  | 0, r => r
  | k + 1, r => isqrtFrom n k (if (r + 2 ^ k) * (r + 2 ^ k) ≤ n then r + 2 ^ k else r)

/-- The integer square root of a number below 2^120. -/
def isqrt (n : Nat) : Nat := isqrtFrom n 60 0

/-- The sum of the squares of the projections: three halves of the vector's squared length. -/
def sumSquares (v : Vector Int 3) : Nat := v[0].natAbs ^ 2 + v[1].natAbs ^ 2 + v[2].natAbs ^ 2

/-- A phase vector's length. -/
def vecLength (v : Vector Int 3) : Nat := isqrt (2 * sumSquares v / 3)

/-- The largest phase current in mA. -/
def largestMa (i : Vector Int 3) : Nat := max i[0].natAbs (max i[1].natAbs i[2].natAbs)

/-! ### The observer (R151 to R154, R164) -/

/-- Three times the resistive drops in µV: half of `SPD.R_LL` lies in each phase. -/
def drops (b : Block) (i : Vector Int 3) : Vector Int 3 := i.map (fun y => 3 * (b.cfgN .SPD_R_LL : Int) * y / 2)

/-- Three times the flux that currents make in the phase inductances, half of `SPD.L_LL` in each, in µV times control steps. A
change of current by as much in one step takes as many µV. -/
def inductive_ (b : Block) (i : Vector Int 3) : Vector Int 3 := i.map (fun y => 240 * (b.cfgN .SPD_L_LL : Int) * y)

/-- Projections added and subtracted. -/
def vadd (u v : Vector Int 3) : Vector Int 3 := #v[u[0] + v[0], u[1] + v[1], u[2] + v[2]]
def vsub (u v : Vector Int 3) : Vector Int 3 := #v[u[0] - v[0], u[1] - v[1], u[2] - v[2]]

/-- Three times the phase voltages, terminal against neutral, in µV. -/
def phaseUv (x : SpnSample) : Vector Int 3 :=
  let v : Vector Int 3 := #v[(senseMv x.va : Int), (senseMv x.vb : Int), (senseMv x.vc : Int)]
  let s := v[0] + v[1] + v[2]
  v.map (fun y => 3000 * y - 1000 * s)

/-- The stator flux: the terminal voltages less the resistive drop, integrated over one control step. -/
def integrateFlux (b : Block) (x : SpnSample) (i : Vector Int 3) : Vector Int 3 :=
  vadd b.spn.flux (vsub (phaseUv x) (drops b i))

/-- The rotor's flux: the stator flux less what the currents make. -/
def rotorFlux (b : Block) (i : Vector Int 3) : Vector Int 3 := vsub b.spn.flux (inductive_ b i)

/-- The flux sector k of 1 to 6: the flux lies within ±30° of the direction of Vk, whose axis has the largest projection. -/
def fluxSector (v : Vector Int 3) : Nat :=
  if v[1].natAbs ≤ v[0].natAbs ∧ v[2].natAbs ≤ v[0].natAbs then (if 0 ≤ v[0] then 1 else 4)
  else if v[2].natAbs ≤ v[1].natAbs then (if 0 ≤ v[1] then 3 else 6)
  else (if 0 ≤ v[2] then 5 else 2)

/-- Three times the nominal flux, that of the rotor alone, whose back-EMF `SPD.KE` gives (log entry 142). -/
def nominalFlux (b : Block) : Nat := b.cfgN .SPD_KE * 2646379 / max 1 (b.cfgN .SPD_POLE_PAIRS)

/-- Three times a flux vector of nominal size in the direction of Vk, by which SPE sets the observer (R162, R165). -/
def fluxAlong (b : Block) (k : Nat) : Vector Int 3 :=
  let n : Int := (nominalFlux b : Int)
  let h : Int := n / 2
  match k with
  | 1 => #v[n, -h, -h]
  | 2 => #v[h, h, -n]
  | 3 => #v[-h, n, -h]
  | 4 => #v[-n, h, h]
  | 5 => #v[-h, -h, n]
  | _ => #v[h, -n, h]

/-- The observer's electrical angle moved by what the speed gives in one step, in 1/65536. -/
def stepAngle (b : Block) (speed : Nat) : Nat := speed * b.cfgN .SPD_POLE_PAIRS * 8 / 9375

/-- The speed that a change of the electrical angle in one step means (R151). -/
def angleSpeed (b : Block) (d : Nat) : Nat := d * 9375 / (8 * max 1 (b.cfgN .SPD_POLE_PAIRS))

/-- The observer's angle taken, with the electrical turns within the mechanical one counted. -/
def takeAngle (b : Block) (e : Nat) : Block :=
  let turn := decide (e < b.spn.elec)
  { b with spn := { b.spn with
    elec := e, pole := if turn then (b.spn.pole + 1) % max 1 (b.cfgN .SPD_POLE_PAIRS) else b.spn.pole } }

/-- The present rotor mechanical angle in 1/65536 revolution (R159), from the electrical turn on which the observer was first set
(log entry 143). -/
def rotorAngle (b : Block) : Nat := (b.spn.pole * 65536 + b.spn.elec) / max 1 (b.cfgN .SPD_POLE_PAIRS) % 65536

/-- One step of the observer: flux, angle and speed (R151). -/
def observe (b : Block) (x : SpnSample) (i : Vector Int 3) : Block :=
  let b := { b with spn := { b.spn with flux := integrateFlux b x i } }
  let r := rotorFlux b i
  let e := Config.fluxAngle r[0] r[1] r[2] % 65536
  let d := (e + 65536 - b.spn.elec) % 65536
  let b := { b with spn := { b.spn with obsSpeed := if d < 32768 then angleSpeed b d else b.spn.obsSpeed } }
  takeAngle b e

/-- Three times the predicted back-EMF in µV: the rotor's flux turning at the observer's speed. -/
def backEmf (b : Block) (i : Vector Int 3) : Vector Int 3 :=
  let r := rotorFlux b i
  let w : Int := (b.spn.obsSpeed * b.cfgN .SPD_POLE_PAIRS : Nat) * 4723436
  (#v[r[2] - r[1], r[0] - r[2], r[1] - r[0]] : Vector Int 3).map (fun y => y * w / 10 ^ 14)

/-- The residual (R164): the terminal voltage that back-EMF, resistance and inductance predict against the measured one, in
percent of the predicted back-EMF. With no back-EMF predicted the spec states no percentage: a free value. -/
def residual (b : Block) (x : SpnSample) (i : Vector Int 3) : Nat × Block :=
  let e := backEmf b i
  let p := vadd e (vadd (drops b i) (inductive_ b (vsub i b.spn.i)))
  let d := vsub (phaseUv x) p
  if sumSquares e = 0 then b.fresh (2 ^ 16)
  else (isqrt (10000 * sumSquares d / sumSquares e), b)

/-- The torque estimate in 10^-15 N·m: the cross product of flux and current. -/
def torqueEstimate (b : Block) (i : Vector Int 3) : Int :=
  let f := b.spn.flux
  (b.cfgN .SPD_POLE_PAIRS : Int) * (f[0] * (i[1] - i[2]) - i[0] * (f[1] - f[2])) * 31250000 / 17320508

/-- The direct-axis current in mA: the current along the rotor's flux. -/
def directMa (b : Block) (i : Vector Int 3) : Int :=
  let r := rotorFlux b i
  2 * (r[0] * i[0] + r[1] * i[1] + r[2] * i[2]) / (3 * (max 1 (vecLength r) : Nat))

/-! ### Vectors and comparators (R152 to R154) -/

/-- V(k) with k taken modulo 6 in the range 1 to 6 (R153). -/
def vectorIndex (k : Int) : Nat := ((k - 1) % 6).toNat + 1

/-- The zero vector that changes one leg (R153): V0 after V1, V3 and V5, else V7. -/
def zeroVector (prev : Nat) : Nat := if prev = 1 ∨ prev = 3 ∨ prev = 5 then 0 else 7

/-- The switching table of R153: flux sector k from 1 to 6, flux increase or not, torque increase, hold or decrease. -/
def dtcVector (k : Nat) (fluxUp : Bool) (torque : Int) (prev : Nat) : Nat :=
  if torque = 0 then zeroVector prev
  else if fluxUp then vectorIndex (k + torque)
  else vectorIndex (k + 2 * torque)

/-- The flux comparator (R152): two levels about the reference, holding inside the band. All in one unit. -/
def fluxCompare (ref : Nat) (band : Nat) (flux : Int) (last : Bool) : Bool :=
  if 2 * flux < 2 * (ref : Int) - band then true
  else if 2 * flux > 2 * (ref : Int) + band then false
  else last

/-- The torque comparator (R152): three levels on reference less estimate. All in one unit. -/
def torqueCompare (ref est : Int) (band : Nat) : Int :=
  if ref - est > band then 1 else if ref - est < -(band : Int) then -1 else 0

/-- The high sides of phases a, b and c in vector k (R153): V1 = 100 to V6 = 101, V7 = 111. -/
def vectorLegs (k : Nat) : Vector Int 3 :=
  match k with
  | 1 => #v[1, 0, 0]
  | 2 => #v[1, 1, 0]
  | 3 => #v[0, 1, 0]
  | 4 => #v[0, 1, 1]
  | 5 => #v[0, 0, 1]
  | 6 => #v[1, 0, 1]
  | 7 => #v[1, 1, 1]
  | _ => #v[0, 0, 0]

/-- The part of a 6.25 µs period that the sampling window leaves (R148), in ns. -/
def activeNs (b : Block) : Nat := 6250 - 100 * b.cfgN .SPD_MIN_WINDOW

/-- The available voltage (R148, R156): the bus times the modulation depth left by the sampling window, in mV. -/
def availableMv (b : Block) (busMv : Nat) : Nat := busMv * activeNs b / 6250

/-- The largest phase current in mA after one period of a vector (R154). -/
def nextMa (b : Block) (i : Vector Int 3) (busMv k : Nat) : Nat :=
  let s := vectorLegs k
  let n := s[0] + s[1] + s[2]
  let v := s.map (fun y => (3 * y - n) * 1000 * (availableMv b busMv : Int))
  let u := vsub (vsub v (backEmf b i)) (drops b i)
  largestMa (vadd i (u.map (fun y => y / (max 1 (240 * b.cfgN .SPD_L_LL) : Nat))))

/-- The greatest torque reference, that of `SPD.IPH_MAX` (R159), in 10^-15 N·m. The torque constant that `SPD.KE` gives
is left to the implementation. -/
def torqueMax (b : Block) : Int := (Config.torqueConstant (b.cfgN .SPD_KE) * b.cfgN .SPD_IPH_MAX : Nat)

/-- One DTC step's switch state (R152 to R154): the comparators, in thousandths of a percent of nominal flux and of the torque of
`SPD.IPH_MAX`, the table, and the zero vector where the current would pass `SPD.IPH_MAX`. -/
def dtcStep (b : Block) (x : SpnSample) (i : Vector Int 3) : Block :=
  let flux : Int := (vecLength b.spn.flux * 100000 / max 1 (nominalFlux b) : Nat)
  let up := fluxCompare (1000 * b.get .SPN_FLUX_REF 0) (1000 * b.cfgN .SPD_FLUX_BAND) flux b.spn.fluxUp
  let lim := max 1 (torqueMax b)
  let t := torqueCompare (b.spn.torqueRef * 100000 / lim) (torqueEstimate b i * 100000 / lim) (1000 * b.cfgN .SPD_TORQUE_BAND)
  let v := dtcVector (fluxSector b.spn.flux) up t b.spn.vector
  let v := if b.cfgN .SPD_IPH_MAX < nextMa b i (senseMv x.bus) v then zeroVector b.spn.vector else v
  { b with spn := { b.spn with fluxUp := up, torqueOut := t, vector := v } }

/-! ### Field weakening (R156, R158) -/

/-- The line-to-line voltage that the speed requires at the present flux reference and current, in mV (log entry 144). -/
def requiredMv (b : Block) (speed : Nat) (i : Vector Int 3) : Nat :=
  (b.cfgN .SPD_KE * speed * b.get .SPN_FLUX_REF 0 / 800 + b.cfgN .SPD_R_LL * vecLength i) / 1000

/-- Field weakening (R156): the reference falls while the required voltage is above 95 % of the available one, down to
`SPD.FW_MIN` or the current limit, and is restored at 1 % of nominal a revolution once it is below 90 %. -/
def fieldWeakening (b : Block) (x : SpnSample) (speed : Nat) (i : Vector Int 3) (rev : Bool) : Block :=
  let avail := availableMv b (senseMv x.bus)
  let need := requiredMv b speed i
  let id := directMa b i
  let ref := b.get .SPN_FLUX_REF 0
  let ref' :=
    if 95 * avail < 100 * need ∧ b.cfgN .SPD_FW_MIN < ref ∧ -(b.cfgN .SPD_FW_IDMAX : Int) < id then ref - 1
    else if 100 * need < 90 * avail ∧ ref < 100 ∧ rev = true then ref + 1
    else ref
  (((b.put .SPN_FLUX_REF 0 ref').putInt .SPN_FLUX_ID 0 id).putBool
    .SPN_STATE_FWEAK 0 (decide (ref' < 100))).putBool .SPN_STATE_MODLIM 0 (decide (avail ≤ need))

/-! ### The speed loop (R159, R161, R168) -/

/-- The speed loop's proportional term in 10^-15 N·m: gain Q16.16 in mN·m per rad/s on an error in 1/8 rpm. -/
def speedP (kp : Nat) (err : Int) : Int := (kp : Int) * err * 3141592650000 / (65536 * 240)

/-- The integral term's growth in one 6.25 µs step, in 10^-15 N·m. -/
def speedI (ki : Nat) (err : Int) : Int := (ki : Int) * err * 1963495406250000 / (65536 * 240 * 100000000)

/-- The torque that returns `SPD.BRAKE_PMAX` to the bus at a speed (R168), in 10^-15 N·m. -/
def brakeTorque (watts speed : Nat) : Int :=
  if speed = 0 then 0 else (watts * 10 ^ 15 * 240 * 10 ^ 8 / (speed * 314159265) : Nat)

/-- The speed that the loop holds: a changed set speed counts once the heads are on their ramps (R176). -/
def loopSpeed (b : Block) : Nat := b.spn.holdSpeed.getD (setSpeed b)

/-- The reference of the spin-up profile (R161): the torque of `SPD.IPH_MAX` while the input power is below `SPD.SPINUP_PMAX`;
above it the reference is lowered in proportion, so that the power is held there (log entry 145). -/
def profileTorque (b : Block) (power : Nat) : Int :=
  let lim := torqueMax b
  let p := b.cfgN .SPD_SPINUP_PMAX
  if power ≤ p then lim else max 0 (min lim (b.spn.torqueRef * p / power))

/-- The reference after a catch rises from 0 (R162): in one step by no more than an implementation's amount. -/
def riseLimit (b : Block) (t : Int) : Int :=
  if b.spn.rising then min t (b.spn.torqueRef + (Config.torqueRise + 1 : Nat)) else t

/-- The speed loop (R159): proportional and integral on the error, the integrator held when the reference is at the
limit; on the way to lock the profile of R161; in REGEN the braking torque of R168. The table slot assigned to the spindle loop is
added. A spindle that SPE does not drive has no reference. -/
def speedLoop (b : Block) (power speed : Nat) : Block :=
  let lim := torqueMax b
  if b.spnMode = .regen then
    { b with spn := { b.spn with torqueRef := -(min (brakeTorque (b.cfgN .SPD_BRAKE_PMAX) speed) lim) } }
  else if b.spn.goal ≠ .run ∧ !b.spn.brakeWait then { b with spn := { b.spn with torqueRef := 0, integ := 0 } }
  else
    let err : Int := (loopSpeed b : Int) - speed
    let p := speedP (b.cfgN .SPD_KP) err
    let i := b.spn.integ + speedI (b.cfgN .SPD_KI) err
    let go := b.spn.starting && decide (1000 * speed < 999 * loopSpeed b)
    let t := if go then profileTorque b power else max (-lim) (min lim (p + i + spindleTable b (rotorAngle b) * 1000000000))
    let held := go || decide (t ≥ lim ∨ t ≤ -lim)
    let t' := riseLimit b t
    { b with spn := { b.spn with torqueRef := t', integ := if held then b.spn.integ else i,
                                 rising := b.spn.rising && decide (t' < t) } }

/-! ### The applied period (R148, R149, R155) -/

/-- What the bridge applies in the period (R148): switch states in order, each with its time in ns. 0 to 7 are V0 to V7, 8 is all
switches open, and 9 + k is the six-step pair of sector k, two phases driven and the third floating. Every driven period ends with
the window, V0. -/
def appliedPeriod (b : Block) (i : Vector Int 3) : List (Nat × Nat) :=
  let act := activeNs b
  let win := 6250 - act
  let open_ := [(8, 6250)]
  if 0 < b.spn.zeroSteps ∨ (b.spn.lostWait ∧ b.spnMode ≠ .float) then [(zeroVector b.spn.vector, act), (0, win)]
  else match b.spnMode with
    | .stopped | .float | .catching | .coast => open_
    | .locate => [(vectorIndex (1 + (b.spn.pulse * 625 / 4000 : Nat)), act), (0, win)]
    | .forced =>
      [(if b.cfgN .SPD_IPH_MAX ≤ largestMa i then 0 else 9 + b.spn.commSector, act), (0, win)]
    | .sixstep => [(9 + b.spn.commSector, act * b.spn.duty / 256), (0, 6250 - act * b.spn.duty / 256)]
    | .dtc | .regen | .generator => [(b.spn.vector, act), (0, win)]
    | .short => [(if b.cfgN .SPD_SHORT_IMAX < largestMa i then 8 else 0, act), (0, win)]

/-- The time in a period for which a vector other than a zero vector is applied, in ns: the modulation depth (R178). -/
def driveNs (l : List (Nat × Nat)) : Nat := (l.map (fun y => if y.1 ∈ [0, 7, 8] then 0 else y.2)).sum

/-- The period applied, and `SPN_FLUX.DEPTH` over each 160 periods, which is 1 ms (R178). -/
def applyPeriod (b : Block) (i : Vector Int 3) : Block :=
  let l := appliedPeriod b i
  let sum := b.spn.depthSum + driveNs l
  let n := b.spn.depthSteps + 1
  if 160 ≤ n then
    ({ b with spn := { b.spn with applied := l, depthSum := 0, depthSteps := 0, i := i } }).putSat .SPN_FLUX_DEPTH 0
      (sum * 256 / 1000000)
  else { b with spn := { b.spn with applied := l, depthSum := sum, depthSteps := n, i := i } }

/-- The duties of the incoming and the outgoing phase in SIXSTEP (R155): equal increments over `SPD.EDGE_STEPS` control steps. -/
def edgeDuties (b : Block) : Nat × Nat :=
  let n := b.cfgN .SPD_EDGE_STEPS
  let k := n - min n b.spn.edge
  (if n = 0 then b.spn.duty else b.spn.duty * k / n, if n = 0 then 0 else b.spn.duty * (n - k) / n)

/-- The six-step duty in 1/256 of the active part, from the speed loop's reference (R155, log entry 146). -/
def sixstepDuty (b : Block) : Nat := min 256 (max 0 (b.spn.torqueRef * 256 / max 1 (torqueMax b))).toNat

end Sys2Proof.Machine
end

