-- ==== Sys2Proof/Machine/Spindle.lean ====
section
/-! DEFINITION. SPE: start and catch (R160 to R163), loss of the rotor (R164 to R167), braking and the clamp (R168 to R172),
over-current (R721), and the control step that joins them (R147 to R159). Speeds are in units of 1/8 rpm. -/

namespace Sys2Proof.Machine

/-- The bus voltage seen, and the highest since power-on (R179). -/
def seeBus (b : Block) (mv : Nat) : Block :=
  let v := min mv 0xFFFF
  (b.put .SPN_BUS_NOW 0 v).put .SPN_BUS_MAX 0 (max (b.get .SPN_BUS_MAX 0) v)

/-- A speed measured without the observer (R155, R160, R162). -/
def measuredSpeed (b : Block) (speed : Nat) : Block :=
  { b with spn := { b.spn with obsSpeed := speed } }.putSat .SPN_STATE_SPEED 0 speed

/-- A measured speed is at or above a percentage of set speed. -/
def speedAtLeast (b : Block) (speed pct : Nat) : Bool := decide (pct * setSpeed b ≤ 100 * speed)

/-- The speed at which one electrical sector takes a time in ns (R146). -/
def sectorSpeed (b : Block) (ns : Nat) : Nat := 80000000000 / (max 1 ns * max 1 (b.cfgN .SPD_POLE_PAIRS))

/-- An attempt of the spin-up begins (R163); those of a SPINUP are counted (R182). -/
def beginAttempt (b : Block) : Block :=
  if b.spn.inAttempt then b
  else
    let b := { b with spn := { b.spn with inAttempt := true, attemptAt := b.now, zcSeen := false } }
    if b.mode = .spinup then b.bump .SPN_SPINUP_TRIES 0 else b

/-- A start from standstill begins with LOCATE (R161). One that follows a catch given up belongs to the attempt that the catch
began. -/
def startStandstill (b : Block) : Block :=
  let b := beginAttempt b
  { b with spn := { b.spn with
    goal := .run, locateAt := b.now, zcSeen := false, zcRun := 0, zcLast := 0, angleKnown := false, lost := false, lostWait := false
    integ := 0, torqueRef := 0, starting := true, pulse := 0, forcedRate := 0, forcedAngle := 0, zeroSteps := 0 } }.put
      .SPN_STATE_STATE 0 SpnMode.locate.code

/-- A catch begins (R162). -/
def beginCatch (b : Block) : Block :=
  { b with spn := { b.spn with catchTries := 0, zeroSteps := 0 } }.put .SPN_STATE_STATE 0 SpnMode.catching.code

/-- SPINUP_INDUCED_VOLTAGE_MEASURED (R160): after 5 ms of floating measurement at SPINUP entry. -/
def spinupMeasured (speed : Nat) (crossing : Bool) (b : Block) : Block :=
  b.guard (b.mode = .spinup && b.spnMode = .float && b.spn.goal = .run) (fun b =>
    let b := measuredSpeed b speed
    if speedAtLeast b speed (b.cfgN .SPD_CATCH_MIN) then beginCatch (beginAttempt b)
    else if crossing then brakeEvent (shortBrake b .restart) (b.get .SPN_BUS_NOW 0)
    else startStandstill b)

/-- SPINUP_INDUCED_VOLTAGE_MEASURED. -/
def execSpinupInducedVoltageMeasured (speed : Nat) (crossing : Bool) (s : State) :
    Host.Outcome State Fault Refusal :=
  s.onBlock (spinupMeasured speed crossing)

/-- SHORT_BRAKE_STANDSTILL (R160, R163): no zero-crossing for 100 ms of SHORT. A start from standstill begins; after a
failed attempt the 2 s wait begins, and after the third the spin-up has failed. -/
def shortBrakeStandstill (b : Block) : Block :=
  b.guard (b.spnMode = .short) (fun b =>
    match b.spn.goal with
    | .restart => startStandstill (measuredSpeed b 0)
    | .retry => measuredSpeed (b.put .SPN_STATE_STATE 0 SpnMode.stopped.code) 0
    | .giveUp => spinupFailure (measuredSpeed (b.put .SPN_STATE_STATE 0 SpnMode.stopped.code) 0)
    | _ => b)

/-- SHORT_BRAKE_STANDSTILL. -/
def execShortBrakeStandstill (s : State) : Host.Outcome State Fault Refusal := s.onBlock shortBrakeStandstill

/-- The test pulse with the largest current rise, of V1 to V6: the rotor's sector (R161). -/
def largestPulse (rises : List Nat) : Nat :=
  (List.range 6).foldl (fun k j => if rises.getD k 0 < rises.getD j 0 then j else k) 0

/-- LOCATE_DONE (R161): the current rises of the six test pulses give the rotor angle, and FORCED commutation begins there. -/
def locateDone (rises : List Nat) (b : Block) : Block :=
  b.guard (b.spnMode = .locate) (fun b =>
    let k := largestPulse rises
    ({ b with spn := { b.spn with
      angleKnown := true, zcRun := 0, zcLast := 0, commSector := k, elec := k * 10923, pole := 0 } }).put
        .SPN_STATE_STATE 0 SpnMode.forced.code)

/-- LOCATE_DONE. -/
def execLocateDone (rises : List Nat) (s : State) : Host.Outcome State Fault Refusal := s.onBlock (locateDone rises)

/-- DTC entered at the hand-over speed, on the way to lock (R161). -/
def enterDtc (b : Block) : Block :=
  { b with spn := { b.spn with
    lost := false, angleKnown := true, integ := 0, implRun := 0, zcRun := 0, zcLoss := 0
    flux := fluxAlong b (b.spn.commSector + 1), elec := b.spn.commSector * 10923 } }.put .SPN_STATE_STATE 0 SpnMode.dtc.code

/-- SIXSTEP entered (R161, R165). -/
def enterSixstep (b : Block) (lost : Bool) : Block :=
  ({ b with spn := { b.spn with
    lost := lost, lostWait := false, zcLoss := 0, zcRun := 0, zcLast := 0, commWait := none, edge := b.cfgN .SPD_EDGE_STEPS } }).put
    .SPN_STATE_STATE 0 SpnMode.sixstep.code

/-- The observer's angle and speed set from zero-crossings; zero torque is applied for 10 control steps before the drive is taken up
(R162, R165). -/
def setObserver (b : Block) (speed : Nat) : Block :=
  let b := measuredSpeed b speed
  { b with spn := { b.spn with
    angleKnown := true, zeroSteps := 10, torqueRef := 0, integ := 0, implRun := 0, flux := fluxAlong b (b.spn.commSector + 1)
    elec := b.spn.commSector * 10923 } }

/-- Two intervals agree within 2 % (R162, R165). -/
def within2 (x y : Nat) : Bool := decide (100 * max x y ≤ 102 * min x y)

/-- The floating phase's terminal voltage has crossed half the bus in the direction of the sector (R155): rising in odd sectors. -/
def crossed (b : Block) (floatMv busMv : Nat) : Bool :=
  if b.spn.commSector % 2 = 1 then decide (busMv ≤ 2 * floatMv) else decide (2 * floatMv ≤ busMv)

/-- Control steps in 30 electrical degrees: half of a sector that took a time in ns (R155). -/
def halfSector (ns : Nat) : Nat := ns / 12500

/-- SIXSTEP_ZERO_CROSSING (R155, R161, R165): the floating phase has crossed half the bus, an interval after the crossing before; the
next commutation is timed from it. In FORCED, six at the spacing that the commutation predicts, once the back-EMF reaches 0.5 V, end
it; in SIXSTEP the hand-over speed, or after a loss of the rotor two consistent periods, lead to DTC. A crossing met while SHORT is
pulsed off only measures the speed. -/
def zeroCrossing (intervalNs floatMv busMv : Nat) (b : Block) : Block :=
  b.guard (crossed b floatMv busMv) (fun b =>
    let v := sectorSpeed b intervalNs
    if b.spnMode = .forced then
      if b.cfgN .SPD_KE * v < 8 * 500000 then b
      else
        let n := if within2 v (b.spn.forcedRate * 240 / 3141592653589793) then b.spn.zcRun + 1 else 0
        let b := { measuredSpeed b v with spn := { b.spn with zcSeen := true, zcRun := n, zcLast := intervalNs, obsSpeed := v } }
        if 6 ≤ n then enterSixstep b false else b
    else if b.spnMode = .sixstep then
      let n := if within2 intervalNs b.spn.zcLast then b.spn.zcRun + 1 else 1
      let b := measuredSpeed b v
      let b := { b with spn := { b.spn with
        zcSeen := true, zcRun := n, zcLoss := 0, zcLast := intervalNs, commWait := some (halfSector intervalNs) } }
      if b.cfgN .SPD_FALLBACK = 1 ∨ 0 < b.spn.zeroSteps then b
      else if b.spn.lost then (if 12 ≤ n then setObserver b v else b)
      else if speedAtLeast b v (b.cfgN .SPD_HANDOVER) then enterDtc b
      else b
    else if b.spnMode = .short then
      let b := measuredSpeed b v
      if b.spn.goal = .slow ∧ v ≤ setSpeed b then beginCatch { b with spn := { b.spn with goal := .run } } else b
    else b)

/-- SIXSTEP_ZERO_CROSSING. -/
def execSixstepZeroCrossing (intervalNs floatMv busMv : Nat) (s : State) : Host.Outcome State Fault Refusal :=
  s.onBlock (zeroCrossing intervalNs floatMv busMv)

/-- ZERO_CROSSING_LOST (R165): after `SPD.ZC_LOSS` losses in a row the bridge floats and CATCH begins. -/
def zeroCrossingLost (b : Block) : Block :=
  b.guard (b.spnMode = .sixstep) (fun b =>
    let n := b.spn.zcLoss + 1
    let b := { b with spn := { b.spn with zcLoss := n, zcRun := 0 } }
    if b.cfgN .SPD_ZC_LOSS ≤ n then
      let b := beginCatch ({ b with spn := { b.spn with angleKnown := false } }.bump .SPN_FAULT_ZCLOSS 0)
      b.sepia 0x0303 srcSPE n (b.get .SPN_STATE_SPEED 0)
    else b)

/-- ZERO_CROSSING_LOST. -/
def execZeroCrossingLost (s : State) : Host.Outcome State Fault Refusal := s.onBlock zeroCrossingLost

/-- A catch given up (R162): a short brake to standstill and a start from standstill, in RUN or IDLE only once every
loaded actuator has been unloaded (R742). A brake for PARK goes on to standstill. -/
def catchGiveUp (b : Block) : Block :=
  let bus := b.get .SPN_BUS_NOW 0
  if decide (b.spn.goal ∈ ([.park, .retry, .giveUp] : List SpnGoal)) && !b.spn.brakeWait then brakeEvent (shortBrake b b.spn.goal) bus
  else
    let g : SpnGoal := if b.spn.goal = .park then .park else .restart
    let loss := decide (b.mode ∈ [.run, .idle])
    let b := { b with spn := { b.spn with lossRestart := loss, fails := if loss then 0 else b.spn.fails } }
    if (List.finRange 4).any (loaded b) then
      let b := if decide (g = SpnGoal.park) then unloadAll b else unloadForSpeed b
      ({ b with spn := { b.spn with goal := g, brakeWait := true } }).put .SPN_STATE_STATE 0 SpnMode.float.code
    else brakeEvent (shortBrake b g) bus

/-- The crossings of a catch are consistent (R162, R173): those of two electrical periods, twelve line-voltage crossings, in HOLDUP of
one, with intervals that agree within 2 %. -/
def catchConsistent (b : Block) (intervals : List Nat) : Bool :=
  decide ((if b.mode = .holdup then 6 else 12) ≤ intervals.length) &&
    within2 (intervals.foldl max 0) (intervals.foldl min (intervals.headD 0))

/-- The speed that the intervals between crossings mean; 0 where none was seen. -/
def catchSpeed (b : Block) (intervals : List Nat) : Nat :=
  if intervals.sum = 0 then 0 else sectorSpeed b (intervals.sum / intervals.length)

/-- CATCH_MEASURED (R162, R173): the intervals between the line voltages' zero-crossings. Consistent ones set the observer and lead,
after 10 control steps of zero torque, to DTC or to the brake in which the rotor was lost, and in HOLDUP to GENERATOR; a failed
measurement is repeated up to 10 times; below catch speed the motor is short-braked to standstill. -/
def catchMeasured (intervals : List Nat) (b : Block) : Block :=
  b.guard (b.spnMode = .catching && b.spn.zeroSteps = 0) (fun b =>
    let speed := catchSpeed b intervals
    let ok := catchConsistent b intervals
    let b := { measuredSpeed b speed with
      spn := { b.spn with zcSeen := b.spn.zcSeen || decide (intervals ≠ []), obsSpeed := speed } }
    if b.mode = .holdup then
      if ok then
        (({ b with spn := { b.spn with angleKnown := true } }).put .SPN_STATE_STATE 0 SpnMode.generator.code).sepia
          0x0304 srcSPE 0 speed
      else (b.bump .SPN_FAULT_CATCH 0).sepia 0x0304 srcSPE 1 speed
    else if !speedAtLeast b speed (b.cfgN .SPD_CATCH_MIN) then
      catchGiveUp (((b.bump .SPN_FAULT_CATCH 0).put .SPN_SPINUP_CAUSE 0 3).sepia 0x0304 srcSPE 2 speed)
    else if ok then setObserver (b.sepia 0x0304 srcSPE 0 speed) speed
    else
      let n := b.spn.catchTries + 1
      let b := (({ b with spn := { b.spn with catchTries := n } }).bump .SPN_FAULT_CATCH 0).sepia 0x0304 srcSPE 1 speed
      if 10 ≤ n then catchGiveUp b else b)

/-- CATCH_MEASURED. -/
def execCatchMeasured (intervals : List Nat) (s : State) : Host.Outcome State Fault Refusal :=
  s.onBlock (catchMeasured intervals)

/-- Why the running attempt has failed by now (R163, R182): no zero-crossing within 3 s of the start of LOCATE, or no lock within
`SPD.SPINUP_TMAX` of its own start. -/
def attemptFailure (b : Block) : Option Nat :=
  if !b.spn.inAttempt || decide (b.get .SPN_STATE_LOCK 0 = 1) || decide (b.spn.goal ∉ [.run, .restart]) then none
  else if decide (b.spnMode ∈ [.locate, .forced]) && !b.spn.zcSeen && decide (b.spn.locateAt + 3000000 ≤ b.now) then some 1
  else if b.spn.attemptAt + 1000000 * b.cfgN .SPD_SPINUP_TMAX ≤ b.now then some 2
  else none

/-- SPINUP_ATTEMPT_TIMEOUT (R163, R167): the attempt has failed; SPE short-brakes to standstill, for the next one or, after the third
failure in a row, for good. -/
def attemptTimeout (b : Block) : Block :=
  match attemptFailure b with
  | some cause =>
    let n := b.spn.fails + 1
    let b := b.put .SPN_SPINUP_CAUSE 0 cause
    let b := { b with spn := { b.spn with fails := n, inAttempt := false, zeroSteps := 0 } }
    brakeEvent (shortBrake b (if 3 ≤ n then .giveUp else .retry)) (b.get .SPN_BUS_NOW 0)
  | none => b

/-- SPINUP_ATTEMPT_TIMEOUT. -/
def execSpinupAttemptTimeout (s : State) : Host.Outcome State Fault Refusal := s.onBlock attemptTimeout

/-- SPINUP_RETRY_WAIT_END (R163): the 2 s wait ends, and the next attempt starts. -/
def execSpinupRetryWaitEnd (s : State) : Host.Outcome State Fault Refusal :=
  s.onBlock (fun b => b.guard (decide (b.spn.goal = .retry) && b.spnMode = .stopped) startStandstill)

/-- The speed error in 0.1 % of set speed (R166), from the measurement in use. -/
def speedError (b : Block) : Nat :=
  let s := loopSpeed b
  let v := b.get .SPN_STATE_SPEED 0
  1000 * (max s v - min s v) / max 1 s

/-- SPEED_ERROR_UNLOAD (R166): the speed error has exceeded `SPD.UNLOAD_ERR` for 20 ms, 3,200 control steps. Every loaded
actuator unloads and reloads once the spindle is locked; the mode stays. -/
def speedErrorUnload (b : Block) : Block :=
  b.guard (decide (3200 ≤ b.spn.errSteps) && (List.finRange 4).any (loaded b)) (fun b =>
    let b := (unloadForSpeed b).bump .SPN_FAULT_UNLOAD 0
    let b := { b with spn := { b.spn with errSteps := 0 } }
    b.sepia 0x0305 srcSPE (speedError b) (b.get .SPN_STATE_SPEED 0))

/-- SPEED_ERROR_UNLOAD. -/
def execSpeedErrorUnload (s : State) : Host.Outcome State Fault Refusal := s.onBlock speedErrorUnload

/-! ### Braking, the clamp and the bus -/

/-- CLAMP_COMPARATOR (R168): the switch closes above 13.6 V and opens below 13.2 V. -/
def execClampComparator (high : Bool) (busMv : Nat) (s : State) : Host.Outcome State Fault Refusal :=
  s.onBlock (fun b =>
    let b := seeBus b busMv
    if high && decide (13600 < busMv) then { b with spn := { b.spn with clampClosed := true } }
    else if !high && decide (busMv < 13200) then { b with spn := { b.spn with clampClosed := false } }
    else b)

/-- A clamp found faulty: a regenerative brake goes on in SHORT (R170). -/
def clampFaulty (b : Block) (busMv : Nat) : Block :=
  let b := b.put .SPN_BRAKE_CLAMPBAD 0 1
  if b.spnMode = .regen then brakeEvent (clampShort (shortBrake b b.spn.goal)) busMv else b

/-- CLAMP_FAULT_TIMEOUT (R170): the bus still rises 50 µs after the clamp closed; the clamp is faulty, and braking goes
on in SHORT. -/
def clampFault (rising : Bool) (busMv : Nat) (b : Block) : Block :=
  b.guard (b.spn.clampClosed && rising) (fun b => clampFaulty (seeBus b busMv) busMv)

/-- CLAMP_FAULT_TIMEOUT. -/
def execClampFaultTimeout (rising : Bool) (busMv : Nat) (s : State) : Host.Outcome State Fault Refusal :=
  s.onBlock (clampFault rising busMv)

/-- The resistor current is within ±20 % of the bus voltage over 4.7 Ω (R169): in mA and mV. -/
def clampTestPass (currentMa busMv : Nat) : Bool :=
  decide (10 * busMv ≤ 47 * currentMa + 2 * busMv ∧ 47 * currentMa ≤ 12 * busMv)

/-- CLAMP_TEST (R169, R170, R172): due at a SPINUP entry, at the interval of hours, or asked for; the clamp is closed for 20 µs; the
result sets or clears `SPN_BRAKE.CLAMPBAD`, the interval restarts, and the test is recorded. -/
def clampTest (currentMa busMv : Nat) (b : Block) : Block :=
  b.guard (b.spn.clampDue || decide (b.get .SPN_BRAKE_TEST 0 = 1)) (fun b =>
    let b := { (seeBus b busMv) with spn := { b.spn with clampUs := 0, clampDue := false } }
    let b := brakeEvent (b.put .SPN_BRAKE_TEST 0 0) busMv
    if clampTestPass currentMa busMv then b.put .SPN_BRAKE_CLAMPBAD 0 0
    else clampFaulty ((b.bump .SPN_BRAKE_TESTFAIL 0).onHea (fun h => { h with clampFails := h.clampFails + 1 })) busMv)

/-- CLAMP_TEST. -/
def execClampTest (currentMa busMv : Nat) (s : State) : Host.Outcome State Fault Refusal :=
  s.onBlock (clampTest currentMa busMv)

/-- SPN_BRAKE_TEST (R181): under factory unlock a clamp test is asked for. -/
def brakeTest (w : Agent) (b : Block) : Block := unlockedWrite b w (fun b => b.put .SPN_BRAKE_TEST 0 1)

/-- SPN_BRAKE_TEST. -/
def execSpnBrakeTest (w : Agent) (s : State) : Host.Outcome State Fault Refusal := s.onBlock (brakeTest w)

/-- BUS_OVERVOLTAGE (R171): above 15.0 V all six switches open and SPE enters COAST; loaded actuators unload. A further
over-voltage in COAST changes nothing of what follows it. -/
def busOvervoltage (busMv : Nat) (b : Block) : Block :=
  b.guard (decide (15000 < busMv)) (fun b =>
    let b := seeBus b busMv
    if b.spnMode = .coast then b
    else
      let braking := decide (b.spnMode ∈ [.regen, .short])
      let b := if braking then unloadAll b else unloadForSpeed b
      let b := { b with spn := { b.spn with ovBraking := braking, angleKnown := false, lostWait := false, zeroSteps := 0 } }
      let b := b.onHea (fun h => { h with coasts := h.coasts + 1 })
      let b := ((b.put .SPN_STATE_STATE 0 SpnMode.coast.code).bump .SPN_BRAKE_COASTS 0).put .SPN_BRAKE_LAST 0 3
      brakeEvent b busMv)

/-- BUS_OVERVOLTAGE. -/
def execBusOvervoltage (busMv : Nat) (s : State) : Host.Outcome State Fault Refusal := s.onBlock (busOvervoltage busMv)

/-- BUS_OVERVOLTAGE_CLEARED (R171): the bus has stayed below 14.0 V for 10 ms; braking resumes in SHORT, or the motor
is caught where SPE was driving it. A spindle at rest stays so. -/
def busOvervoltageCleared (busMv : Nat) (b : Block) : Block :=
  b.guard (b.spnMode = .coast && decide (busMv < 14000)) (fun b =>
    let b := seeBus b busMv
    if b.spn.ovBraking then brakeEvent (shortBrake b b.spn.goal) busMv
    else if decide (b.spn.goal ∈ ([.rest, .retry] : List SpnGoal)) then
      if b.mode = .holdup then beginCatch b else b.put .SPN_STATE_STATE 0 SpnMode.stopped.code
    else beginCatch b)

/-- BUS_OVERVOLTAGE_CLEARED. -/
def execBusOvervoltageCleared (busMv : Nat) (s : State) : Host.Outcome State Fault Refusal :=
  s.onBlock (busOvervoltageCleared busMv)

/-- The third over-current trip within 10 s (R721): no catch again; every loaded actuator unloads, and the motor coasts to PARK with
the outcome of R167. The mode goes to PARK from SPINUP, RUN and IDLE alone (R100). -/
def overcurrentOut (b : Block) : Block :=
  let b := unloadAll b
  let b := { b with spn := { b.spn with goal := .rest, inAttempt := false, zeroSteps := 0 } }
  let b := (b.put .SPN_STATE_STATE 0 SpnMode.float.code).put .SPN_SPINUP_CAUSE 0 4
  if decide (b.mode ∈ [Mode.spinup, .run, .idle]) then
    setTarget { b with pwr := { b.pwr with spinupFailed := true } } .park 0x09
  else b

/-- SPINDLE_OVERCURRENT (R721): all switches open and the motor is caught; the third trip within 10 s is the last. -/
def spindleOvercurrent (b : Block) : Block :=
  let recent := (b.now :: b.spn.trips).filter (fun t => b.now ≤ t + 10000000)
  let b := { b with spn := { b.spn with trips := recent, angleKnown := false, lostWait := false } }
  if 3 ≤ recent.length then overcurrentOut b else beginCatch b

/-- SPINDLE_OVERCURRENT. -/
def execSpindleOvercurrent (s : State) : Host.Outcome State Fault Refusal := s.onBlock spindleOvercurrent

/-! ### Speed and lock (R150, R151) -/

/-- The wedge measurement of the speed (R151): over the last 90 wedge intervals, while an actuator is loaded and tracking. -/
def wedgeSpeed (b : Block) : Option Nat :=
  let w := b.spn.wedgeNs
  if (List.finRange 4).any (tracking b) && decide (90 ≤ w.length) && decide (0 < w.sum) then
    some (60 * 10 ^ 9 * 8 * w.length / (w.sum * max 1 (b.cfgN .SRV_WEDGES (firstPopulated b))))
  else none

/-- The speed in use and whether it is the wedge measurement (R151). The reports end with tracking. -/
def takeSpeed (b : Block) : Block :=
  let b := if (List.finRange 4).any (tracking b) then b else { b with spn := { b.spn with wedgeNs := [] } }
  match wedgeSpeed b with
  | some v => (b.putSat .SPN_STATE_SPEED 0 v).put .SPN_STATE_SRC 0 1
  | none => (b.putSat .SPN_STATE_SPEED 0 b.spn.obsSpeed).put .SPN_STATE_SRC 0 0

/-- A turn in 1/8 rpm times control steps that makes one revolution. -/
def wholeTurn : Nat := 76800000

/-- The average over the last revolution is within ±0.1 % of set speed (R150). -/
def averageLocked (b : Block) (turn steps : Nat) : Bool :=
  let s := setSpeed b * steps
  decide (1000 * turn ≤ 1001 * s ∧ 999 * s ≤ 1000 * turn)

/-- Locked is a state in which SPE knows the rotor or catches it (R149, R150): driven, braked, in a catch, or between a loss of the
rotor and SIXSTEP. -/
def lockable (b : Block) : Bool := decide (b.spnMode ∈ [.dtc, .sixstep, .catching, .regen]) || b.spn.lostWait

/-- Lock followed (R150): a loss cuts every write, whose sectors are flagged for rewrite; a gain ends the attempt and its run of
failures, reloads the actuators unloaded for want of it (R166), and lets SPINUP end (R100). -/
def followLock (b : Block) (now : Bool) : Block :=
  let was := b.get .SPN_STATE_LOCK 0 = 1
  let b := (b.putBool .SPN_STATE_LOCK 0 now).putBool .PWR_MODE_SPDLOCK 0 now
  if decide was && !now then cutAllWrites b
  else if now then
    modeProgress (reloadAll { b with spn := { b.spn with fails := 0, inAttempt := false, starting := false } })
  else b

/-- One control step of the turn (R150). A revolution ends when the turn is whole: lock is what its average says; lock is gained only
while SPE drives the spindle for set speed. Before it ends, lock falls as soon as the revolution has lasted too long for it. -/
def turnStep (b : Block) : Block × Bool :=
  let t := b.spn.turn + b.get .SPN_STATE_SPEED 0
  let n := b.spn.turnSteps + 1
  let was := decide (b.get .SPN_STATE_LOCK 0 = 1)
  let whole := decide (wholeTurn ≤ t)
  let b := { b with spn := { b.spn with turn := if whole then 0 else t, turnSteps := if whole then 0 else n } }
  let drives := decide (b.spnMode ∈ [.dtc, .sixstep]) && decide (b.spn.goal = .run) && decide (b.spn.zeroSteps = 0)
  let now :=
    if !lockable b then false
    else if whole then averageLocked b t n && (was || drives)
    else was && decide (999 * setSpeed b * n ≤ 1000 * wholeTurn)
  (followLock b now, whole)

/-! ### The control step -/

/-- The observer's plausibility (R164): the rotor is lost after `SPD.PLAUS_N` steps in a row whose residual exceeds
`SPD.PLAUS_LIM`. -/
def plausibility (b : Block) (pct : Nat) : Block :=
  let n := if b.cfgN .SPD_PLAUS_LIM < pct then b.spn.implRun + 1 else 0
  let b := { b with spn := { b.spn with implRun := n } }
  if b.cfgN .SPD_PLAUS_N ≤ n then rotorLost b pct else b

/-- The sector of an electrical angle in 1/65536, 0 to 5, each ±30° about its direction. -/
def angleSector (e : Nat) : Nat := (e + 5461) * 6 / 65536 % 6

/-- A step between the loss of the rotor and SIXSTEP (R165): the angle goes on from the last valid angle and speed, and SIXSTEP is
entered at the next sector boundary. -/
def lostStep (b : Block) : Block :=
  let e := (b.spn.elec + stepAngle b b.spn.obsSpeed + 1) % 65536
  let was := angleSector b.spn.elec
  let b := takeAngle b e
  if angleSector e = was then b
  else enterSixstep { b with spn := { b.spn with commSector := angleSector e } } true

/-- A step of SIXSTEP (R155): the commutation that a crossing timed, the edge of `SPD.EDGE_STEPS` steps, and the duty that the speed
loop acts on. -/
def sixstepStep (b : Block) (power speed : Nat) : Block :=
  let b := match b.spn.commWait with
    | some 0 => { b with spn := { b.spn with
        commWait := none, commSector := (b.spn.commSector + 1) % 6, edge := b.cfgN .SPD_EDGE_STEPS } }
    | some (n + 1) => { b with spn := { b.spn with commWait := some n, edge := b.spn.edge - 1 } }
    | none => { b with spn := { b.spn with edge := b.spn.edge - 1 } }
  let b := speedLoop b power speed
  let b := { b with spn := { b.spn with duty := sixstepDuty b } }
  let d := edgeDuties b
  { b with spn := { b.spn with dutyIn := d.1, dutyOut := d.2 } }

/-- A step of FORCED (R161): the commutation rate rises at the acceleration that `SPD.IPH_MAX` gives the inertia. -/
def forcedStep (b : Block) : Block :=
  let r := b.spn.forcedRate + (torqueMax b).toNat * 625 / (100 * max 1 (b.cfgN .SPD_INERTIA))
  let e := b.spn.forcedAngle + stepAngle b (r * 240 / 3141592653589793)
  { b with spn := { b.spn with
    forcedRate := r, forcedAngle := e % 65536
    commSector := if e / 10923 = b.spn.forcedAngle / 10923 then b.spn.commSector else (b.spn.commSector + 1) % 6 } }

/-- A step of DTC or REGEN (R152 to R159, R164, R168): field weakening, the speed loop, the switching table and the residual. A set
speed that braking has reached is driven from here on (R176). -/
def dtcDrive (b : Block) (x : SpnSample) (i : Vector Int 3) (rev : Bool) : Block :=
  let speed := b.get .SPN_STATE_SPEED 0
  let r := residual b x i
  let b := observe r.2 x i
  let b := if b.spnMode = .regen ∧ b.spn.goal = .slow ∧ speed ≤ setSpeed b then
      ({ b with spn := { b.spn with goal := .run } }).put .SPN_STATE_STATE 0 SpnMode.dtc.code
    else b
  plausibility (dtcStep (speedLoop (fieldWeakening b x speed i rev) x.power speed) x i) r.1

/-- SPE's own work of a step, by its state. In the 10 steps after a catch the torque is zero; then the drive or the brake goes on
(R162). In GENERATOR the switching follows a law that the spec does not state. -/
def driveStep (b : Block) (x : SpnSample) (i : Vector Int 3) (rev : Bool) : Block :=
  if b.spn.lostWait then lostStep b
  else if b.spn.zeroSteps = 1 then resumeGoal b
  else if 1 < b.spn.zeroSteps then
    takeAngle { b with spn := { b.spn with zeroSteps := b.spn.zeroSteps - 1 } }
      ((b.spn.elec + stepAngle b b.spn.obsSpeed) % 65536)
  else match b.spnMode with
    | .dtc | .regen => dtcDrive b x i rev
    | .sixstep => sixstepStep b x.power (b.get .SPN_STATE_SPEED 0)
    | .forced => forcedStep b
    | .locate => { b with spn := { b.spn with pulse := b.spn.pulse + 1 } }
    | .generator =>
      let (v, b) := (observe b x i).fresh 8
      { b with spn := { b.spn with vector := v } }
    | _ => b

/-- The steps for which the speed error has exceeded `SPD.UNLOAD_ERR` (R166). -/
def countError (b : Block) : Block :=
  { b with spn := { b.spn with errSteps := if b.cfgN .SPD_UNLOAD_ERR < speedError b then b.spn.errSteps + 1 else 0 } }

/-- SPINDLE_CONTROL_STEP (R147 to R159, R164, R168): one phase-current sample. -/
def spindleStep (x : SpnSample) (b : Block) : Block :=
  let b := { b with sys := { b.sys with missRuns := nerase b.sys.missRuns 24 } }
  let i := phaseCurrents b x
  let b := takeSpeed (seeBus b (senseMv x.bus))
  let r := turnStep b
  applyPeriod (countError (driveStep r.1 x i r.2)) i

/-- SPINDLE_CONTROL_STEP. -/
def execSpindleControlStep (x : SpnSample) (s : State) : Host.Outcome State Fault Refusal := s.onBlock (spindleStep x)

end Sys2Proof.Machine
end

