-- ==== Sys2Proof/Machine/Servo.lean ====
section
/-! DEFINITION. SEa: the control step (R187 to R202), plausibility, write-unsafe and loop faults (R204 to R211), settle
(R214), load, unload and retract (R217 to R220), injection and capture (R221 to R223). Binary32 values are patterns. -/

namespace Sys2Proof.Machine

/-! ### The demodulated sample (R187 to R189) -/

/-- The 32 bits that parity covers: the wedge index and the Gray-coded track number. -/
def wedgeWord (x : ServoSample) : Nat := x.index % 2 ^ 10 * 2 ^ 22 + x.gray % 2 ^ 22

/-- Even parity, one bit for each 8-bit group from the most significant bit (R187). -/
def wedgeParityOk (x : ServoSample) : Bool :=
  (List.range 4).all (fun g =>
    let byte := wedgeWord x / 2 ^ (8 * (3 - g)) % 256
    decide ((popCount 8 byte + x.parity / 2 ^ (3 - g) % 2) % 2 = 0))

/-- A Gray-coded number as binary: the exclusive or of its right shifts. -/
def grayDecode (g : Nat) : Nat := (List.range 22).foldl (fun acc k => acc ^^^ (g % 2 ^ 22 / 2 ^ k)) 0

/-- The wedge is missed (R189): no address mark, wrong parity, or the larger burst below 25 % of the preamble. -/
def wedgeMissed (x : ServoSample) : Bool :=
  !x.mark || !wedgeParityOk x || decide (4 * max x.burstN x.burstQ < x.preamble)

/-- The head position in 1/256 of a data track (R188): the integer part from the track number, the fraction from the
burst phase, scaled by `SRV.SERVO_RATIO`. -/
def wedgePosition (b : Block) (a : Act) (x : ServoSample) : Int :=
  ((grayDecode x.gray * 65536 + x.phase % 65536) * b.cfgN .SRV_SERVO_RATIO a.val / 65536 : Nat)

/-! ### The law, the notch sections, the model -/

/-- Row r of a matrix field with `cols` columns, its first n coefficients. -/
def coefRow (b : Block) (k : Setting) (a : Act) (cols r n : Nat) : List Nat :=
  (List.range n).map (fun j => b.cfgN k a.val (cols * r + j))

/-- The law in force: its state count, matrices and integrator indices, primary or safe (R191, R192, R209). -/
def lawFields (safe : Bool) : Setting × Setting × Setting × Setting × Setting × Setting × Setting :=
  if safe then (.SRV_SAFE_N, .SRV_SAFE_A, .SRV_SAFE_B, .SRV_SAFE_C, .SRV_SAFE_D, .SRV_SAFE_INT_VCM, .SRV_SAFE_INT_MA)
  else (.SRV_CTRL_N, .SRV_CTRL_A, .SRV_CTRL_B, .SRV_CTRL_C, .SRV_CTRL_D, .SRV_INT_IDX_VCM, .SRV_INT_IDX_MA)

/-- Output o of the law at states x and inputs y (R191). -/
def lawOutput (b : Block) (a : Act) (safe : Bool) (x y : List Nat) (o : Nat) : Nat :=
  let (n, _, _, c, d, _, _) := lawFields safe
  let n := b.cfgN n a.val
  fadd (fdot (coefRow b c a 12 o n) (x.take n)) (fdot (coefRow b d a 2 o 2) y)

/-- The law's next states (R191). -/
def lawStates (b : Block) (a : Act) (safe : Bool) (x y : List Nat) : List Nat :=
  let (n, am, bm, _, _, _, _) := lawFields safe
  let n := b.cfgN n a.val
  (List.range n).map (fun r => fadd (fdot (coefRow b am a 12 r n) (x.take n)) (fdot (coefRow b bm a 2 r 2) y))

/-- One integrator state after R192: its update is suppressed where it would drive a limited output further, and it is
clamped. `sat` is the direction of the output's limit, 0 when it is within. -/
def integrator (c old new lim : Nat) (sat : Int) : Nat :=
  let drive := fmul c (fsub new old)
  let worse := (decide (sat = 1) && !fle drive 0) || (decide (sat = -1) && !fle 0 drive)
  fclamp lim (if worse then old else new)

/-- The next states with both outputs' integrators treated by R192. -/
def lawIntegrators (b : Block) (a : Act) (safe : Bool) (x x' : List Nat) (satV satM : Int) : List Nat :=
  let (_, _, _, c, _, iv, im) := lawFields safe
  let fix := fun (o : Nat) (idx : Nat) (lim : Nat) (sat : Int) (z : List Nat) =>
    if idx < z.length then
      z.set idx (integrator (b.cfgN c a.val (12 * o + idx)) (x.getD idx 0) (z.getD idx 0) lim sat)
    else z
  fix 1 (b.cfgN im a.val) (fofInt (b.cfg .SRV_INT_LIM_MA a.val) 0) satM
    (fix 0 (b.cfgN iv a.val) (fofInt (b.cfg .SRV_INT_LIM_VCM a.val) 0) satV x')

/-- One biquad section (R194) in transposed form; the section b0 = 1, others 0 passes its input unchanged. -/
def biquad (co : List Nat) (st : Nat × Nat) (u : Nat) : Nat × (Nat × Nat) :=
  let k := fun i => co.getD i 0
  if k 0 = 0x3F800000 ∧ k 1 = 0 ∧ k 2 = 0 ∧ k 3 = 0 ∧ k 4 = 0 then (u, st)
  else
    let y := fadd (fmul (k 0) u) st.1
    (y, (fadd (fsub (fmul (k 1) u) (fmul (k 3) y)) st.2, fsub (fmul (k 2) u) (fmul (k 4) y)))

/-- The six sections of a loop in series (R194): sections 0 to 5 for the voice coil, 6 to 11 for the milliactuator. -/
def notches (b : Block) (a : Act) (first : Nat) (sts : List (Nat × Nat)) (u : Nat) : Nat × List (Nat × Nat) :=
  (List.range 6).foldl (fun acc i =>
    let co := (List.range 5).map (fun j => b.cfgN .SRV_NOTCH a.val (5 * (first + i) + j))
    let r := biquad co (sts.getD i (0, 0)) acc.1
    (r.1, acc.2 ++ [r.2])) (u, [])

/-- The model's next states under commands (R204's model), and the PES they predict. -/
def modelStep (b : Block) (a : Act) (m : List Nat) (uVcm uMa : Nat) : List Nat × Nat :=
  let n := b.cfgN .SRV_MODEL_N a.val
  let m' := (List.range n).map (fun r =>
    fadd (fdot (coefRow b .SRV_MODEL_A a 8 r n) (m.take n)) (fdot (coefRow b .SRV_MODEL_B a 2 r 2) [uVcm, uMa]))
  (m', fdot (coefRow b .SRV_MODEL_C a 8 0 n) m')

/-! ### Feed-forward -/

/-- The source is on its ramp, or FAILED and parked: it counts as publishing 0 (R202). -/
def sourceSilent (b : Block) (j : Act) : Bool := decide (b.srvMode j ∈ [.unloaded, .failed])

/-- The source's current is measured in place of its publications (R202): SEj has failed or the island retracts it. -/
def sourceMeasured (b : Block) (j : Act) : Bool := decide (b.srvMode j = .retract)

/-- The pair of a source and a target is being measured, with its feed-forward disabled (R201, R203). -/
def pairMeasured (b : Block) (j a : Act) : Bool :=
  match b.nvm.recal with
  | some r => decide ((r.phase = 2 ∧ r.act = a.val) ∨ (r.phase = 3 ∧ r.act = j.val))
  | none => false

/-- A measurement holds the actuator's writes off (R201, R203, R212): its own, and with it as the source those of every target. -/
def writesHeld (b : Block) (a : Act) : Bool :=
  match b.nvm.recal with
  | some r => decide (r.act = a.val ∨ r.phase = 3)
  | none => false

/-- The sources of an actuator's feed-forward (R199): the others whose bit of `SRV.XFF_EN` is 1, less those of a pair
being measured (R201). -/
def ffSources (b : Block) (a : Act) : List Act :=
  (List.finRange 4).filter (fun j => decide (j ≠ a) && bit (b.cfgN .SRV_XFF_EN a.val) j.val && b.populated j && !pairMeasured b j a)

/-- The measured currents of the sources that are substituted for, read at every wedge of the target, newest first (R202). -/
def readMeasured (b : Block) (a : Act) (meas : List Int) : Block :=
  (List.finRange 4).foldl (fun b j =>
    b.onSrv a (fun v => { v with measured := vupd v.measured j (fun l =>
      if sourceMeasured b j then (fofInt (meas.getD j.val 0) 0 :: l).take 16 else []) })) b

/-- The currents of a source as a target sees them, newest first (R199, R202): measured ones stand before those that it published. -/
def sourceSeries (b : Block) (a j : Act) : List Nat :=
  let p := (vget b.srv j).published
  if sourceSilent b j then []
  else if sourceMeasured b j then vget (vget b.srv a).measured j ++ p
  else if (vget b.srv j).held then p.drop 1 else p

/-- A feed-forward term (R199): taps `first` to `first + n - 1` of each source's pair over its latest currents. -/
def ffTerm (b : Block) (a : Act) (first n : Nat) : Nat :=
  (ffSources b a).foldl (fun acc j =>
    ((sourceSeries b a j).take n).zip (List.range n) |>.foldl (fun acc p =>
      fadd acc (fmul (b.cal 5 (4 * j.val + a.val) (first + p.2)).toNat p.1)) acc) 0

/-- An interpolated entry of a table slot for a loop (R196, R198), by the head's position or the rotor's angle: 0 when the slot is not
the loop's. Loops: 1 voice coil, 2 milliactuator of actuator a. In the slot's entry units. Beyond the last position bin the spec names no
next one, and the last stands (DESIGN CHOICE, log entry 148). -/
def slotTerm (b : Block) (a : Act) (loop : Nat) (pos : Nat) (x : ServoSample) : Int × Nat :=
  let one := fun (kl ki kt : Setting) =>
    if b.cfgN kl a.val = loop then
      let byAngle := b.cfgN ki a.val = 1
      let stroke := max 1 (b.cfgN .SRV_STROKE_TRK a.val)
      let at16 := if byAngle then (x.angle % 1024) * 65536 + x.angleFrac % 65536
                  else min (1023 * 65536) (pos * 1024 * 65536 / (256 * stroke))
      let i := at16 / 65536 % 1024
      let f := at16 % 65536
      let e0 := b.cfg kt a.val i
      let e1 := b.cfg kt a.val (if byAngle then (i + 1) % 1024 else min 1023 (i + 1))
      e0 * (65536 - f) + e1 * f
    else 0
  (one .SRV_TBL0_LOOP .SRV_TBL0_INDEX .SRV_TBL0 + one .SRV_TBL1_LOOP .SRV_TBL1_INDEX .SRV_TBL1, 65536)

/-! ### Write-unsafe (R205, R207, R208) -/

/-- The write threshold, in 1/256 track, of the radial zone of a track (R208). -/
def wuThreshold (b : Block) (a : Act) (track : Nat) : Nat :=
  let zones := max 1 (b.cfgN .SRV_WU_ZONES a.val)
  let stroke := max 1 (b.cfgN .SRV_STROKE_TRK a.val)
  b.cfgN .SRV_WU_TH a.val (min (zones - 1) (track * zones / stroke))

/-- A magnitude in tracks is above a threshold in 1/256 track. -/
def above256 (x th : Nat) : Bool := !fle (fabs x) (fofInt th 8)

/-- The causes of R205 that hold, as a mask. -/
def wuCauses (b : Block) (a : Act) (pes pred : Nat) (impl : Bool) (measuredPivot : Bool) : Nat :=
  let v := vget b.srv a
  let th := wuThreshold b a (v.ref / 256).toNat
  let m := b.srvMode a
  let set := fun (n : Nat) (c : Bool) (w : Nat) => if c then setBit w n else w
  set 7 (decide (m = .safe)) <| set 6 (decide (m = .inject) || writesHeld b a) <| set 5 measuredPivot <|
    set 4 (decide (m ≠ .follow) || !v.writeSettled || v.maLimited || decide (0 < v.wuHold)) <| set 2 impl <|
    set 1 (above256 pred th) <| set 0 (above256 pes th) 0

/-- Write-unsafe followed from its causes: raised with the first of them, which cuts the write in progress (R206); the
wedges without a cause are counted for R207. -/
def applyWu (b : Block) (a : Act) (causes : Nat) : Block :=
  let b := b.put .SRV_WU_CAUSE a.val causes
  if causes = 0 then { b with srv := vupd b.srv a (fun v => { v with goodRun := v.goodRun + 1 }) }
  else
    let b := { b with srv := vupd b.srv a (fun v => { v with goodRun := 0 }) }
    let b := if b.get .SRV_STATE_WU a.val = 0
      then trapRequest ((b.bump .SRV_WU_COUNT a.val).put .SRV_STATE_WU a.val 1) a 1 else b
    cutWrite b a

/-- WRITE_UNSAFE_CLEAR (R207): no cause has held for `SRV.WU_CLEAR` wedges in a row. -/
def writeUnsafeClear (a : Act) (b : Block) : Block :=
  b.guard (decide (b.cfgN .SRV_WU_CLEAR a.val ≤ (vget b.srv a).goodRun) && b.get .SRV_WU_CAUSE a.val = 0) (fun b =>
    (b.onSrv a (fun v => { v with implWu := false })).put .SRV_STATE_WU a.val 0)

/-- WRITE_UNSAFE_CLEAR. -/
def execWriteUnsafeClear (a : Act) (s : State) : Host.Outcome State Fault Refusal := s.onBlock (writeUnsafeClear a)

/-! ### The control step -/

/-- What one step computed, for the registers, the capture buffer and the state. -/
structure StepTerms where
  pes : Nat
  residual : Nat
  uVcm : Nat
  uMa : Nat
  ffVcm : Nat
  ffMa : Nat
  slot : Nat
  runout : Nat
  inj : Nat
  deriving DecidableEq, Repr

/-- Half the wedge rate in 0.1 Hz. -/
def halfRate (b : Block) (a : Act) : Nat := b.cfgN .SPD_SET_RPM * b.cfgN .SRV_WEDGES a.val * 10 / 120

/-- The frequency injected at this wedge in 0.1 Hz (R221, R235): the register's, at most half the wedge rate, or the sweep's, repeated
after its revolutions. -/
def injectionFreq (b : Block) (a : Act) : Nat :=
  let half := halfRate b a
  if b.get .SRV_INJ_CTL_KIND a.val = 1 then
    let total := max 1 (max 1 (b.get .SRV_INJ_FREQ_REVS a.val) * b.cfgN .SRV_WEDGES a.val)
    Config.sweepFreq ((vget b.srv a).injN % total) total half
  else min half (b.get .SRV_INJ_FREQ_FREQ a.val)

/-- The injection signal (R221): a sine, a sweep or a pseudo-random binary sequence of length 2^15 − 1, of the register's amplitude
clamped to its point's largest. In the point's units, as a signed number. -/
def injectionValue (b : Block) (a : Act) : Int × Block :=
  if b.srvMode a = .inject then
    let v := vget b.srv a
    let p := b.get .SRV_INJ_CTL_POINT a.val
    let amp : Int := (min (if p = 0 ∨ p = 5 then 128 else 4000) (b.get .SRV_INJ_CTL_AMP a.val) : Nat)
    let phase := (v.injPhase + injectionFreq b a * 65536 / max 1 (2 * halfRate b a)) % 65536
    let b' := b.onSrv a (fun v => { v with injN := v.injN + 1, injPhase := phase })
    if b.get .SRV_INJ_CTL_KIND a.val = 2 then (if Config.prbs (v.injN % 32767) then amp else -amp, b')
    else (amp * Config.sine v.injPhase / 32768, b')
  else (0, b)

/-- The test signal of a measurement in an actuator's voice-coil loop, in mA (R201): a swept sine of up to 300 mA, whose course the spec
leaves to the module. -/
def testSignal (b : Block) (a : Act) : Nat × Block :=
  match b.nvm.recal with
  | some r =>
    if r.inject = some a.val then
      let d := b.fresh 601
      (fofInt ((d.1 : Int) - 300) 0, d.2)
    else (0, b)
  | none => (0, b)

/-- The injection signal where it enters at a point, in the loop's binary32 unit (R221). -/
def injectAt (b : Block) (a : Act) (inj : Int) (point : Nat) : Nat :=
  if b.srvMode a = .inject ∧ b.get .SRV_INJ_CTL_POINT a.val = point then
    if point = 0 ∨ point = 5 then fofInt inj 8
    else if point = 1 ∨ point = 2 then fofRat inj 10
    else fofInt inj 0
  else 0

/-- The runout table's entry for the active head at a wedge, in mA (R195). -/
def runoutTerm (b : Block) (a : Act) (wedge : Nat) : Nat :=
  fofInt (nget 0 (vget b.srv a).runout (b.get .SRV_STATE_HEAD a.val * 1024 + wedge)) 10

/-- After each revolution every entry moves toward cancelling the PES of its wedge by `SRV.RRO_MU` / 1024 (R195); the
adaptation is frozen for a revolution with an implausible wedge or with write-unsafe raised by one. The spec gives the step no unit: an
entry counts 1/1024 mA, and only wedges in FOLLOW adapt (DESIGN CHOICE, log entry 149). -/
def adaptRunout (b : Block) (a : Act) : Block :=
  let v := vget b.srv a
  let mu := b.cfg .SRV_RRO_MU a.val
  let h := b.get .SRV_STATE_HEAD a.val * 1024
  let tbl := if v.revImpl || v.revWu then v.runout
    else v.revPes.foldl (fun m p =>
      nset 0 m (h + p.1) (nget 0 m (h + p.1) + (if p.2 > 0 then -mu else if p.2 < 0 then mu else 0))) v.runout
  let b := b.putSat .SRV_PES_PEAK a.val v.revPeak
  { b with srv := vupd b.srv a (fun v => { v with runout := tbl, revPes := [], revPeak := 0, revImpl := false,
                                                  revWu := v.implWu }) }

/-- The law run on a sample (R191 to R199), with the head at a position in 1/256 track: commands limited, states advanced, current
published, next PES predicted. A seek of 2 tracks or fewer leaves the voice coil as it was while the milliactuator stays within 80 % of
its limit (R213). -/
def runLaw (b : Block) (a : Act) (x : ServoSample) (pes : Nat) (inj : Int) (at_ : Int) : Block × StepTerms :=
  let (test, b) := testSignal b a
  let v := vget b.srv a
  let safe := v.safeLaw
  let disp := Config.milliDisplacement (b.cfgN .SRV_MA_GAIN a.val) v.model v.uMa
  let y := [fadd pes (injectAt b a inj 0), disp]
  let pos := (max 0 at_).toNat
  let uV0 := fadd (fadd (lawOutput b a safe v.x y 0) (injectAt b a inj 1)) test
  let uM0 := fadd (lawOutput b a safe v.x y 1) (injectAt b a inj 3)
  let (uV1, nV) := notches b a 0 v.notchVcm uV0
  let (uM1, nM) := notches b a 6 v.notchMa uM0
  let ffV := ffTerm b a 16 4
  let ffM := ffTerm b a 0 16
  let sV := slotTerm b a 1 pos x
  let sM := slotTerm b a 2 pos x
  let slotV := fofRat (sV.1) (20 * sV.2)
  let slotM := fofRat (sM.1) sM.2
  let ro := runoutTerm b a x.index
  let uV2 := fadd (fadd (fadd (fadd uV1 (injectAt b a inj 2)) ro) slotV) ffV
  let uM2 := fadd (fadd (fadd uM1 (injectAt b a inj 4)) slotM) ffM
  let limV := fofInt (b.cfg .SRV_VCM_IMAX a.val) 0
  let limM := fofInt (b.cfg .SRV_MA_VMAX a.val) 0
  let alone := decide (b.srvMode a = .seek ∧ v.seekLen ≤ 512) && fle (fabs uM2) (fofInt (b.cfg .SRV_MA_VMAX a.val * 4 / 5) 0)
  let uV := if alone then v.uVcm else fclamp limV uV2
  let uM := if v.maLimited then 0 else fclamp limM uM2
  let sat := fun (u lim : Nat) => if fle lim u then (1 : Int) else if fle u (fnegate lim) then -1 else 0
  let x1 := lawIntegrators b a safe v.x (lawStates b a safe v.x y) (sat uV2 limV) (sat uM2 limM)
  let (m1, pred) := modelStep b a v.model uV uM
  let next := lawOutput b a safe x1 [pred, Config.milliDisplacement (b.cfgN .SRV_MA_GAIN a.val) m1 uM] 1
  ({ b with
      srv := vupd b.srv a (fun v => { v with
      x := x1, model := m1, notchVcm := nV, notchMa := nM, pred := pred, uVcm := uV, uMa := uM0, uMaNext := next,
      ffMa := ffM, slotMa := slotM, published := (uV :: v.published).take 16, held := false }) },
   ⟨pes, 0, uV, uM, ffV, ffM, if b.cfgN .SRV_TBL0_LOOP a.val = 2 ∨ b.cfgN .SRV_TBL1_LOOP a.val = 2 then slotM else slotV,
    ro, injectAt b a inj (b.get .SRV_INJ_CTL_POINT a.val)⟩)

/-- The commands of a step whose current follows no law of the record: the current with its feed-forward term, limited, and the
milliactuator at its mid position but for its own term (R199, R213). -/
def issueProfile (b : Block) (a : Act) (pes u : Nat) : Block × StepTerms :=
  let ffV := ffTerm b a 16 4
  let ffM := ffTerm b a 0 16
  let uV := fclamp (fofInt (b.cfg .SRV_VCM_IMAX a.val) 0) (fadd u ffV)
  let v := vget b.srv a
  let uM := if v.maLimited then 0 else fclamp (fofInt (b.cfg .SRV_MA_VMAX a.val) 0) ffM
  let (m1, pred) := modelStep b a v.model uV uM
  (b.onSrv a (fun v => { v with
      model := m1, pred := pred, uVcm := uV, uMa := 0, uMaNext := 0, ffMa := ffM, slotMa := 0
      published := (uV :: v.published).take 16, held := false }), ⟨pes, 0, uV, uM, ffV, ffM, 0, 0, 0⟩)

/-- The current of a seek of more than 256 tracks (R213), whose course the spec bounds without giving it: at most `SRV.SEEK_IMAX`, and in
the first 8 wedges at most as many eighths of it. A free value within the bound. -/
def runProfile (b : Block) (a : Act) (pes : Nat) : Block × StepTerms :=
  let n := min 8 ((vget b.srv a).seekN + 1)
  let lim := b.cfgN .SRV_SEEK_IMAX a.val * n / 8
  let (r, b) := b.fresh (2 * lim + 1)
  issueProfile b a pes (fofInt ((r : Int) - lim) 0)

/-- The coil's back-EMF in mV (R217): its voltage less its current times `SRV.COIL_R`. -/
def backEmfMv (b : Block) (a : Act) (x : ServoSample) : Int :=
  x.coilMv - x.currents.getD a.val 0 * b.cfg .SRV_COIL_R a.val / 1000

/-- Velocity control (R217, R218): the current moves by a free amount toward the side that brings the back-EMF to its target. -/
def runVelocity (b : Block) (a : Act) (x : ServoSample) (target : Int) : Block × StepTerms :=
  let lim := b.cfgN .SRV_VCM_IMAX a.val
  let was := ftoInt (vget b.srv a).uVcm 0
  let up := decide (backEmfMv b a x < target)
  let (r, b) := b.fresh (2 * lim + 1)
  issueProfile b a 0 (fofInt (if up then min (lim : Int) (was + r) else max (-(lim : Int)) (was - r)) 0)

/-- A signal of R223's table at this step. -/
def captureSignal (b : Block) (a : Act) (x : ServoSample) (t : StepTerms) (code : Nat) : Nat :=
  let pub := fun (k : Nat) => ((vget b.srv ⟨(a.val + k) % 4, by omega⟩).published.head?).getD 0
  if code = 0 then t.pes else if code = 1 then t.residual else if code = 2 then t.uVcm else if code = 3 then t.uMa
  else if code = 4 then fofInt (x.currents.getD a.val 0) 0 else if code = 5 then t.inj else if code = 6 then t.ffVcm
  else if code = 7 then t.ffMa else if code = 8 then t.slot else if code = 9 then t.runout else if code = 10 then pub 1
  else if code = 11 then pub 2 else if code = 12 then pub 3 else if code = 13 then (vget b.srv a).uMaNext
  else if code = 14 then fofRat x.interval 1000 else b.get .SRV_WU_CAUSE a.val

/-- The samples a capture holds when full (R223). -/
def captureDepth (b : Block) (a : Act) : Nat :=
  let n := b.get .SRV_CAP_CTL_NSIG a.val + 1
  16384 / n * n

/-- A running capture takes its signals every `SRV_CAP_CTL.DECIM` wedges until the buffer is full (R223). -/
def captureStep (b : Block) (a : Act) (x : ServoSample) (t : StepTerms) : Block :=
  let v := vget b.srv a
  if !v.capRun || decide (captureDepth b a ≤ v.capture.length) then b
  else if 0 < v.capWait then { b with srv := vupd b.srv a (fun v => { v with capWait := v.capWait - 1 }) }
  else
    let sig := b.get .SRV_CAP_CTL_SIG a.val
    let vals := (List.range (b.get .SRV_CAP_CTL_NSIG a.val + 1)).map (fun i =>
      captureSignal b a x t (sig / 16 ^ i % 16))
    { b with srv := vupd b.srv a (fun v => { v with capture := v.capture ++ vals,
                                                    capWait := b.get .SRV_CAP_CTL_DECIM a.val }) }

/-- Settle counts (R214): wedges in a row with PES below the write and the read threshold. -/
def settleStep (b : Block) (a : Act) (pes : Nat) : Block :=
  let th := wuThreshold b a ((vget b.srv a).ref / 256).toNat
  let below := fun t => !fle (fofInt t 8) (fabs pes)
  { b with
      srv := vupd b.srv a (fun v => { v with
      settleRun := if below th then v.settleRun + 1 else 0
      readRun := if below (b.cfgN .SRV_RD_TH a.val) then v.readRun + 1 else 0 }) }

/-- SAFE's recovery (R210): 16 plausible wedges in a row with PES below the read threshold re-acquire the track, and
one full revolution in SAFE brings the primary coefficients back; the actuator then settles afresh, or makes the unload that the fault
had met. -/
def safeStep (b : Block) (a : Act) (pes : Nat) (impl : Bool) : Block :=
  if b.srvMode a ≠ .safe then b
  else
    let ok := !impl && !fle (fofInt (b.cfgN .SRV_RD_TH a.val) 8) (fabs pes)
    let v := vget b.srv a
    let run := if ok then v.plausRun + 1 else 0
    let n := v.safeWedges + 1
    let re := v.reacquired || decide (16 ≤ run)
    if re && decide (b.cfgN .SRV_WEDGES a.val ≤ n) then
      let b := (b.onSrv a (fun v => { v with
        safeLaw := false, plausRun := 0, safeWedges := 0, reacquired := false, reloads := none, settleRun := 0,
        readRun := 0, readSettled := false, writeSettled := false, unloadWanted := false })).put .SRV_STATE_MODE a.val
        SrvMode.settle.code
      if v.unloadWanted then requestUnload b a else b
    else b.onSrv a (fun v => { v with plausRun := run, safeWedges := n, reacquired := re })

/-- Loading (R217): address marks in 8 wedges in a row lock the loop, which then settles where it is; a reload of R210 has still to
re-acquire the track under the safe law. -/
def loadStep (b : Block) (a : Act) (pos : Int) (missed : Bool) : Block :=
  let v := vget b.srv a
  let run := if missed then 0 else v.markRun + 1
  let b := b.onSrv a (fun v => { v with
    markRun := run, loadWedges := v.loadWedges + 1, markSeen := v.markSeen || !missed })
  if 8 ≤ run then
    let again := v.reloads.isSome
    let b := b.onSrv a (fun v => { v with
      ref := pos, loadFails := 0, settleRun := 0, readRun := 0, readSettled := false, writeSettled := false,
      safeLaw := again, safeAt := b.now, plausRun := 0, safeWedges := 0, reacquired := false, x := [], implRun := 0, window := [] })
    let b := (b.put .SRV_STATE_LOCK a.val 1).put .SRV_STATE_MODE a.val
      (if again then SrvMode.safe.code else SrvMode.settle.code)
    modeProgress (actuatorLoaded b a)
  else b

/-- The end of a revolution is seen where the wedge index does not rise. -/
def newRevolution (v : Servo) (x : ServoSample) : Bool := decide (x.index ≤ v.wedge)

/-- A wedge interval reported to SPE (R151, R190): while the actuator is loaded and not in SAFE; missed wedges are left out. -/
def reportInterval (b : Block) (a : Act) (x : ServoSample) (missed : Bool) : Block :=
  if missed || decide (b.srvMode a = .safe) then b
  else { b with spn := { b.spn with wedgeNs := (x.interval :: b.spn.wedgeNs).take 90 } }

/-- The commands that a step has issued, as the registers show them (R230, R233). -/
def showCommands (b : Block) (a : Act) (t : StepTerms) : Block :=
  let meas := (ffSources b a).foldl (fun m j => if sourceMeasured b j then setBit m j.val else m) 0
  let b := (b.put .SRV_XFF_MEAS a.val meas).putInt .SRV_XFF_MA a.val (ftoInt t.ffMa 0)
  (b.putInt .SRV_CMD_VCM a.val (ftoInt (fmul t.uVcm 0x41A00000) 0)).putInt .SRV_CMD_MA a.val (ftoInt t.uMa 0)

/-- A source idle for 2 s (R203): no work for its actuator, and none sent since. -/
def sourceIdle (b : Block) (j : Act) : Bool :=
  (vget b.ts j).cur.isNone && (vget b.ts j).jobs.isEmpty && decide ((vget b.srv j).sentAt + 2000000 ≤ b.now)

/-- The sources that step 2 of a recalibration has still to be given the test signal: idle, populated, not yet injected. -/
def idleSources (b : Block) (r : Recal) : List Act :=
  (List.finRange 4).filter (fun j => decide (j.val ≠ r.act) && b.populated j && decide (j.val ∉ r.injected) && sourceIdle b j)

/-- A revolution of the actuator under recalibration (R203): step 1 ends when it follows with its work done; step 2 lasts 8 revolutions
and 8 more for each idle source that is given the test signal; step 3 lasts 8 with the signal in the actuator itself. -/
def recalStep (b : Block) (a : Act) : Block :=
  match b.nvm.recal with
  | none => b
  | some r =>
    if r.act ≠ a.val then b
    else
      let set := fun (b : Block) (r : Recal) => b.onNvm (fun n => { n with recal := some r })
      let n := r.revs + 1
      if r.phase = 1 then
        if b.srvMode a = .follow && (vget b.ts a).cur.isNone && (vget b.ts a).jobs.isEmpty then
          (set b { r with phase := 2, revs := 0 }).put .SRV_STATE_MODE a.val SrvMode.recal.code
        else b
      else if n < 8 ∨ 4 ≤ r.phase then set b { r with revs := n }
      else if r.phase = 3 then set b { r with phase := 4, revs := 0, inject := none }
      else
        match idleSources b r with
        | j :: _ => set b { r with revs := 0, inject := some j.val, injected := j.val :: r.injected }
        | [] => set b { r with phase := 3, revs := 0, inject := some a.val }

/-- A wedge of a loaded actuator under its law (R188 to R206, R209). The data track of a position between two centres is the lower one,
and 0 for a negative position; `SRV_PES.NOW` saturates at its 16 bits: the spec states neither (DESIGN CHOICE, log entries 150, 151). -/
def trackStep (a : Act) (x : ServoSample) (missed : Bool) (b : Block) : Block :=
  let b := if newRevolution (vget b.srv a) x then recalStep (adaptRunout b a) a else b
  let pos := wedgePosition b a x
  let b := if missed then b else b.put .SRV_POS_TRACK a.val (pos / 256).toNat
  let (inj, b) := injectionValue b a
  let v := vget b.srv a
  let mode := b.srvMode a
  let ref := v.ref + (if mode = .inject ∧ b.get .SRV_INJ_CTL_POINT a.val = 5 then inj else 0)
  let meas := fofInt (pos - ref) 8
  let residual := if missed then 0 else fsub meas v.pred
  let impl := missed || above256 residual (b.cfgN .SRV_PLAUS_LIM a.val)
  -- the predicted PES stands in place of the measurement of an implausible wedge (R204)
  let pes := if impl then v.pred else meas
  let pesInt := if impl then ftoInt (fmul v.pred 0x43800000) 0 else pos - ref
  let b := if impl then b.bump .SRV_FAULT_IMPL a.val else b
  let b := b.putInt .SRV_PES_NOW a.val pesInt
  let b := readMeasured b a x.currents
  let b := b.onSrv a (fun v => { v with
    residuals := (residual :: v.residuals).take 64, window := (impl :: v.window).take 64
    implRun := if impl then v.implRun + 1 else 0, wedge := x.index
    revImpl := v.revImpl || impl, implWu := v.implWu || impl, revWu := v.revWu || v.implWu || impl
    revPeak := if mode = .follow then max v.revPeak pesInt.natAbs else v.revPeak
    revPes := if mode = .follow ∧ impl = false then nset 0 v.revPes x.index pesInt else v.revPes })
  let v := vget b.srv a
  let fault := decide (mode ≠ .safe) && (decide (b.cfgN .SRV_PLAUS_CONSEC a.val ≤ v.implRun) ||
    decide (b.cfgN .SRV_PLAUS_WIN a.val ≤ (v.window.filter id).length))
  -- the safe law is in force within the same step (R209)
  let b := if fault then loopFault b a else b
  if b.srvMode a = .failed then b
  else
    let mode := b.srvMode a
    let far := decide ((mode = .seek ∧ 65536 < v.seekLen) ∨ mode = .unloading)
    let (b, t) := if far then runProfile b a pes else runLaw b a x pes inj (ref + pesInt)
    let b := b.onSrv a (fun v => { v with seekN := v.seekN + 1 })
    let b := if mode = .seek ∧ pesInt.natAbs < 256 then b.put .SRV_STATE_MODE a.val SrvMode.settle.code
      else if mode = .unloading ∧ pesInt.natAbs < 256 then b.onSrv a (fun v => { v with climbing := true }) else b
    let b := safeStep (settleStep b a pes) a pes impl
    let mp := (ffSources b a).any (fun j => sourceMeasured b j && samePivot a.val j.val)
    let b := captureStep (showCommands b a t) a x { t with residual := residual }
    let b := applyWu b a (wuCauses b a pes (vget b.srv a).pred impl mp)
    modeProgress (reportInterval (b.onSrv a (fun v => { v with wuHold := v.wuHold - 1 })) a x missed)

/-- SERVO_CONTROL_STEP (R188 to R206, R209): one position sample. While a load or the climb of an unload is under velocity control, no law
runs; the wedges that a load misses are counted and hold write-unsafe (R189, R204). -/
def servoStep (a : Act) (x : ServoSample) (b : Block) : Block :=
  let mode := b.srvMode a
  let b := { b with sys := { b.sys with missRuns := nerase b.sys.missRuns a.val } }
  if mode = .unloaded ∨ mode = .failed ∨ mode = .retract then b
  else
    let missed := wedgeMissed x
    let b := heaterWedge (wedgeEnds b a x.index missed) a x.index
    let b := if missed then b.bump .SRV_FAULT_MISS a.val else b
    if mode = .loading then
      let b := if missed then raiseWu (b.bump .SRV_FAULT_IMPL a.val) a 2
        else b.put .SRV_POS_TRACK a.val (wedgePosition b a x / 256).toNat
      let (b, t) := runVelocity (readMeasured b a x.currents) a x (b.cfg .SRV_LOAD_BEMF a.val)
      loadStep (reportInterval (showCommands b a t) a x missed) a (wedgePosition b a x) missed
    else if (vget b.srv a).climbing then
      let (b, t) := runVelocity (readMeasured b a x.currents) a x (-(b.cfg .SRV_RET_BEMF a.val))
      showCommands b a t
    else trackStep a x missed b

/-- SERVO_CONTROL_STEP. -/
def execServoControlStep (a : Act) (x : ServoSample) (s : State) : Host.Outcome State Fault Refusal :=
  s.onBlock (servoStep a x)

/-- MID_WEDGE_TICK (R193): the interpolated milliactuator command, through the milliactuator's sections at twice the
wedge rate, with the last wedge's table and feed-forward terms, limited. -/
def midWedge (a : Act) (b : Block) : Block :=
  b.guard (tracking b a && !(vget b.srv a).maLimited) (fun b =>
    let v := vget b.srv a
    let mid := fadd v.uMa (fmul 0x3F000000 (fsub v.uMaNext v.uMa))
    let (u, st) := notches b a 6 v.notchMa mid
    let u := fclamp (fofInt (b.cfg .SRV_MA_VMAX a.val) 0) (fadd (fadd u v.slotMa) v.ffMa)
    ({ b with srv := vupd b.srv a (fun v => { v with notchMa := st }) }).putInt .SRV_CMD_MA a.val (ftoInt u 0))

/-- MID_WEDGE_TICK. -/
def execMidWedgeTick (a : Act) (s : State) : Host.Outcome State Fault Refusal := s.onBlock (midWedge a)

/-- Injection starts where EN is 1 and the actuator follows (R222, R234); it holds write-unsafe. -/
def startInjection (b : Block) (a : Act) : Block :=
  if b.get .SRV_INJ_CTL_EN a.val = 1 ∧ b.srvMode a = .follow then
    raiseWu ((b.onSrv a (fun v => { v with injN := 0, injPhase := 0 })).put .SRV_STATE_MODE a.val SrvMode.inject.code) a 6
  else b

/-- SETTLE_REACHED (R214): read settle, write settle, or both, where their wedges have been counted; the actuator
follows once the settle that its request needs is reached. -/
def settleReached (a : Act) (b : Block) : Block :=
  b.guard (decide (b.srvMode a ∈ [.settle, .follow])) (fun b =>
    let v := vget b.srv a
    let r := v.readSettled || decide (b.cfgN .SRV_RDSETTLE_N a.val ≤ v.readRun)
    let w := v.writeSettled || decide (b.cfgN .SRV_SETTLE_N a.val ≤ v.settleRun)
    let b := { b with srv := vupd b.srv a (fun v => { v with readSettled := r, writeSettled := w }) }
    if (if v.forWrite then w else r) then startInjection (b.put .SRV_STATE_MODE a.val SrvMode.follow.code) a else b)

/-- SETTLE_REACHED. -/
def execSettleReached (a : Act) (s : State) : Host.Outcome State Fault Refusal := s.onBlock (settleReached a)

/-! ### Loop faults, load, unload, retract -/

/-- One reload of R210 taken: none is left, or it is counted. -/
def takeReload (b : Block) (a : Act) : Option Block :=
  match ((vget b.srv a).reloads).getD 3 with
  | 0 => none
  | n + 1 => some ((b.onSrv a (fun v => { v with reloads := some n })).bump .SRV_FAULT_RELOAD a.val)

/-- LOOP_FAULT_REACQUIRE_TIMEOUT (R210, R211): the track was not re-acquired within 20 ms. The actuator unloads under velocity control,
for a reload, at most three times; then it has failed. An unload that the fault had met is made without a reload. -/
def reacquireTimeout (a : Act) (b : Block) : Block :=
  b.guard (b.srvMode a = .safe && !(vget b.srv a).reacquired && decide ((vget b.srv a).safeAt + 20000 ≤ b.now)) (fun b =>
    let down := fun (b : Block) (due : Bool) =>
      (requestUnload b a).onSrv a (fun v => { v with climbing := true, loadDue := due, unloadWanted := false })
    if (vget b.srv a).unloadWanted then down b false
    else match takeReload b a with
      | none => failActuator b a 1
      | some b => down b true)

/-- LOOP_FAULT_REACQUIRE_TIMEOUT. -/
def execLoopFaultReacquireTimeout (a : Act) (s : State) : Host.Outcome State Fault Refusal :=
  s.onBlock (reacquireTimeout a)

/-- LOAD_START (R217, R212): the actuator leaves its ramp under velocity control; a FAILED one only for an Actuator
Recalibration. -/
def loadStart (a : Act) (b : Block) : Block :=
  b.guard (b.populated a && (vget b.srv a).retract = .idle && b.get .SPN_STATE_LOCK 0 = 1 &&
      (b.srvMode a = .unloaded || (b.srvMode a = .failed && recalRuns b a))) (fun b => startLoad b a)

/-- LOAD_START. -/
def execLoadStart (a : Act) (s : State) : Host.Outcome State Fault Refusal := s.onBlock (loadStart a)

/-- LOAD_WEDGE_LIMIT (R211, R217): no address mark within 64 wedge periods; the actuator returns to its ramp, and fails
at the third failure in a row, or when no reload of R210 is left. -/
def loadWedgeLimit (a : Act) (b : Block) : Block :=
  b.guard (b.srvMode a = .loading && decide (64 ≤ (vget b.srv a).loadWedges) && !(vget b.srv a).markSeen) (fun b =>
    let n := (vget b.srv a).loadFails + 1
    let b := b.onSrv a (fun v => { v with loadFails := n, loadDue := true })
    let b := (b.put .SRV_STATE_MODE a.val SrvMode.unloaded.code).put .SRV_STATE_LOCK a.val 0
    if (vget b.srv a).reloads = some 0 then failActuator b a 1
    else if 3 ≤ n then failActuator b a 3 else b)

/-- LOAD_WEDGE_LIMIT. -/
def execLoadWedgeLimit (a : Act) (s : State) : Host.Outcome State Fault Refusal := s.onBlock (loadWedgeLimit a)

/-- LOAD_RETRY_TIMER (R210, R217): 200 ms after a failed load, the load is tried again; one of a loop fault's reloads counts as the
next of them. -/
def loadRetry (a : Act) (b : Block) : Block :=
  b.guard (b.srvMode a = .unloaded && (vget b.srv a).loadDue && decide (0 < (vget b.srv a).loadFails)) (fun b =>
    if (vget b.srv a).reloads.isNone then startLoad b a
    else match takeReload b a with
      | none => failActuator b a 1
      | some b => startLoad b a)

/-- LOAD_RETRY_TIMER. -/
def execLoadRetryTimer (a : Act) (s : State) : Host.Outcome State Fault Refusal := s.onBlock (loadRetry a)

/-- UNLOAD_REQUEST (R216, R218): a normal unload; a seek in progress ends at once. -/
def execUnloadRequest (a : Act) (s : State) : Host.Outcome State Fault Refusal :=
  s.onBlock (fun b => b.guard (loaded b a) (fun b => requestUnload b a))

/-- An actuator is on its ramp: UNLOADED, or FAILED where its recalibration has not brought it back to service (R211, R212). -/
def onRamp (b : Block) (a : Act) : Block :=
  b.put .SRV_STATE_MODE a.val (if actFailed b a then SrvMode.failed.code else SrvMode.unloaded.code)

/-- UNLOAD_COMPLETE (R218): the actuator is on its ramp. A brake that waited for the last of them begins (R742), the
mode may reach IDLE, and an actuator unloaded for a reload loads again. -/
def unloadComplete (a : Act) (b : Block) : Block :=
  b.guard (b.srvMode a = .unloading) (fun b =>
    let b := onRamp (b.put .SRV_STATE_LOCK a.val 0) a
    let b := brakeIfReady b
    let v := vget b.srv a
    if b.srvMode a = .unloaded && v.reloads.isSome && v.loadDue && b.mode = .run && b.get .SPN_STATE_LOCK 0 = 1 then startLoad b a
    else if reloadDue b a then startLoad b a
    else modeProgress b)

/-- UNLOAD_COMPLETE. -/
def execUnloadComplete (a : Act) (s : State) : Host.Outcome State Fault Refusal := s.onBlock (unloadComplete a)

/-- RETRACT_PARKED (R219): back-EMF below 20 % of target for 2 ms at the current limit; the limit goes on being applied to seat the
latch. -/
def retractParked (a : Act) (bemfMv : Nat) (b : Block) : Block :=
  let v := vget b.srv a
  b.guard (v.retract = .driving && decide (5 * bemfMv < (v.coil.getD (0, 0)).1)) (fun b =>
    b.onSrv a (fun v => { v with retract := .latching }))

/-- RETRACT_PARKED. -/
def execRetractParked (a : Act) (bemfMv : Nat) (s : State) : Host.Outcome State Fault Refusal := s.onBlock (retractParked a bemfMv)

/-- RETRACT_LATCH_DONE (R219, R220): after 50 ms the coil is opened; the actuator is on its ramp, and reloads where the
mode calls for it. -/
def retractDone (a : Act) (b : Block) : Block :=
  b.guard ((vget b.srv a).retract = .latching) (fun b =>
    let b := { b with srv := vupd b.srv a (fun v => { v with retract := .idle, coil := none }) }
    let b := onRamp ((b.put .SRV_STATE_ISLAND_RET a.val 0).put .SRV_STATE_LOCK a.val 0) a
    let b := brakeIfReady b
    if b.srvMode a = .unloaded && b.mode = .run && b.get .SPN_STATE_LOCK 0 = 1 && b.get .PWR_MODE_TARGET 0 = Mode.run.code then startLoad b a
    else modeProgress b)

/-- RETRACT_LATCH_DONE. -/
def execRetractLatchDone (a : Act) (s : State) : Host.Outcome State Fault Refusal := s.onBlock (retractDone a)

/-- INTERNAL_BUS_LOSS (R219): the internal bus falls below 6.0 V while an actuator is loaded; every loaded one
retracts. -/
def execInternalBusLoss (s : State) : Host.Outcome State Fault Refusal :=
  s.onBlock (fun b => (List.finRange 4).foldl (fun b a => if loaded b a then startRetract b a else b) b)

/-- MILLIACTUATOR_CURRENT_LIMIT (R721): held at 0 V until the next load, with write-unsafe raised. -/
def milliLimit (a : Act) (b : Block) : Block :=
  let b := { b with srv := vupd b.srv a (fun v => { v with maLimited := true }) }
  raiseWu (b.put .SRV_CMD_MA a.val 0) a 4

/-- MILLIACTUATOR_CURRENT_LIMIT. -/
def execMilliactuatorCurrentLimit (a : Act) (s : State) : Host.Outcome State Fault Refusal := s.onBlock (milliLimit a)

/-! ### Injection and capture -/

/-- SRV_INJECTION_ENABLE (R221, R222, R234): the register is written under factory unlock. EN holds what is written; the injection
starts in FOLLOW alone, at once or when the actuator comes to follow (log entry 152), and EN written 0 stops it. -/
def injectionWrite (w : Agent) (a : Act) (val : Word) (b : Block) : Block :=
  unlockedWrite b w (fun b =>
    let v := val.toNat
    let b := ((b.put .SRV_INJ_CTL_POINT a.val (v / 2 ^ 28)).put .SRV_INJ_CTL_KIND a.val (v / 2 ^ 26)).put
      .SRV_INJ_CTL_AMP a.val v
    if v / 2 ^ 31 = 0 then stopInjection b a
    else
      let by_ := match w with | .port p => p.val + 1 | .core => 3
      startInjection ((b.onSrv a (fun v => { v with injBy := by_ })).put .SRV_INJ_CTL_EN a.val 1) a)

/-- SRV_INJECTION_ENABLE. -/
def execSrvInjectionEnable (w : Agent) (a : Act) (val : Word) (s : State) : Host.Outcome State Fault Refusal :=
  s.onBlock (injectionWrite w a val)

/-- SRV_CAPTURE_START (R223, R236): under factory unlock the signals are chosen and a capture starts over. -/
def captureStart (w : Agent) (a : Act) (val : Word) (b : Block) : Block :=
  unlockedWrite b w (fun b =>
    let v := val.toNat
    let b := ((b.put .SRV_CAP_CTL_NSIG a.val (v / 2 ^ 28)).put .SRV_CAP_CTL_DECIM a.val (v / 2 ^ 20)).put
      .SRV_CAP_CTL_SIG a.val v
    if v / 2 ^ 31 = 0 then b
    else
      ({ b with srv := vupd b.srv a (fun v => { v with capture := [], capWait := 0, capRun := true }) }).put
        .SRV_CAP_CTL_START a.val 1 |>.put .SRV_CAP_CTL_DONE a.val 0)

/-- SRV_CAPTURE_START. -/
def execSrvCaptureStart (w : Agent) (a : Act) (val : Word) (s : State) : Host.Outcome State Fault Refusal :=
  s.onBlock (captureStart w a val)

/-- SRV_CAPTURE_FULL (R223): the buffer is full; the capture stops, DONE is set and START clears. -/
def captureFull (a : Act) (b : Block) : Block :=
  b.guard ((vget b.srv a).capRun && decide (captureDepth b a ≤ (vget b.srv a).capture.length)) (fun b =>
    (({ b with srv := vupd b.srv a (fun v => { v with capRun := false }) }).put .SRV_CAP_CTL_DONE a.val 1).put
      .SRV_CAP_CTL_START a.val 0)

/-- SRV_CAPTURE_FULL. -/
def execSrvCaptureFull (a : Act) (s : State) : Host.Outcome State Fault Refusal := s.onBlock (captureFull a)

end Sys2Proof.Machine
end

