-- ==== Sys2Proof/Machine/Heads.lean ====
section
/-! DEFINITION. AEa: the Preamp Serial Link (R244 to R247), the assist, heater and write-verify loops (R250 to R258),
touchdown (R260, R261) and preamp faults (R262, R263). -/

namespace Sys2Proof.Machine

/-! ### Frames -/

/-- A READ response's CRC is correct (R245): data and status, then the CRC. -/
def rspOk (r : Word) : Bool := decide (crc8 ((bytes4 r.toNat).take 3) = r.toNat % 256)

/-- The outcome of one sending: 0 accepted, 1 rejected or answered with a bad CRC, 2 unacknowledged. -/
def ackOutcome (k : Fin 4) : Nat := if k = 2 then 0 else if k = 3 then 2 else 1

/-- A failed sending counted (R274). -/
def pslCount (b : Block) (a : Act) (o : Nat) : Block :=
  if o = 1 then b.bump .AST_PSL_REJECT a.val else if o = 2 then b.bump .AST_PSL_NOACK a.val else b

/-- A PSL fault (R246): the channel-fault condition is raised, and the settings wait to be rewritten. -/
def pslFault (b : Block) (a : Act) : Block :=
  let b := b.bump .AST_PSL_FAULT a.val
  channelFault (b.onAst a (fun v => { v with pslFault := true })) a

/-- A frame sent, and once more when the first sending failed; a second failure is a PSL fault (R246). True when the
preamp accepted it. -/
def sendFrame (b : Block) (a : Act) (bits : Nat) (o1 o2 : Nat) : Bool × Block :=
  let b := frameSent b a bits
  if o1 = 0 then (true, b)
  else
    let b := pslCount b a o1
    if o2 = 0 then (true, b) else (false, pslFault (pslCount b a o2) a)

/-- A FAST frame: the settings last sent (R273), and the heater setting of the head when it is accepted. -/
def sendFast (b : Block) (a : Act) (h assist heater : Nat) (ack1 ack2 : Fin 4) : Block :=
  let b := (b.put .AST_CMD_ASSIST a.val assist).put .AST_CMD_HEATER a.val heater
  let r := sendFrame b a (frame40 (fastFrameBits h assist heater)) (ackOutcome ack1) (ackOutcome ack2)
  if r.1 then r.2.put .AST_HCLR_HTR (6 * a.val + h) heater else r.2

/-- PSL_WRITE_FRAME (R244, R246, R247): not while write gate is asserted; heads 0 to 5, or 0xF for every head. A
write of 0 to the safe-state register takes the addressed heads' settings to 0 (R249). -/
def pslWriteFrame (a : Act) (head addr data : Nat) (ack1 ack2 : Fin 4) (b : Block) : Block :=
  b.guard (!(vget b.ts a).wg && decide (head ≤ 5 ∨ head = 15)) (fun b =>
    let r := sendFrame b a (frame40 (writeFrameBits head addr data)) (ackOutcome ack1) (ackOutcome ack2)
    if r.1 then preampTakes r.2 a head addr data else r.2)

/-- PSL_WRITE_FRAME. -/
def execPslWriteFrame (a : Act) (head addr data : Nat) (ack1 ack2 : Fin 4) (s : State) :
    Host.Outcome State Fault Refusal :=
  s.onBlock (pslWriteFrame a head addr data ack1 ack2)

/-- PSL_READ_FRAME (R244, R245, R246): the response is accepted when its CRC is correct; a status without HOT ends the
wait that HOT caused (R263). -/
def pslReadFrame (a : Act) (head addr : Nat) (rsp1 rsp2 : Word) (b : Block) : Block :=
  b.guard (!(vget b.ts a).wg && decide (head ≤ 5)) (fun b =>
    let o := fun r => if rspOk r then 0 else 1
    let r := sendFrame b a (frame24 (readFrameBits head addr)) (o rsp1) (o rsp2)
    let rsp := (if rspOk rsp1 then rsp1 else rsp2).toNat
    if r.1 then
      let b := r.2.answer (.words [rsp / 65536, rsp / 256 % 256])
      if bit (rsp / 256) 7 then b else b.onAst a (fun v => { v with hot := false })
    else r.2)

/-- PSL_READ_FRAME. -/
def execPslReadFrame (a : Act) (head addr : Nat) (rsp1 rsp2 : Word) (s : State) : Host.Outcome State Fault Refusal :=
  s.onBlock (pslReadFrame a head addr rsp1 rsp2)

/-- AEa may send the head new settings: a late step holds none of them back (R31), and no touchdown does (R281). -/
def mayCommand (b : Block) (a : Act) (h : Nat) : Bool := !(vget b.ast a).held && !bit (vget b.ast a).touchWait h

/-- PSL_FAST_FRAME (R244, R246): the head field names one head. Settings held by R31 or a touchdown are not sent (R281). -/
def execPslFastFrame (a : Act) (head assist heater : Nat) (ack1 ack2 : Fin 4) (s : State) :
    Host.Outcome State Fault Refusal :=
  s.onBlock (fun b => b.guard (decide (head ≤ 5) && mayCommand b a head) (fun b =>
    sendFast b a head (assist % 4096) (heater % 4096) ack1 ack2))

/-- PSL_REINIT (R246): with PSL_SEL# high for 1 µs, every head's settings are rewritten after a PSL fault; three failures in a row make every head
of the actuator write-failed. -/
def pslReinit (a : Act) (ok : Bool) (b : Block) : Block :=
  b.guard (vget b.ast a).pslFault (fun b =>
    if ok then rewriteSettings (b.onAst a (fun v => { v with pslFault := false, reinitFails := 0 })) a
    else
      let n := (vget b.ast a).reinitFails + 1
      let b := (b.bump .AST_PSL_REINIT a.val).onAst a (fun v => { v with reinitFails := n })
      if 3 ≤ n then
        let b := b.onAst a (fun v => { v with pslFault := false, reinitFails := 0 })
        (List.finRange 6).foldl (fun b h => if bit (b.cfgN .PLT_SURFACES) (headSurf a h).val then writeFail b a h else b) b
      else b)

/-- PSL_REINIT. -/
def execPslReinit (a : Act) (ok : Bool) (s : State) : Host.Outcome State Fault Refusal := s.onBlock (pslReinit a ok)

/-! ### The assist power loop -/

/-- The metric's error against the target m_t of its head and zone. -/
def verifyError (b : Block) (a : Act) (h : Fin 6) (z : Nat) (m : Int) : Int :=
  m - b.cal 6 (64 * (headSurf a h).val + z) 1

/-- The trim after a metric (R252). -/
def trimStep (b : Block) (t e : Int) : Int :=
  let db := b.cfg .ASR_DB
  let mx := b.cfg .ASR_TRIM_MAX
  if e < -db then min (t + b.cfg .ASR_STEP_UP) mx
  else if e > db then max (t - b.cfg .ASR_STEP_DN) (-mx)
  else t

/-- Saturation followed (R255): sectors in a row with the trim at its limit and the metric still outside; at
`ASR.TRIM_SAT` it is counted, recorded, and the head listed for Assist Recharacterise. -/
def trimSaturation (b : Block) (a : Act) (h : Fin 6) (z : Nat) (t e : Int) : Block :=
  let k := 64 * h.val + z
  let s := headSurf a h
  let mx := b.cfg .ASR_TRIM_MAX
  let side : Int := if t = mx ∧ e < -b.cfg .ASR_DB then 1 else if t = -mx ∧ e > b.cfg .ASR_DB then -1 else 0
  let n := nget 0 (vget b.ast a).satRun k
  let n' : Int := if side = 0 then 0 else if n * side > 0 then n + side else side
  let b := showTrim (b.onAst a (fun v => { v with satRun := nset 0 v.satRun k n' })) a h.val z
  if n'.natAbs = b.cfgN .ASR_TRIM_SAT then
    let b := (b.bump .AST_HEVT_TRSAT s.val).sepia 0x0503 (srcAE a) s.val z
    { b with nim := { b.nim with listed := if s.val ∈ b.nim.listed then b.nim.listed else b.nim.listed ++ [s.val] } }
  else b

/-- The head is writing in a recording zone now, and nothing holds its FAST frames back (R31, R253, R281). -/
def writingIn (b : Block) (a : Act) (h : Fin 6) (z : Nat) : Bool :=
  (vget b.ts a).wg && decide (b.get .AST_STATE_HEAD a.val = h.val ∧ b.get .AST_STATE_ZONE a.val = z) && mayCommand b a h.val

/-- One metric of a head and zone (R251 to R255): the trim takes a step, and a FAST frame follows when the setting changed and the
head still writes in that zone. -/
def metricStep (a : Act) (h : Fin 6) (z : Nat) (m : Int) (ack1 ack2 : Fin 4) (b : Block) : Block :=
  let k := 64 * h.val + z
  let b := { b with sys := { b.sys with missRuns := nerase b.sys.missRuns (28 + a.val) } }
  let old := assistSetting b a h z
  let e := verifyError b a h z m
  let t := trimStep b (nget 0 (vget b.ast a).trims k) e
  let b := b.onAst a (fun v => { v with trims := nset 0 v.trims k t })
  let b := trimSaturation b a h z t e
  let new := assistSetting b a h z
  if new ≠ old ∧ writingIn b a h z = true then sendFast b a h.val new (b.get .AST_CMD_HEATER a.val) ack1 ack2 else b

/-- ASSIST_LOOP_STEP (R252): the oldest metric that CHa has delivered is taken. -/
def assistLoopStep (a : Act) (ack1 ack2 : Fin 4) (b : Block) : Block :=
  match (vget b.ast a).metrics with
  | [] => b
  | x :: xs => metricStep a x.1 x.2.1 x.2.2 ack1 ack2 (b.onAst a (fun v => { v with metrics := xs }))

/-- ASSIST_LOOP_STEP. -/
def execAssistLoopStep (a : Act) (ack1 ack2 : Fin 4) (s : State) : Host.Outcome State Fault Refusal :=
  s.onBlock (assistLoopStep a ack1 ack2)

/-! ### The heater loop -/

/-- The natural logarithm of n in units of 10^-9, for n from 1 (log entry 141). -/
def lnNano (n : Nat) : Int :=
  let k := Nat.log2 n
  let m : Int := (n * 1000000000 / 2 ^ k : Nat)
  let z := (m - 1000000000) * 1000000000 / (m + 1000000000)
  let term := fun (i : Nat) => z ^ (2 * i + 1) / 1000000000 ^ (2 * i) / (2 * i + 1)
  (k : Int) * 693147181 + 2 * ((List.range 10).map term).sum

/-- The clearance's change from characterisation in 0.01 nm by Wallace spacing loss (R256): the preamble's amplitude falls by the factor
exp(−2π d / λ) with the spacing. `ampl` is the amplitude in 1/65,536 of that at characterisation; with no amplitude there is no bound. -/
def clearanceChange (b : Block) (z ampl : Nat) : Option Int :=
  if ampl = 0 then none
  else some ((Config.preambleWave (b.cfgN .FMT_Z_BAUD 0 z) z : Int) * (16 * 693147181 - lnNano ampl) / 6283185307)

/-- HEATER_LOOP_STEP (R251, R256): once per revolution the temperature is read, and the heater setting of the head and zone, the write
setting during a write and the read setting otherwise, is stepped toward the target clearance. Reader L's amplitude gives the estimate in
a read, reader T's in a write; at characterisation the clearance was `HDS.CLR_TGT`. -/
def heaterLoopStep (a : Act) (amplL amplT : Nat) (temp : Int) (ack1 ack2 : Fin 4) (b : Block) : Block :=
  let b := b.onAst a (fun v => { v with temp := temp })
  b.guard (decide (b.get .AST_STATE_LOOP a.val ∈ [1, 3]) && decide (b.get .AST_STATE_HEAD a.val < 6)) (fun b =>
    let h := b.get .AST_STATE_HEAD a.val
    let z := b.get .AST_STATE_ZONE a.val
    let w := decide (b.get .AST_STATE_LOOP a.val = 3)
    let step : Int := (b.cfgN .HDS_HTR_MAX (6 * a.val + h) * b.cfgN .ASR_HTR_STEP / 1000 : Nat)
    let db := b.cfg .ASR_HTR_DB
    let d : Int := match clearanceChange b z (if w then amplT else amplL) with
      | none => step
      | some x => if x > db then step else if x < -db then -step else 0
    if d = 0 ∨ bit (vget b.ast a).htrHeld h = true ∨ bit (vget b.ast a).touchWait h = true then b
    else
      let old := headHeater b a h z w
      let b := setHeater b a h z w (heaterSetting b a h z w + d)
      let new := headHeater b a h z w
      if new ≠ old ∧ mayCommand b a h = true then sendFast b a h (b.get .AST_CMD_ASSIST a.val) new ack1 ack2 else b)

/-- HEATER_LOOP_STEP. -/
def execHeaterLoopStep (a : Act) (amplL amplT : Nat) (temp : Int) (ack1 ack2 : Fin 4) (s : State) :
    Host.Outcome State Fault Refusal :=
  s.onBlock (heaterLoopStep a amplL amplT temp ack1 ack2)

/-- WRITE_READY (R257): the preheat time has elapsed. -/
def writeReadyReport (a : Act) (b : Block) : Block :=
  b.guard (vget b.ast a).preheat (fun b =>
    (b.onAst a (fun v => { v with preheat := false, wrReady := true })).put .AST_STATE_LOOP a.val 3)

/-- WRITE_READY. -/
def execWriteReady (a : Act) (s : State) : Host.Outcome State Fault Refusal := s.onBlock (writeReadyReport a)

/-! ### The write-verify loop -/

/-- Times within the last 10 minutes. -/
def recent (b : Block) (ts : List Nat) : List Nat := ts.filter (fun t => b.now < t + 600000000)

/-- WRITE_RETRIM_DONE (R258): the first of t, t + 50 and t − 50 under which no sector failed is kept and writes
resume with a fresh count; when none passes, the head is write-failed. -/
def retrimDone (a : Act) (h : Fin 6) (z : Nat) (fails : List Nat) (b : Block) : Block :=
  b.guard (bit (vget b.ast a).suspended h.val) (fun b =>
    let k := 64 * h.val + z
    let t := nget 0 (vget b.ast a).trims k
    let mx := b.cfg .ASR_TRIM_MAX
    let b := b.onAst a (fun v => { v with suspended := clearBit v.suspended h.val })
    let b := if b.get .AST_STATE_LOOP a.val = 4 then b.put .AST_STATE_LOOP a.val 1 else b
    match ((fails.take 3).zip [t, t + 50, t - 50]).find? (fun x => x.1 = 0) with
    | some x => b.onAst a (fun v => { v with
        trims := nset 0 v.trims k (max (-mx) (min mx x.2)), verify := vupd v.verify h (fun _ => []) })
    | none => writeFail b a h)

/-- WRITE_RETRIM_DONE. -/
def execWriteRetrimDone (a : Act) (h : Fin 6) (zone : Nat) (fails : List Nat) (s : State) :
    Host.Outcome State Fault Refusal :=
  s.onBlock (retrimDone a h zone fails)

/-- Writes on a head suspended (R258); the third suspension within 10 minutes makes it write-failed. -/
def suspendWrites (b : Block) (a : Act) (h : Fin 6) : Block :=
  let ts := b.now :: recent b (vget b.ast a).susp[h.val]
  let b := b.bump .AST_HEVT_VSUSP (headSurf a h).val
  let b := b.onAst a (fun v => { v with susp := vupd v.susp h (fun _ => ts) })
  if 3 ≤ ts.length then writeFail b a h
  else (b.onAst a (fun v => { v with suspended := setBit v.suspended h.val })).put .AST_STATE_LOOP a.val 4

/-- A verify result counted among the head's last 64 (R258, R310). -/
def verifyCounted (b : Block) (a : Act) (h : Fin 6) (failed : Bool) : Block :=
  let win := (failed :: (vget b.ast a).verify[h.val]).take 64
  let b := b.onAst a (fun v => { v with verify := vupd v.verify h (fun _ => win) })
  if b.cfgN .ASR_VFAIL_N ≤ (win.filter id).length ∧ bit (vget b.ast a).suspended h.val = false then suspendWrites b a h
  else b

/-! ### Touchdown and preamp faults -/

/-- A touchdown's handling (R260, R261): the settings of the head and zone are lowered and wait one revolution; at
`ASR.TD_MAX` within 10 minutes all of the head's settings are held at 80 % and it is write-failed. -/
def touchdownRules (b : Block) (a : Act) (h : Fin 6) : Block :=
  let s := headSurf a h
  let z := b.get .AST_STATE_ZONE a.val
  let back : Int := (b.cfgN .HDS_HTR_MAX s.val * b.cfgN .ASR_TD_BACKOFF / 1000 : Nat)
  let inForce := b.get .AST_HCLR_HTR s.val
  let b := setHeater b a h.val z false (heaterSetting b a h.val z false - back)
  let b := setHeater b a h.val z true (heaterSetting b a h.val z true - back)
  let ts := b.now :: recent b (vget b.ast a).touch[h.val]
  let b := (b.bump .AST_HEVT_TD s.val).put .AST_HCLR_HTR s.val 0
  let b := b.sepia 0x0501 (srcAE a) s.val (inForce + signedBits 16 (vget b.ast a).temp * 2 ^ 32)
  let b := b.onAst a (fun v => { v with touch := vupd v.touch h (fun _ => ts), touchWait := setBit v.touchWait h.val })
  if b.cfgN .ASR_TD_MAX ≤ ts.length then
    let b := (List.range 64).foldl (fun b z =>
      if b.cal 6 (64 * s.val + z) 2 = 0 then b
      else
        let r := heaterSetting b a h.val z false
        let w := heaterSetting b a h.val z true
        setHeater (setHeater b a h.val z false (r * 8 / 10)) a h.val z true (w * 8 / 10)) b
    writeFail (b.onAst a (fun v => { v with htrHeld := setBit v.htrHeld h.val })) a h
  else b

/-- A retry cause (R263): writes on the head wait one revolution; the same cause a second time within 10 minutes makes
the head write-failed. -/
def retryCause (b : Block) (a : Act) (h : Fin 6) (n : Nat) : Block :=
  let old := (vget b.ast a).faults[h.val].filter (fun x => b.now < x.2 + 600000000)
  let again := old.any (fun x => x.1 = n)
  let b := b.onAst a (fun v => { v with faults := vupd v.faults h (fun _ => (n, b.now) :: old) })
  if again then writeFail b a h else b.onAst a (fun v => { v with faultWait := setBit v.faultWait h.val })

/-- One status bit's outcome (R263). -/
def preampCause (b : Block) (a : Act) (h : Fin 6) (readers : Fin 4) (n : Nat) : Block :=
  if n = 0 ∨ n = 1 ∨ n = 3 then retryCause b a h n
  else if n = 2 then writeFail b a h
  else if n = 4 then
    let b := (b.onAst a (fun v => { v with htrDead := setBit v.htrDead h.val })).put .AST_HCLR_HTR (headSurf a h).val 0
    writeFail b a h
  else if n = 5 then touchdownRules b a h
  else if n = 6 then
    let bad : Fin 4 := (vget b.ast a).readerBad[h.val] ||| readers
    let b := b.onAst a (fun v => { v with readerBad := vupd v.readerBad h (fun _ => bad) })
    let b := writeFail b a h
    if bad = 3 then readersLost b a h else b
  else b.onAst a (fun v => { v with hot := true })

/-- PREAMP_FAULT (R262, R263): WG and AG fall with the cut sector flagged, CHFAULT is requested, AEa reads the status byte with a READ
frame and latches it, and each bit of the status byte has its outcome. -/
def preampFault (a : Act) (h : Fin 6) (status : Nat) (readers : Fin 4) (b : Block) : Block :=
  let s := headSurf a h
  let b := frameSent (channelFault b a) a (frame24 (readFrameBits h.val (preampAddr 3)))
  let b := (((b.put .AST_FAULT_CAUSE a.val status).put .AST_FAULT_SUPPLY a.val 0).put .AST_FAULT_HEAD a.val h.val).bump
    .AST_FAULT_COUNT a.val
  let b := (b.bump .AST_HEVT_FLT s.val).sepia 0x0502 (srcAE a) s.val status
  let b := if status = 0x20 then b else b.put .AST_STATE_LOOP a.val 5
  (List.range 8).foldl (fun b n => if bit status n then preampCause b a h readers n else b) b

/-- PREAMP_FAULT. -/
def execPreampFault (a : Act) (h : Fin 6) (status : Fin 256) (readers : Fin 4) (s : State) :
    Host.Outcome State Fault Refusal :=
  s.onBlock (fun b => b.guard (decide (status.val ≠ 0)) (preampFault a h status.val readers))

/-- TOUCHDOWN (R260): the preamp reports status bit TOUCH, which acts as any preamp fault does and then by the
touchdown rules. -/
def execTouchdown (a : Act) (h : Fin 6) (s : State) : Host.Outcome State Fault Refusal :=
  s.onBlock (preampFault a h 0x20 0)

/-- TOUCHDOWN_REAPPLY (R260): after one revolution without contact the lowered settings are reapplied; writes wait for
write settle once more. -/
def touchdownReapply (a : Act) (h : Fin 6) (b : Block) : Block :=
  b.guard (bit (vget b.ast a).touchWait h.val) (fun b =>
    let b := b.onAst a (fun v => { v with touchWait := clearBit v.touchWait h.val })
    let z := b.get .AST_STATE_ZONE a.val
    let b := wireFast b a h.val (b.get .AST_CMD_ASSIST a.val) (headHeater b a h.val z false)
    b.onSrv a (fun v => { v with settleRun := 0, writeSettled := false }))

/-- TOUCHDOWN_REAPPLY. -/
def execTouchdownReapply (a : Act) (h : Fin 6) (s : State) : Host.Outcome State Fault Refusal :=
  s.onBlock (touchdownReapply a h)

/-- PREAMP_FAULT_RETRY (R263): one revolution after a retry cause the status is cleared with a WRITE frame and the head may write. -/
def preampFaultRetry (a : Act) (h : Fin 6) (b : Block) : Block :=
  b.guard (bit (vget b.ast a).faultWait h.val) (fun b =>
    let b := wireWrite (b.onAst a (fun v => { v with faultWait := clearBit v.faultWait h.val })) a h.val (preampAddr 3) 0
    if b.get .AST_STATE_LOOP a.val = 5 ∧ (vget b.ast a).faultWait = 0 then b.put .AST_STATE_LOOP a.val 1 else b)

/-- PREAMP_FAULT_RETRY. -/
def execPreampFaultRetry (a : Act) (h : Fin 6) (s : State) : Host.Outcome State Fault Refusal :=
  s.onBlock (preampFaultRetry a h)

/-- PREAMP_SUPPLY_FAULT (R262, R263): as a preamp fault with cause SUPPLY, charged to no head; writes on the actuator
wait. -/
def supplyFault (a : Act) (b : Block) : Block :=
  let b := channelFault b a
  let b := (((b.put .AST_FAULT_CAUSE a.val 0).put .AST_FAULT_SUPPLY a.val 1).put .AST_FAULT_HEAD a.val
    (b.get .AST_STATE_HEAD a.val)).bump .AST_FAULT_COUNT a.val
  b.onAst a (fun v => { v with supplyBad := true })

/-- PREAMP_SUPPLY_FAULT. -/
def execPreampSupplyFault (a : Act) (s : State) : Host.Outcome State Fault Refusal := s.onBlock (supplyFault a)

/-- PREAMP_SUPPLY_GOOD (R263): the supply has been good for 1 ms. -/
def execPreampSupplyGood (a : Act) (s : State) : Host.Outcome State Fault Refusal :=
  s.onBlock (fun b => b.onAst a (fun v => { v with supplyBad := false }))

end Sys2Proof.Machine
end

