-- ==== Sys2Proof/Machine/Channel.lean ====
section
/-! DEFINITION. CHa: retune (R284), sector reads and their flags (R285 to R297), the retry ladder (R298 to R302), writes
and read-after-write (R303 to R311), and the replay slots' test access (R325). -/

namespace Sys2Proof.Machine

/-! ### Adaptation (R284 to R287) -/

/-- The adaptation registers of one reader: gain, offset, asymmetry, timing, then the 16 taps' field. -/
def adaptFields (t : Bool) : List Field × Field :=
  if t then ([.CH_ADAPT_T_GAIN, .CH_ADAPT_T_OFS, .CH_ADAPT_T_ASYM, .CH_ADAPT_T_TRFREQ], .CH_FIR_T_n_TAP)
  else ([.CH_ADAPT_L_GAIN, .CH_ADAPT_L_OFS, .CH_ADAPT_L_ASYM, .CH_ADAPT_L_TRFREQ], .CH_FIR_L_n_TAP)

/-- One reader's registers set from 20 values. -/
def putAdapt (b : Block) (a : Act) (t : Bool) (vs : List Nat) : Block :=
  let fs := adaptFields t
  let b := (fs.1.zip vs).foldl (fun b x => b.put x.1 a.val x.2) b
  (List.range 16).foldl (fun b n => b.put fs.2 (16 * a.val + n) (vs.getD (4 + n) 0)) b

/-- One reader's registers as 20 values. -/
def getAdapt (b : Block) (a : Act) (t : Bool) : List Nat :=
  let fs := adaptFields t
  fs.1.map (fun f => b.get f a.val) ++ (List.range 16).map (fun n => b.get fs.2 (16 * a.val + n))

/-- The values a head and zone start from when none are saved (R287): the calibrated gain, which the spec gives no
number for, zero offset, no asymmetry correction, no frequency offset, and `CHN.FIR_INIT`. -/
def initialAdapt (b : Block) (z : Nat) : List Nat × Block :=
  let (g, b) := b.fresh 256
  ([g, 0, 0, 0] ++ (List.range 16).map (fun n => signedBits 10 (b.cfg .CHN_FIR_INIT 0 (16 * z + n))), b)

/-- CHANNEL_READY (R283, R284, R287): the retune completes with the zone's equaliser settings and the stored adaptation of the head and
zone. -/
def channelReady (a : Act) (b : Block) : Block :=
  b.guard (b.get .CH_STATE_MODE a.val = 4) (fun b =>
    let z := b.get .CH_STATE_ZONE a.val
    let k := 64 * b.get .CH_STATE_HEAD a.val + z
    let (vs, b) := match (vget b.ch a).saved.find? (fun e => e.1 = k) with
      | some e => (e.2, b)
      | none => let (v, b) := initialAdapt b z; (v ++ v, b)
    let b := putAdapt (putAdapt b a false (vs.take 20)) a true (vs.drop 20)
    let b := b.onCh a (fun c => { c with boost := b.cfgN .CHN_CTLE_BOOST 0 z, fc := b.cfgN .CHN_CTLE_FC 0 z })
    (b.onTs a (fun t => { t with chReady := true })).put .CH_STATE_MODE a.val 0)

/-- CHANNEL_READY. -/
def execChannelReady (a : Act) (s : State) : Host.Outcome State Fault Refusal := s.onBlock (channelReady a)

/-- The reader mode in force (R289, R325): a forced reader, else the one whose fellow is faulty, else both. -/
def readerMode (b : Block) (a : Act) (h : Fin 6) : Nat :=
  let f := b.get .CH_SMP_CTL_FORCE a.val
  let bad := (vget b.ast a).readerBad[h.val]
  if f = 1 ∨ f = 2 then f else if bad = 1 then 2 else if bad = 2 then 1 else 0

/-- The readers that a thermal asperity or a defect freezes: bit 0 L, bit 1 T (R286). -/
def frozenBy (x : MarkScan) : Nat := (if 0 < x.taL + x.defL then 1 else 0) + (if 0 < x.taT + x.defT then 2 else 0)

/-- The adapted values after a read: fresh for a reader that was not frozen, since the spec fixes the loops and not
their result, and saved for the head and zone (R285, R287). -/
def adaptAfter (b : Block) (a : Act) (h z frozen : Nat) : Block :=
  let one := fun (b : Block) (t : Bool) =>
    if bit frozen (if t then 1 else 0) then b
    else
      let r := (List.range 20).foldl (fun (acc : List Nat × Block) _ =>
        let (v, b) := acc.2.fresh 1024; (acc.1 ++ [v], b)) ([], b)
      putAdapt r.2 a t r.1
  let b := one (one b false) true
  b.onCh a (fun c => { c with saved := nset [] c.saved (64 * h + z) (getAdapt b a false ++ getAdapt b a true) })

/-! ### Mark search (R295, R299) -/

/-- The positions from −w to +w, earliest first. -/
def window (w : Nat) : List Int := (List.range (2 * w + 1)).map (fun (k : Nat) => (k : Int) - (w : Int))

/-- The Hamming distance of a mark at a position (R295, R299): `first` is where the detected bits begin, counted from the primary mark's
expected position, `n` their number, and `at_` where the mark would begin. A mark bit outside the stored samples, which begin `lead` bits
before the expected primary mark and are at most 38,400, counts as differing, and so does one beyond the bits detected. -/
def markDist (pat width bits n lead : Nat) (first at_ : Int) : Nat :=
  ((List.range width).filter (fun (k : Nat) =>
    let p := at_ + (k : Int)
    let i := (p - first).toNat
    decide (p < -(lead : Int) ∨ 38400 - (lead : Int) ≤ p ∨ p < first ∨ n ≤ i) ||
      (pat.testBit (width - 1 - k) != bits.testBit (n - 1 - i)))).length

/-- The primary mark's distance at a position (R295). -/
def pmDist (b : Block) (x : MarkScan) (p : Int) : Nat := markDist (b.cfgN .CHN_PM_PAT) 32 x.pm 160 x.lead (-64) p

/-- The secondary mark's distance at the position implied by a position of the primary one (R296): it begins 32 + 18,432 bits later. -/
def smDist (b : Block) (x : MarkScan) (p : Int) : Nat := markDist (b.cfgN .CHN_SM_PAT) 16 x.sm 144 x.lead (18464 - 64) (18464 + p)

/-- The first position in a window whose primary-mark distance is accepted (R295). -/
def findPm (b : Block) (x : MarkScan) (w : Nat) : Option Int :=
  (window w).find? (fun p => decide (pmDist b x p ≤ b.cfgN .CHN_PM_ERR))

/-- The first position in a window whose secondary-mark distance is accepted (R298, rung 2). -/
def findSm (b : Block) (x : MarkScan) (w : Nat) : Option Int :=
  (window w).find? (fun p => decide (smDist b x p ≤ b.cfgN .CHN_SM_ERR))

/-- The score of a candidate, then the distance from the expected position, then the position: the order of R299. -/
def candidateBefore (b : Block) (x : MarkScan) (p q : Int) : Bool :=
  let sp := pmDist b x p + smDist b x p
  let sq := pmDist b x q + smDist b x q
  decide (sp < sq) || (decide (sp = sq) && (decide (p.natAbs < q.natAbs) || (decide (p.natAbs = q.natAbs) && decide (p < q))))

/-- A position put at its place among the candidates. -/
def insertCandidate (b : Block) (x : MarkScan) (p : Int) : List Int → List Int
  | [] => [p]
  | q :: qs => if candidateBefore b x p q then p :: q :: qs else q :: insertCandidate b x p qs

/-- The candidates of rung 3 in their order, less the positions already decoded (R299). -/
def candidates (b : Block) (r : SectorRead) : List Int :=
  let w := b.cfgN .CHN_PM_W
  let all := window w ++ (match r.found with | some p => if p.natAbs ≤ w then [] else [p] | none => [])
  (all.filter (fun p => !r.decoded.any (fun d => d.1 = p))).foldr (insertCandidate b r.scan) []

/-! ### Slots and sectors -/

/-- A sector of a channel replaced by its frame-table index. -/
def putSector (b : Block) (a : Act) (r : SectorRead) : Block :=
  b.onCh a (fun c => { c with sectors := updFirst (fun x => x.index = r.index) (fun _ => r) c.sectors })

/-- A sector's ladder ended: its slot is released, the actuator is back at its read position, and the channel forgets it. -/
def dropSector (b : Block) (a : Act) (index : Nat) : Block :=
  let ofs := (((vget b.ch a).sectors.filter (fun x => x.index = index)).map (fun x => x.ofs)).sum
  let b := b.onSrv a (fun v => { v with ref := v.ref - ofs })
  channelRest (b.onCh a (fun c => { c with
    sectors := c.sectors.filter (fun x => x.index ≠ index)
    slots := c.slots.map (fun s => if s.owner = some index then { s with owner := none } else s) })) a

/-- The head offset of a re-read in force (R298): the actuator's reference moves by the difference. -/
def rereadOffset (b : Block) (a : Act) (r : SectorRead) (ofs : Int) : Block × SectorRead :=
  (b.onSrv a (fun v => { v with ref := v.ref + (ofs - r.ofs) }), { r with ofs := ofs })

/-- The least recently used slot among those that a test admits and nothing holds. -/
def lruSlot (b : Block) (a : Act) (ok : Fin 8 → Bool) : Option (Fin 8) :=
  let c := vget b.ch a
  ((List.finRange 8).filter (fun i => ok i && !slotHeld b a i)).foldl (fun best i =>
    match best with
    | none => some i
    | some j => if (vget c.slots i).filled < (vget c.slots j).filled then some i else some j) none

/-- The slot a read takes (R297, R315): at rung 0 an open one; a re-read takes a reserved one when every other is
held. -/
def readSlot (b : Block) (a : Act) (reread : Bool) : Option (Fin 8) :=
  match lruSlot b a (fun i => decide (i.val < openSlots b)) with
  | some i => some i
  | none => if reread then lruSlot b a (fun i => decide (openSlots b ≤ i.val)) else none

/-- Samples taken into a slot. -/
def fillSlot (b : Block) (a : Act) (i : Option (Fin 8)) : Block :=
  match i with
  | none => b
  | some i => b.onCh a (fun c => { c with
      fills := c.fills + 1, slots := vupd c.slots i (fun s => { s with filled := c.fills + 1 }) })

/-! ### Deep decoders (R300) -/

/-- Requests of a channel queued or in progress. -/
def deepCount (b : Block) (a : Act) : Nat :=
  (b.deep.queue.filter (fun r => r.act = a)).length +
    ((List.finRange 2).filter (fun d => match vget b.deep.running d with | some r => decide (r.act = a) | none => false)).length

/-- Free decoders take the queue's heads, decoder 0 first; the longest wait is kept (R300, R323). -/
def deepStart (b : Block) : Block :=
  let b := (List.finRange 2).foldl (fun b d =>
    if (vget b.deep.running d).isSome then b
    else match b.deep.queue with
      | [] => b
      | r :: rs =>
        let b := { b with deep := { b.deep with queue := rs, running := vupd b.deep.running d (fun _ => some r) } }
        b.putSat .CH_DEEP_WAITMAX 0 (max (b.get .CH_DEEP_WAITMAX 0) (b.now - r.at_))) b
  let n := b.deep.queue.length + ((List.finRange 2).filter (fun d => (vget b.deep.running d).isSome)).length
  (b.putSat .CH_DEEP_QUEUE 0 n).putSat .CH_DEEP_PEAK 0 (max (b.get .CH_DEEP_PEAK 0) n)

/-- A deep-decode request: the third of a channel waits in it (R300). -/
def deepRequest (b : Block) (a : Act) (index : Nat) : Block :=
  let r : DeepReq := ⟨a, index, b.now⟩
  if 2 ≤ deepCount b a then { b with deep := { b.deep with waiting := b.deep.waiting ++ [r] } }
  else deepStart { b with deep := { b.deep with queue := b.deep.queue ++ [r] } }

/-- Waiting requests of channels that have room enter the queue. -/
def deepAdmit (b : Block) : Block :=
  b.deep.waiting.foldl (fun b r =>
    if 2 ≤ deepCount b r.act then b
    else { b with deep := { b.deep with queue := b.deep.queue ++ [r], waiting := dropFirst (· = r) b.deep.waiting } }) b

/-! ### The ladder (R298) -/

/-- An accepted sector (R293, R318, R320): the mark's registers, the rung's counter, and the report to the translation
layer. -/
def acceptSector (b : Block) (a : Act) (r : SectorRead) (p : Int) (deep : Bool) : Block :=
  let b := (((b.putInt .CH_MARK_PMOFS a.val p).putSat .CH_MARK_PMDIST a.val (pmDist b r.scan p)).putSat .CH_MARK_SMDIST
    a.val (smDist b r.scan p)).put .CH_MARK_SOURCE a.val r.source
  let rung := if 5 ≤ r.rung then r.rung else if deep then 4 else r.source
  let b := dropSector b a r.index
  let b := if 1 ≤ rung then b.bump .CH_LADDER_n_COUNT (8 * a.val + rung - 1) else b
  sectorRecovered b a r rung

/-- Rung 8 (R298, R301). -/
def unrecovered (b : Block) (a : Act) (r : SectorRead) : Block :=
  let b := (dropSector b a r.index).bump .CH_LADDER_n_COUNT (8 * a.val + 7)
  sectorUnrecovered (b.sepia 0x0603 (srcTS a) (6 * a.val + r.head.val) r.track) a r

/-- Where a sector goes when rung 4 has failed or no samples were kept: to its next re-read, at most two in each of
rungs 5 to 7 and `CHN.RETRY_REVS` revolutions in all, else to rung 8; in rung 6 the head is offset by `CHN.RR_OFS` one way and then the
other. A source under R439 stops here. -/
def nextReread (b : Block) (a : Act) (r : SectorRead) : Block :=
  if r.dropped then dropSector b a r.index
  else if r.short then sourceFailed (dropSector b a r.index) a r
  else
    let r := if r.rung < 5 then { r with rung := 5, rereads := 0 }
             else if 2 ≤ r.rereads then { r with rung := r.rung + 1, rereads := 0 } else r
    if 8 ≤ r.rung ∨ b.cfgN .CHN_RETRY_REVS ≤ r.revs then unrecovered b a r
    else
      let b := b.onCh a (fun c => { c with
        slots := c.slots.map (fun s => if s.owner = some r.index then { s with owner := none } else s) })
      let ofs : Int := if r.rung ≠ 6 then 0 else if r.rereads = 0 then b.cfg .CHN_RR_OFS else -b.cfg .CHN_RR_OFS
      let (b, r) := rereadOffset b a r ofs
      putSector b a { r with phase := .reread, slot := none }

/-- Rung 4, on the last read of each rung only; the other re-reads go on to the next. -/
def rungFour (b : Block) (a : Act) (r : SectorRead) : Block :=
  if r.rung < 5 ∨ 2 ≤ r.rereads ∨ b.cfgN .CHN_RETRY_REVS ≤ r.revs then deepRequest (putSector b a { r with phase := .deep }) a r.index
  else nextReread b a r

/-- Rung 3's next candidate, or rung 4. -/
def rungThree (b : Block) (a : Act) (r : SectorRead) : Block :=
  match candidates b r with
  | p :: _ => putSector b a { r with phase := .replay 3 p, source := 3 }
  | [] => rungFour b a r

/-- Rungs 1 and 2 for a missed primary mark: the widened window, then the secondary mark. -/
def rungOne (b : Block) (a : Act) (r : SectorRead) : Block :=
  match findPm b r.scan (b.cfgN .CHN_WIDE_W) with
  | some p => putSector b a { r with phase := .replay 1 p, source := 1, found := some p }
  | none =>
    match findSm b r.scan (b.cfgN .CHN_SM_W) with
    | some p => putSector b a { r with phase := .replay 2 p, source := 2, found := some p }
    | none => rungThree b a r

/-- A first-pass failure (R297): the slot is held and the ladder begins; without samples it goes straight to rung 5,
counted where no slot was open. -/
def firstFailure (b : Block) (a : Act) (r : SectorRead) (missed : Bool) : Block :=
  match r.slot with
  | none => nextReread (if r.rung < 5 then b.bump .CH_EVT_SLOTFULL a.val else b) a r
  | some i =>
    let b := b.onCh a (fun c => { c with slots := vupd c.slots ⟨i % 8, by omega⟩ (fun s => { s with owner := some r.index }) })
    let b := if b.get .CH_STATE_MODE a.val = 0 then b.put .CH_STATE_MODE a.val 3 else b
    if missed then rungOne b a r else rungThree b a r

/-- A sector's read at rung 0, or a re-read's: counted, its flags reported, its samples kept, and its mark searched. -/
def readSector (b : Block) (a : Act) (r : SectorRead) (x : MarkScan) (reread : Bool) : Block :=
  let i := a.val
  let surf := 6 * i + r.head.val
  let b := (b.bump64 .CH_SECT_LO_COUNT .CH_SECT_HI_COUNT i).put .CH_STATE_MODE i 1
  let b := (b.bump .CH_EVT_TA i (x.taL + x.taT)).bump .CH_EVT_DEFECT i (x.defL + x.defT)
  let b := (b.put .CH_STATE_RDMODE i (readerMode b a r.head)).putBool .CH_STATE_FROZEN i (decide (frozenBy x ≠ 0))
  let fl := List.replicate (x.taL + x.taT) (surf, r.track, r.index, 0) ++
    List.replicate (x.defL + x.defT) (surf, r.track, r.index, 1)
  let b := b.onCh a (fun c => { c with frozen := frozenBy x, flagged := c.flagged ++ fl })
  let b := adaptAfter b a r.head.val r.zone (frozenBy x)
  let slot := readSlot b a reread
  let b := fillSlot b a slot
  let r := { r with scan := x, slot := slot.map (fun s => s.val), decoded := [], found := none, source := 0,
                    phase := .onTheFly }
  let b := b.onCh a (fun c => { c with sectors := c.sectors.filter (fun y => y.index ≠ r.index) ++ [r] })
  match findPm b x (b.cfgN .CHN_PM_W) with
  | some p => (b.onTs a (fun t => { t with pmFound := true })).onCh a (fun c => { c with
      sectors := updFirst (fun y => y.index = r.index) (fun y => { y with found := some p }) c.sectors })
  | none => firstFailure b a r true

/-- SECTOR_READ (R282 to R297): a read frame starts, and the primary mark is searched for on the fly. -/
def sectorReadStart (a : Act) (x : MarkScan) (b : Block) : Block :=
  match (vget b.ts a).frame with
  | none => b
  | some f => b.guard (!f.write) (fun b =>
      let j := f.job
      readSector b a
        { index := f.index, head := (match j with | some j => j.head | none => ⟨b.get .CH_STATE_HEAD a.val % 6, by omega⟩)
          zone := b.get .CH_STATE_ZONE a.val, track := (match j with | some j => j.track | none => 0)
          tag := (match j with | some j => j.tag | none => 0), gen := (match j with | some j => j.gen | none => 0), scan := x, phase := .onTheFly, slot := none, decoded := []
          found := none, source := 0, rung := 0, rereads := 0, revs := 0, ofs := 0
          short := (match j with | some j => sourceShort b a j.tag | none => false), dropped := false } x false)

/-- SECTOR_READ. -/
def execSectorRead (a : Act) (x : MarkScan) (s : State) : Host.Outcome State Fault Refusal :=
  s.onBlock (sectorReadStart a x)

/-- FREEZE_HOLD_END (R286): adaptation resumes. -/
def execFreezeHoldEnd (a : Act) (s : State) : Host.Outcome State Fault Refusal :=
  s.onBlock (fun b => (b.onCh a (fun c => { c with frozen := 0 })).put .CH_STATE_FROZEN a.val 0)

/-- A decode is accepted only with every check satisfied and the CRC-64 of its information part matching; a miscorrection is counted
(R291, R293). -/
def decodeAccepted (b : Block) (a : Act) (r : SectorRead) (unsat info : Nat) : Bool × Block :=
  let crc := crcMatches r.gen (6 * a.val + r.head.val) r.track r.index info
  (decide (unsat = 0) && crc, if decide (unsat = 0) && !crc then b.bump .CH_EVT_MISCOR a.val else b)

/-- The sector of a channel at a frame-table index. -/
def sectorAt (b : Block) (a : Act) (index : Nat) : Option SectorRead :=
  (vget b.ch a).sectors.find? (fun x => x.index = index)

/-- ONTHEFLY_DECODE_DONE (R292, R293, R298): accepted, or to the ladder. The decoder left `unsat` checks unsatisfied and decided on the
information part `info`. -/
def onTheFlyDone (a : Act) (index unsat info : Nat) (b : Block) : Block :=
  match sectorAt b a index with
  | none => b
  | some r => b.guard (decide (r.phase = .onTheFly)) (fun b =>
      let p := r.found.getD 0
      let (ok, b) := decodeAccepted b a r unsat info
      if r.dropped then dropSector b a index
      else if ok then acceptSector b a r p false
      else firstFailure b a { r with decoded := [(p, unsat)], found := none } false)

/-- ONTHEFLY_DECODE_DONE. -/
def execOntheflyDecodeDone (a : Act) (index unsat info : Nat) (s : State) : Host.Outcome State Fault Refusal :=
  s.onBlock (onTheFlyDone a index unsat info)

/-- REPLAY_DECODE_DONE (R298, R299): accepted, or the next candidate or rung. -/
def replayDone (a : Act) (index unsat info : Nat) (b : Block) : Block :=
  match sectorAt b a index with
  | none => b
  | some r =>
    match r.phase with
    | .replay _ p =>
      let (ok, b) := decodeAccepted b a r unsat info
      if r.dropped then dropSector b a index
      else if ok then acceptSector b a r p false
      else rungThree b a { r with decoded := r.decoded ++ [(p, unsat)] }
    | _ => b

/-- REPLAY_DECODE_DONE. -/
def execReplayDecodeDone (a : Act) (index unsat info : Nat) (s : State) : Host.Outcome State Fault Refusal :=
  s.onBlock (replayDone a index unsat info)

/-- The candidate of rung 4: the decoded position that left the fewest checks unsatisfied, the earliest decoded among
equals. -/
def bestCandidate (r : SectorRead) : Int :=
  match r.decoded with
  | [] => 0
  | d :: ds => (ds.foldl (fun best x => if x.2 < best.2 then x else best) d).1

/-- DEEP_DECODE_DONE (R298, R300): the decoder is free, takes the next request, and the sector is accepted or goes to
rung 5. -/
def deepDone (d : Fin 2) (unsat info : Nat) (b : Block) : Block :=
  match vget b.deep.running d with
  | none => b
  | some q =>
    let b := { b with deep := { b.deep with running := vupd b.deep.running d (fun _ => none) } }
    let b := deepStart (deepAdmit b)
    match sectorAt b q.act q.index with
    | none => b
    | some r => b.guard (decide (r.phase = .deep)) (fun b =>
        let (ok, b) := decodeAccepted b q.act r unsat info
        if r.dropped then dropSector b q.act q.index
        else if ok then acceptSector b q.act r (bestCandidate r) true
        else nextReread b q.act r)

/-- DEEP_DECODE_DONE. -/
def execDeepDecodeDone (d : Fin 2) (unsat info : Nat) (s : State) : Host.Outcome State Fault Refusal :=
  s.onBlock (deepDone d unsat info)

/-- SECTOR_REREAD (R298, R315): one more revolution; the sector is read afresh with the rung's settings. Rung 7 reads
once with reader L alone and once with reader T alone. -/
def sectorReread (a : Act) (index : Nat) (x : MarkScan) (b : Block) : Block :=
  match sectorAt b a index with
  | none => b
  | some r => b.guard (decide (r.phase = .reread)) (fun b =>
      if r.dropped then dropSector b a index
      else
        let r := { r with rereads := r.rereads + 1, revs := r.revs + 1 }
        let b := readSector b a r x true
        if r.rung = 7 then b.put .CH_STATE_RDMODE a.val (if r.rereads = 1 then 1 else 2) else b)

/-- SECTOR_REREAD. -/
def execSectorReread (a : Act) (index : Nat) (x : MarkScan) (s : State) : Host.Outcome State Fault Refusal :=
  s.onBlock (sectorReread a index x)

/-- The ladder stops for the sectors of a track job (R302): decodes in progress run to their end unused; what is
queued and not begun is withdrawn at once with its slot. -/
def ladderStop (b : Block) (a : Act) (tag : Nat) : Block :=
  let mine := (vget b.ch a).sectors.filter (fun r => r.tag = tag)
  mine.foldl (fun b r =>
    let queued := b.deep.queue.any (fun q => q.act = a ∧ q.index = r.index) ||
      b.deep.waiting.any (fun q => q.act = a ∧ q.index = r.index)
    if queued || decide (r.phase = .reread) then
      dropSector { b with
        deep := { b.deep with
        queue := b.deep.queue.filter (fun q => !(decide (q.act = a ∧ q.index = r.index)))
        waiting := b.deep.waiting.filter (fun q => !(decide (q.act = a ∧ q.index = r.index))) } } a r.index
    else putSector b a { r with dropped := true }) b

/-! ### Writes and read-after-write -/

/-- SECTOR_WRITE (R303, R304, R428): the sector is encoded and written, and enters the parity accumulators; across
poisoned data write gate stays low, nothing is written, and the control core is told. -/
def sectorWrite (a : Act) (b : Block) : Block :=
  match (vget b.ts a).frame with
  | none => b
  | some f => b.guard f.write (fun b =>
      let b := b.put .CH_STATE_MODE a.val 2
      if f.silent then poisonedSector b a f
      else
        let b := parityAdd b a f
        match f.job with | some j => sendSector b a j f.index | none => b)

/-- SECTOR_WRITE. -/
def execSectorWrite (a : Act) (s : State) : Host.Outcome State Fault Refusal := s.onBlock (sectorWrite a)

/-- The metric that CHa delivers for a scored sector (R309): none where a thermal asperity was flagged on reader T. -/
def deliverMetric (b : Block) (a : Act) (e : RwEntry) (x : MarkScan) (power err : Nat) : Option Int × Block :=
  if 0 < x.taT then (none, b)
  else
    let (m, b) := verifyMetric b power err
    (some m, (b.onAst a (fun v => { v with metrics := v.metrics ++ [(e.job.head, e.job.zone, m)] })).putInt .CH_RAW_LASTM a.val m)

/-- A sector's read-after-write decode passes under R293. -/
def rawDecodeOk (a : Act) (e : RwEntry) (decode : Option (Nat × Nat)) : Bool :=
  match decode with
  | some d => decide (d.1 = 0) && crcMatches e.job.gen (headSurf a e.job.head).val e.job.track e.index d.2
  | none => false

/-- A sector fails verify (R310): its mark was not found within ±`CHN.PM_W`, its metric is too low or absent, or its decode failed where
`CHN.RAW_MODE`, R31's mark or a channel that Nimbus suspects (R661) asks for one. -/
def verifyFails (b : Block) (a : Act) (e : RwEntry) (x : MarkScan) (m : Option Int) (decode : Option (Nat × Nat)) : Bool :=
  let target := b.cal 6 (64 * (headSurf a e.job.head).val + e.job.zone) 1
  let low := match m with | some m => decide (m < target - b.cfg .CHN_RAW_MARGIN) | none => true
  let asked := decide (b.cfgN .CHN_RAW_MODE = 1) || decide (e.index ∈ (vget b.ts a).marked) || bit (b.get .NIM_CHSUSP_CH 0) a.val
  (findPm b x (b.cfgN .CHN_PM_W)).isNone || low || (asked && !rawDecodeOk a e decode)

/-- VERIFY_RESULT (R308 to R311): reader T's samples of a written sector are scored; a failed sector enters the rewrite queue, or, after
`CHN.RAW_RETRY` rewrites, is a write fault of its band; each result reaches AEa's write-verify loop, and the metric its assist loop. A sector
skipped as a defect has no result. `power` and `err` are the power of the ideal response and the mean squared difference from it, and
`decode` the checks left unsatisfied and the information part where reader T's samples were decoded. -/
def verifyResult (a : Act) (index : Nat) (x : MarkScan) (power err : Nat) (decode : Option (Nat × Nat)) (skipped : Bool) (b : Block) :
    Block :=
  match (vget b.ts a).unverified.find? (fun e => e.index = index) with
  | none => b
  | some e => b.guard (!skipped) (fun b =>
      let (m, b) := deliverMetric b a e x power err
      let failed := verifyFails b a e x m decode
      let b := match decode with
        | some d => if d.1 = 0 ∧ rawDecodeOk a e decode = false then b.bump .CH_EVT_MISCOR a.val else b
        | none => b
      let b := b.onTs a (fun t => { t with unverified := t.unverified.filter (fun x => x.index ≠ index)
                                           marked := t.marked.filter (· ≠ index) })
      let n := nget 0 (vget b.ts a).rewrites index
      let b :=
        if !failed then
          sectorVerified (b.onTs a (fun t => { t with rewrites := nerase t.rewrites index })) a e
        else
          let b := b.bump .CH_RAW_FAILS a.val
          if b.cfgN .CHN_RAW_RETRY ≤ n then
            writeFault (b.onTs a (fun t => { t with
              rewrites := nerase t.rewrites index, rwq := t.rwq.filter (fun x => x.index ≠ index) })) a e
          else flagRewrite (parityRemove b a e) a index e.buf 1 (some e.job)
      verifyCounted b a e.job.head failed)

/-- VERIFY_RESULT. -/
def execVerifyResult (a : Act) (index : Nat) (x : MarkScan) (power err : Nat) (decode : Option (Nat × Nat)) (skipped : Bool) (s : State) :
    Host.Outcome State Fault Refusal :=
  s.onBlock (verifyResult a index x power err decode skipped)

/-! ### Test access (R325) -/

/-- CH_SMP_CTL_WRITE (R289, R325): HOLD keeps the named slot out of use, unless the ladder holds it; FORCE 0b11 is
treated as 0b00. -/
def smpCtlWrite (w : Agent) (a : Act) (val : Word) (b : Block) : Block :=
  unlockedWrite b w (fun b =>
    let v := val.toNat
    let hold := decide (v / 2 ^ 31 = 1)
    let slot := v / 2 ^ 28 % 8
    let b := (((b.putBool .CH_SMP_CTL_HOLD a.val hold).put .CH_SMP_CTL_SLOT a.val slot).put .CH_SMP_CTL_FORCE a.val
      (v / 2 ^ 26)).put .CH_SMP_CTL_IDX a.val v
    b.onCh a (fun c => { c with
      slots := Vector.ofFn (fun i : Fin 8 =>
        let s := vget c.slots i
        { s with test := decide (i.val = slot) && hold && s.owner.isNone }) }))

/-- CH_SMP_CTL_WRITE. -/
def execChSmpCtlWrite (w : Agent) (a : Act) (val : Word) (s : State) : Host.Outcome State Fault Refusal :=
  s.onBlock (smpCtlWrite w a val)

end Sys2Proof.Machine
end

