-- ==== Sys2Proof/Machine/Sequencer.lean ====
section
/-! DEFINITION. TSa: executing a microword (R328 to R340), the bit timer and frame end, wedges (R341), micro-traps (R342
to R345), stops (R346), faults and restart (R348), and the control store (R351, R352). -/

namespace Sys2Proof.Machine

/-- TSa is executing: neither STOPPED, HALT, FAULT nor LOADING. -/
def tsRunning (b : Block) (a : Act) : Bool := decide (1 ≤ b.get .TS_STATE_STATE a.val ∧ b.get .TS_STATE_STATE a.val ≤ 4)

/-- The state code that an executing TSa shows: TRAP inside a trap routine, else the code given. -/
def tsShow (b : Block) (a : Act) (code : Nat) : Block :=
  b.put .TS_STATE_STATE a.val (if b.get .TS_STATE_TRAP a.val ≠ 0 then 4 else code)

/-- A sequencer fault (R348): every gate falls, the armed set is cancelled, the sector in progress is flagged, and TSa
enters FAULT. -/
def tsFault (b : Block) (a : Act) : Block :=
  let b := gatesLow b a
  let b := b.onTs a (fun t => { t with armed := none, expAt := none })
  let b := (b.bump .TS_CSERR_FAULTS a.val).put .TS_STATE_STATE a.val 6
  b.sepia 0x0740 (srcTS a) a.val (b.get .TS_STATE_UPC a.val)

/-! ### The bit timer -/

/-- The bits that 16 c last: a cycle is 8 samples (R338). -/
def armLead : Nat := 128

/-- An armed set or a load that came too late (R338): the set is discarded, any frame is cut, and the miss is counted
and recorded (R31). -/
def lateArm (b : Block) (a : Act) : Block :=
  let b := (lowerRg (cutFrame (lowerWg b a) a) a).onTs a (fun t => { t with armed := none, lateArm := true, cut := true })
  let b := (releaseSg b a).bump .TS_EVT_LATE a.val
  (b.bump .SYS_DLMISS_TS 0).sepia 0x0F01 srcSV (12 + a.val) (srcTS a)

/-- The bank's GAP or SPAN in use. -/
def ftConst (b : Block) (a : Act) (span : Bool) : Nat :=
  if b.get .TS_FT_BANK a.val = 0 then b.get (if span then .TS_SPAN0_SPAN else .TS_GAP0_GAP) a.val
  else b.get (if span then .TS_SPAN1_SPAN else .TS_GAP1_GAP) a.val

/-- BT loaded with a count from a reference instant (R331, R333): the count in progress is replaced, BT_DONE cleared. -/
def btLoad (b : Block) (a : Act) (code ref count : Nat) : Block :=
  let b := b.put .TS_BT_REF a.val code
  let e := ref + count % 2 ^ 17
  let b := b.onTs a (fun t => { t with btDone := false, expAt := some e })
  if e < (vget b.ts a).bit + armLead then lateArm (b.onTs a (fun t => { t with expAt := none })) a else b

/-- BTOP (R333). -/
def btOp (b : Block) (a : Act) (w : Nat) : Block :=
  let t := vget b.ts a
  let e := ftEntry b a
  match mwBtop w with
  | 1 => btLoad b a 1 t.bit (mwImm w)
  | 2 => btLoad b a 2 t.lastExp (mwImm w)
  | 3 => btLoad b a 3 t.wedgeEnd (ftStartOfs e)
  | 4 => btLoad b a 4 t.lastExp (ftSplitBit e)
  | 5 => btLoad b a 5 t.lastExp (ftConst b a false)
  | 6 => btLoad b a 6 t.lastExp (ftConst b a true)
  | 7 => b.onTs a (fun t => { t with armed := none, expAt := none })
  | _ => b

/-- A word's gate and channel fields: applied at once, or armed for the next expiry (R332, R337, R338). -/
def gateOp (b : Block) (a : Act) (w : Nat) : Block :=
  if mwArm w then
    let b := b.onTs a (fun t => { t with lateArm := false })
    match (vget b.ts a).expAt with
    | some e => if e < (vget b.ts a).bit + armLead then lateArm b a
                else b.onTs a (fun t => { t with armed := some (mwSet w) })
    | none => lateArm b a
  else applySet b a (mwSet w)

/-! ### The other fields of a word -/

/-- FTOP (R333). -/
def ftOp (b : Block) (a : Act) (w : Nat) : Block :=
  let t := vget b.ts a
  match mwFtop w with
  | 1 => (match t.cur with
    | some j => (b.put .TS_FT_BANK a.val j.bank).put .TS_FT_INDEX a.val j.first
    | none => b)
  | 2 => if ftLast (ftEntry b a) then b.put .TS_FT_INDEX a.val 0
         else b.put .TS_FT_INDEX a.val (b.get .TS_FT_INDEX a.val + 1)
  | 3 => (match t.rwq.head? with | some e => b.put .TS_FT_INDEX a.val e.index | none => b)
  | _ => b

/-- BUFOP (R333). -/
def bufOp (b : Block) (a : Act) (w : Nat) : Block :=
  let t := vget b.ts a
  match mwBufop w with
  | 1 => b.onTs a (fun t => { t with openBuf := t.bufPtr, bufPtr := t.bufPtr + 1 })
  | 2 => flagRewrite b a (b.get .TS_FT_INDEX a.val) t.openBuf 0 t.cur
  | 3 => b.onTs a (fun t => { t with rwq := t.rwq.drop 1 })
  | 4 => b.onTs a (fun t => { t with bufPtr := 0 })
  | _ => b

/-- QOP (R333): what is posted reaches the control cores with the job's TAG. -/
def queueOp (b : Block) (a : Act) (w : Nat) : Block :=
  let t := vget b.ts a
  match mwQop w with
  | 1 => (match t.cur with
    | some j => (writeOver b a j).onTs a (fun t => { t with cur := none, posts := t.posts ++ [.done j.tag t.transferred] })
    | none => b)
  | 2 => (match t.cur with
    | some j => jobStopped ((writeOver b a j).onTs a (fun t => { t with cur := none, posts := t.posts ++ [.error j.tag (mwReport w)] })) a
        j t.transferred
    | none => b)
  | 3 => (match t.rwq.head? with
    | some e => b.onTs a (fun t => { t with
        cur := some { e.job with op := 2, first := e.index, count := 1, buf := e.buf }, bufPtr := e.buf })
    | none => b)
  | _ => b

/-- LCOP (R333). -/
def loopOp (b : Block) (a : Act) (w : Nat) : Block :=
  let f := lcField (mwLcsel w)
  let i := a.val
  match mwLcop w with
  | 1 => b.put f i (mwImm w)
  | 2 => b.put f i (b.get f i - 1)
  | 3 => (match (vget b.ts a).cur with | some j => b.put f i j.count | none => b)
  | 4 => b.put f i (ftSplits (ftEntry b a))
  | 5 => b.bump f i
  | _ => b

/-- REPORT (R333, R648): posted with the micro-address and the frame-table index, and recorded as 0x0700 + code. -/
def reportOp (b : Block) (a : Act) (w : Nat) : Block :=
  let r := mwReport w
  if r = 0 then b
  else
    let u := b.get .TS_STATE_UPC a.val
    let i := b.get .TS_FT_INDEX a.val
    (b.onTs a (fun t => { t with posts := t.posts ++ [.report r u i] })).sepia (0x0700 + r) (srcTS a) u i

/-- The next address of a word with SEQ 0b00, from the conditions sampled before its fields act (R334, R335). -/
def nextAddr (b : Block) (a : Act) (w : Nat) : Nat :=
  (List.range (mwBrN w)).foldl (fun n i => if tsCond b a (mwBsel w i) then setBit n i else n) (mwNext w)

/-- The head of the job queue becomes the current job, and its dispatch entry the next address (R335). -/
def dispatchJob (b : Block) (a : Act) : Block :=
  match (vget b.ts a).jobs with
  | [] => tsShow b a 1
  | j :: js =>
    let b := b.onTs a (fun t => { t with jobs := js, cur := some j, await := false, transferred := 0, bufPtr := 0,
                                         openBuf := 0 })
    (tsShow b a 2).put .TS_STATE_UPC a.val (b.get .TS_DISP_n_ADDR (16 * a.val + j.op))

/-- The return from a trap (R344): the loop counters and the waiting or formed address are restored. -/
def trapReturn (b : Block) (a : Act) : Block :=
  let i := a.val
  let b := (((b.put .TS_LC01_LC0 i (b.get .TS_TSLC01_LC0 i)).put .TS_LC01_LC1 i (b.get .TS_TSLC01_LC1 i)).put
    .TS_LC23_LC2 i (b.get .TS_TSLC23_LC2 i)).put .TS_LC23_LC3 i (b.get .TS_TSLC23_LC3 i)
  let b := (b.put .TS_STATE_UPC i (b.get .TS_TSAVE_PC i)).put .TS_STATE_TRAP i 0
  let b := b.onTs a (fun t => { t with wgAtTrap := false, rgAtTrap := false, await := t.savedAwait, savedAwait := false })
  tsShow b a 2

/-- Where TSa goes after a word's fields have acted. -/
def wordSequel (b : Block) (a : Act) (w next : Nat) : Block :=
  match mwSeq w with
  | 1 => trapReturn b a
  | 2 => dispatchJob ((b.put .TS_STATE_TRAP a.val 0).onTs a (fun t => { t with await := true })) a
  | _ => tsShow (b.put .TS_STATE_UPC a.val next) a 2

/-- A word's fields applied at once (R334). -/
def applyWord (b : Block) (a : Act) (w : Nat) : Block :=
  let next := nextAddr b a w
  let b := reportOp b a w
  let b := bufOp (btOp b a w) a w
  let b := loopOp (gateOp b a w) a w
  let b := queueOp b a w
  let b := ftOp b a w
  if b.get .TS_STATE_STATE a.val = 6 then b else wordSequel b a w next

/-- A microword fetched with the bits of `lo` and `hi` flipped in its halves (R352): a bad bit in a half is corrected, counted and written
back in place; none where a half holds a double error. -/
def fetchWord (b : Block) (a : Act) (lo hi : Nat) : Option Nat × Block :=
  let u := b.get .TS_STATE_UPC a.val
  let w := csWord b a u
  if lo % 2 ^ 80 = 0 ∧ hi % 2 ^ 80 = 0 then (some w, b)
  else
    let b := b.put .TS_CSERR_LASTADDR a.val u
    match sramFetch lo, sramFetch hi with
    | some x, some y =>
      let v := w ^^^ (x.1 + y.1 * 2 ^ 64)
      (some v, (b.bump .TS_CSERR_CORR a.val (x.2 + y.2)).onTs a (fun t => { t with cs := nset (csDefault u) t.cs u v }))
    | _, _ => (none, b)

/-- One microword executed at its address (R334): fetched and checked, waited on, held while an armed set is pending,
then applied. -/
def stepWord (b : Block) (a : Act) (lo hi : Nat) : Block :=
  match fetchWord b a lo hi with
  | (none, b) => tsFault b a
  | (some w, b) =>
    if mwIllegal w then tsFault b a
    else if mwSeq w = 1 ∧ b.get .TS_STATE_TRAP a.val = 0 then tsFault b a
    else if mwWait w && decide (tsCond b a (mwWsel w) = mwWpol w) then tsShow b a 3
    else if (vget b.ts a).armed.isSome && (mwArm w || decide (1 ≤ mwBtop w ∧ mwBtop w ≤ 6)) then tsShow b a 3
    else applyWord b a w

/-- MICROWORD_STEP (R334, R335): bit time passes to the step, at most to the next expiry; TSa takes a job where it
waits for one, and otherwise executes a word. `buf` is what the channel buffer shows: bit 0 the next write sector
whole, bit 1 poisoned, bit 2 room for a read sector; `lo` and `hi` are the bits found flipped in the stored halves. -/
def microwordStep (a : Act) (dt : Nat) (buf : Fin 8) (lo hi : Nat) (b : Block) : Block :=
  b.guard (tsRunning b a) (fun b =>
    let b := { b with sys := { b.sys with missRuns := nerase (nerase b.sys.missRuns (12 + a.val)) (16 + a.val) } }
    let b := b.onTs a (fun t => { t with
      bit := (match t.expAt with | some e => min (t.bit + dt) (max t.bit e) | none => t.bit + dt)
      bufReady := bit buf.val 0 && !bit buf.val 1, bufPoison := bit buf.val 1, bufSpace := bit buf.val 2 })
    if (vget b.ts a).await then dispatchJob b a else stepWord b a lo hi)

/-- MICROWORD_STEP. -/
def execMicrowordStep (a : Act) (dt : Nat) (buf : Fin 8) (lo hi : Nat) (s : State) :
    Host.Outcome State Fault Refusal :=
  s.onBlock (microwordStep a dt buf lo hi)

/-- BIT_TIMER_EXPIRY (R336, R337): BT reaches zero, and the island applies the pending armed set. -/
def bitTimerExpiry (a : Act) (b : Block) : Block :=
  match (vget b.ts a).expAt with
  | none => b
  | some e =>
    let x := (vget b.ts a).armed
    let b := b.onTs a (fun t => { t with bit := max t.bit e, lastExp := e, expAt := none, btDone := true, armed := none })
    match x with
    | some s => applySet b a s
    | none => b

/-- BIT_TIMER_EXPIRY. -/
def execBitTimerExpiry (a : Act) (s : State) : Host.Outcome State Fault Refusal := s.onBlock (bitTimerExpiry a)

/-- FRAME_END (R339): the frame's last bit passes, and its gate falls; a written sector awaits its verify result, a
poisoned one was never written. -/
def frameEnd (a : Act) (b : Block) : Block :=
  match (vget b.ts a).frame with
  | none => b
  | some f => b.guard (!f.paused) (fun b =>
      let b := if f.write then lowerWg b a else lowerRg b a
      let b := b.onTs a (fun t => { t with frame := none, frameDone := true, wgFell := false })
      let b := if f.silent then b
        else if f.write then b.onTs a (fun t => { t with
          transferred := t.transferred + 1
          rewrites := match f.job with
            | some j => if j.op = 2 then nset 0 t.rewrites f.index (nget 0 t.rewrites f.index + 1) else t.rewrites
            | none => t.rewrites
          unverified := match f.job with
            | some j => t.unverified.filter (fun e => e.index ≠ f.index) ++ [⟨f.index, f.buf, 0, 0, j⟩]
            | none => t.unverified })
        else b.onTs a (fun t => { t with transferred := t.transferred + 1 })
      channelRest (releaseSg b a) a)

/-- FRAME_END. -/
def execFrameEnd (a : Act) (s : State) : Host.Outcome State Fault Refusal := s.onBlock (frameEnd a)

/-- SERVO_PREAMBLE_DUE (R341): gates still high are lowered and their frame cut; a servo gate still low is raised. -/
def servoPreambleDue (a : Act) (b : Block) : Block :=
  let t := vget b.ts a
  if t.rg || t.wg then
    let b := lowerRg (cutFrame (lowerWg b a) a) a
    (b.onTs a (fun t => { t with sg := true, sgHeld := false, wedgeDone := false })).bump .TS_EVT_GATEWEDGE a.val
  else if !t.sg then
    (b.onTs a (fun t => { t with sg := true, sgHeld := false, wedgeDone := false })).bump .TS_EVT_SGLATE a.val
  else b

/-- SERVO_PREAMBLE_DUE. -/
def execServoPreambleDue (a : Act) (s : State) : Host.Outcome State Fault Refusal := s.onBlock (servoPreambleDue a)

/-- WEDGE_TRAP_REQUEST (R342): requested before each expected servo preamble while the actuator is loaded. -/
def execWedgeTrapRequest (a : Act) (s : State) : Host.Outcome State Fault Refusal :=
  s.onBlock (fun b => b.guard (loaded b a) (fun b => trapRequest b a 2))

/-- The pending trap to take (R342, R346): the highest priority; STOP only at a SAFE word, while TSa waits for a job,
or when a hard stop forces it, in which case it is taken before the others. -/
def nextTrap (b : Block) (a : Act) : Option Nat :=
  let p := b.get .TS_STATE_PEND a.val
  let t := vget b.ts a
  let safe := t.stopForced || t.await || mwSafe (csWord b a (b.get .TS_STATE_UPC a.val))
  if t.stopForced && bit p 3 then some 3
  else if bit p 0 then some 0 else if bit p 1 then some 1 else if bit p 2 then some 2
  else if bit p 3 && safe then some 3 else none

/-- TRAP_ENTRY (R343, R344): the address of the waiting or next word and the loop counters are saved, and the vector
entered; traps do not nest. -/
def trapEntry (a : Act) (b : Block) : Block :=
  b.guard (tsRunning b a && decide (b.get .TS_STATE_TRAP a.val = 0)) (fun b =>
    match nextTrap b a with
    | none => b
    | some n =>
      let i := a.val
      let b := { b with sys := { b.sys with missRuns := nerase b.sys.missRuns (16 + i) } }
      let b := (b.put .TS_TSAVE_PC i (b.get .TS_STATE_UPC i)).put .TS_TSAVE_KIND i (n + 1)
      let b := (((b.put .TS_TSLC01_LC0 i (b.get .TS_LC01_LC0 i)).put .TS_TSLC01_LC1 i (b.get .TS_LC01_LC1 i)).put
        .TS_TSLC23_LC2 i (b.get .TS_LC23_LC2 i)).put .TS_TSLC23_LC3 i (b.get .TS_LC23_LC3 i)
      let b := b.onTs a (fun t => { t with
        wgAtTrap := t.wg || (t.wgFell && decide (n ≤ 1)), rgAtTrap := t.rg, wgFell := if n ≤ 1 then false else t.wgFell
        savedAwait := t.await, await := false, stopForced := t.stopForced && decide (n ≠ 3) })
      let b := if n = 3 then b.put .TS_STATE_STOPREQ i 0 else b
      let b := (b.put .TS_STATE_PEND i (clearBit (b.get .TS_STATE_PEND i) n)).put .TS_STATE_TRAP i (n + 1)
      (b.put .TS_STATE_UPC i (16 * n)).put .TS_STATE_STATE i 4)

/-- TRAP_ENTRY. -/
def execTrapEntry (a : Act) (s : State) : Host.Outcome State Fault Refusal := s.onBlock (trapEntry a)

/-- STOP_REQUEST (R346). -/
def stopRequest (b : Block) (a : Act) : Block :=
  if tsRunning b a then trapRequest (b.put .TS_STATE_STOPREQ a.val 1) a 3 else b

/-- STOP_REQUEST. -/
def execStopRequest (a : Act) (s : State) : Host.Outcome State Fault Refusal := s.onBlock (fun b => stopRequest b a)

/-- HARD_STOP (R346): 50 µs after a stop request that met no SAFE point. -/
def hardStop (a : Act) (b : Block) : Block :=
  b.guard (b.get .TS_STATE_STOPREQ a.val = 1) (fun b =>
    let b := gatesLow b a
    let b := b.onTs a (fun t => { t with armed := none, expAt := none, stopForced := true })
    trapRequest (b.bump .TS_EVT_HARDSTOP a.val) a 3)

/-- HARD_STOP. -/
def execHardStop (a : Act) (s : State) : Host.Outcome State Fault Refusal := s.onBlock (hardStop a)

/-- SEQUENCER_RESTART (R348): after a sequencer fault the control store is reloaded, and TSa restarts at dispatch. -/
def execSequencerRestart (a : Act) (s : State) : Host.Outcome State Fault Refusal :=
  s.onBlock (fun b => b.guard (decide (b.get .TS_STATE_STATE a.val ∈ [0, 5, 6])) (fun b => tsReload b a))

/-- CONTROL_STORE_WRITE (R351): a bus fault for the writing core unless TSa is STOPPED, in HALT or in FAULT. -/
def controlStoreWrite (a : Act) (word : Fin 4096) (data : BitVec 128) (b : Block) : Block :=
  if b.get .TS_STATE_STATE a.val ∈ [0, 5, 6] then
    b.onTs a (fun t => { t with cs := nset (csDefault word.val) t.cs word.val data.toNat })
  else b.coreFault

/-- CONTROL_STORE_WRITE. -/
def execControlStoreWrite (a : Act) (word : Fin 4096) (data : BitVec 128) (s : State) :
    Host.Outcome State Fault Refusal :=
  s.onBlock (controlStoreWrite a word data)

end Sys2Proof.Machine
end

