-- ==== Sys2Proof/Machine/Requests.lean ====
section
/-! DEFINITION. Media requests taken by an actuator that is free (R106, R124, R257, R284, R330, R380, R554), and the wait of a
partial track (R380). -/

namespace Sys2Proof.Machine

/-! ### Which request is next (R380, R554) -/

/-- The place of a request in its actuator's write order of an owner's rows (R380): data before parity in each row, then by
head and first sector. -/
def orderKey (r : MediaReq) : Option (RowOwner × Nat) :=
  let at_ := fun (k p : Nat) => ((k * 2 + p) * 32 + r.surf % 6) * 4096 + r.first
  match r.for_ with
  | .data o k _ => some (o, at_ k 0)
  | .parity o k _ => some (o, at_ k 1)
  | _ => none

/-- A write that comes before another of the same owner on the same actuator. -/
def comesBefore (x r : MediaReq) : Bool :=
  match orderKey x, orderKey r with
  | some (o, m), some (p, n) => decide (o = p ∧ m < n)
  | _, _ => false

/-- The track of the row before, on the same surface, has passed read-after-write. -/
def trackBefore (b : Block) (o : RowOwner) (k s : Nat) : Bool :=
  decide (k = 0) || (match ownerLog b o with | some l => trackPassed l (k - 1) s | none => true)

/-- Media work of an owner with a pending row waits, but for the data of that row (R124, R431). -/
def pendingHolds (b : Block) (o : RowOwner) (row : Option Nat) : Bool :=
  b.pwr.pending.any (fun r => decide (r.owner = o) && decide (some r.row ≠ row))

/-- A request may be taken: its surface can be reached, the write order is kept, and no pending row stands before it. -/
def eligible (b : Block) (a : Act) (r : MediaReq) : Bool :=
  decide (surfState b r.surf ≠ 2) && !(actQueue b a).any (fun x => comesBefore x r) &&
    !b.xl.active.any (fun x => decide (x.act = a) && comesBefore x r) &&
    (match r.for_ with
     | .data o k _ => trackBefore b o k r.surf && !pendingHolds b o (some k)
     | .parity o k _ => trackBefore b o k r.surf && !pendingHolds b o none
     | _ => true)

/-- The estimated access time of a request from where the actuator is (R554). -/
def accessOf (b : Block) (a : Act) (r : MediaReq) : Nat :=
  Config.accessTime a.val (b.get .AST_STATE_HEAD a.val) ((vget b.srv a).ref / 256).toNat (r.surf % 6) r.track r.first b.now

/-- The request of a list with the least value of a measure; the first of equals. -/
def leastBy (f : MediaReq → Nat) : List MediaReq → Option MediaReq
  | [] => none
  | r :: rs => match leastBy f rs with
    | some x => if f x < f r then some x else some r
    | none => some r

/-- A request has waited 250 ms in the queue. -/
def aged (b : Block) (r : MediaReq) : Bool := decide (r.at_ + 250000 ≤ b.now)

/-- The next request in the order of R554: aged ones, oldest first; urgent ones, then the others, by access time. -/
def nextReq (b : Block) (a : Act) : Option MediaReq :=
  let es := (actQueue b a).filter (eligible b a)
  let old := leastBy (fun r => r.at_) (es.filter (aged b))
  let urgent := leastBy (accessOf b a) (es.filter (fun r => r.urgent))
  (old.orElse (fun _ => urgent)).orElse (fun _ => leastBy (accessOf b a) es)

/-! ### Its track job (R257, R284, R330) -/

/-- The wedges by which a track's sectors start later than those of its band's first track on the actuator's first surface of the row
(R374). A conventional track has no band and no skew. -/
def skewWedges (b : Block) (r : MediaReq) : Nat :=
  if b.cfgN .FMT_Z_KIND 0 r.zone = 1 then 0
  else
    let surfs := match bandServes b (trackBand b r.track) r.surf with | some x => x.2.1.surfs | none => activeSurfs b
    bandRow b r.track * b.cfgN .FMT_SKEW_TRK +
      (surfs.filter (fun s => decide (s / 6 = r.surf / 6 ∧ s < r.surf))).length * b.cfgN .FMT_SKEW_HEAD

/-- The frame-table entry of a sector position (R330, R374): DEFECT at a defective one, LAST at the last of the track. -/
def frameWord (b : Block) (r : MediaReq) (p : Nat) : Nat :=
  let e := Config.frameEntry r.zone p % 2 ^ 46
  let w := (e / 2 ^ 36 + skewWedges b r) % max 1 (b.cfgN .SRV_WEDGES)
  (w * 2 ^ 36 + e % 2 ^ 36) * 2 ^ 18 + (if defectAt b r.surf r.track p then 131072 else 0) +
    (if p + 1 = b.cfgN .FMT_Z_SPT 0 r.zone then 65536 else 0)

/-- GAP and SPAN of a recording zone (R330): SPAN is the wedge period in bits less GAP. -/
def gapSpan (b : Block) (z : Nat) : Nat × Nat :=
  let gap := Config.frameGap z
  (gap, b.cfgN .FMT_Z_BAUD 0 z * 60000000 / max 1 (b.cfgN .FMT_RPM * b.cfgN .SRV_WEDGES) - gap)

/-- The map of a request's track loaded into the bank that no running job uses. -/
def loadFrames (b : Block) (a : Act) (r : MediaReq) : Nat × Block :=
  let bank : Fin 2 := if b.get .TS_FT_BANK a.val = 0 then 1 else 0
  let ft : NMap Nat := (List.range (b.cfgN .FMT_Z_SPT 0 r.zone)).map (fun i => (i, frameWord b r i))
  let b := b.onTs a (fun t => { t with ft := vupd t.ft bank (fun _ => ft.filter (fun e => e.2 ≠ 0)) })
  let g := gapSpan b r.zone
  (bank.val, if bank = 0 then (b.put .TS_GAP0_GAP a.val g.1).put .TS_SPAN0_SPAN a.val g.2
             else (b.put .TS_GAP1_GAP a.val g.1).put .TS_SPAN1_SPAN a.val g.2)

/-- The position of a request's first sector. -/
def firstPosition (b : Block) (r : MediaReq) : Nat := positionOf b r.surf r.track r.first

/-- The reference position of a request (R242): its track, the head's offset, and the jog of the writer against the reader for a
write; where reader L has failed, the servo is taken from reader T, offset by `HDS.RDT_XT` (R263). -/
def refFor (b : Block) (r : MediaReq) : Int :=
  let bad := (vget b.ast ⟨r.surf / 6 % 4, by omega⟩).readerBad[(⟨r.surf % 6, by omega⟩ : Fin 6)]
  (r.track * 256 : Nat) + b.cfg .HDS_HEAD_OFS r.surf + (if r.write then b.cfg .HDS_JOG r.surf r.zone else 0) +
    (if bad = 1 then b.cfg .HDS_RDT_XT r.surf else 0)

/-- The actuator sent to a position: a change of head or reference is a seek, and what is already followed stays so. -/
def sendActuator (b : Block) (a : Act) (r : MediaReq) : Block :=
  let v := vget b.srv a
  let ref := refFor b r
  let moves := decide (ref ≠ v.ref) || decide (b.get .SRV_STATE_HEAD a.val ≠ r.surf)
  let b := (selectHead b a r.surf).onSrv a (fun v => { v with sentAt := b.now })
  if moves then
    (b.onSrv a (fun v => { v with
      seekN := 0, seekLen := (ref - v.ref).natAbs, ref := ref, forWrite := r.write, settleRun := 0, readRun := 0, readSettled := false, writeSettled := false })).put
      .SRV_STATE_MODE a.val SrvMode.seek.code
  else
    let b := b.onSrv a (fun v => { v with forWrite := r.write })
    if r.write && !v.writeSettled then b.put .SRV_STATE_MODE a.val SrvMode.settle.code else b

/-- What AEa sends before channel ready: the reader biases of a head that is selected (R283), and the write current where the head or
the recording zone changes (R306). -/
def sendForHead (b : Block) (a : Act) (r : MediaReq) : Block :=
  let h := r.surf % 6
  let newHead := decide (b.get .CH_STATE_HEAD a.val ≠ h) || decide (nget 0 (vget b.ast a).pre (h * 256 + preampAddr 0) = 0)
  let b := if newHead then sendBiases b a h else b
  if newHead || decide (b.get .CH_STATE_ZONE a.val ≠ r.zone) then sendWriteCurrent b a h r.zone else b

/-- The channel retuned where the head or the recording zone changes (R284). -/
def retune (b : Block) (a : Act) (r : MediaReq) : Block :=
  let h := r.surf % 6
  if b.get .CH_STATE_HEAD a.val = h ∧ b.get .CH_STATE_ZONE a.val = r.zone ∧ (vget b.ts a).chReady = true then b
  else
    let b := (sendForHead b a r).onTs a (fun t => { t with chReady := false })
    (((b.put .CH_STATE_HEAD a.val h).put .CH_STATE_ZONE a.val r.zone).putSat .CH_STATE_RATE a.val
      (b.cfgN .FMT_Z_BAUD 0 r.zone / 50)).put .CH_STATE_MODE a.val 4

/-- The settings of a request's head and zone (R257): for a write the write heater setting waits for the wedge before its first sector,
or write ready is reported at once when it is the setting in force; for a read the read setting is sent. -/
def preheatFor (b : Block) (a : Act) (r : MediaReq) : Block :=
  let h := r.surf % 6
  let b := showTrim ((b.put .AST_STATE_HEAD a.val h).put .AST_STATE_ZONE a.val r.zone) a h r.zone
  if r.write then
    let same := decide (headHeater b a h r.zone true = b.get .AST_HCLR_HTR r.surf)
    let b := if same then applySettings b a true else b
    (b.onAst a (fun v => { v with
      wrReady := same, preheat := false, restore := false
      heatAt := if same then none else some (ftStartWedge (frameWord b r (firstPosition b r))) })).put .AST_STATE_LOOP a.val (if same then 3 else 2)
  else
    ((applySettings b a false).onAst a (fun v => { v with
      wrReady := false, preheat := false, restore := false, heatAt := none })).put .AST_STATE_LOOP a.val 1

/-- A sector of the channel is being re-read: the actuator stays on its track, and its other requests wait (R298). -/
def ladderHolds (b : Block) (a : Act) : Bool :=
  (vget b.ch a).sectors.any (fun x => decide (x.phase = .reread) || decide (5 ≤ x.rung))

/-- A request handed to TSa as a track job. A conventional track has no band, and its sectors' generation is 0 (DESIGN CHOICE, log
entry 159). -/
def serve (b : Block) (a : Act) (r : MediaReq) : Block :=
  let b := b.onXl (fun x => { x with
    queues := vupd x.queues a (fun q => dropFirst (fun y => decide (y.tag = r.tag)) q)
    active := if x.active.any (fun y => y.tag = r.tag) then x.active else x.active ++ [r] })
  let b := admitBeyond b a
  let b := if aged b r then b.bump .NV_AGED_COUNT 0 else b
  let (bank, b) := loadFrames b a r
  let j : TsJob := ⟨if r.write then 1 else 0, ⟨r.surf % 6, by omega⟩, r.zone, r.track, firstPosition b r, r.count, bank, 0,
    (if b.cfgN .FMT_Z_KIND 0 r.zone = 1 then 0 else (bandInfo b (trackBand b r.track) r.surf).gen), r.tag⟩
  let b := b.onTs a (fun t => { t with jobs := t.jobs ++ [j] })
  preheatFor (retune (sendActuator b a r) a r) a r

/-- A track that holds sectors: a data track of a band, or a conventional one (R372, R373). -/
def sectorTrack (b : Block) (track : Nat) : Bool :=
  let z := trackZone b track
  let n := track - b.cfgN .FMT_Z_TRACK 0 z
  if b.cfgN .FMT_Z_KIND 0 z = 1 then
    decide (n % 2 = 0 ∧ n / 2 < (zoneEnd b z - b.cfgN .FMT_Z_TRACK 0 z - b.cfgN .FMT_CAL_TRK + 1) / 2)
  else isBandTrack b track

/-- The first of n tracks from one on that holds sectors, with the number of tracks from it on. -/
def nextSectorTrack (b : Block) : Nat → Nat → Option (Nat × Nat)
  | 0, _ => none
  | n + 1, track => if sectorTrack b track then some (track, n + 1) else nextSectorTrack b n (track + 1)

/-- The next track of a running Media Patrol on an actuator whose surface can be read (R593), queued there. -/
def patrolNext (b : Block) (a : Act) : Block :=
  match b.nvm.patrol.find? (fun x => decide (x.1 / 6 = a.val) && !surfNoRead b x.1 && decide (surfState b x.1 ≠ 2)) with
  | none => b
  | some x =>
    let rest := b.nvm.patrol.filter (fun y => y ≠ x)
    match nextSectorTrack b x.2.2 x.2.1 with
    | none => b.onNvm (fun n => { n with patrol := rest })
    | some (t, left) =>
      let b := b.onNvm (fun n => { n with patrol := if left ≤ 1 then rest else (x.1, t + 1, left - 1) :: rest })
      newReq b .patrol x.1 t 0 (zoneT b (trackZone b t)) false false

/-- ACTUATOR_DISPATCH (R82, R554): Aa is free (in RUN, tracking, without a job, within the power-state limit, its engines not being
swapped by an activation) and takes the next eligible request; where there is none, a Media Patrol that runs takes the next track of
Aa. The patrol so takes idle time alone, and its share under load is never exceeded (R593; DESIGN CHOICE, log entry 171). -/
def actuatorDispatch (a : Act) (b : Block) : Block :=
  b.guard (decide (b.mode = .run) && decide (b.srvMode a ∈ [.follow, .settle]) && (vget b.ts a).jobs.isEmpty &&
      (vget b.ts a).cur.isNone && !jobHolds b a && !swapHolds b a && !ladderHolds b a && actGrant b a) (fun b =>
    let b := if (nextReq b a).isNone && patrolRuns b then patrolNext b a else b
    match nextReq b a with
    | some r => serve (if r.for_ = .patrol then b else nimYield b a) a r
    | none => b)

/-- ACTUATOR_DISPATCH. -/
def execActuatorDispatch (a : Act) (s : State) : Host.Outcome State Fault Refusal := s.onBlock (actuatorDispatch a)

/-- RUN_WAIT_EXPIRY (R380): data of a part of a data track has waited `XLT.RUN_WAIT`, and the part is written. -/
def execRunWaitExpiry (o : RowOwner) (s : State) : Host.Outcome State Fault Refusal :=
  s.onBlock (fun b => b.guard (decide (b.mode = .run)) (fun b => feedPartial b o))

end Sys2Proof.Machine
end

