-- ==== Sys2Proof/Machine/Translation.lean ====
section
/-! DEFINITION. The translation layer's own work: band copies (R376, R394 to R399), the media cache, cleaning and compaction
(R390, R391, R402), head wear (R400), retention (R394), and the end of read-only (R405). -/

namespace Sys2Proof.Machine

/-! ### Bands due for a copy (R394, R398) -/

/-- An owner's bands may be copied (R398): a zone that is not active, a group that is closed. -/
def copyable (b : Block) (o : RowOwner) : Bool :=
  match o with
  | .zone n lba => (match zoneFind b n (lba / zoneSize) with | some z => !zoneIsActive z | none => false)
  | .conv id => (match groupFind b id with | some g => g.closed | none => false)
  | .mcache _ => false

/-- The index of a due band, where it can be copied now by an actuator: on one of its written surfaces, not yet being
copied, and its owner at rest. -/
def dueReady (b : Block) (a : Act) (d : Nat × Nat) : Option Nat :=
  let s := d.1 % 32
  if s / 6 = a.val ∧ surfState b s = 1 then
    match bandServes b (d.1 / 32) s with
    | some (o, _, g) =>
      if copyable b o && !b.xl.copies.any (fun c => decide (c.band = g ∧ c.surf = s)) then some g else none
    | none => none
  else none

/-- The next due band of an actuator: by cause, then in the order in which they became due. -/
def nextDue (b : Block) (a : Act) : List (Nat × Nat) → Option ((Nat × Nat) × Nat)
  | [] => none
  | d :: ds =>
    match dueReady b a d, nextDue b a ds with
    | some g, some x => if x.1.2 < d.2 then some x else some (d, g)
    | some g, none => some (d, g)
    | none, x => x

/-- A band without any replacement, when a track of it became unusable (R376): it is reported lost. -/
def loseBand (b : Block) (key : Nat) : Block :=
  let b := b.onXl (fun x => { x with
    lostBands := if key ∈ x.lostBands then x.lostBands else x.lostBands ++ [key], due := x.due.filter (fun d => d.1 ≠ key) })
  zonesReadOnly b

/-- BAND_COPY_START (R394, R396, R398): the next due band of the actuator has a target chosen by the order of R376. With none
free the copy waits; a remap's band is reported lost. -/
def bandCopyStart (a : Act) (b : Block) : Block :=
  b.guard (decide (b.mode = .run) && decide (b.srvMode a ≠ .failed)) (fun b =>
    match nextDue b a b.xl.due with
    | none => b
    | some (d, g) =>
      let s := d.1 % 32
      match replacement b (d.1 / 32 / 2 ^ 20) s with
      | some t => evalSpace (b.onXl (fun x => { x with
          taken := x.taken ++ [t * 32 + s], copies := x.copies ++ [⟨g, s, t, d.2, b.now⟩] }))
      | none => if d.2 = 0 then loseBand b d.1 else b)

/-- BAND_COPY_START. -/
def execBandCopyStart (a : Act) (s : State) : Host.Outcome State Fault Refusal := s.onBlock (bandCopyStart a)

/-- The copy that runs on an actuator. -/
def runningCopy (b : Block) (a : Act) : Option BandCopy := b.xl.copies.find? (fun c => c.surf / 6 = a.val)

/-- A physical band freed by a copy: a spare, or a band lent by a free index, is so again; the index's own band joins the freed
ones. -/
def freeSource (b : Block) (phys s : Nat) : Block :=
  if phys * 32 + s ∈ b.xl.taken then b.onXl (fun x => { x with taken := x.taken.filter (· ≠ phys * 32 + s) })
  else b.onXl (fun x => { x with released := x.released ++ [phys * 32 + s] })

/-- A band retired: never used again, and counted. -/
def retireBand (b : Block) (phys s : Nat) : Block :=
  (b.onXl (fun x => { x with
    taken := x.taken.filter (· ≠ phys * 32 + s), retired := x.retired ++ [phys * 32 + s] })).bump .XL_BANDFAIL_RETIRED 0

/-- The copies completed, by cause (R414). -/
def countCopy (b : Block) (cause : Nat) : Block :=
  if cause = 1 then b.bump .XL_COPYEVT_RECON 0
  else if cause = 2 then b.bump .XL_COPYEVT_WEAK 0
  else if cause = 3 then b.bump .XL_COPYEVT_DIST 0
  else if cause = 4 then b.bump .XL_COPYEVT_RET 0
  else if cause = 0 then b.bump .XL_SPARE_USED 0
  else b

/-- The tracks of an index on a surface are written whole by its copy: none of its rows' tracks there is virtual any longer
(R445). -/
def restoreTracks (b : Block) (g s : Nat) : Block :=
  let hit := fun (o : RowOwner) (k : Nat) => match ownerLog b o with
    | some l => if k < b.cfgN .FMT_BAND_TRK then decide (l.band = g) else
        (match l.ext with | some e => decide (e.1 = g) | none => false)
    | none => false
  let n := (b.xl.degraded.filter (fun d => hit d.1 d.2.1 && decide (d.2.2.1 = 2 ^ s))).length
  countJob (b.onXl (fun x => { x with
    degraded := (x.degraded.map (fun d => if hit d.1 d.2.1 then (d.1, d.2.1, clearBit d.2.2.1 s, d.2.2.2) else d)).filter
      (fun d => d.2.2.1 ≠ 0) })) 3 n 0

/-- A copy's journal entry (R392, R396, R382, R375): the target serves in place of the source, one generation on, and the
source is free; after a remap it is retired. -/
def commitCopy (b : Block) (c : BandCopy) : Block :=
  let s := c.surf
  let src := bandOf b c.band s
  let info := bandInfo b src s
  let inSrc := fun (k : Nat) => decide (k / 2 ^ 36 = s) && decide (trackBand b (k / 2 ^ 14 % 2 ^ 22) = src)
  let key := c.band * 32 + s
  let b := b.onXl (fun x => { x with
    bandMap := if c.target = setPhys b c.band then nerase x.bandMap key else ninsert (nerase x.bandMap key) key c.target
    copies := x.copies.filter (fun d => d ≠ c)
    due := x.due.filter (fun d => d.1 ≠ src * 32 + s)
    reloc := x.reloc.filter (fun e => !inSrc e.1)
    defects := x.defects ++ (x.grown.filter inSrc).filter (fun k => !decide (k ∈ x.defects))
    grown := x.grown.filter (fun k => !inSrc k) })
  let b := if c.cause = 0 then retireBand b src s else freeSource b src s
  let b := putBand b c.target s ⟨(info.gen + 1) % 2 ^ 32, b.now / 3600000000 % 2 ^ 24,
    (vget b.ast ⟨s / 6 % 4, by omega⟩).temp, 0⟩
  let b := (List.range (b.cfgN .FMT_BAND_TRK)).foldl (fun b k => disturbNeighbours b s (bandTrack b c.target k)) b
  evalSpace (restoreTracks (countCopy b c.cause) c.band s)

/-- BAND_COPY_COMMIT (R396): every target track of the actuator's copy has passed. -/
def bandCopyCommit (a : Act) (b : Block) : Block :=
  match runningCopy b a with
  | some c => commitCopy b c
  | none => b

/-- BAND_COPY_COMMIT. -/
def execBandCopyCommit (a : Act) (s : State) : Host.Outcome State Fault Refusal := s.onBlock (bandCopyCommit a)

/-- BAND_COPY_TARGET_FAIL (R397): the target is retired, and the copy starts again on the next free band; with none it waits with
its source mapped. Each retirement and retarget is recorded as code 0x0801. -/
def bandCopyTargetFail (a : Act) (b : Block) : Block :=
  match runningCopy b a with
  | none => b
  | some c =>
    let b := (retireBand b c.target c.surf).sepia 0x0801 (srcCC 0) c.surf c.target
    let b := b.onXl (fun x => { x with copies := x.copies.filter (fun d => d ≠ c) })
    match replacement b (bandOf b c.band c.surf / 2 ^ 20) c.surf with
    | some t =>
      let b := b.onXl (fun x => { x with
        taken := x.taken ++ [t * 32 + c.surf], copies := x.copies ++ [{ c with target := t }] })
      evalSpace ((b.bump .XL_BANDFAIL_RETARGET 0).sepia 0x0801 (srcCC 0) c.surf t)
    | none => evalSpace b

/-- BAND_COPY_TARGET_FAIL. -/
def execBandCopyTargetFail (a : Act) (s : State) : Host.Outcome State Fault Refusal := s.onBlock (bandCopyTargetFail a)

/-! ### The media cache (R390) -/

/-- Surfaces whose conventional track can take a media-cache row: ACTIVE, the track usable, and neither a row nor a relocated sector on
it (R374, R390). -/
def rowCandidates (b : Block) (track : Nat) : List Nat :=
  rowOrder.filter (fun s => decide (surfState b s = 1) &&
    !b.xl.mcRows.any (fun r => decide (r.log.band = 2 ^ 32 + track ∧ s ∈ r.log.surfs)) &&
    !b.xl.reloc.any (fun e => decide (e.2 / 2 ^ 14 = sectorKey s track 0 / 2 ^ 14)) &&
    decide (trackDefects b s track ≤ b.cfgN .FMT_Z_SPARE_SECT 0 (trackZone b track)))

/-- A new open media-cache row (R390, R401, R423): on the outermost conventional track that is free on enough surfaces, with the m of the
conventional namespaces now; the tracks are written whole, and their grown defects take effect (R375). -/
def newMcRow (b : Block) : Option (McRow × Block) :=
  ((convTrackList b).findSome? (fun t => (chooseSurfs b (rowCandidates b t)).map (fun ss => (t, ss)))).map (fun x =>
    let here := fun (k : Nat) => x.2.any (fun s => decide (k / 2 ^ 14 = sectorKey s x.1 0 / 2 ^ 14))
    let b := b.onXl (fun y => { y with
      defects := y.defects ++ (y.grown.filter here).filter (fun k => !decide (k ∈ y.defects)), grown := y.grown.filter (fun k => !here k) })
    let r : McRow := ⟨b.xl.nextRow, ⟨2 ^ 32 + x.1, none, x.2, convM b, zoneT b (trackZone b x.1), 0, 0, 0, []⟩, false⟩
    (r, journalEntry (b.onXl (fun y => { y with mcRows := y.mcRows ++ [r], nextRow := y.nextRow + 1 }))))

/-- A cached block placed at the end of the open media-cache row; none where no conventional track is free for a new one. -/
def placeRow (b : Block) (key : Nat) : Option Block :=
  let at_ := match b.xl.mcRows.find? (fun r => !r.closed) with
    | some r => some (r, b)
    | none => newMcRow b
  at_.map (fun x =>
    let r := x.1
    x.2.onXl (fun y => { y with
      cached := updFirst (fun c => c.1 = key) (fun c => (c.1, r.id * 2 ^ 20 + r.log.wp + 1)) y.cached
      mcRows := updFirst (fun q => q.id = r.id) (fun q =>
        { q with log := { q.log with wp := q.log.wp + 1 }, closed := decide (rowBlocks q.log ≤ q.log.wp + 1) }) y.mcRows }))

/-- Cached blocks placed in media-cache rows as far as these have room. -/
def placeRows : List Nat → Block → Block
  | [], b => b
  | k :: ks, b => match placeRow b k with
    | some b => placeRows ks b
    | none => b

/-- Cached blocks in the NAND that no media-cache row is to take, oldest first. -/
def unplaced (b : Block) : List Nat :=
  (b.xl.cached.filter (fun c => decide (c.2 = 0 ∧ nget 0 b.ns.map c.1 ≠ 0))).map (fun c => c.1)

/-- The oldest cached blocks moved to media-cache rows until n remain in the NAND (R390): their slots are given up as their tracks
pass. -/
def destage (b : Block) (n : Nat) : Block :=
  let b := placeRows ((unplaced b).take ((unplaced b).length - n)) b
  b.xl.mcRows.foldl (fun b r => feedLog b (.mcache r.id)) b

/-- The greatest number of cached blocks whose share is at most `XLT.MC_LOW`. -/
def lowMark (b : Block) : Nat := (b.cfgN .XLT_MC_LOW + 1) * (cacheBlocks b * 8192) / 100

/-- MEDIA_CACHE_DESTAGE (R390): the share exceeds `XLT.MC_HIGH`. -/
def mediaCacheDestage (b : Block) : Block :=
  b.guard (decide (b.mode = .run) && decide (b.cfgN .XLT_MC_HIGH < nandShare b (cachedInNand b).length)) (fun b =>
    destage b (lowMark b - 1))

/-- MEDIA_CACHE_DESTAGE. -/
def execMediaCacheDestage (s : State) : Host.Outcome State Fault Refusal := s.onBlock mediaCacheDestage

/-! ### Cleaning (R391, R402) -/

/-- The cached blocks of an extent. -/
def cachedOf (b : Block) (nsid ext : Nat) : List Nat :=
  (b.xl.cached.map (fun c => c.1)).filter (fun k => decide (blockKey nsid (ext * 256) ≤ k ∧ k < blockKey nsid (ext * 256) + 256))

/-- A whole extent written at the log head by cleaning: its 256 blocks are dirty until they are on media; nothing changes where
the dirty budget or the pool has no room. -/
def rewriteExtent (b : Block) (n : Namespace) (ext : Nat) : Option Block :=
  if dirtyCap b < dirtyCount b + 256 then none
  else (placeExtent b n ext).map (fun b => dirtyAdd b (rangeKeys n.nsid (ext * 256) 256))

/-- The namespace that a running Conventional Compact names. -/
def compactJob (b : Block) : Option Nat := (b.nvm.jobs.find? (fun j => j.type = 6 ∧ j.state = 2)).map (fun j => j.nsid)

/-- CLEANING_MERGE (R391): an extent's cached blocks are applied to it. -/
def cleaningMerge (nsid ext : Nat) (b : Block) : Block :=
  b.guard (decide (b.mode = .run) && !(cachedOf b nsid ext).isEmpty) (fun b =>
    match nsFind b nsid with
    | some n => if n.zoned then b
      else match rewriteExtent b n ext with
        | some c => evalSpace (if decide (compactJob b = some nsid) then countJob c 6 1 0 else c)
        | none => evalSpace b
    | none => b)

/-- CLEANING_MERGE. -/
def execCleaningMerge (nsid ext : Nat) (s : State) : Host.Outcome State Fault Refusal := s.onBlock (cleaningMerge nsid ext)

/-- Free groups of the pool: how many more groups its free bands hold. -/
def freeGroups (b : Block) : Nat :=
  (b.xl.pool.map (fun g => ((activeSurfs b).filter (fun s =>
    !b.xl.groups.any (fun x => decide (x.log.band = g) && decide (s ∈ x.log.surfs)))).length /
      max 1 (b.cfgN .XLT_CONV_WIDTH))).sum

/-- The valid extents of a group, as keys of the extent map. -/
def validExtents (b : Block) (g : Group) : List Nat :=
  (b.xl.extents.filter (fun e => (e.2 - 1) / 2 ^ 20 = g.id)).map (fun e => e.1)

/-- The group of a list with the fewest valid extents. -/
def leastValid (b : Block) : List Group → Option Group
  | [] => none
  | g :: gs => match leastValid b gs with
    | some x => if (validExtents b x).length < (validExtents b g).length then some x else some g
    | none => some g

/-- The smallest wear among the active heads. -/
def leastWear (b : Block) : Nat :=
  ((activeSurfs b).map (wearMs b)).foldl (fun m w => match m with | none => some w | some x => some (min x w))
    (none : Option Nat) |>.getD 0

/-- A cold group on a worn surface (R402). -/
def coldGroup (b : Block) (g : Group) : Bool :=
  decide (g.lastHour + b.cfgN .XLT_COLD_H ≤ b.now / 3600000000) &&
    g.log.surfs.any (fun s => decide (leastWear b + 3600000 * b.cfgN .XLT_WEAR_SPREAD_H ≤ wearMs b s))

/-- The group to compact next (R391, R402, R450): one on a surface that is retiring; the one with the least valid data while the
free groups are low or a job runs; else, while levelling is active, a cold group on a worn head. -/
def compactionVictim (b : Block) : Option Group :=
  let closed := b.xl.groups.filter (fun g => g.closed)
  let mask := retireMask b
  let retiring := closed.find? (fun g => g.log.surfs.any (fun s => bit mask s))
  let low := if decide (freeGroups b < b.cfgN .XLT_GC_LOW) || compactRuns b then leastValid b closed else none
  let cold := if b.get .XL_STATE_LEVEL 0 = 1 then closed.find? (coldGroup b) else none
  (retiring.orElse (fun _ => low)).orElse (fun _ => cold)

/-- The valid extents of a group written at the log head as far as the budget and the pool have room. -/
def moveExtents (b : Block) (n : Namespace) : List Nat → Block
  | [] => b
  | e :: es => match rewriteExtent b n (e % 2 ^ 32) with
    | some b => moveExtents b n es
    | none => b

/-- The cached blocks of a media-cache row on a surface that is retiring (R450). -/
def retiringRow (b : Block) : List Nat :=
  match b.xl.mcRows.find? (fun r => r.closed && r.log.surfs.any (fun s => bit (retireMask b) s)) with
  | some r => (b.xl.cached.filter (fun c => decide (0 < c.2 ∧ (c.2 - 1) / 2 ^ 20 = r.id))).map (fun c => c.1)
  | none => []

/-- The extents of cached blocks written at the log head as far as the budget and the pool have room, each with its cached blocks. -/
def moveRow (b : Block) : List Nat → Block
  | [] => b
  | k :: ks => match nsFind b (k / 2 ^ 48) with
    | none => moveRow b ks
    | some n =>
      if !b.xl.cached.any (fun c => c.1 = k) then moveRow b ks
      else match rewriteExtent b n (k % 2 ^ 48 / 256) with
        | some c => moveRow c ks
        | none => b

/-- GROUP_COMPACTION (R391, R450): a group's valid extents move to the log head, and its bands are free once none is left in it. Where no
group is due, a media-cache row on a surface that is retiring is compacted into groups. -/
def groupCompaction (b : Block) : Block :=
  b.guard (decide (b.mode = .run)) (fun b =>
    match compactionVictim b with
    | none =>
      let rows := b.xl.mcRows.length
      let b := moveRow b (retiringRow b)
      evalSpace (if b.xl.mcRows.length < rows then countJob b 2 (rows - b.xl.mcRows.length) 0 else b)
    | some g =>
      match nsFind b g.nsid with
      | none => freeGroup b g
      | some n =>
        let b := moveExtents b n (validExtents b g)
        evalSpace (if (validExtents b g).isEmpty then
          let b := if g.log.surfs.any (fun s => bit (retireMask b) s) then countJob b 2 1 0 else b
          freeGroup (if decide (compactJob b = some g.nsid) then countJob b 6 0 1 else b) g
        else b))

/-- GROUP_COMPACTION. -/
def execGroupCompaction (s : State) : Host.Outcome State Fault Refusal := s.onBlock groupCompaction

/-! ### Head wear and retention (R394, R400) -/

/-- Bands that hold data, as band × 32 + surface. -/
def heldBands (b : Block) : List Nat :=
  ((bandLogs b).flatMap (fun x => x.2.surfs.flatMap (fun s =>
    (bandOf b x.2.band s * 32 + s) :: (match x.2.ext with | some e => [bandOf b e.1 s * 32 + s] | none => [])))).eraseDups

/-- Bands whose retention score has reached `XLT.RET_H` become due. -/
def retentionDue (b : Block) : Block :=
  (heldBands b).foldl (fun b k =>
    if retentionReached b (bandInfo b (k / 32) (k % 32)) 4 then bandDue b (k / 32) (k % 32) 4 else b) b

/-- The surface of a list with the most wear, and the one with the least. -/
def mostWorn (b : Block) (l : List Nat) : Nat := l.foldl (fun m s => if wearMs b m < wearMs b s then s else m) (l.headD 0)
/-- The surface of a list with the least wear. -/
def leastWorn (b : Block) (l : List Nat) : Nat := l.foldl (fun m s => if wearMs b s < wearMs b m then s else m) (l.headD 0)

/-- WEAR_SPREAD_REFRESH (R400, R416): the hourly spread over the active heads, and levelling. -/
def wearSpreadRefresh (b : Block) : Block :=
  let ss := activeSurfs b
  let mx := mostWorn b ss
  let mn := leastWorn b ss
  let spread := (wearMs b mx - wearMs b mn) / 3600000
  let lim := b.cfgN .XLT_WEAR_SPREAD_H
  let b := ((b.putSat .XL_WEAR_SPREAD 0 spread).put .XL_WEAR_MAX 0 mx).put .XL_WEAR_MIN 0 mn
  let b := if lim ≤ spread then b.put .XL_STATE_LEVEL 0 1
    else if 100 * spread < 80 * lim then b.put .XL_STATE_LEVEL 0 0 else b
  retentionDue b

/-- WEAR_SPREAD_REFRESH. -/
def execWearSpreadRefresh (s : State) : Host.Outcome State Fault Refusal :=
  s.onBlock (fun b => b.guard b.boot.journalUp wearSpreadRefresh)

/-! ### Read-only (R405) -/

/-- READ_ONLY_EXIT (R405): free bands are back at the Final Reserve plus the hysteresis; read-only ends unless the NAND is
exhausted. -/
def readOnlyExit (b : Block) : Block :=
  b.guard (b.xl.belowReserve && decide (finalReserve b + b.cfgN .XLT_RO_HYST ≤ freeBands b)) (fun b =>
    let b := b.onXl (fun x => { x with belowReserve := false })
    if b.ns.exhausted then b else refreshWarnings (b.put .XL_STATE_RO 0 0))

/-- READ_ONLY_EXIT. -/
def execReadOnlyExit (s : State) : Host.Outcome State Fault Refusal := s.onBlock readOnlyExit

end Sys2Proof.Machine
end

