-- ==== Sys2Proof/Machine/Parity.lean ====
section
/-! DEFINITION. Solves of reconstruction (R437 to R440), the notice of changed zones (R436), and zones rebuilt by Surface Retire
(R447 to R452). -/

namespace Sys2Proof.Machine

/-! ### The solve (R437, R438, R440) -/

/-- The symbols read from a surface's track for a reconstruction. -/
def symbolsRead (read : List (Nat × Nat)) (s : Nat) : Nat := ((read.find? (fun r => r.1 = s)).map (fun r => r.2)).getD 0

/-- The data tracks of a reconstruction's row that are not missing, with their symbols: as read, and in an open row's track that is not on
media yet as written so far, a sector not yet written counting as zero (R429). -/
def knownTracks (b : Block) (l : RowLog) (x : Recon) (read : List (Nat × Nat)) : List (Nat × Nat) :=
  let miss := missingTracks b l x
  ((dataSurfs l x.row).zip (List.range (dataSurfs l x.row).length)).filterMap (fun d =>
    if d.1 ∈ miss then none
    else if trackPassed l x.row d.1 then some (d.2, symbolsRead read d.1)
    else some (d.2, nget 0 (openRowOf b x.owner x.row).included (d.2 * 1024 + x.sector) - 1))

/-- The parity sectors that a reconstruction can use, in ascending r: as read, or an open row's accumulators (R429). -/
def knownParity (b : Block) (l : RowLog) (x : Recon) (read : List (Nat × Nat)) : List (Nat × Nat) :=
  if x.row < l.rowsDone then (paritySources b l x).map (fun s => (parityTrackOf l x.row s, symbolsRead read s))
  else (List.range l.m).map (fun r => (r, nget 0 (openRowOf b x.owner x.row).sums (r * 1024 + x.sector)))

/-- The missing data tracks of a reconstruction's row. -/
def unknownTracks (b : Block) (l : RowLog) (x : Recon) : List Nat :=
  ((dataSurfs l x.row).zip (List.range (dataSurfs l x.row).length)).filterMap (fun d =>
    if d.1 ∈ missingTracks b l x then some d.2 else none)

/-- The solve for a row's missing data tracks (R437), with whether the check track's parity matches: none without a check track. -/
def solveRow (b : Block) (l : RowLog) (x : Recon) (read : List (Nat × Nat)) : Option (List (Nat × Nat) × Option Bool) :=
  let known := knownTracks b l x read
  let par := knownParity b l x read
  let miss := unknownTracks b l x
  if par.length < miss.length then none
  else (solveTracks miss known (par.take miss.length)).map (fun sol =>
    (sol, (par[miss.length]?).map (fun c => decide (encodeParity c.1 (known ++ sol) = c.2))))

/-- The row that Sepia's code 0x0903 names (R648): the namespace, and the row with the zone's first LBA or, with bit 55 set, the
group's band-set index. -/
def rowName (b : Block) (x : Recon) : Nat × Nat :=
  match x.owner with
  | .zone n lba => (n, x.row % 256 * 2 ^ 56 + lba % 2 ^ 55)
  | .conv id => (match groupFind b id with
      | some g => (g.nsid, x.row % 256 * 2 ^ 56 + 2 ^ 55 + g.log.band % 2 ^ 55)
      | none => (0, x.row % 256 * 2 ^ 56 + 2 ^ 55))
  | .mcache _ => (0, x.row % 256 * 2 ^ 56 + 2 ^ 55)

/-- A reconstructed sector's unit (R440), deciphered for the command that reads it. -/
def deliverSector (b : Block) (x : Recon) (symbols : Nat) : Block :=
  match x.for_ with
  | .host p sq cid lba =>
    match cmdFind b p sq cid with
    | some c => match nsFind b c.nsid with
      | some n =>
        let unit := if n.meta8 then symbols else symbols / 2 ^ 64
        let i := ((cmdSources c).takeWhile (fun y => decide (y ≠ lba))).length
        cmdPart (putCmd b { c with data := c.data.set i (plainUnit b n lba unit) }) p sq cid .success
      | none => cmdPart b p sq cid .success
    | none => b
  | _ => b

/-- What the media hold of a reconstructed sector's block once it is relocated. -/
def keepSector (b : Block) (l : RowLog) (x : Recon) (symbols : Nat) : Block :=
  match dataTrackOf l x.row x.surf with
  | none => b
  | some j => match ownerBlock b x.owner (x.row * rowBlocks l + j * l.t + x.sector) with
    | none => b
    | some key =>
      let wide := match nsFind b (key / 2 ^ 48) with | some n => n.meta8 | none => false
      b.onXl (fun t => { t with data := nset 0 t.data key ((if wide then symbols else symbols / 2 ^ 64) + 1) })

/-- A sector reconstructed (R440): relocated with its band due where its surface is in service, else returned only; its
command's part ends. -/
def reconDone (b : Block) (l : RowLog) (x : Recon) (symbols : Nat) : Block :=
  let b := b.bump .BP_RECON_SECT 0
  let key := sectorKey x.surf x.track (positionOf b x.surf x.track x.sector)
  let b := if surfState b x.surf ∈ [1, 3] then
      let b := keepSector b l x symbols
      let b := (relocate b x.owner x.row x.surf x.sector key none).getD b
      if b.cfgN .FMT_Z_KIND 0 (trackZone b x.track) = 0 then bandDue b (trackBand b x.track) x.surf 1 else b
    else b
  deliverSector (b.onXl (fun t => { t with recons := t.recons.filter (fun y => y.id ≠ x.id) })) x symbols

/-- RECONSTRUCTION_SOLVE (R437, R438): with all sources read, the engine solves and checks. Without a check track the result stands
unverified; after a first failed check the sources are read again, after a second the sector is unrecovered. `read` is what was read
from each source's surface. -/
def reconstructionSolve (id : Nat) (read : List (Nat × Nat)) (b : Block) : Block :=
  match reconFind b id with
  | none => b
  | some x =>
    match ownerLog b x.owner with
    | none => b
    | some l =>
      b.guard (decide (x.sourcesLeft = 0)) (fun b =>
        match solveRow b l x read, dataTrackOf l x.row x.surf with
        | some (sol, ok), some j =>
          let v := ((sol.find? (fun d => d.1 = j)).map (fun d => d.2)).getD 0
          (match ok with
          | none => reconDone (b.bump .BP_RECON_UNVER 0) l x v
          | some true => reconDone b l x v
          | some false =>
            if !x.repeated then
              let y := { x with repeated := true }
              readSources (putRecon b y) y false
            else
              let r := rowName b x
              reconFails ((b.bump .BP_RECON_FAIL 0).sepia 0x0903 (srcCC 0) r.1 r.2) x)
        | _, _ => reconFails b x)

/-- RECONSTRUCTION_SOLVE. -/
def execReconstructionSolve (id : Nat) (read : List (Nat × Nat)) (s : State) : Host.Outcome State Fault Refusal :=
  s.onBlock (reconstructionSolve id read)

/-! ### Zones changed (R436) -/

/-- The zones whose recommendations differ from what the last notice told (R584), with what they are now. -/
def recommendChanges (b : Block) : List ((Nat × Nat) × Nat) :=
  (b.xl.zones.map (fun z => ((z.nsid, z.k), zoneAttributes b z))).filter (fun e =>
    decide (nget 0 b.xl.told (e.1.1 * 2 ^ 32 + e.1.2) ≠ e.2))

/-- ZONE_DESCRIPTOR_CHANGED_NOTICE (R436, R584): the zones whose capacity or recommendation changed enter the Changed Zone List of every
controller their namespace is attached to, and the notice follows there. -/
def zoneChangedNotice (b : Block) : Block :=
  let rec_ := recommendChanges b
  let zs := b.xl.changed ++ (rec_.map (fun e => e.1)).filter (fun z => !decide (z ∈ b.xl.changed))
  b.guard (!zs.isEmpty) (fun b =>
    let b := b.onXl (fun x => { x with
      changed := [], told := rec_.foldl (fun m e => nset 0 m (e.1.1 * 2 ^ 32 + e.1.2) e.2) x.told })
    (List.finRange 2).foldl (fun b p =>
      let mine := zs.filter (fun z => (nsAttached b p z.1).isSome)
      if mine.isEmpty then b
      else
        let b := b.onNv p (fun c => { c with changedZones := c.changedZones ++ mine.filter (fun z => !decide (z ∈ c.changedZones)) })
        zoneNotice b p) b)

/-- ZONE_DESCRIPTOR_CHANGED_NOTICE. -/
def execZoneDescriptorChangedNotice (s : State) : Host.Outcome State Fault Refusal := s.onBlock zoneChangedNotice

/-! ### Surface Retire's rebuilds (R447 to R452) -/

/-- Zones that the running Surface Retire rebuilds now, in ascending index: Full or Read Only with a band on a named surface. -/
def rebuildZones (b : Block) : List Zone :=
  let mask := retireMask b
  b.xl.zones.filter (fun z => decide (z.state ∈ [.full, .readOnly]) && retireZone b mask z)

/-- The zone of a list with the lowest band-set index. -/
def lowestZone : List Zone → Option Zone
  | [] => none
  | z :: zs => match lowestZone zs with
    | some y => if y.log.band < z.log.band then some y else some z
    | none => some z

/-- Free band-set indices with at least so many logical sectors a track. -/
def wideSets (b : Block) (t : Nat) : List Nat := (freeSets b).filter (fun g => decide (t ≤ zoneT b (setPlace b g).1))

/-- An extension segment of n rows (R448): of the band set being given out where it has room and its tracks are long enough, else
of the next free one. The base of the zone is not free for it. -/
def giveExtension (b : Block) (t n base : Nat) : Option ((Nat × Nat) × Block) :=
  let rows := b.cfgN .FMT_BAND_TRK
  let give := fun (g r0 : Nat) => some ((g, r0), b.onXl (fun x => { x with
    extHead := some (g, r0 + n), extSets := if g ∈ x.extSets then x.extSets else x.extSets ++ [g] }))
  let fresh := match (wideSets b t).filter (fun g => g ≠ base) with
    | g :: _ => if n ≤ rows then give g 0 else none
    | [] => none
  match b.xl.extHead with
  | some (g, r0) =>
    if decide (r0 + n ≤ rows) && decide (g ∈ b.xl.extSets) && decide (t ≤ zoneT b (setPlace b g).1) then give g r0 else fresh
  | none => fresh

/-- The zone bound to its new layout (R448, R449): the old band set is free but for the surfaces named, and nothing of its rows is
degraded. -/
def bindRebuilt (b : Block) (z : Zone) (base n : Nat) (ext : Option (Nat × Nat)) : Block :=
  let rows := rebuiltRows z n
  let surfs := retireSurfs b (retireMask b)
  let b := dropOwner b (zoneOwner z)
  let b := z.log.surfs.foldl (fun b s => renewBand b z.log.band s) b
  let l : RowLog := ⟨base, ext, surfs, z.log.m, z.log.t, rows * ((n - z.log.m) * z.log.t), rows * ((n - z.log.m) * z.log.t), rows, []⟩
  let b := putZone b { z with log := l, rebuilt := true }
  evalSpace (freeExtensions (surfs.foldl (fun b s => renewBand b base s) b))

/-- ZONE_REBUILD_COMMIT (R447 to R451): the new layout of the next zone in order has passed, and one journal entry binds it. With no
free band for it the job ends Out of Space. -/
def zoneRebuildCommit (nsid k : Nat) (b : Block) : Block :=
  match b.nvm.jobs.find? (fun j => j.type = 2 ∧ j.state = 2) with
  | none => b
  | some j =>
    match lowestZone (rebuildZones b) with
    | none => b
    | some z =>
      b.guard (decide (z.nsid = nsid ∧ z.k = k)) (fun b =>
        let n := (retireSurfs b (retireMask b)).length
        match wideSets b z.log.t with
        | [] => endJob b j 5
        | base :: _ =>
          let more := rebuiltRows z n - b.cfgN .FMT_BAND_TRK
          if more = 0 then countJob (bindRebuilt b z base n none) 2 1 n
          else match giveExtension b z.log.t more base with
            | some (e, c) => countJob (bindRebuilt c z base n (some e)) 2 1
                (n + (if e.1 ∈ b.xl.extSets then 0 else n))
            | none => endJob b j 5)

/-- ZONE_REBUILD_COMMIT. -/
def execZoneRebuildCommit (nsid k : Nat) (s : State) : Host.Outcome State Fault Refusal :=
  s.onBlock (zoneRebuildCommit nsid k)

end Sys2Proof.Machine
end

