-- ==== Sys2Proof/Machine/Nand.lean ====
section
/-! DEFINITION. The in-package NAND: blocks and superblocks (R460 to R463), staged writes programmed (R464, R465), programs and the
erase check (R472, R473), reads (R478 to R480), copies (R474 to R477, R479), erases (R476, R482), the journal's checkpoints (R470)
and the HOLDUP reserve (R466). -/

namespace Sys2Proof.Machine

/-! ### Moves and defects (R475, R476, R481) -/

/-- What grown defects have left of the pools (R481): DEGRADED while the media cache has shrunk, EXHAUSTED once the write stage
cannot keep 64 blocks either, and then read-only for good. -/
def evalDefects (b : Block) : Block :=
  let lost := blocksShort b
  let most := (cacheFull b - 128) + (b.cfgN .NND_STAGE_BLOCKS - 64)
  let b := b.onNs (fun s => { s with
    lostBlocks := lost, degraded := decide (0 < lost), exhausted := s.exhausted || decide (most < lost) })
  let b := b.put .NS_STATE_STATE 0 (if b.ns.exhausted then 2 else if b.ns.degraded then 1 else 0)
  refreshSpare (if b.ns.exhausted then evalSpace b else b)

/-- A block that no superblock of a pool holds any longer. -/
def leaveSuper (b : Block) (n : Nat) : Block :=
  b.onNs (fun s => { s with
    sbs := (s.sbs.map (fun y => { y with blocks := y.blocks.filter (· ≠ n) })).filter (fun y => !y.blocks.isEmpty) })

/-- A block retired into the grown-defect table (R476), never to be programmed, erased or read again; its valid slots are written as
its pool's log first, those of a used reserve block as the write stage's. -/
def retireBlock (b : Block) (n : Nat) : Block :=
  let pool := (nandBlock b n).pool
  let keys := (validSlots b n).map (fun e => e.2.key)
  let b := putNand b n { nandBlock b n with slots := [], retired := true, pool := .none, due := false, scan := false }
  journalEntry (evalDefects (writeSlots (if pool = .reserve then .stage else pool) keys.length (leaveSuper b n) keys))

/-! ### Programs (R464, R465, R472, R473) -/

/-- The staged blocks still to be programmed, in receipt order, with their commands. -/
def stagedKeys (b : Block) : List (Cmd × Nat) :=
  (b.nvm.cmds.filter (fun c => c.phase = .staging)).flatMap (fun c =>
    (List.range c.need).map (fun i => (c, c.slba + (c.nlb - c.need) + i)))

/-- A block that its media write has overtaken needs no slot any longer. -/
def onMedia (b : Block) (nsid lba : Nat) : Bool :=
  match nsFind b nsid with
  | some n => (match blockPlace b n lba with | .media _ _ => true | _ => false)
  | none => true

/-- One block of a staging command is durable; with the last of them the command completes. -/
def stagedPart (b : Block) (c : Cmd) : Block :=
  match cmdFind b c.port c.sq c.cid with
  | none => b
  | some c =>
    let c := { c with need := c.need - 1 }
    let b := putCmd b c
    if c.need ≠ 0 then b
    else if c.kind = .append then finishCmd b c .success (c.slba % 2 ^ 32) (c.slba / 2 ^ 32)
    else finishCmd b c .success

/-- A superblock written full that holds a cached write's slot moves to the media cache's pool, without a copy (R464). -/
def toCache (b : Block) (n : Nat) : Block :=
  match b.ns.sbs.find? (fun s => decide (n ∈ s.blocks ∧ s.pool = .stage)) with
  | none => b
  | some s =>
    let full := s.blocks.all (fun m => decide (2048 ≤ (nandBlock b m).ptr))
    let cached := s.blocks.any (fun m => (validSlots b m).any (fun e => b.xl.cached.any (fun c => c.1 = e.2.key)))
    if full && cached then
      let b := b.onNs (fun y => { y with sbs := updFirst (fun z => z = s) (fun z => { z with pool := .cache }) y.sbs })
      s.blocks.foldl (fun b m => putNand b m { nandBlock b m with pool := .cache }) b
    else b

/-- A page of the write stage programmed with the next staged blocks. -/
def stagePage (b : Block) (n : Nat) : Block :=
  let next := (stagedKeys b).take 4
  let live := (next.filter (fun e => !onMedia b e.1.nsid e.2)).map (fun e => blockKey e.1.nsid e.2)
  let b := toCache (programPage (live.foldl stageBlock b) n .stage live) n
  next.foldl (fun b e => stagedPart b e.1) b

/-- A journal page programmed on one die; it is in the journal once both dies have it (R470). -/
def journalDie (b : Block) (n : Nat) : Block :=
  let d := blkDie n
  let b := programPage b n .journal []
  match b.ns.jrnlHalf with
  | some e =>
    if e = d then b
    else journalWritten (b.onNs (fun s => { s with jrnlHalf := none, jrnlPages := s.jrnlPages + 1 }))
  | none => b.onNs (fun s => { s with jrnlHalf := some d })

/-- A page of a pool programmed at a block, which becomes the pool's where it served none. -/
def poolPage (b : Block) (n : Nat) (pool : NPool) : Block :=
  let b := if (nandBlock b n).pool = .none ∧ pool ≠ .reserve then takeBlocks b pool [n] else b
  match pool with
  | .stage => stagePage b n
  | .journal => journalDie b n
  | .reserve => flushInto b [n]
  | p => programPage b n p []

/-- The page that a program of a pool is re-aimed at (R469, R473): for the flush, the next page of the die's other data superblock, of
the same one where that has none left, or of the other die; else the next known-erased page of the pool. -/
def reaimBlock (b : Block) (pool : NPool) (n : Nat) : Option (Nat × Block) :=
  if pool = .reserve then
    let own := (b.ns.rsv.filter (fun r => decide (n ∈ r.blocks))).flatMap (fun r => r.blocks)
    let here := rsvNext b (blkDie n) false
    let other := here.filter (fun g => !g.any (fun m => decide (m ∈ own)))
    ((other ++ here ++ rsvNext b (1 - blkDie n) false).head?).map (fun g => (g.headD 0, b))
  else (nextBlocks b pool (if pool = .journal then some (blkDie n) else none)).map (fun x => (x.1.headD 0, x.2))

/-- A page re-aimed and programmed. -/
def reaim (b : Block) (pool : NPool) (n : Nat) : Block :=
  match reaimBlock b pool n with
  | some (m, b) => poolPage b m pool
  | none => b

/-- A program may be issued to a block for a pool: it is good, serves that pool or none, no erase holds its die, the write stage is
not held by a hot die (R624), and the data superblocks of the reserve take a flush alone (R466). -/
def mayProgram (b : Block) (n : Nat) (pool : NPool) : Bool :=
  let x := nandBlock b n
  let flush := match b.pwr.holdup with | some h => h.listed && !h.flushDone | none => b.thm.trip
  blkGood b n && decide (x.pool = .none ∨ x.pool = pool) && (match b.ns.erases[blkDie n % 2]? with | some e => e.isNone | none => true) &&
    decide (pool ∈ [.reserve, .journal, .sepia, .stage, .cache]) &&
    !(decide (pool = .stage ∨ pool = .cache) && decide (b.thm.nandHot ≠ 0)) &&
    (if pool = .reserve then flush && b.ns.rsv.any (fun r => !r.forMeta && decide (n ∈ r.blocks)) else !inReserve b n)

/-- The blocks that a program aimed at a page of a block reaches: the whole superblock where its four blocks stand at that page
(R462). -/
def aimed (b : Block) (n page : Nat) : List Nat :=
  let whole := fun (bs : List Nat) => decide (n ∈ bs ∧ bs.length = 4) && bs.all (fun m => blkOpen b m && decide ((nandBlock b m).ptr = page))
  ((b.ns.sbs.map (fun s => s.blocks) ++ b.ns.rsv.map (fun r => r.blocks)).find? whole).getD [n]

/-- One page of a program: one that passes holds its data; one that fails retires its block, and its data goes to the next page (R469,
R476). -/
def programOne (pool : NPool) (fails : Nat) (b : Block) (n : Nat) : Block :=
  if !bit fails (blkPlane n) then poolPage b n pool
  else
    let b := b.bump .NS_DEFECT_PROGFAIL 0
    let b := if pool = .reserve then b.bump .NS_EVT_FLUSHSKIP 0 else b
    reaim (retireBlock b n) pool n

/-- NAND_PAGE_PROGRAM (R462, R469, R472, R473, R476): pages of a pool programmed. Aimed at a page not known erased, the program is
refused and re-aimed, and the block is closed to be emptied. One whose data is poisoned, at the address `poison`, is not issued, and the
owner of the data is told (R694). -/
def nandPageProgram (role : Fin 7) (blk page : Nat) (fails : Fin 16) (scan : Nat) (poison : Option Nat) (b : Block) : Block :=
  let pool := poolOf role
  b.guard (mayProgram b blk pool) (fun b =>
    let x := nandBlock b blk
    if poison.isSome then poisonSeen b .MEM_POISON_NAND 5 5 (poison.getD 0)
    else if !knownErased x page then
      let b := (b.bump .NS_EVT_NOTERASED 0).sepia 0x0A01 (srcCC 0) blk scan
      reaim (putNand b blk { x with scan := true }) pool blk
    else (aimed b blk page).foldl (programOne pool fails.val) (putNand b blk { x with ptr := page }))

/-- NAND_PAGE_PROGRAM. -/
def execNandPageProgram (role : Fin 7) (blk page : Nat) (fails : Fin 16) (scan : Nat) (poison : Option Nat) (s : State) :
    Host.Outcome State Fault Refusal :=
  s.onBlock (fun b => qrecAll (nandPageProgram role blk page fails scan poison b))

/-! ### Reads (R478 to R480, R482) -/

/-- The row of `NND.RT_TABLE` for an age in hours (R478). -/
def ageRow (h : Nat) : Nat :=
  if h < 1 then 0 else if h < 24 then 1 else if h < 168 then 2 else if h < 720 then 3 else if h < 2160 then 4
  else if h < 8760 then 5 else if h < 26280 then 6 else 7

/-- The column of `NND.RT_TABLE` for a temperature difference in 0.1 °C (R478); 0 °C is in the third. -/
def tempCol (d : Int) : Nat := if d ≤ -200 then 0 else if d < 0 then 1 else if d ≤ 200 then 2 else 3

/-- The read-threshold offset of a block's reads (R478), by its age and by the read temperature less the program temperature. -/
def readOffset (b : Block) (x : NBlock) (die : Nat) : Int :=
  bitsSigned 8 (b.cfg .NND_RT_TABLE 0 (4 * ageRow (b.now / 3600000000 - x.hour) + tempCol (dieTemp b die - x.temp)) % 256).toNat

/-- The offset of retry k (R478): one DAC step further each time, with alternating sign. -/
def retryOffset (base : Int) (k : Nat) : Int := if k % 2 = 1 then base + k else base - k

/-- An uncorrectable slot's content (R480): a staged block whose DRAM copy is held is dirty again; any other is lost. -/
def slotLost (b : Block) (key : Nat) : Block :=
  let held := decide (key ∈ b.xl.staged)
  let b := dropSlot b key
  if held then dirtyAdd (b.onXl (fun x => { x with staged := x.staged.filter (· ≠ key) })) [key]
  else listLost (b.onXl (fun x => { x with cached := x.cached.filter (fun c => c.1 ≠ key), data := nerase x.data key })) key

/-- NAND_PAGE_READ (R478 to R480, R482): a slot read with the offset of its block's age and temperature, and again up to
`NND.RT_RETRY` times. `tries` gives the checks left unsatisfied and the bit errors of each read; a slot is accepted with every check
satisfied (R461). A retry or many bit errors make the block due for refresh; an uncorrectable slot retires it. A read suspends an erase
of its die once. -/
def nandPageRead (blk slot : Nat) (tries : List (Nat × Nat)) (b : Block) : Block :=
  let die : Fin 2 := ⟨blkDie blk % 2, by omega⟩
  let waits := match vget b.ns.erases die with | some e => e.suspended | none => false
  b.guard (blkGood b blk && decide (slot < 8192) && !waits) (fun b =>
    let x := nandBlock b blk
    let most := b.cfgN .NND_RT_RETRY
    let done := (tries.take (1 + most)).findIdx? (fun t => t.1 = 0)
    let retries := done.getD most
    let off := if retries = 0 then readOffset b x die.val else retryOffset (readOffset b x die.val) retries
    let b := b.onNs (fun s => { s with
      rdOffset := vupd s.rdOffset die (fun _ => off)
      erases := vupd s.erases die (fun e => e.map (fun e => { e with suspended := true })) })
    let b := if retries ≠ 0 then b.bump .NS_READ_RETRY 0 else b
    match done with
    | some k =>
      if k ≠ 0 ∨ b.cfgN .NND_REFRESH_BE ≤ (tries.getD k (0, 0)).2 then putNand b blk { x with due := true } else b
    | none =>
      let b := b.bump .NS_READ_UNCORR 0
      let b := match x.slots.find? (fun e => e.1 = slot) with
        | some e => if e.2.valid then slotLost b e.2.key else b
        | none => b
      retireBlock b blk)

/-- NAND_PAGE_READ. -/
def execNandPageRead (blk slot : Nat) (tries : List (Nat × Nat)) (s : State) : Host.Outcome State Fault Refusal :=
  s.onBlock (nandPageRead blk slot tries)

/-! ### Erases (R476, R482) -/

/-- A block that an erase may empty: good, written or not known erased, with nothing valid and no copy of it; a journal block once the
checkpoint that made it needless is two checkpoints old (R470). -/
def erasable (b : Block) (n : Nat) : Bool :=
  let x := nandBlock b n
  blkGood b n && (decide (0 < x.ptr) || !x.erased) && (validSlots b n).isEmpty && !inReserve b n &&
    !b.ns.copies.any (fun c => decide (n ∈ c.source ∨ n ∈ c.target)) && decide (x.pool = .journal → x.ckpt + 3 ≤ b.ns.ckpts)

/-- A block erased: one more cycle, and free; it is retired at 100,000. -/
def erasedBlock (b : Block) (n : Nat) : Block :=
  let ec := (nandBlock b n).ec + 1
  let b := journalEntry (leaveSuper (putNand b n { nandDefault with ec := ec }) n)
  if 100000 ≤ ec then retireBlock b n else b

/-- A block whose erase failed. -/
def eraseFailed (b : Block) (n : Nat) : Block := retireBlock (b.bump .NS_DEFECT_ERASEFAIL 0) n

/-- NAND_ERASE (R462, R476, R482): an erase is issued to what can be erased of four blocks, one of each plane, or ends. -/
def nandErase (die : Fin 2) (ev : EraseEvent) (b : Block) : Block :=
  match ev, vget b.ns.erases die with
  | .issue i0 i1 i2 i3, none =>
    let ns := (([i0, i1, i2, i3].zipIdx.filter (fun e => decide (e.1 < 348))).map (fun e => 1392 * die.val + 348 * e.2 + e.1)).filter
      (erasable b)
    if ns.isEmpty then b else b.onNs (fun s => { s with erases := vupd s.erases die (fun _ => some ⟨ns, false⟩) })
  | .ended fails, some e =>
    let b := b.onNs (fun s => { s with erases := vupd s.erases die (fun _ => none) })
    e.blocks.foldl (fun b n => if bit fails.val (blkPlane n) then eraseFailed b n else erasedBlock b n) b
  | _, _ => b

/-- NAND_ERASE. -/
def execNandErase (die : Fin 2) (ev : EraseEvent) (s : State) : Host.Outcome State Fault Refusal := s.onBlock (nandErase die ev)

/-! ### Copies (R473 to R477, R479) -/

/-- The copy that runs on a die. -/
def dieCopy (b : Block) (die : Fin 2) : Option NCopy := b.ns.copies.find? (fun c => c.die = die.val)

/-- A copy may start on a die: none runs, no HOLDUP, and the dies are below their limit (R624). -/
def mayCopy (b : Block) (die : Fin 2) : Bool :=
  (dieCopy b die).isNone && decide (b.mode ≠ .holdup) && decide (b.thm.nandHot = 0)

/-- Where the slots of a copy go (R474): four to a page, over the target's blocks at the same page and then the next. -/
def copyPlan (src : List (Nat × Nat)) (tgt : List Nat) : List ((Nat × Nat) × (Nat × Nat)) :=
  src.zipIdx.map (fun e => (e.1, tgt.getD (e.2 / 4 % max 1 tgt.length) 0, 4 * (e.2 / (4 * max 1 tgt.length)) + e.2 % 4))

/-- A slot of a block, where it has been programmed. -/
def slotAt (b : Block) (n k : Nat) : Option NSlot := ((nandBlock b n).slots.find? (fun e => e.1 = k)).map (fun e => e.2)

/-- A copied slot: it stands in the target, and the source stays mapped (R474). -/
def copySlot (b : Block) (m : (Nat × Nat) × (Nat × Nat)) : Block :=
  match slotAt b m.1.1 m.1.2 with
  | some s =>
    let x := nandBlock b m.2.1
    putNand b m.2.1 { x with
      slots := ninsert (nerase x.slots m.2.2) m.2.2 { s with valid := false }, ptr := max x.ptr (m.2.2 / 4 + 1)
      hour := b.now / 3600000000, wrote := b.now / 3600000000, temp := dieTemp b (blkDie m.2.1) }
  | none => b

/-- A copy started: the valid slots of its source are programmed into fresh blocks of its pool, which already belong to it. -/
def beginCopy (b : Block) (die : Fin 2) (kind : CopyKind) (src : List Nat) (tgt : List Nat) : Block :=
  let plan := copyPlan (src.flatMap (fun n => (validSlots b n).map (fun e => (n, e.1)))) tgt
  plan.foldl copySlot (b.onNs (fun s => { s with copies := s.copies ++ [⟨kind, die.val, src, tgt, plan⟩] }))

/-- A copy started into a free superblock with the lowest erase counts, taken into the source's pool. -/
def copyBlocks (b : Block) (die : Fin 2) (kind : CopyKind) (src : List Nat) : Block :=
  match takeSb b (nandBlock b (src.headD 0)).pool (roomierDie b) true with
  | some (tgt, b) => beginCopy b die kind src tgt
  | none => b

/-- Blocks of a die that satisfy a test, among those that differ from a fresh one. -/
def dieBlocks (b : Block) (die : Fin 2) (p : NBlock → Bool) : List Nat :=
  (b.ns.blocks.filter (fun e => decide (blkDie e.1 = die.val) && p e.2 && !e.2.retired && !e.2.factoryBad)).map (fun e => e.1)

/-- A block is due for refresh (R479): flagged by a read, or at the age of `NND.RET_H`. -/
def refreshDue (b : Block) (x : NBlock) : Bool :=
  x.due || (x.slots.any (fun e => e.2.valid) && decide (x.hour + b.cfgN .NND_RET_H ≤ b.now / 3600000000))

/-- A superblock of user data on a die that takes no more programs: every block is full, or not known erased. -/
def closedSb (b : Block) (die : Fin 2) (s : NSuper) : Bool :=
  decide (s.pool = .stage ∨ s.pool = .cache) && s.blocks.all (fun n => decide (blkDie n = die.val) && !blkOpen b n) &&
    !b.ns.copies.any (fun c => s.blocks.any (fun n => decide (n ∈ c.target)))

/-- The superblock of a die with the least valid data, among the closed ones. -/
def gcSource (b : Block) (die : Fin 2) : Option (List Nat) :=
  let cands := b.ns.sbs.filter (closedSb b die)
  let valid := fun i => ((cands.getD i ⟨.none, []⟩).blocks.map (fun n => (validSlots b n).length)).sum
  (leastBlk valid (List.range cands.length)).map (fun i => (cands.getD i ⟨.none, []⟩).blocks)

/-- GC_START (R473, R474, R479): a block refused for a program is emptied first; else, with fewer than `NND.GC_FREE` free superblocks on
the die and no block due for refresh, which goes ahead, the superblock with the least valid data is copied. -/
def gcStart (die : Fin 2) (b : Block) : Block :=
  b.guard (mayCopy b die) (fun b =>
    match dieBlocks b die (fun x => x.scan) with
    | n :: _ => copyBlocks b die .emptying [n]
    | [] =>
      if freeSbs b die.val < b.cfgN .NND_GC_FREE ∧ (dieBlocks b die (refreshDue b)).isEmpty then
        match gcSource b die with
        | some src => copyBlocks b die .gc src
        | none => b
      else b)

/-- GC_START. -/
def execGcStart (die : Fin 2) (s : State) : Host.Outcome State Fault Refusal := s.onBlock (gcStart die)

/-- A map entry moved from a copy's source to its target, where the source slot is still valid. -/
def moveEntry (b : Block) (m : (Nat × Nat) × (Nat × Nat)) : Block :=
  match slotAt b m.1.1 m.1.2, slotAt b m.2.1 m.2.2 with
  | some s, some t =>
    if !s.valid then b
    else
      let src := nandBlock b m.1.1
      let b := putNand b m.1.1 { src with slots := ninsert (nerase src.slots m.1.2) m.1.2 { s with valid := false } }
      let tgt := nandBlock b m.2.1
      let b := putNand b m.2.1 { tgt with slots := ninsert (nerase tgt.slots m.2.2) m.2.2 { t with valid := true } }
      b.onNs (fun y => { y with map := ninsert (nerase y.map s.key) s.key (8192 * m.2.1 + m.2.2 + 1) })
  | _, _ => b

/-- The source of a verified copy waits to be erased. -/
def copySpent (b : Block) (c : NCopy) : Block :=
  c.source.foldl (fun b n => putNand b n { nandBlock b n with due := false, scan := false, erased := false }) b

/-- GC_COPY_COMMIT (R474, R477, R479): every slot of a die's copy has been read back with at most `errors` bit errors. Below
`NND.REFRESH_BE` the copy is verified, and one journal entry moves its map entries; the source waits to be erased. -/
def gcCopyCommit (die : Fin 2) (errors : Nat) (b : Block) : Block :=
  match dieCopy b die with
  | none => b
  | some c =>
    b.guard (decide (errors < b.cfgN .NND_REFRESH_BE)) (fun b =>
      let b := c.moved.foldl moveEntry (b.onNs (fun s => { s with copies := s.copies.filter (fun d => d ≠ c) }))
      let b := journalEntry (copySpent b c)
      match c.kind with
      | .refresh => b.bump .NS_READ_REFRESH 0 c.source.length
      | .wear => b.bump .NS_EVT_WLMOVE 0
      | _ => b)

/-- GC_COPY_COMMIT. -/
def execGcCopyCommit (die : Fin 2) (errors : Nat) (s : State) : Host.Outcome State Fault Refusal := s.onBlock (gcCopyCommit die errors)

/-- A copy's block replaced by another of its plane, which receives every slot that it had received (R475). -/
def replaceTarget (b : Block) (c : NCopy) (t r : Nat) : Block :=
  let x := nandBlock b t
  let b := putNand b r { x with ec := (nandBlock b r).ec, erased := true, due := false, scan := false }
  let swap := fun n => if n = t then r else n
  b.onNs (fun s => { s with
    copies := updFirst (fun d => d = c) (fun d => { d with
      target := d.target.map swap, moved := d.moved.map (fun m => (m.1, swap m.2.1, m.2.2)) }) s.copies
    sbs := s.sbs.map (fun y => { y with blocks := y.blocks.map swap }) })

/-- GC_TARGET_FAIL (R475): the target block on a plane is retired, and an erased block of the same plane takes its place; the other
blocks keep what they hold. Where no erased block is left, the copy is abandoned. -/
def gcTargetFail (die : Fin 2) (plane : Fin 4) (programFailed : Bool) (b : Block) : Block :=
  match dieCopy b die with
  | none => b
  | some c =>
    match c.target.find? (fun n => decide (blkPlane n = plane.val)) with
    | none => b
    | some t =>
      let b := b.bump .NS_EVT_GCRETIRE 0
      let b := if programFailed then b.bump .NS_DEFECT_PROGFAIL 0 else b
      match leastBlk (fun n => (nandBlock b n).ec) (planeFree b (blkDie t) (blkPlane t)) with
      | some r => retireBlock (replaceTarget b c t r) t
      | none => retireBlock (abandonCopy b c) t

/-- GC_TARGET_FAIL. -/
def execGcTargetFail (die : Fin 2) (plane : Fin 4) (programFailed : Bool) (s : State) : Host.Outcome State Fault Refusal :=
  s.onBlock (gcTargetFail die plane programFailed)

/-- The highest and the lowest erase count of the good blocks. -/
def ecRange (b : Block) : Nat × Nat :=
  let ecs := ((List.range 2784).filter (blkGood b)).map (fun n => (nandBlock b n).ec)
  (ecs.foldl max 0, ecs.foldl min (ecs.headD 0))

/-- WEAR_LEVEL_MOVE (R477): with the spread above `NND.WL_SPREAD`, the lowest-count block of the die that holds data written at least
24 h ago is copied into a free block with the highest count. -/
def wearLevelMove (die : Fin 2) (b : Block) : Block :=
  let r := ecRange b
  b.guard (mayCopy b die && decide (b.cfgN .NND_WL_SPREAD < r.1 - r.2)) (fun b =>
    let cold := dieBlocks b die (fun x => decide (x.wrote + 24 ≤ b.now / 3600000000) && x.slots.any (fun e => e.2.valid))
    match leastBlk (fun n => (nandBlock b n).ec) cold,
      leastBlk (fun m => 100000 - (nandBlock b m).ec) ((List.range 2784).filter (blkFree b)) with
    | some n, some m => beginCopy (takeBlocks b (nandBlock b n).pool [m]) die .wear [n] [m]
    | _, _ => b)

/-- WEAR_LEVEL_MOVE. -/
def execWearLevelMove (die : Fin 2) (s : State) : Host.Outcome State Fault Refusal := s.onBlock (wearLevelMove die)

/-- BLOCK_REFRESH (R479): a block due is copied. -/
def blockRefresh (die : Fin 2) (b : Block) : Block :=
  b.guard (mayCopy b die) (fun b =>
    match dieBlocks b die (refreshDue b) with
    | n :: _ => copyBlocks b die .refresh [n]
    | [] => b)

/-- BLOCK_REFRESH. -/
def execBlockRefresh (die : Fin 2) (s : State) : Host.Outcome State Fault Refusal := s.onBlock (blockRefresh die)

/-! ### Journal and reserve (R466, R470) -/

/-- CHECKPOINT_WRITE (R470): `NND.CKPT_MIB` of journal has accumulated, or an hour has passed in RUN. -/
def checkpointWrite (b : Block) : Block :=
  b.guard (decide (64 * b.cfgN .NND_CKPT_MIB ≤ b.ns.jrnlPages) ||
      (decide (b.mode = .run) && decide (b.ns.ckptAt + 3600000000 ≤ b.now))) checkpoint

/-- CHECKPOINT_WRITE. -/
def execCheckpointWrite (s : State) : Host.Outcome State Fault Refusal := s.onBlock checkpointWrite

/-- RESERVE_REPLENISH (R466): fresh erased superblocks are taken into the reserve in RUN. -/
def reserveReplenish (b : Block) : Block := b.guard (decide (b.mode = .run)) replenish

/-- RESERVE_REPLENISH. -/
def execReserveReplenish (s : State) : Host.Outcome State Fault Refusal := s.onBlock reserveReplenish

end Sys2Proof.Machine
end

