-- ==== Sys2Proof/Machine/ConfigSpace.lean ====
section
/-! DEFINITION. The configuration space of a port (R500 to R505): its fixed layout, the fields that a host writes, and the words
that a read returns. Where the spec names a field of a standard structure without its bits, the bits are the standard's (log
entry 6). -/

namespace Sys2Proof.Machine

/-- A capability header of the first list. -/
def capHeader (id next : Nat) : Nat := id + next * 2 ^ 8

/-- A capability header of the extended list. -/
def extHeader (id version next : Nat) : Nat := id + version * 2 ^ 16 + next * 2 ^ 20

/-- 1 where a setting is set. -/
def flagOf (c : Bool) : Nat := if c then 1 else 0

/-- The values that the type 0 header fixes (R502, R504). -/
def headerFixed (b : Block) (off : Nat) : Nat :=
  if off = 0x00 then 0xA4C41FB6
  else if off = 0x04 then 1 <<< 20
  else if off = 0x08 then 0x010802B1
  else if off = 0x10 then 0x4
  else if off = 0x18 then 0xC
  else if off = 0x20 then 0x4
  else if off = 0x2C then b.cfgN .HST_SSID * 2 ^ 16 + b.cfgN .HST_SVID
  else if off = 0x34 then 0x40
  else if off = 0x3C then 0x100
  else 0

/-- The values that the capabilities fix (R503, R505). -/
def capsFixed (b : Block) (off : Nat) : Nat :=
  let wake := flagOf (b.cfgN .HST_WAKE_EN = 1)
  let clk := flagOf (b.cfgN .HST_CLKREQ = 1)
  if off = 0x40 then capHeader 0x01 0x50 + (3 + 2 ^ 6 + 2 ^ 11 + 2 ^ 14 + wake * 2 ^ 15) * 2 ^ 16
  else if off = 0x44 then 2 ^ 3
  else if off = 0x50 then capHeader 0x11 0x70 + 129 * 2 ^ 16
  else if off = 0x54 then 0x4000
  else if off = 0x58 then 0x6000
  else if off = 0x70 then capHeader 0x10 0 + 2 * 2 ^ 16
  else if off = 0x74 then 2 + 2 ^ 5 + 6 * 2 ^ 9 + 2 ^ 15 + 2 ^ 28
  else if off = 0x7C then 6 + 2 * 2 ^ 4 + 2 * 2 ^ 10 + 4 * 2 ^ 15 + clk * 2 ^ 18
  else if off = 0x94 then 0xE + 2 ^ 11 + 2 ^ 16 + flagOf (b.cfgN .HST_TAG_MODE = 1) * 2 ^ 17
  else if off = 0x9C then 0x7E
  else 0

/-- The values that the extended capabilities fix (R503, R505). -/
def extFixed (b : Block) (off : Nat) : Nat :=
  let clk := flagOf (b.cfgN .HST_CLKREQ = 1)
  if off = 0x100 then extHeader 0x0001 2 0x148
  else if off = 0x118 then 2 ^ 5 + 2 ^ 7
  else if off = 0x148 then extHeader 0x0019 1 0x158
  else if off = 0x158 then extHeader 0x000F 1 0x160
  else if off = 0x15C then 2 ^ 5
  else if off = 0x160 then extHeader 0x0018 1 0x168
  else if off = 0x168 then extHeader 0x002E 1 0x180
  else if off = 0x180 then extHeader 0x001E 1 0x190
  else if off = 0x184 then clk * 0x1F + 10 * 2 ^ 8 + 20 * 2 ^ 19
  else if off = 0x190 then extHeader 0x0025 1 0x1A0
  else if off = 0x1A0 then extHeader 0x0026 1 0x1D0
  else if off = 0x1D0 then extHeader 0x0027 1 0x1E0
  else if off = 0x1E0 then extHeader 0x002A 1 0x210
  else if off = 0x210 then extHeader 0x0031 1 0x220
  else if off = 0x220 then extHeader 0x002F 1 0x230
  else if off = 0x224 then 2 ^ 1
  else if off = 0x230 then extHeader 0x0003 1 0
  else if off = 0x234 then Config.moduleId % 2 ^ 32
  else if off = 0x238 then Config.moduleId / 2 ^ 32 % 2 ^ 32
  else 0

/-- The bits of a register that a host writes and that are kept as written. -/
def configMask (b : Block) (off : Nat) : Nat :=
  if off = 0x04 then 0x0542
  else if off = 0x0C then 0xFF
  else if off = 0x10 then 0xFFFF8000
  else if off = 0x18 then 0xFFC00000
  else if off = 0x20 then 0xFFF00000
  else if off = 0x14 ∨ off = 0x1C ∨ off = 0x24 then 0xFFFFFFFF
  else if off = 0x3C then 0xFF
  else if off = 0x50 then 0xC0000000
  else if off = 0x78 then 0x7FFF
  else if off = 0x80 then (if b.cfgN .HST_CLKREQ = 1 then 0x1C3 else 0xC3)
  else if off = 0x98 then (if b.cfgN .HST_TAG_MODE = 1 then 0x140F else 0x040F)
  else if off = 0xA0 then 0x000F
  else if off = 0x108 ∨ off = 0x10C then 0x047FF030
  else if off = 0x114 then 0x71C1
  else if off = 0x118 then 0x140
  else if off = 0x15C then (if b.cfgN .HST_ATS = 1 then 0x801F0000 else 0x001F0000)
  else if off = 0x164 then 0x1FFF1FFF
  else if off = 0x188 then (if b.cfgN .HST_CLKREQ = 1 then 0xE3FFFF0F else 0)
  else if off = 0x18C then 0xFB
  else 0

/-- What a written register holds before a host writes it: the standard's defaults. -/
def configDefault (off : Nat) : Nat :=
  if off = 0x78 then 0x2910
  else if off = 0xA0 then 6
  else if off = 0x108 then 0x400000
  else if off = 0x10C then 0x462030
  else if off = 0x114 then 0x6000
  else 0

/-- The bits that show other state: Bus Master Enable and INTA's status, power state and PME, the link, the errors
detected, AER status with its First Error Pointer and header log, the DOE mailbox. -/
def configLive (b : Block) (p : Port) (off : Nat) : Nat :=
  let x := vget b.px p
  let hdr := match x.header with | some h => h.2 | none => 0
  if off = 0x04 then b.get .PX_BME_BME p.val * 4 + flagOf x.intx * 2 ^ 19
  else if off = 0x44 then b.get .PX_LINK_DSTATE p.val + flagOf x.pmeEn * 2 ^ 8 + flagOf x.pmeStatus * 2 ^ 15
  else if off = 0x78 then x.devSta % 16 * 2 ^ 16 + flagOf (!x.out.isEmpty) * 2 ^ 21
  else if off = 0x80 then b.get .PX_LINK_RATE p.val * 2 ^ 16 + b.get .PX_LINK_WIDTH p.val * 2 ^ 20
  else if off = 0x104 then x.aerUnc
  else if off = 0x110 then x.aerCor
  else if off = 0x118 then (match x.header with | some h => h.1 % 32 | none => 0)
  else if off = 0x11C then hdr % 2 ^ 32
  else if off = 0x120 then hdr / 2 ^ 32 % 2 ^ 32
  else if off = 0x124 then hdr / 2 ^ 64 % 2 ^ 32
  else if off = 0x128 then hdr / 2 ^ 96 % 2 ^ 32
  else if off = 0x174 then flagOf x.doe.busy + flagOf x.doe.error * 4 + flagOf x.doe.ready * 2 ^ 31
  else 0

/-- The word that a configuration read of an aligned offset returns (R503): an offset in no listed capability reads 0. -/
def configWord (b : Block) (p : Port) (off : Nat) : Nat :=
  let fixed := headerFixed b off ||| capsFixed b off ||| extFixed b off
  fixed ||| configLive b p off ||| (configReg (vget b.px p) off (configDefault off) &&& configMask b off)

/-- A word with the bytes that a write enables replaced. -/
def mergeBytes (old new : Nat) (enables : Nat) : Nat :=
  ((List.range 4).map (fun i => ((if bit enables i then new else old) / 2 ^ (8 * i) % 256) * 2 ^ (8 * i))).sum

/-- A configuration register's kept bits set. -/
def keepConfig (b : Block) (p : Port) (off v : Nat) : Block :=
  let w := v &&& configMask b off
  b.onPx p (fun x => { x with config := nset (configDefault off) x.config (off / 4) w })

/-- Configuration requests are answered with CRS (R70, R134, R515): until the engines have started, during an FLR, and while a
reset of the port waits for an activation to end. -/
def answersCrs (b : Block) (p : Port) : Bool :=
  !b.boot.enginesUp || (vget b.px p).flr || b.fcs.deferred.any (fun r => decide (r = .perst p ∨ r = .hot p ∨ r = .flr p))

/-- A write of the host to the NVMe registers (R504): in D3hot it is a memory request, and refused (R519). The write's header is not the
command's to give (log entry 165). -/
def hostWrite (b : Block) (p : Port) (f : Block → Block) : Block :=
  let b := touchLink b p
  if b.get .PX_LINK_DSTATE p.val = 3 then refuseWindow b p (Config.tlpHeader p.val b.now) else f b

/-- The port is on the bus: it is present (R500), the core is powered, and the link carries traffic. -/
def onBus (b : Block) (p : Port) : Bool := (vget b.px p).present && b.pwr.powered && linkUp b p

/-! ### Controller properties (R544, R550) -/

/-- CAP: 4,096 entries, contiguous queues, weighted round robin, 1 s, NVM Subsystem Reset, I/O command set specific sets, pages of 4 to
64 KiB, a Controller Memory Buffer (R544; the places of the fields are the standard's, log entry 6). -/
def capProperty : Nat := 4095 + 2 ^ 16 + 2 ^ 17 + 2 * 2 ^ 24 + 2 ^ 36 + 2 ^ 43 + 4 * 2 ^ 52 + 2 ^ 57

/-- CMBSZ: submission queues, lists, read and write data, in units of 4 KiB; 0 where the share is 0 (R550). -/
def cmbSize (b : Block) (p : Port) : Nat :=
  let share := (cmbShare b p).2
  if share = 0 then 0 else 1 + 2 ^ 2 + 2 ^ 3 + 2 ^ 4 + share / 4096 * 2 ^ 12

/-- What a controller's property register at an offset of BAR0 holds (R504, R544, R550): CAP, VS, CC, CSTS, CMBLOC and CMBSZ. -/
def nvmeProperty (b : Block) (p : Port) (off : Nat) : Nat :=
  if off = 0x00 then capProperty % 2 ^ 32
  else if off = 0x04 then capProperty / 2 ^ 32
  else if off = 0x08 then 0x00020000
  else if off = 0x14 then b.get .NV_CTL_EN p.val + b.get .NV_CTL_AMS p.val * 2 ^ 11
  else if off = 0x1C then
    b.get .NV_CTL_RDY p.val + b.get .NV_CTL_CFS p.val * 2 + b.get .NV_CTL_SHST p.val * 4 + flagOf (vget b.nv p).nssro * 16
  else if off = 0x38 then 2
  else if off = 0x3C then cmbSize b p
  else 0

end Sys2Proof.Machine
end

