-- ==== Sys2Proof/Machine/Pcie.lean ====
section
/-! DEFINITION. A PCIe port's link, configuration requests, power management, errors, address translation, DOE mailbox and factory
unlock (R497 to R529). Completions, doorbells and fetching stand in Fetch. -/

namespace Sys2Proof.Machine

/-! ### Link (R497 to R501, R521, R533) -/

/-- What a port held back is sent as far as it goes (R514, R519). -/
def resumePort (b : Block) (p : Port) : Block := pumpReads (releaseHeld b p) p

/-- A link's rate, width and mode as trained (R497, R498, R533). -/
def trained (b : Block) (p : Port) (rate width : Nat) (flit : Bool) : Block :=
  let r := min rate (b.cfgN .HST_MAX_RATE)
  let w := min width (b.cfgN .HST_MAX_WIDTH)
  let b := if decide (r < b.cfgN .HST_MAX_RATE) || decide (w < b.cfgN .HST_MAX_WIDTH) then b.bump .PX_LINKEVT_DEGR p.val else b
  let b := ((b.put .PX_LINK_STATE p.val 3).put .PX_LINK_RATE p.val r).put .PX_LINK_WIDTH p.val w
  b.putBool .PX_LINK_FLIT p.val (flit || decide (r = 6))

/-- LINK_UP_L0 (R497 to R501): training reaches L0 where the port exists and nothing keeps its link down; the partner has then
re-enabled a disabled link. -/
def linkUpL0 (p : Port) (rate : Fin 7) (width : Fin 3) (flit rev : Bool) (b : Block) : Block :=
  let x := vget b.px p
  b.guard (x.present && !x.perst && b.pwr.powered && decide (b.mode ≠ .holdup) && !b.pwr.pwdisDown && b.boot.phy && decide (rate ≠ 0) &&
      decide (width ≠ 0)) (fun b =>
    let b := b.onPx p (fun x => { x with disabled := false, fetchStopped := false })
    let b := (trained b p rate.val width.val flit).putBool .PX_LINK_REV p.val rev
    resumePort (touchLink b p) p)

/-- LINK_UP_L0. -/
def execLinkUpL0 (p : Port) (rate : Fin 7) (width : Fin 3) (flit rev : Bool) (s : State) :
    Host.Outcome State Fault Refusal :=
  s.onBlock (linkUpL0 p rate width flit rev)

/-- LINK_RATE_CHANGE (R497, R501): the downstream port changes rate or width. -/
def linkRateChange (p : Port) (rate : Fin 7) (width : Fin 3) (flit : Bool) (b : Block) : Block :=
  b.guard (decide (b.get .PX_LINK_STATE p.val ∈ [3, 4]) && decide (rate ≠ 0) && decide (width ≠ 0)) (fun b =>
    resumePort (trained b p rate.val width.val flit) p)

/-- LINK_RATE_CHANGE. -/
def execLinkRateChange (p : Port) (rate : Fin 7) (width : Fin 3) (flit : Bool) (s : State) :
    Host.Outcome State Fault Refusal :=
  s.onBlock (linkRateChange p rate width flit)

/-- LINK_DOWN (R533): the link is lost without a reset. -/
def execLinkDown (p : Port) (s : State) : Host.Outcome State Fault Refusal :=
  s.onBlock (fun b => b.guard (onBus b p) (fun b => (linkDown b p).bump .PX_LINKEVT_DOWN p.val))

/-- LINK_RECOVERY (R533): from L0. -/
def execLinkRecovery (p : Port) (s : State) : Host.Outcome State Fault Refusal :=
  s.onBlock (fun b => b.guard (decide (b.get .PX_LINK_STATE p.val = 3)) (fun b =>
    (b.put .PX_LINK_STATE p.val 4).bump .PX_LINKEVT_RECOV p.val))

/-- No TLP is due on a port (R521): no read outstanding, and no doorbell unserved. -/
def portIdle (b : Block) (p : Port) : Bool :=
  (vget b.px p).out.isEmpty && (vget b.nv p).sqs.all (fun q => q.waiting.isEmpty)

/-- ASPM_L1_ENTRY (R521): with ASPM L1 enabled in Link Control, a port idle for `HST.L1_IDLE_US` enters L1, or a substate that is enabled where
`HST.CLKREQ` is 1. -/
def aspmL1Entry (p : Port) (sub : Fin 3) (b : Block) : Block :=
  let x := vget b.px p
  let en := configReg x 0x188 0
  let allowed := decide (b.cfgN .HST_CLKREQ = 1) && (if sub = 1 then bit en 3 else bit en 2)
  b.guard (decide (b.get .PX_LINK_STATE p.val = 3) && bit (configReg x 0x80 0) 1 && portIdle b p &&
      decide (x.tlpAt + b.cfgN .HST_L1_IDLE_US ≤ b.now)) (fun b =>
    b.put .PX_LINK_STATE p.val (if sub ≠ 0 ∧ allowed = true then 5 + sub.val else 5))

/-- ASPM_L1_ENTRY. -/
def execAspmL1Entry (p : Port) (sub : Fin 3) (s : State) : Host.Outcome State Fault Refusal := s.onBlock (aspmL1Entry p sub)

/-- ASPM_L1_EXIT (R521): back to L0. -/
def execAspmL1Exit (p : Port) (s : State) : Host.Outcome State Fault Refusal :=
  s.onBlock (fun b => b.guard (decide (b.get .PX_LINK_STATE p.val ∈ [5, 6, 7])) (fun b => b.put .PX_LINK_STATE p.val 3))

/-! ### Bus Master Enable (R513, R514) -/

/-- A write of a port with part of its data in. -/
def halfReceived (p : Port) (c : Cmd) : Bool :=
  decide (c.port = p ∧ c.phase = .receiving ∧ c.kind ∈ [.write, .append] ∧ 0 < c.waited)

/-- A write with part of its data in, dropped with Data Transfer Error. -/
def dropHalf (b : Block) (c : Cmd) : Block :=
  match cmdFind b c.port c.sq c.cid with | some d => abortCmd b d .dataTransferError | none => b

/-- BME_CLEAR (R513): no new request; reads outstanding are given up, their completions to be discarded; a write with part of its
data in is dropped with Data Transfer Error, held; the rest is held. -/
def bmeClear (p : Port) (b : Block) : Block :=
  b.guard (decide (b.get .PX_BME_BME p.val = 1)) (fun b =>
    let b := b.put .PX_BME_BME p.val 0
    let b := if (vget b.px p).out.isEmpty then b else b.bump .PX_BME_CLEARS p.val
    let b := abandonReads b p
    (b.nvm.cmds.filter (halfReceived p)).foldl dropHalf b)

/-- BME_CLEAR. -/
def execBmeClear (p : Port) (s : State) : Host.Outcome State Fault Refusal := s.onBlock (bmeClear p)

/-- BME_SET (R514): held completions are posted in order, and held transfers resume. -/
def bmeSet (p : Port) (b : Block) : Block := resumePort (b.put .PX_BME_BME p.val 1) p

/-- BME_SET. -/
def execBmeSet (p : Port) (s : State) : Host.Outcome State Fault Refusal := s.onBlock (bmeSet p)

/-! ### Power management (R518 to R520) -/

/-- D3HOT_ENTRY (R518, R519): host transfers and completions are held; NVMe state stays. -/
def d3hotEntry (p : Port) (b : Block) : Block := b.guard (onBus b p) (fun b => b.put .PX_LINK_DSTATE p.val 3)

/-- D3HOT_ENTRY. -/
def execD3hotEntry (p : Port) (s : State) : Host.Outcome State Fault Refusal := s.onBlock (d3hotEntry p)

/-- D3HOT_EXIT (R519): the held traffic resumes in D0. -/
def d3hotExit (p : Port) (b : Block) : Block :=
  b.guard (decide (b.get .PX_LINK_DSTATE p.val = 3)) (fun b => resumePort (b.put .PX_LINK_DSTATE p.val 0) p)

/-- D3HOT_EXIT. -/
def execD3hotExit (p : Port) (s : State) : Host.Outcome State Fault Refusal := s.onBlock (d3hotExit p)

/-- PME_REPEAT (R519): the message is sent again while PME_Status is set. -/
def execPmeRepeat (p : Port) (s : State) : Host.Outcome State Fault Refusal :=
  s.onBlock (fun b => b.guard ((vget b.px p).pmeStatus) (fun b => b.bump .PX_PM_PME p.val))

/-- PME_TURN_OFF (R520): fetching stops; PME_TO_Ack follows. -/
def execPmeTurnOff (p : Port) (s : State) : Host.Outcome State Fault Refusal :=
  s.onBlock (fun b => b.guard (onBus b p) (fun b =>
    ((touchLink b p).onPx p (fun x => { x with fetchStopped := true })).bump .PX_PM_TURNOFF p.val))

/-! ### Address translation (R523, R524) -/

/-- ATS is enabled on a port. -/
def atsOn (b : Block) (p : Port) : Bool := bit (configReg (vget b.px p) 0x15C 0) 31

/-- TRANSLATION_COMPLETION (R523): the translation enters the cache, whose oldest entry goes when 512 are held; where it denies the
access needed, the command fails with Data Transfer Error. -/
def translationCompletion (p : Port) (page : Nat) (read write needWrite : Bool) (sq cid : Nat) (b : Block) : Block :=
  b.guard (atsOn b p) (fun b =>
    let b := (touchLink b p).onPx p (fun x => { x with
      ats := takeLast 512 (x.ats.filter (fun e => e.page ≠ page) ++ [⟨page, read, write⟩]) })
    if (if needWrite then write else read) then b
    else
      let b := b.bump .PX_ATS_FAULT p.val
      match cmdFind b p sq cid with
      | some c => abortCmd b c .dataTransferError
      | none => b)

/-- TRANSLATION_COMPLETION. -/
def execTranslationCompletion (p : Port) (page : Nat) (read write needWrite : Bool) (sq cid : Nat) (s : State) :
    Host.Outcome State Fault Refusal :=
  s.onBlock (translationCompletion p page read write needWrite sq cid)

/-- INVALIDATION_REQUEST (R524): the entries covered are used no longer, and the reads now outstanding are waited for. Up to 32 are
held. -/
def invalidationRequest (p : Port) (page pages : Nat) (b : Block) : Block :=
  b.guard (decide ((vget b.px p).invalidations.length < 32)) (fun b =>
    (touchLink b p).onPx p (fun x => { x with
      ats := x.ats.filter (fun e => !decide (page ≤ e.page ∧ e.page < page + pages))
      invalidations := x.invalidations ++ [x.out.map (fun o => o.tag)] }))

/-- INVALIDATION_REQUEST. -/
def execInvalidationRequest (p : Port) (page pages : Nat) (s : State) : Host.Outcome State Fault Refusal :=
  s.onBlock (invalidationRequest p page pages)

/-- INVALIDATE_COMPLETION (R524): sent for an invalidation whose reads have all ended, whether or not Bus Master Enable is set. -/
def invalidateCompletion (p : Port) (b : Block) : Block :=
  b.guard ((vget b.px p).invalidations.any (fun l => l.isEmpty)) (fun b =>
    ((touchLink b p).onPx p (fun x => { x with invalidations := dropFirst (fun l => l.isEmpty) x.invalidations })).bump .PX_ATS_INV p.val)

/-- INVALIDATE_COMPLETION. -/
def execInvalidateCompletion (p : Port) (s : State) : Host.Outcome State Fault Refusal := s.onBlock (invalidateCompletion p)

/-! ### DOE, SPDM and factory unlock (R91, R92, R525, R526) -/

/-- A change to a port's DOE mailbox. -/
def Block.onDoe (b : Block) (p : Port) (f : Doe → Doe) : Block := b.onPx p (fun x => { x with doe := f x.doe })

/-- Factory unlock ends on a port (R92). -/
def endUnlock (b : Block) (p : Port) : Block := unlockOver (b.onPx p (fun x => { x with unlockAt := none })) p

/-- What a measurement block holds (R91): the digest of the boot ROM, of the firmware, of the image and of the calibration record,
the security-relevant fuses, and the content of `ID_PART`. What is absent measures as nothing. The form of a block is the model's (log
entry 130). -/
def measurement (b : Block) (block : Nat) : List Nat :=
  let k := vget b.fcs.banks b.fcs.running
  if block = 1 then [Config.bootRomDigest]
  else if block = 2 then (bankFw k).toList.map (fun fw => fw.digest)
  else if block = 3 then (bankImg k).toList.map imageDigest
  else if block = 4 then
    b.fcs.cal.toList.map (fun c => Config.sha384 (calBytes c).length ((calBytes c).foldr (fun d n => d + 256 * n) 0))
  else if block = 5 then
    [b.fuses.fwSvn, b.fuses.imgSvn, if b.fuses.fieldLock then 1 else 0] ++ b.fuses.keySlots.map (fun x => x.getD 0) ++
      b.fuses.revoked.map (fun x => if x then 1 else 0)
  else if block = 6 then [b.readWord 0xF0000]
  else []

/-- The answer to a request for measurements: their number for block 0, every block in order for 0xFF, each after its own number, else
the block (R91). -/
def measurementsOf (b : Block) (block : Nat) : List Nat :=
  if block = 0 then [6]
  else if block = 0xFF then ((List.range 6).map (fun i => (i + 1) :: measurement b (i + 1))).flatten
  else if block ≤ 6 then block :: measurement b block
  else []

/-- What an SPDM object does to the sessions of its port (R526), and factory unlock (R92): `SEC.UNLOCK_EN` 1, the field-lock fuse
intact, and the key's possession proved in a secure session. -/
def spdmEffect (p : Port) (protocol : Fin 4) (op : SpdmOp) (b : Block) : Block :=
  match op with
  | .other => b
  | .version => b.answer (.data [0x12, 0x13])
  | .measurements block => b.answer (.data (measurementsOf b block))
  | .openSession id => b.onDoe p (fun d =>
      if 4 ≤ d.sessions.length ∨ id ∈ d.sessions then d else { d with sessions := d.sessions ++ [id] })
  | .endSession id =>
    let b := b.onDoe p (fun d => { d with sessions := d.sessions.filter (· ≠ id) })
    if (vget b.px p).unlockBy = id then endUnlock b p else b
  | .unlock id challenge response =>
    if decide (protocol = 2) && decide (id ∈ (vget b.px p).doe.sessions) && decide (b.cfgN .SEC_UNLOCK_EN = 1) &&
        !b.fuses.fieldLock && Config.possessionProof (b.cfgN .SEC_UNLOCK_KEY) challenge response then
      let until_ := b.now + 60000000 * b.cfgN .SEC_UNLOCK_MIN
      b.onPx p (fun x => { x with unlockAt := some until_, unlockBy := id })
    else b

/-- DOE_REQUEST (R525): an object of Discovery, CMA/SPDM or Secured CMA/SPDM of at most 16 KiB is taken and answered; any other
sets DOE Error and is discarded. -/
def doeRequest (p : Port) (protocol : Fin 4) (length : Nat) (op : SpdmOp) (b : Block) : Block :=
  b.guard (onBus b p) (fun b =>
    let b := (touchLink b p).bump .PX_DOE_OBJECTS p.val
    if decide (16384 < length) || decide (protocol = 3) then b.onDoe p (fun d => { d with error := true, busy := false })
    else
      let b := (b.onDoe p (fun d => { d with busy := false, ready := true, error := false })).answer .none
      if protocol = 0 then b else spdmEffect p protocol op b)

/-- DOE_REQUEST. -/
def execDoeRequest (p : Port) (protocol : Fin 4) (length : Nat) (op : SpdmOp) (s : State) :
    Host.Outcome State Fault Refusal :=
  s.onBlock (doeRequest p protocol length op)

/-- DOE Abort (R525). -/
def doeAbort (p : Port) (b : Block) : Block :=
  ((touchLink b p).onDoe p (fun d => { d with busy := false, ready := false, error := false })).bump .PX_DOE_ABORTS p.val

/-- DOE_ABORT. -/
def execDoeAbort (p : Port) (s : State) : Host.Outcome State Fault Refusal :=
  s.onBlock (fun b => b.guard (onBus b p) (doeAbort p))

/-- FACTORY_UNLOCK_EXPIRY (R92): `SEC.UNLOCK_MIN` minutes have passed. -/
def execFactoryUnlockExpiry (p : Port) (s : State) : Host.Outcome State Fault Refusal :=
  s.onBlock (fun b => b.guard (match (vget b.px p).unlockAt with | some t => decide (t ≤ b.now) | none => false)
    (fun b => endUnlock b p))

/-! ### Errors and refused requests (R516, R517, R527) -/

/-- MEMORY_REQUEST_REFUSED (R527): a read is answered with Unsupported Request, a write is dropped; both are logged as advisory
and counted, and nothing else changes. -/
def execMemoryRequestRefused (p : Port) (read : Bool) (hdr : Nat) (s : State) : Host.Outcome State Fault Refusal :=
  s.onBlock (fun b => (refuseWindow (touchLink b p) p hdr).answer (if read then .unsupportedRequest else .none))

/-- MALFORMED_TLP (R517): a malformed TLP, an overflow or an internal error of the TLP buffer; dropped, logged and counted. -/
def execMalformedTlp (p : Port) (kind : Fin 3) (hdr : Nat) (s : State) : Host.Outcome State Fault Refusal :=
  s.onBlock (fun b =>
    (aerUncorrectable b p (if kind = 0 then 18 else if kind = 1 then 17 else 22) hdr).bump .PX_RXERR_MALF p.val)

/-- RECEIVER_ERROR (R516): a Receiver Error, a Bad TLP or a Bad DLLP; correctable. -/
def execReceiverError (p : Port) (kind : Fin 3) (s : State) : Host.Outcome State Fault Refusal :=
  s.onBlock (fun b => aerCorrectable b p (if kind = 0 then 0 else if kind = 1 then 6 else 7))

/-- REPLAY_TIMER_TIMEOUT (R516): the replay timer expires, or the replay count rolls over; correctable. -/
def execReplayTimerTimeout (p : Port) (rollover : Bool) (s : State) : Host.Outcome State Fault Refusal :=
  s.onBlock (fun b => aerCorrectable b p (if rollover then 8 else 12))

/-! ### Initiate FLR (R515) -/

/-- INITIATE_FLR (R515): as a clear of Bus Master Enable, then the function's reset, put off while an activation runs. -/
def initiateFlr (p : Port) (b : Block) : Block :=
  b.guard (onBus b p && b.boot.enginesUp && !(vget b.px p).flr) (fun b =>
    let b := (bmeClear p b).onPx p (fun x => { x with flr := true })
    resetOrDefer b (.flr p) (fun b => functionReset b p))

/-- INITIATE_FLR. -/
def execInitiateFlr (p : Port) (s : State) : Host.Outcome State Fault Refusal := s.onReset (initiateFlr p)

/-- FLR_COMPLETE (R515): configuration requests are answered normally again. -/
def execFlrComplete (p : Port) (s : State) : Host.Outcome State Fault Refusal :=
  s.onBlock (fun b => b.guard (!decide (DeferredReset.flr p ∈ b.fcs.deferred)) (fun b =>
    b.onPx p (fun x => { x with flr := false })))

/-! ### Configuration requests (R70, R502 to R505, R508) -/

/-- The completion timeout of a Completion Timeout Value, in ms (R508). -/
def timeoutOf (v : Nat) : Nat :=
  if v = 6 then 160 else if v = 9 then 600 else if v = 10 then 2000 else if v = 13 then 8000 else if v = 14 then 40000 else 40

/-- CONFIG_READ (R70, R503): CRS until the engines have started, else the fixed layout. -/
def configRead (p : Port) (off : Nat) (b : Block) : Block :=
  b.guard (onBus b p) (fun b =>
    let b := touchLink b p
    if answersCrs b p then b.answer .retryStatus else b.answer (.words [configWord b p (off / 4 * 4)]))

/-- CONFIG_READ. -/
def execConfigRead (p : Port) (off : Nat) (s : State) : Host.Outcome State Fault Refusal := s.onBlock (configRead p off)

/-- A write to Power Management Control/Status: the power state, PME_En, and a 1 that clears PME_Status. -/
def writePmcsr (p : Port) (w v : Nat) (b : Block) : Block :=
  let b := b.onPx p (fun x => { x with pmeEn := bit w 8, pmeStatus := x.pmeStatus && !bit v 15 })
  if w % 4 = 3 then d3hotEntry p b else if w % 4 = 0 then d3hotExit p b else b

/-- A write to AER's status registers: 1s clear; the header log goes with the error it belongs to. -/
def writeAer (p : Port) (off v : Nat) (b : Block) : Block :=
  b.onPx p (fun x =>
    if off = 0x104 then
      let x := { x with aerUnc := x.aerUnc &&& (0xFFFFFFFF ^^^ v) }
      match x.header with
      | some h => if bit v h.1 then { x with header := none } else x
      | none => x
    else { x with aerCor := x.aerCor &&& (0xFFFFFFFF ^^^ v) })

/-- With MSI-X enabled and its function mask clear, the pending messages are sent (R504). -/
def unmaskMsix (p : Port) (b : Block) : Block :=
  if msixOn b p && !msixMasked b p && hostReachable b p then
    (vget b.px p).pba.foldl (fun b v => sendMessage b p v) (b.onPx p (fun x => { x with pba := [] }))
  else b

/-- What a configuration write does beyond its kept bits; `v` holds the bytes enabled, `w` the merged word. -/
def configEffect (p : Port) (off w v : Nat) (b : Block) : Block :=
  if off = 0x04 then (if bit w 2 then (if b.get .PX_BME_BME p.val = 1 then b else bmeSet p b) else bmeClear p b)
  else if off = 0x44 then writePmcsr p w v b
  else if off = 0x50 then unmaskMsix p b
  else if off = 0x78 then
    let b := b.onPx p (fun x => { x with devSta := x.devSta &&& (0xF ^^^ (v / 2 ^ 16 % 16)) })
    if bit v 15 then initiateFlr p b else b
  else if off = 0x98 then refreshLtr (b.put .PX_CTO_TMS p.val (timeoutOf (w % 16))) p
  else if off = 0x104 ∨ off = 0x110 then writeAer p off v b
  else if off = 0x170 then (if bit v 0 then doeAbort p b else b)
  else b

/-- CONFIG_WRITE (R503, R505, R508, R513, R518, R523): the kept bits take the bytes enabled, and the fields with an effect act.
A change of ATS Enable empties the translation cache. -/
def configWrite (p : Port) (off : Nat) (v : Word) (enables : Fin 16) (b : Block) : Block :=
  b.guard (onBus b p) (fun b =>
    let b := touchLink b p
    if answersCrs b p then b.answer .retryStatus
    else
      let off := off / 4 * 4
      let w := mergeBytes (configWord b p off) v.toNat enables.val
      let on := mergeBytes 0 v.toNat enables.val
      let was := atsOn b p
      let b := keepConfig b p off w
      let b := if was = atsOn b p then b else b.onPx p (fun x => { x with ats := [] })
      configEffect p off w on (b.answer .none))

/-- CONFIG_WRITE. -/
def execConfigWrite (p : Port) (off : Nat) (v : Word) (enables : Fin 16) (s : State) : Host.Outcome State Fault Refusal :=
  s.onReset (configWrite p off v enables)

end Sys2Proof.Machine
end

