-- ==== Sys2Proof/Machine/Fetch.lean ====
section
/-! DEFINITION. Completions of a port's reads (R508 to R513), doorbells (R528, R558), the arbitration of submission queues (R529,
R549, R552), the Controller Memory Buffer's writes (R504, R550) and the coalescing timer (R546). -/

namespace Sys2Proof.Machine

/-! ### Runs of entries -/

/-- Entries submitted and not fetched. -/
def sqWaiting (q : SubQueue) : Nat := (q.waiting.map (fun w => w.2)).sum

/-- The stamps of the first n entries of runs. -/
def runStamps : Nat → List (Nat × Nat) → List Nat
  | _, [] => []
  | n, (t, k) :: rs => List.replicate (min n k) t ++ runStamps (n - k) rs

/-- A change to a submission queue. -/
def Block.onSq (b : Block) (p : Port) (q : Nat) (f : SubQueue → SubQueue) : Block :=
  b.onNv p (fun c => { c with sqs := updFirst (fun x => x.qid = q) f c.sqs })

/-- n entries of a queue have been read: its head moves past them, and they keep their stamps (R513, R559). -/
def entriesRead (b : Block) (p : Port) (q n : Nat) : Block :=
  execPeak (b.onSq p q (fun x => { x with
    head := (x.head + n) % max 1 x.size, waiting := dropRuns n x.waiting
    fetched := x.fetched ++ runStamps n x.waiting, readFails := 0 }))

/-! ### Completions (R509 to R513) -/

/-- A tag no longer outstanding; invalidations wait for it no longer (R524). -/
def endTag (b : Block) (p : Port) (tag : Nat) : Block :=
  b.onPx p (fun x => { x with
    out := x.out.filter (fun o => o.tag ≠ tag), invalidations := x.invalidations.map (fun l => l.filter (· ≠ tag)) })

/-- A read has failed (R509, R511, R512): a command's ends it with Data Transfer Error; the third failure in a row of an entry
read is the controller's fatal status, recorded in Sepia. -/
def readFailed (b : Block) (p : Port) (f : ReadFor) : Block :=
  match f with
  | .entries q n =>
    let now := b.now
    let b := b.onSq p q (fun x => { x with readFails := x.readFails + 1, failN := n, failAt := now })
    match sqFind (vget b.nv p) q with
    | some x => if x.readFails = 3 then (b.put .NV_CTL_CFS p.val 1).sepia 0x0B01 (srcLE p) p.val q else b
    | none => b
  | .command sq cid =>
    match cmdFind b p sq cid with
    | some c => abortCmd b c .dataTransferError
    | none => b
  | .gone => b

/-- A read has succeeded. -/
def readDone (b : Block) (p : Port) (f : ReadFor) : Block :=
  match f with
  | .entries q n => entriesRead b p q n
  | .command sq cid =>
    match cmdFind b p sq cid with
    | some c => putCmd b { c with waited := c.waited + 1 }
    | none => b
  | .gone => b

/-- A completion for a tag that is not outstanding (R510, R513): discarded silently after a clear of Bus Master Enable or an FLR,
else an Unexpected Completion, late or stray. -/
def unexpected (b : Block) (p : Port) (tag hdr : Nat) : Block :=
  let x := vget b.px p
  if tag ∈ x.discard then
    (endTag (b.onPx p (fun x => { x with discard := x.discard.filter (· ≠ tag) })) p tag).bump .PX_UNEXP_DISC p.val
  else if x.quarantine.any (fun q => q.1 = tag) then (aerAdvisory b p 16 hdr).bump .PX_UNEXP_LATE p.val
  else (aerAdvisory b p 16 hdr).bump .PX_UNEXP_STRAY p.val

/-- COMPLETION_RECEIVED (R510, R511, R513). Status 0 is successful, 1 Unsupported Request, 2 Completer Abort. -/
def completionReceived (p : Port) (tag : Nat) (status : Fin 3) (poison : Bool) (hdr : Nat) (b : Block) : Block :=
  let b := touchLink b p
  match (vget b.px p).out.find? (fun o => o.tag = tag) with
  | none => unexpected b p tag hdr
  | some o =>
    let b := endTag b p tag
    let b := if status ≠ 0 then b.bump .PX_RXERR_CPLERR p.val else b
    let bad := poison && decide (status = 0)
    let b := if bad then (aerUncorrectable b p 12 hdr).bump .PX_RXERR_POISON p.val else b
    pumpReads (if status ≠ 0 ∨ bad = true then readFailed b p o.for_ else readDone b p o.for_) p

/-- COMPLETION_RECEIVED. -/
def execCompletionReceived (p : Port) (tag : Nat) (status : Fin 3) (poison : Bool) (hdr : Nat) (s : State) :
    Host.Outcome State Fault Refusal :=
  s.onBlock (completionReceived p tag status poison hdr)

/-- COMPLETION_TIMEOUT (R508, R509): T has passed since the request; it is logged as advisory, its tag is quarantined for 2 × T,
and the read has failed. -/
def completionTimeout (p : Port) (tag hdr : Nat) (b : Block) : Block :=
  match (vget b.px p).out.find? (fun o => o.tag = tag) with
  | none => b
  | some o => b.guard (decide (o.at_ + 1000 * o.tms ≤ b.now)) (fun b =>
      let until_ := b.now + 2000 * o.tms
      let b := (endTag b p tag).onPx p (fun x => { x with quarantine := x.quarantine ++ [(tag, until_)] })
      let b := (aerAdvisory b p 14 hdr).bump .PX_CTO_COUNT p.val
      pumpReads (readFailed b p o.for_) p)

/-- COMPLETION_TIMEOUT. -/
def execCompletionTimeout (p : Port) (tag hdr : Nat) (s : State) : Host.Outcome State Fault Refusal :=
  s.onBlock (completionTimeout p tag hdr)

/-- TAG_QUARANTINE_END (R510): the tag is free again. -/
def tagQuarantineEnd (p : Port) (tag : Nat) (b : Block) : Block :=
  b.guard ((vget b.px p).quarantine.any (fun q => decide (q.1 = tag ∧ q.2 ≤ b.now))) (fun b =>
    let b := b.onPx p (fun x => { x with
      quarantine := x.quarantine.filter (fun q => q.1 ≠ tag), discard := x.discard.filter (· ≠ tag) })
    pumpReads (endTag b p tag) p)

/-- TAG_QUARANTINE_END. -/
def execTagQuarantineEnd (p : Port) (tag : Nat) (s : State) : Host.Outcome State Fault Refusal :=
  s.onBlock (tagQuarantineEnd p tag)

/-! ### Doorbells (R528, R558, R559) -/

/-- A doorbell event of the NVMe standard (R528): an error event of type 0, with the Error log's page. -/
def doorbellEvent (b : Block) (p : Port) (info : Nat) : Block :=
  if b.get .NV_CTL_RDY p.val = 1 then asyncEvent b p 0 info 0x01 else b

/-- The doorbell of a queue that does not exist (R528). -/
def noSuchQueue (b : Block) (p : Port) : Block := doorbellEvent (b.bump .PX_DB_NOQ p.val) p 0

/-- An invalid doorbell value (R528). -/
def invalidDoorbell (b : Block) (p : Port) : Block := doorbellEvent (b.bump .PX_DB_INVAL p.val) p 1

/-- The doorbell sequence last assigned (R558, R574). -/
def doorbellSeq (b : Block) : Nat := b.get .NV_DBSEQ_LO_SEQ 0 + 2 ^ 32 * b.get .NV_DBSEQ_HI_SEQ 0

/-- A tail value is valid for a queue: within its size, and it withdraws no entry already submitted (log entry 6). -/
def tailValid (q : SubQueue) (v : Nat) : Bool :=
  decide (v < q.size) && decide ((q.tail + q.size - q.head) % q.size ≤ (v + q.size - q.head) % q.size)

/-- SQ_TAIL_DOORBELL (R528, R558, R559): an accepted write takes the next stamp, and the entries that it submits carry it. -/
def sqTailDoorbell (p : Port) (sq value : Nat) (b : Block) : Block :=
  hostWrite b p (fun b =>
    match sqFind (vget b.nv p) sq with
    | none => noSuchQueue b p
    | some q =>
      if !tailValid q value then invalidDoorbell b p
      else
        let b := b.bump64 .NV_DBSEQ_LO_SEQ .NV_DBSEQ_HI_SEQ 0
        let stamp := doorbellSeq b
        let n := (value + q.size - q.tail) % q.size
        b.onSq p sq (fun x => { x with
          tail := value, waiting := if n = 0 then x.waiting else x.waiting ++ [(stamp, n)] }))

/-- SQ_TAIL_DOORBELL. -/
def execSqTailDoorbell (p : Port) (sq value : Nat) (s : State) : Host.Outcome State Fault Refusal :=
  s.onBlock (sqTailDoorbell p sq value)

/-- INTA falls when no completion queue with interrupts holds an entry. -/
def settleIntx (b : Block) (p : Port) : Block :=
  if (vget b.nv p).cqs.any (fun q => q.irq && !q.entries.isEmpty) then b else b.onPx p (fun x => { x with intx := false })

/-- CQ_HEAD_DOORBELL (R528): entries are consumed, and completions that waited for room are posted. -/
def cqHeadDoorbell (p : Port) (cq value : Nat) (b : Block) : Block :=
  hostWrite b p (fun b =>
    match cqFind (vget b.nv p) cq with
    | none => noSuchQueue b p
    | some q =>
      let n := (value + q.size - q.head) % q.size
      if q.size ≤ value ∨ q.entries.length < n then invalidDoorbell b p
      else
        let b := b.onNv p (fun c => { c with cqs := updFirst (fun x => x.qid = cq) (fun x => { x with
          entries := x.entries.drop n, head := value, aggregated := min x.aggregated (x.entries.length - n) }) c.cqs })
        releaseHeld (settleIntx b p) p)

/-- CQ_HEAD_DOORBELL. -/
def execCqHeadDoorbell (p : Port) (cq value : Nat) (s : State) : Host.Outcome State Fault Refusal :=
  s.onBlock (cqHeadDoorbell p cq value)

/-- INTERRUPT_COALESCING_TIME (R546): the aggregation time of a queue has passed, and its pending message is sent. -/
def interruptCoalescingTime (p : Port) (cq : Nat) (b : Block) : Block :=
  match cqFind (vget b.nv p) cq with
  | none => b
  | some q => b.guard (decide (0 < q.aggregated) && hostReachable b p) (fun b =>
      let b := b.onNv p (fun c => { c with cqs := updFirst (fun x => x.qid = cq) (fun x => { x with aggregated := 0 }) c.cqs })
      if q.irq then sendMessage b p q.vector else b)

/-- INTERRUPT_COALESCING_TIME. -/
def execInterruptCoalescingTime (p : Port) (cq : Nat) (s : State) : Host.Outcome State Fault Refusal :=
  s.onBlock (interruptCoalescingTime p cq)

/-! ### Fetching (R529, R549, R552) -/

/-- A queue's tokens now, in thousandths (R529): `HST.FETCH_KEPS` thousand a second, up to `HST.FETCH_BURST`. -/
def sqTokens (b : Block) (q : SubQueue) : Nat :=
  min (1000 * b.cfgN .HST_FETCH_BURST) (q.tokens + b.cfgN .HST_FETCH_KEPS * (b.now - q.tokenAt))

/-- Further I/O commands that a controller may hold: 4,096 over both, and always 256 for each (R549). -/
def execRoom (b : Block) (p : Port) : Nat := 4096 - (inExecution b p + max 256 (inExecution b (1 - p)))

/-- A link engine fetches nothing: a host pause, HOLDUP, PME_Turn_Off, or a hard trip's flush (R83, R113, R520, R622). -/
def fetchHalted (b : Block) (p : Port) : Bool := linkEnginesStopped b || (vget b.px p).fetchStopped || b.thm.trip

/-- I/O entries are not fetched: a shutdown (R548), or thermal stage 3 or 4 (R620). -/
def ioHalted (b : Block) (p : Port) : Bool :=
  decide (b.get .NV_CTL_SHST p.val ≠ 0) || decide (3 ≤ b.get .THM_STAGE_STAGE 0)

/-- A queue named by a queue recovery in progress or waiting (R566). -/
def underRecovery (b : Block) (p : Port) (q : Nat) : Bool := (vget b.nv p).qrec.any (fun r => qrecNames r q)

/-- A queue has entries that may be fetched now, tokens apart. -/
def sqReady (b : Block) (p : Port) (q : SubQueue) : Bool :=
  decide (0 < sqWaiting q) && decide (q.readFails = 0) && (q.cmb || hostReachable b p) &&
    !(vget b.px p).out.any (fun o => match o.for_ with | .entries k _ => decide (k = q.qid) | _ => false) &&
    (decide (q.qid = 0) || (!ioHalted b p && !underRecovery b p q.qid && decide (0 < execRoom b p)))

/-- The entries that one fetch takes from a queue (R506, R529, R552): at most 2^AB, 8, what is there, what lies before the end of
the queue, the tokens, and for I/O the room of R549. -/
def fetchSize (b : Block) (p : Port) (q : SubQueue) : Nat :=
  let ab := feat b p 0x01 0 % 8
  let n := min (if ab = 7 then 8 else min 8 (2 ^ ab)) (min (sqWaiting q) (min (q.size - q.head) (sqTokens b q / 1000)))
  if q.qid = 0 then n else min n (execRoom b p)

/-- A queue's class (R552): 4 is the admin queue, 0 urgent, 1 high, 2 medium, 3 low; without weighted round robin every I/O queue
is of class 1. -/
def sqClass (b : Block) (p : Port) (q : SubQueue) : Nat :=
  if q.qid = 0 then 4 else if b.get .NV_CTL_AMS p.val = 1 then q.prio % 4 else 1

/-- The next queue of a class in round robin (R552): the lowest identifier above the one last served, else the lowest. -/
def roundRobin (b : Block) (p : Port) (cls : Nat) (qs : List SubQueue) : Option SubQueue :=
  let mine := qs.filter (fun q => sqClass b p q = cls)
  let last := nget 0 (vget b.nv p).lastServed cls
  let above := mine.filter (fun q => last < q.qid)
  let from_ := if above.isEmpty then mine else above
  match (from_.map (fun q => q.qid)).min? with
  | some i => from_.find? (fun q => q.qid = i)
  | none => none

/-- The weight of a weighted class (R552): HPW, MPW or LPW plus 1. -/
def classWeight (b : Block) (p : Port) (cls : Nat) : Nat :=
  let f := feat b p 0x01 0
  (if cls = 1 then f / 2 ^ 24 else if cls = 2 then f / 2 ^ 16 else f / 2 ^ 8) % 256 + 1

/-- The weighted class whose turn it is among those with work: the highest with turns left; where none has, every class has its
weight of turns again. -/
def weightedClass (b : Block) (p : Port) (qs : List SubQueue) : Option (Nat × NMap Nat) :=
  let busy := [1, 2, 3].filter (fun k => qs.any (fun q => sqClass b p q = k))
  let cs := (vget b.nv p).credits
  match busy.find? (fun k => 0 < nget 0 cs k) with
  | some k => some (k, nset 0 cs k (nget 0 cs k - 1))
  | none =>
    let full : NMap Nat := [1, 2, 3].foldl (fun m k => nset 0 m k (classWeight b p k)) []
    busy.head?.map (fun k => (k, nset 0 full k (nget 0 full k - 1)))

/-- The queue that arbitration chooses (R552), with the credits it leaves. -/
def arbitrate (b : Block) (p : Port) (qs : List SubQueue) : Option (SubQueue × NMap Nat) :=
  let cs := (vget b.nv p).credits
  match roundRobin b p 4 qs with
  | some q => some (q, cs)
  | none => match roundRobin b p 0 qs with
    | some q => some (q, cs)
    | none => match weightedClass b p qs with
      | some (k, cs) => (roundRobin b p k qs).map (fun q => (q, cs))
      | none => none

/-- Queues with entries and no token are held back, each counted once per hold (R529). -/
def markThrottled (b : Block) (p : Port) : Block :=
  (vget b.nv p).sqs.foldl (fun b q =>
    if sqReady b p q && decide (sqTokens b q < 1000) && !q.throttled then
      (b.onSq p q.qid (fun x => { x with throttled := true })).bump .PX_DB_THROTTLE p.val
    else b) b

/-- A fetch sent, or served at once from the Controller Memory Buffer (R551). -/
def sendFetch (b : Block) (p : Port) (q : SubQueue) (n : Nat) : Block :=
  if q.cmb then entriesRead b p q.qid n
  else match issueRead b p (.entries q.qid n) with
    | some b => b
    | none => b

/-- SQ_ENTRY_FETCH (R529, R552): the queue chosen is served, and its tokens are spent. -/
def sqEntryFetch (p : Port) (b : Block) : Block :=
  b.guard (decide (b.get .NV_CTL_RDY p.val = 1) && !fetchHalted b p) (fun b =>
    let b := markThrottled b p
    let ready := (vget b.nv p).sqs.filter (fun q => sqReady b p q && decide (0 < fetchSize b p q) &&
      (q.cmb || (freeTag b p).isSome))
    match arbitrate b p ready with
    | none => b
    | some (q, cs) =>
      let n := fetchSize b p q
      let left := sqTokens b q - 1000 * n
      let now := b.now
      let b := b.onSq p q.qid (fun x => { x with tokens := left, tokenAt := now, throttled := false })
      let k := sqClass b p q
      let b := b.onNv p (fun c => { c with credits := cs, lastServed := nset 0 c.lastServed k q.qid })
      sendFetch b p q n)

/-- SQ_ENTRY_FETCH. -/
def execSqEntryFetch (p : Port) (s : State) : Host.Outcome State Fault Refusal := s.onBlock (sqEntryFetch p)

/-- SQ_FETCH_RETRY (R512): 1 ms after a failed entry read it is issued again, at most twice. -/
def sqFetchRetry (p : Port) (sq : Nat) (b : Block) : Block :=
  match sqFind (vget b.nv p) sq with
  | none => b
  | some q =>
    b.guard (decide (0 < q.readFails ∧ q.readFails < 3 ∧ q.failAt + 1000 ≤ b.now) && sqReady b p { q with readFails := 0 } &&
        !fetchHalted b p) (fun b =>
      sendFetch b p q (min q.failN (min (sqWaiting q) (q.size - q.head))))

/-- SQ_FETCH_RETRY. -/
def execSqFetchRetry (p : Port) (sq : Nat) (s : State) : Host.Outcome State Fault Refusal := s.onBlock (sqFetchRetry p sq)

/-! ### Controller Memory Buffer (R504, R511, R550) -/

/-- Bytes stored from an address on. -/
def storeBytes (m : NMap Byte) (addr : Nat) (ds : List Byte) : NMap Byte :=
  (ds.zip (List.range ds.length)).foldl (fun m d => nset 0 m (addr + d.2) d.1) m

/-- CMB_WRITE (R504, R516, R527, R550): up to 4 KiB stored in the controller's share; bytes beyond it are ignored, and without
CMBMSC.CRE and CMBMSC.CMSE, which `enabled` tells, nothing is. Poison marks what it stores, and is logged. -/
def cmbWrite (p : Port) (off : Nat) (data : List Byte) (poison enabled : Bool) (hdr : Nat) (m : NMap Byte) (b : Block) :
    NMap Byte × Block :=
  let b := touchLink b p
  if b.get .PX_LINK_DSTATE p.val = 3 then (m, refuseWindow b p hdr)
  else
    let share := cmbShare b p
    let ds := (data.take 4096).take (share.2 - off)
    let b := if poison then (aerUncorrectable b p 12 hdr).bump .PX_RXERR_POISON p.val else b
    if !enabled || ds.isEmpty then (m, b)
    else
      let lines := (List.range ((share.1 + off + ds.length - 1) / 8 + 1 - (share.1 + off) / 8)).map (fun i =>
        ((share.1 + off) / 8 + i) * 8)
      let marks := if poison then b.mm.poison ++ lines.filter (fun l => !decide (l ∈ b.mm.poison))
        else b.mm.poison.filter (fun l => !decide (share.1 + off ≤ l ∧ l + 8 ≤ share.1 + off + ds.length))
      let b := { b with mm := { b.mm with poison := marks } }
      (storeBytes m (share.1 + off) ds, b)

/-- CMB_WRITE. -/
def execCmbWrite (p : Port) (off : Nat) (data : List Byte) (poison enabled : Bool) (hdr : Nat) (s : State) :
    Host.Outcome State Fault Refusal :=
  s.onMem (cmbWrite p off data poison enabled hdr)

end Sys2Proof.Machine
end

