-- ==== Sys2Proof/Machine/IoCommands.lean ====
section
/-! DEFINITION. The I/O commands of the host (R555 to R563, R569, R570, R573, R583 to R588): what each is checked for as it is
fetched, and how it enters execution. A command carries its queue and identifier; its entry is the oldest fetched one of its
queue (log entry 3). -/

namespace Sys2Proof.Machine

/-! ### Arrival -/

/-- The stamp of the entry a command comes from (R559): the oldest fetched one of its queue, which is then started; a command
from no entry takes the present doorbell sequence. -/
def takeStamp (b : Block) (p : Port) (sq : Nat) : Nat × Block :=
  match sqFind (vget b.nv p) sq with
  | some q => match q.fetched with
    | t :: r => (t, b.onSq p sq (fun x => { x with fetched := r }))
    | [] => (doorbellSeq b, b)
  | none => (doorbellSeq b, b)

/-- A command's queue exists and its controller is ready. -/
def queueLive (b : Block) (p : Port) (sq : Nat) : Bool :=
  decide (b.get .NV_CTL_RDY p.val = 1) && (sqFind (vget b.nv p) sq).isSome

/-- A submission queue is of the urgent class (R553). -/
def urgentQueue (b : Block) (p : Port) (sq : Nat) : Bool :=
  match sqFind (vget b.nv p) sq with | some q => decide (sqClass b p q = 0) | none => false

/-- A new command of a kind, before its checks. -/
def newCmd (b : Block) (p : Port) (sq cid stamp : Nat) (k : CmdKind) (nsid slba nlb : Nat) : Cmd :=
  { port := p, sq := sq, cid := cid, stamp := stamp, kind := k, nsid := nsid, slba := slba, nlb := nlb, src := [], cmb := none, remap := false, data := []
    urgent := urgentQueue b p sq, phase := .receiving, bad := none, need := 0, status := .success, at_ := b.now, waited := 0 }

/-- A Format NVM or a sanitize of a namespace that waits for commands: those fetched after it fail (log entry 6). -/
def formatWaits (b : Block) (nsid : Nat) : Option Status :=
  b.nvm.waits.findSome? (fun w =>
    if w.nsid = nsid ∨ w.nsid = 0xFFFFFFFF then
      match w.op with
      | .format _ _ _ => some Status.formatInProgress
      | .sanitize => some Status.sanitizeInProgress
      | _ => none
    else none)

/-- An entry of a queue has been fetched and not yet started: it is in execution already (R549). -/
def entryFetched (b : Block) (p : Port) (sq : Nat) : Bool :=
  match sqFind (vget b.nv p) sq with | some q => !q.fetched.isEmpty | none => false

/-- A command of an I/O queue may be taken: one whose entry has been fetched already, or one that may be fetched now, which a shutdown,
thermal stages 3 and 4, a hard trip's flush and the 4,096 commands in execution hold (R548, R549, R620, R622). -/
def mayTake (b : Block) (p : Port) (sq : Nat) : Bool :=
  entryFetched b p sq || (!fetchHalted b p && !ioHalted b p && decide (0 < execRoom b p))

/-- An I/O command taken from its queue, which a host pause and HOLDUP hold (R72, R83, R107, R113, R569): an identifier still in use is refused, in recovery mode every opcode is invalid, the namespace must be attached, and
uncalibrated no namespace is ready. -/
def ioCommand (b : Block) (p : Port) (sq cid nsid : Nat) (f : Block → Nat → Namespace → Block) : Block :=
  b.guard (decide (sq ≠ 0) && queueLive b p sq && !linkEnginesStopped b && mayTake b p sq) (fun b =>
    let r := takeStamp b p sq
    let b := ioArrived r.2 p
    if (cmdFind b p sq cid).isSome then complete b p sq cid .idConflict
    else if b.boot.recovery then complete b p sq cid .invalidOpcode
    else match nsAttached b p nsid with
      | none => complete b p sq cid .invalidNamespace
      | some n => if b.get .SYS_BOOT_UNCAL 0 = 1 then complete b p sq cid .namespaceNotReady
        else match formatWaits b nsid with
          | some st => complete b p sq cid st
          | none => f b r.1 n)

/-- A command before a fence in execution (R559). -/
def isBefore (b : Block) (c f : Cmd) : Bool :=
  decide (c.stamp < f.stamp) || (decide (c.stamp = f.stamp) && (cmdsBefore b.nvm.cmds f).any (fun d => sameCmd c d))

/-- A command that enters execution counts for each fence that it is before (R557). -/
def enter (b : Block) (c : Cmd) : Block :=
  let counts := fun (f : Cmd) => decide (f.kind = .fence ∧ c.stamp < f.stamp) && fenceConcerns b f c.nsid
  let b := b.onNvm (fun n => { n with cmds := updAll counts (fun f => { f with waited := f.waited + 1 }) n.cmds })
  beginCmd b c

/-- The media cannot be served (R72, R167, R721): media commands fail with Namespace Not Ready. -/
def mediaReady (b : Block) (p : Port) (sq cid : Nat) (f : Block → Block) : Block :=
  if b.pwr.spinupFailed then complete b p sq cid .namespaceNotReady else f b

/-- A check that a command must pass before the rest. -/
def orElse (b : Block) (p : Port) (sq cid : Nat) (bad : Bool) (st : Status) (f : Block → Block) : Block :=
  if bad then complete b p sq cid st else f b

/-- A write to the blocks of a command checked under R383 and R404, and accepted; behind a zone action it is checked later (R586). -/
def acceptIo (b : Block) (n : Namespace) (c : Cmd) (append : Bool) : Block :=
  if n.zoned && checkedLater b b.nvm.cmds c then enter b { c with phase := .behind }
  else match writeCheck b n c.slba c.nlb append with
  | .success => enter (acceptWrite b n c.slba c.nlb append) c
  | st => complete (countRejected b st) c.port c.sq c.cid st

/-! ### Flush, Write, Zone Append and the data of both -/

/-- FLUSH (R556): successful as soon as it is fetched. -/
def execFlush (p : Port) (sq cid nsid : Nat) (s : State) : Host.Outcome State Fault Refusal :=
  s.onBlock (fun b => ioCommand b p sq cid nsid (fun b _ _ => complete b p sq cid .success))

/-- The data of a write lies in the controller's share of the Controller Memory Buffer as a whole, where it lies there at all (R551). -/
def cmbFits (b : Block) (p : Port) (n : Namespace) (nlb : Nat) (cmb : Option Nat) : Bool :=
  match cmb with | some off => decide (off + nlb * unitBytes n ≤ (cmbShare b p).2) | none => true

/-- WRITE (R122, R383, R404, R551, R573): at most 2 MiB; accepted in every mode, its data fetched when R103 allows. -/
def writeCmd (p : Port) (sq cid nsid slba nlb : Nat) (cmb : Option Nat) (b : Block) : Block :=
  ioCommand b p sq cid nsid (fun b t n => mediaReady b p sq cid (fun b =>
    orElse b p sq cid (decide (nlb = 0 ∨ 512 < nlb) || !cmbFits b p n nlb cmb) .invalidField (fun b =>
      acceptIo b n { newCmd b p sq cid t .write nsid slba nlb with cmb := cmb } false)))

/-- WRITE. -/
def execWrite (p : Port) (sq cid nsid slba nlb : Nat) (cmb : Option Nat) (s : State) : Host.Outcome State Fault Refusal :=
  s.onBlock (writeCmd p sq cid nsid slba nlb cmb)

/-- ZONE_APPEND (R383, R587): to a zone named by its first LBA, at most 2 MiB. -/
def zoneAppend (p : Port) (sq cid nsid slba nlb : Nat) (cmb : Option Nat) (remap : Bool) (b : Block) : Block :=
  ioCommand b p sq cid nsid (fun b t n => mediaReady b p sq cid (fun b =>
    orElse b p sq cid (!n.zoned) .invalidOpcode (fun b =>
      orElse b p sq cid (decide (slba % zoneSize ≠ 0 ∨ nlb = 0 ∨ 512 < nlb) || !cmbFits b p n nlb cmb) .invalidField (fun b =>
        acceptIo b n { newCmd b p sq cid t .append nsid slba nlb with cmb := cmb, remap := remap } true))))

/-- ZONE_APPEND. -/
def execZoneAppend (p : Port) (sq cid nsid slba nlb : Nat) (cmb : Option Nat) (remap : Bool) (s : State) :
    Host.Outcome State Fault Refusal :=
  s.onBlock (zoneAppend p sq cid nsid slba nlb cmb remap)

/-- The data of a command that brings its own: a Copy's sources, the zeros of Write Zeroes. -/
def ownData (c : Cmd) (data : List Nat) : List Nat :=
  if c.kind = .copy then c.data else if c.kind = .zeroes then List.replicate c.nlb 0 else data

/-- WRITE_DATA_RECEIVED (R122, R383, R384, R464): a write's data is fully in DRAM. -/
def writeDataReceived (p : Port) (sq cid : Nat) (data : List Nat) (poison : Bool) (pi : PiCheck) (b : Block) : Block :=
  let b := releaseFenced b
  match cmdFind b p sq cid with
  | none => b
  | some c => b.guard (mayReceive b c) (fun b =>
      let b := b.onPx p (fun x => { x with out := x.out.filter (fun o => o.for_ ≠ .command sq cid) })
      qrecAll (receiveWrite b c (ownData c data) poison pi))

/-- The data of a write in the Controller Memory Buffer (R551): its units as the bytes held there make them, and whether one of them is
poisoned; of any other write what the command brings. -/
def bufferData (m : NMap Byte) (b : Block) (p : Port) (sq cid : Nat) (data : List Nat) (poison : Bool) : List Nat × Bool :=
  match cmdFind b p sq cid with
  | none => (data, poison)
  | some c => match c.cmb, nsFind b c.nsid with
    | some off, some n =>
      let at_ := (cmbShare b p).1 + off
      let len := unitBytes n
      let unit := fun (i : Nat) => (List.range len).foldl (fun v j => v + (nget 0 m (at_ + i * len + j)).toNat * 2 ^ (8 * j)) 0
      ((List.range c.nlb).map unit, b.mm.poison.any (fun l => decide (at_ < l + 8 ∧ l < at_ + c.nlb * len)))
    | _, _ => (data, poison)

/-- WRITE_DATA_RECEIVED; data in the Controller Memory Buffer is copied from there (R551). -/
def execWriteDataReceived (p : Port) (sq cid : Nat) (data : List Nat) (poison : Bool) (pi : PiCheck) (s : State) :
    Host.Outcome State Fault Refusal :=
  let r := bufferData s.mem s.blk p sq cid data poison
  s.onBlock (writeDataReceived p sq cid r.1 r.2 pi)

/-! ### Reads -/

/-- What a read is checked for (R573, R583): its range, one zone, and a zone that is not Offline. -/
def readCheck (b : Block) (n : Namespace) (slba nlb : Nat) : Status :=
  if nlb = 0 ∨ 512 < nlb then .invalidField
  else if n.size < slba + nlb then .lbaOutOfRange
  else if n.zoned then
    if slba / zoneSize ≠ (slba + nlb - 1) / zoneSize then .zoneBoundary
    else match zoneFind b n.nsid (slba / zoneSize) with
      | some z => if z.state = .offline then .zoneOffline else .success
      | none => .success
  else .success

/-- A read or a verify: `pi` is the outcome of its protection-information check, where the format has it (R573). -/
def readCmd (k : CmdKind) (p : Port) (sq cid nsid slba nlb : Nat) (pi : PiCheck) (b : Block) : Block :=
  ioCommand b p sq cid nsid (fun b t n => mediaReady b p sq cid (fun b =>
    match readCheck b n slba nlb with
    | .success => enter b { newCmd b p sq cid t k nsid slba nlb with
        bad := if n.dps % 8 ≠ 0 ∧ pi ≠ .ok then some (piStatus pi) else none }
    | st => complete b p sq cid st))

/-- READ (R555, R573). -/
def execRead (p : Port) (sq cid nsid slba nlb : Nat) (pi : PiCheck) (s : State) : Host.Outcome State Fault Refusal :=
  s.onBlock (readCmd .read p sq cid nsid slba nlb pi)

/-- VERIFY (R573): the media read and checked without transfer. -/
def execVerify (p : Port) (sq cid nsid slba nlb : Nat) (pi : PiCheck) (s : State) : Host.Outcome State Fault Refusal :=
  s.onBlock (readCmd .verify p sq cid nsid slba nlb pi)

/-! ### Write Zeroes, Copy and Dataset Management -/

/-- WRITE_ZEROES (R573): up to 65,536 blocks; on a zoned namespace at the write pointer only. -/
def writeZeroes (p : Port) (sq cid nsid slba nlb : Nat) (b : Block) : Block :=
  ioCommand b p sq cid nsid (fun b t n => mediaReady b p sq cid (fun b =>
    orElse b p sq cid (decide (nlb = 0 ∨ 65536 < nlb)) .invalidField (fun b =>
      acceptIo b n (newCmd b p sq cid t .zeroes nsid slba nlb) false)))

/-- WRITE_ZEROES. -/
def execWriteZeroes (p : Port) (sq cid nsid slba nlb : Nat) (s : State) : Host.Outcome State Fault Refusal :=
  s.onBlock (writeZeroes p sq cid nsid slba nlb)

/-- COPY (R573): up to 128 source ranges and 65,536 blocks, to the write pointer of a zone or anywhere in a conventional
namespace. -/
def copyCmd (p : Port) (sq cid nsid slba : Nat) (ranges : List (Nat × Nat)) (b : Block) : Block :=
  let src := ranges.flatMap (fun r => (List.range r.2).map (fun i => r.1 + i))
  ioCommand b p sq cid nsid (fun b t n => mediaReady b p sq cid (fun b =>
    orElse b p sq cid (decide (src.length = 0 ∨ 128 < ranges.length ∨ 65536 < src.length)) .invalidField (fun b =>
      orElse b p sq cid (ranges.any (fun r => decide (n.size < r.1 + r.2))) .lbaOutOfRange (fun b =>
        acceptIo b n { newCmd b p sq cid t .copy nsid slba src.length with src := src } false))))

/-- COPY. -/
def execCopy (p : Port) (sq cid nsid slba : Nat) (ranges : List (Nat × Nat)) (s : State) : Host.Outcome State Fault Refusal :=
  s.onBlock (copyCmd p sq cid nsid slba ranges)

/-- A command that is done whole when it starts. -/
def instantIo (b : Block) (p : Port) (sq cid nsid op : Nat) (args : List Nat) (t : Nat) : Block :=
  enter b { newCmd b p sq cid t (.instant op) nsid 0 0 with src := args }

/-- DATASET_MANAGEMENT_DEALLOCATE (R391, R573): Deallocate of up to 256 ranges; without the attribute nothing happens, and on a
zoned namespace it has no effect. -/
def datasetManagement (p : Port) (sq cid nsid : Nat) (ranges : List (Nat × Nat)) (ad : Bool) (b : Block) : Block :=
  ioCommand b p sq cid nsid (fun b t n =>
    orElse b p sq cid (decide (256 < ranges.length) || ranges.isEmpty) .invalidField (fun b =>
      orElse b p sq cid (ranges.any (fun r => decide (n.size < r.1 + r.2) || decide (2 ^ 32 ≤ r.2))) .lbaOutOfRange (fun b =>
        if ad then instantIo b p sq cid nsid 0 (ranges.map (fun r => r.1 * 2 ^ 32 + r.2)) t
        else complete b p sq cid .success)))

/-- DATASET_MANAGEMENT_DEALLOCATE. -/
def execDatasetManagementDeallocate (p : Port) (sq cid nsid : Nat) (ranges : List (Nat × Nat)) (ad : Bool) (s : State) :
    Host.Outcome State Fault Refusal :=
  s.onBlock (datasetManagement p sq cid nsid ranges ad)

/-! ### Reservations (R570) -/

/-- RESERVATION_REGISTER: action 0 registers, 1 unregisters, 2 replaces; `change` is Change Persist Through Power Loss. -/
def execReservationRegister (p : Port) (sq cid nsid action : Nat) (ignore : Bool) (cur new change : Nat) (s : State) :
    Host.Outcome State Fault Refusal :=
  s.onBlock (fun b => ioCommand b p sq cid nsid (fun b t _ =>
    instantIo b p sq cid nsid 1 [action, if ignore then 1 else 0, cur, new, change] t))

/-- RESERVATION_REPORT. -/
def execReservationReport (p : Port) (sq cid nsid : Nat) (s : State) : Host.Outcome State Fault Refusal :=
  s.onBlock (fun b => ioCommand b p sq cid nsid (fun b t _ => instantIo b p sq cid nsid 2 [] t))

/-- RESERVATION_ACQUIRE: acquires, or preempts without aborting. -/
def execReservationAcquire (p : Port) (sq cid nsid : Nat) (preempt ignore : Bool) (cur prKey kind : Nat) (s : State) :
    Host.Outcome State Fault Refusal :=
  s.onBlock (fun b => ioCommand b p sq cid nsid (fun b t _ =>
    instantIo b p sq cid nsid 3 [if preempt then 1 else 0, if ignore then 1 else 0, cur, prKey, kind] t))

/-- RESERVATION_PREEMPT_AND_ABORT: preempts, and ends the commands of the preempted hosts; fences among them release what they
held (R563). -/
def execReservationPreemptAndAbort (p : Port) (sq cid nsid : Nat) (ignore : Bool) (cur prKey kind : Nat) (s : State) :
    Host.Outcome State Fault Refusal :=
  s.onBlock (fun b => ioCommand b p sq cid nsid (fun b t _ =>
    releaseFenced (instantIo b p sq cid nsid 3 [2, if ignore then 1 else 0, cur, prKey, kind] t)))

/-- RESERVATION_RELEASE: action 0 releases, 1 clears. -/
def execReservationRelease (p : Port) (sq cid nsid action : Nat) (ignore : Bool) (cur kind : Nat) (s : State) :
    Host.Outcome State Fault Refusal :=
  s.onBlock (fun b => ioCommand b p sq cid nsid (fun b t _ =>
    instantIo b p sq cid nsid 4 [action, if ignore then 1 else 0, cur, kind] t))

/-! ### Ordering Fence (R557 to R563) -/

/-- ORDERING_FENCE (R557, R563): one namespace attached, or all of them; a fence beyond the 64th is not fetched yet. -/
def orderingFence (p : Port) (sq cid nsid reserved : Nat) (b : Block) : Block :=
  b.guard (decide (sq ≠ 0) && queueLive b p sq && !linkEnginesStopped b && mayTake b p sq &&
      decide ((b.nvm.cmds.filter (fun c => c.kind = .fence)).length < 64)) (fun b =>
    let r := takeStamp b p sq
    let b := ioArrived r.2 p
    orElse b p sq cid (cmdFind b p sq cid).isSome .idConflict (fun b =>
      orElse b p sq cid b.boot.recovery .invalidOpcode (fun b =>
        orElse b p sq cid (decide (reserved ≠ 0)) .invalidField (fun b =>
          orElse b p sq cid (decide (nsid ≠ 0xFFFFFFFF) && (nsAttached b p nsid).isNone) .invalidNamespace (fun b =>
            let f := newCmd b p sq cid r.1 .fence nsid 0 0
            let n := (b.nvm.cmds.filter (fun c => fenceConcerns b f c.nsid && decide (c.stamp ≤ f.stamp))).length
            enter b { f with waited := n })))))

/-- ORDERING_FENCE. -/
def execOrderingFence (p : Port) (sq cid nsid reserved : Nat) (s : State) : Host.Outcome State Fault Refusal :=
  s.onBlock (orderingFence p sq cid nsid reserved)

/-- Every command before a fence is done (R559, R560): none concerned is in execution, and no I/O queue holds an entry with a lower
stamp, whose namespace is not known before it is fetched. -/
def fenceReady (b : Block) (f : Cmd) : Bool :=
  !b.nvm.cmds.any (fun c => !sameCmd c f && fenceConcerns b f c.nsid && isBefore b c f) &&
    (List.finRange 2).all (fun p => (vget b.nv p).sqs.all (fun q => decide (q.qid = 0) ||
      (q.fetched.all (fun t => decide (f.stamp ≤ t)) && q.waiting.all (fun w => decide (f.stamp ≤ w.1)))))

/-- FENCE_COMPLETE (R557, R560, R561): the fence completes with the number of commands it has waited for, and the commands it held
start. -/
def fenceComplete (p : Port) (sq cid : Nat) (b : Block) : Block :=
  match cmdFind b p sq cid with
  | none => b
  | some f => b.guard (decide (f.kind = .fence ∧ f.phase = .waiting) && fenceReady b f) (fun b =>
      let b := b.bump .NV_FENCE_DONE p.val
      releaseFenced (finishCmd b f .success (min f.waited 0xFFFFFFFF)))

/-- FENCE_COMPLETE. -/
def execFenceComplete (p : Port) (sq cid : Nat) (s : State) : Host.Outcome State Fault Refusal :=
  s.onBlock (fenceComplete p sq cid)

/-! ### Zone management (R583 to R588) -/

/-- A Zone Management Send action of R585, on the zone that an LBA begins or on those Select All chooses. -/
def zoneSend (act : Nat) (p : Port) (sq cid nsid slba : Nat) (all : Bool) (b : Block) : Block :=
  ioCommand b p sq cid nsid (fun b t n =>
    orElse b p sq cid (!n.zoned) .invalidOpcode (fun b =>
      orElse b p sq cid (!all && decide (n.size ≤ slba)) .lbaOutOfRange (fun b =>
        orElse b p sq cid (!all && decide (slba % zoneSize ≠ 0)) .invalidField (fun b =>
          enter b (newCmd b p sq cid t (.zone act) nsid slba (if all then 0 else 1))))))

/-- ZONE_CLOSE (R386, R585). -/
def execZoneClose (p : Port) (sq cid nsid slba : Nat) (all : Bool) (s : State) : Host.Outcome State Fault Refusal :=
  s.onBlock (zoneSend 1 p sq cid nsid slba all)

/-- ZONE_FINISH (R385, R404, R585). -/
def execZoneFinish (p : Port) (sq cid nsid slba : Nat) (all : Bool) (s : State) : Host.Outcome State Fault Refusal :=
  s.onBlock (zoneSend 2 p sq cid nsid slba all)

/-- ZONE_OPEN (R386, R585). -/
def execZoneOpen (p : Port) (sq cid nsid slba : Nat) (all : Bool) (s : State) : Host.Outcome State Fault Refusal :=
  s.onBlock (zoneSend 3 p sq cid nsid slba all)

/-- ZONE_RESET (R387, R585). -/
def execZoneReset (p : Port) (sq cid nsid slba : Nat) (all : Bool) (s : State) : Host.Outcome State Fault Refusal :=
  s.onBlock (zoneSend 4 p sq cid nsid slba all)

/-- ZONE_OFFLINE (R443, R585). -/
def execZoneOffline (p : Port) (sq cid nsid slba : Nat) (all : Bool) (s : State) : Host.Outcome State Fault Refusal :=
  s.onBlock (zoneSend 5 p sq cid nsid slba all)

/-- ZONE_SET_DESCRIPTOR_EXTENSION (R585): Invalid Field in Command. -/
def execZoneSetDescriptorExtension (p : Port) (sq cid nsid : Nat) (s : State) : Host.Outcome State Fault Refusal :=
  s.onBlock (fun b => ioCommand b p sq cid nsid (fun b _ _ => complete b p sq cid .invalidField))

/-- REPORT_ZONES (R588): every reporting option, with the Partial Report bit. -/
def reportZones (p : Port) (sq cid nsid slba option : Nat) (part : Bool) (room : Nat) (b : Block) : Block :=
  ioCommand b p sq cid nsid (fun b t n =>
    orElse b p sq cid (!n.zoned) .invalidOpcode (fun b =>
      orElse b p sq cid (decide (n.size ≤ slba)) .lbaOutOfRange (fun b =>
        orElse b p sq cid (decide (7 < option)) .invalidField (fun b =>
          instantIo b p sq cid nsid 5 [slba, option, if part then 1 else 0, room] t))))

/-- REPORT_ZONES. -/
def execReportZones (p : Port) (sq cid nsid slba option : Nat) (part : Bool) (room : Nat) (s : State) :
    Host.Outcome State Fault Refusal :=
  s.onBlock (reportZones p sq cid nsid slba option part room)

/-- EXTENDED_REPORT_ZONES (R588): Invalid Field in Command. -/
def execExtendedReportZones (p : Port) (sq cid nsid : Nat) (s : State) : Host.Outcome State Fault Refusal :=
  s.onBlock (fun b => ioCommand b p sq cid nsid (fun b _ _ => complete b p sq cid .invalidField))

end Sys2Proof.Machine
end

