-- ==== Sys2Proof/Machine/Admin.lean ====
section
/-! DEFINITION. Admin commands over queues (R545, R546, R571), Abort (R564), Queue Recovery (R565 to R567), Asynchronous Event Request
and the features (R568, R570, R572, R609, R627). -/

namespace Sys2Proof.Machine

/-- The stamp of an admin command (R559, R566): its entry's, or where it comes from no entry the next doorbell's. -/
def adminStamp (b : Block) (p : Port) : Nat × Block :=
  match sqFind (vget b.nv p) 0 with
  | some q => if q.fetched.isEmpty then (doorbellSeq b + 1, b) else takeStamp b p 0
  | none => (doorbellSeq b + 1, b)

/-- An admin command taken from its queue, which a hard trip's flush, a host pause and HOLDUP hold (R83, R113,
R622). In recovery mode only some
opcodes are valid (R73). -/
def adminStamped (b : Block) (p : Port) (cid : Nat) (inRecovery : Bool) (f : Block → Nat → Block) : Block :=
  b.guard (queueLive b p 0 && !b.thm.trip && !linkEnginesStopped b) (fun b =>
    let r := adminStamp b p
    if b.boot.recovery && !inRecovery then complete r.2 p 0 cid .invalidOpcode else f r.2 r.1)

/-- An admin command that recovery mode does not accept. -/
def adminCommand (b : Block) (p : Port) (cid : Nat) (f : Block → Block) : Block :=
  adminStamped b p cid false (fun b _ => f b)

/-! ### Queues (R545, R546, R571) -/

/-- I/O queue identifiers granted to a controller (R545): submission and completion queues; none before Number of Queues. -/
def grantedQueues (b : Block) (p : Port) : Nat × Nat := ((vget b.nv p).granted).getD (0, 0)

/-- A queue may hold 2 to 4,096 entries. -/
def queueSizeOk (n : Nat) : Bool := decide (2 ≤ n ∧ n ≤ 4096)

/-- CREATE_IO_COMPLETION_QUEUE (R545, R546): in host memory, physically contiguous. -/
def createCq (p : Port) (cid qid size vector : Nat) (ien pc : Bool) (b : Block) : Block :=
  adminCommand b p cid (fun b =>
    if qid = 0 ∨ (grantedQueues b p).2 < qid ∨ (cqFind (vget b.nv p) qid).isSome = true then complete b p 0 cid .invalidQueue
    else if !queueSizeOk size then complete b p 0 cid .invalidQueueSize
    else if !pc then complete b p 0 cid .invalidField
    else if 129 < vector then complete b p 0 cid .invalidVector
    else
      let q : CompQueue := ⟨qid, size, vector, ien, [], 0, 0, 0⟩
      complete (b.onNv p (fun c => { c with cqs := c.cqs ++ [q] })) p 0 cid .success)

/-- CREATE_IO_COMPLETION_QUEUE. -/
def execCreateIoCompletionQueue (p : Port) (cid qid size vector : Nat) (ien pc : Bool) (s : State) :
    Host.Outcome State Fault Refusal :=
  s.onBlock (createCq p cid qid size vector ien pc)

/-- A submission queue with nothing submitted, and its bucket full (R529). -/
def newSq (b : Block) (qid size cqid prio : Nat) (cmb : Bool) : SubQueue :=
  { qid := qid, cq := cqid, size := size, prio := prio, cmb := cmb, tail := 0, head := 0, waiting := [], fetched := []
    tokens := 1000 * b.cfgN .HST_FETCH_BURST, tokenAt := b.now, throttled := false, readFails := 0, failN := 0, failAt := 0 }

/-- CREATE_IO_SUBMISSION_QUEUE (R545): in host memory or in the Controller Memory Buffer, where there is one. -/
def createSq (p : Port) (cid qid size cqid : Nat) (prio : Fin 4) (pc cmb : Bool) (b : Block) : Block :=
  adminCommand b p cid (fun b =>
    if qid = 0 ∨ (grantedQueues b p).1 < qid ∨ (sqFind (vget b.nv p) qid).isSome = true then complete b p 0 cid .invalidQueue
    else if !queueSizeOk size then complete b p 0 cid .invalidQueueSize
    else if cqid = 0 ∨ (cqFind (vget b.nv p) cqid).isNone = true then complete b p 0 cid .completionQueueInvalid
    else if !pc || (cmb && decide ((cmbShare b p).2 = 0)) then complete b p 0 cid .invalidField
    else
      let q := newSq b qid size cqid prio.val cmb
      complete (b.onNv p (fun c => { c with sqs := c.sqs ++ [q] })) p 0 cid .success)

/-- CREATE_IO_SUBMISSION_QUEUE. -/
def execCreateIoSubmissionQueue (p : Port) (cid qid size cqid : Nat) (prio : Fin 4) (pc cmb : Bool) (s : State) :
    Host.Outcome State Fault Refusal :=
  s.onBlock (createSq p cid qid size cqid prio pc cmb)

/-- DELETE_IO_COMPLETION_QUEUE (R571): refused while a submission queue uses it. -/
def deleteCq (p : Port) (cid qid : Nat) (b : Block) : Block :=
  adminCommand b p cid (fun b =>
    if qid = 0 ∨ (cqFind (vget b.nv p) qid).isNone = true then complete b p 0 cid .invalidQueue
    else if (vget b.nv p).sqs.any (fun q => q.cq = qid) then complete b p 0 cid .invalidQueueDeletion
    else complete (b.onNv p (fun c => { c with cqs := c.cqs.filter (fun q => q.qid ≠ qid) })) p 0 cid .success)

/-- DELETE_IO_COMPLETION_QUEUE. -/
def execDeleteIoCompletionQueue (p : Port) (cid qid : Nat) (s : State) : Host.Outcome State Fault Refusal :=
  s.onBlock (deleteCq p cid qid)

/-- DELETE_IO_SUBMISSION_QUEUE (R566, R571): its commands end as under a queue recovery, then it is gone. `unfetched` are the
identifiers of its entries not fetched. -/
def deleteSq (p : Port) (cid qid : Nat) (unfetched : List Nat) (b : Block) : Block :=
  adminCommand b p cid (fun b =>
    if qid = 0 ∨ (sqFind (vget b.nv p) qid).isNone = true then complete b p 0 cid .invalidQueue
    else
      let r : QueueRec := ⟨cid, 2 ^ qid, 2 ^ 64, b.now, unfetched.map (fun c => (qid, c)), false, false, [], 0, some qid⟩
      qrecAll (b.onNv p (fun c => { c with qrec := c.qrec ++ [r] })))

/-- DELETE_IO_SUBMISSION_QUEUE. -/
def execDeleteIoSubmissionQueue (p : Port) (cid qid : Nat) (unfetched : List Nat) (s : State) :
    Host.Outcome State Fault Refusal :=
  s.onBlock (deleteSq p cid qid unfetched)

/-! ### Abort and Queue Recovery -/

/-- An abort that ended its target (R580). -/
def abortEnded (b : Block) (p : Port) (cid : Nat) : Block :=
  complete ((b.bump .NV_ABORT_ENDED p.val).bump .NV_ABORT_COUNT p.val) p 0 cid .success 0

/-- An abort that did not. -/
def abortNot (b : Block) (p : Port) (cid : Nat) : Block := complete (b.bump .NV_ABORT_COUNT p.val) p 0 cid .success 1

/-- ABORT (R564): an I/O command in execution ends with Command Abort Requested unless it is a write that is all in; an
Asynchronous Event Request ends; everything else is not aborted. -/
def abortCommand (p : Port) (cid sq target : Nat) (b : Block) : Block :=
  adminCommand b p cid (fun b =>
    if sq = 0 then
      if target ∈ (vget b.nv p).aers then
        let b := b.onNv p (fun c => { c with aers := c.aers.filter (· ≠ target) })
        abortEnded (complete b p 0 target .abortRequested) p cid
      else abortNot b p cid
    else match cmdFind b p sq target with
      | none => abortNot b p cid
      | some c => if fullyReceived c || decide (noCompletion ≤ c.cid) then abortNot b p cid
                  else abortEnded (abortCmd b c .abortRequested) p cid)

/-- ABORT. -/
def execAbort (p : Port) (cid sq target : Nat) (s : State) : Host.Outcome State Fault Refusal :=
  s.onBlock (abortCommand p cid sq target)

/-- A mask of Queue Recovery is valid (R565): not 0, without bit 0, and naming only queues that exist. -/
def maskOk (b : Block) (p : Port) (mask : Nat) : Bool :=
  decide (mask % 2 ^ 128 ≠ 0) && !bit mask 0 &&
    (List.range 128).all (fun q => !bit mask q || (sqFind (vget b.nv p) q).isSome)

/-- QUEUE_RECOVERY (R565 to R567): the named queues are emptied of what was submitted before it; a second one waits. `unfetched`
are the entries that the covered doorbells have submitted and that are read to be completed, as queue and identifier. -/
def queueRecovery (p : Port) (cid mask : Nat) (unfetched : List (Nat × Nat)) (b : Block) : Block :=
  adminStamped b p cid false (fun b t =>
    if !maskOk b p mask then complete b p 0 cid .invalidField
    else
      let r : QueueRec := ⟨cid, mask % 2 ^ 128, t, b.now, unfetched, false, false, [], 0, none⟩
      qrecAll (b.onNv p (fun c => { c with qrec := c.qrec ++ [r] })))

/-- QUEUE_RECOVERY. -/
def execQueueRecovery (p : Port) (cid mask : Nat) (unfetched : List (Nat × Nat)) (s : State) :
    Host.Outcome State Fault Refusal :=
  s.onBlock (queueRecovery p cid mask unfetched)

/-- ASYNCHRONOUS_EVENT_REQUEST (R571): up to 8 outstanding; a held event answers at once. -/
def asyncRequest (p : Port) (cid : Nat) (b : Block) : Block :=
  adminCommand b p cid (fun b =>
    if 8 ≤ (vget b.nv p).aers.length then complete b p 0 cid .asyncLimit
    else
      let es := (vget b.nv p).events
      let b := b.onNv p (fun c => { c with aers := c.aers ++ [cid], events := [] })
      es.foldl (fun b e => asyncEvent b p e.1 e.2.1 e.2.2) b)

/-- ASYNCHRONOUS_EVENT_REQUEST. -/
def execAsynchronousEventRequest (p : Port) (cid : Nat) (s : State) : Host.Outcome State Fault Refusal :=
  s.onBlock (asyncRequest p cid)

end Sys2Proof.Machine
end

