-- ==== Sys2Proof/Machine/Features.lean ====
section
/-! DEFINITION. Set Features and Get Features (R108, R136, R568, R570, R572, R609, R627), and the temperature bit of the critical warning
(R626). -/

namespace Sys2Proof.Machine

/-- A feature's value set, and saved where the command asks for it (R135, R572). -/
def keepFeature (b : Block) (p : Port) (fid sel v : Nat) (save : Bool) : Block :=
  let b := setFeat b p fid sel v
  if save then b.onNv p (fun c => { c with saved := ninsert (nerase c.saved (featKey fid sel)) (featKey fid sel) v }) else b

/-- A Set Features command of a saveable feature: a value out of range is refused. -/
def setFeature (p : Port) (cid : Nat) (ok : Block → Bool) (f : Block → Block) (b : Block) : Block :=
  adminCommand b p cid (fun b => if ok b then complete (f b) p 0 cid .success else complete b p 0 cid .invalidField)

/-- A Set Features command of a feature that cannot be saved. -/
def setVolatile (p : Port) (cid : Nat) (save : Bool) (ok : Block → Bool) (f : Block → Block) (b : Block) : Block :=
  if save then adminCommand b p cid (fun b => complete b p 0 cid .notSaveable) else setFeature p cid ok f b

/-- SET_FEATURES_ARBITRATION (R552, R572). -/
def execSetFeaturesArbitration (p : Port) (cid : Nat) (v : Word) (save : Bool) (s : State) :
    Host.Outcome State Fault Refusal :=
  s.onBlock (setFeature p cid (fun _ => true) (fun b =>
    (keepFeature b p 0x01 0 v.toNat save).onNv p (fun c => { c with credits := [] })))

/-- SET_FEATURES_POWER_MANAGEMENT (R100, R105, R568): the controller's request, one of PS0 to PS4; the Workload Hint is ignored.
PS0 to PS3 start a spin-up after one that failed. -/
def powerManagement (p : Port) (cid ps : Nat) (save : Bool) (b : Block) : Block :=
  setFeature p cid (fun _ => decide (ps ≤ 4)) (fun b =>
    let b := { b with pwr := { b.pwr with spinupFailed := b.pwr.spinupFailed && decide (3 < ps) } }
    refreshWarnings (powerEval (setRequest (keepFeature b p 0x02 0 ps save) p ps) 0x01)) b

/-- SET_FEATURES_POWER_MANAGEMENT. -/
def execSetFeaturesPowerManagement (p : Port) (cid ps _hint : Nat) (save : Bool) (s : State) :
    Host.Outcome State Fault Refusal :=
  s.onBlock (powerManagement p cid ps save)

/-- A sensor of the SMART log is beyond a controller's thresholds (R626, R627). -/
def beyondThreshold (b : Block) (p : Port) (n : Nat) : Bool :=
  smartPresent b n && (decide (feat b p 0x04 (2 * n) ≤ smartSensor b n) || decide (smartSensor b n ≤ feat b p 0x04 (2 * n + 1)))

/-- Bit 1 of the critical warning (R626): any sensor beyond a threshold of either controller. -/
def refreshTemperature (b : Block) : Block :=
  setWarning b 1 ((List.finRange 2).any (fun p =>
    decide (b.get .NV_CTL_RDY p.val = 1) && (List.range 9).any (beyondThreshold b p)))

/-- SET_FEATURES_TEMPERATURE_THRESHOLD (R627): an over or under threshold in kelvin of sensor 0 to 8. -/
def temperatureThreshold (p : Port) (cid sensor : Nat) (under : Bool) (v : Nat) (save : Bool) (b : Block) : Block :=
  setFeature p cid (fun _ => decide (sensor ≤ 8)) (fun b =>
    refreshTemperature (keepFeature b p 0x04 (2 * sensor + (if under then 1 else 0)) (v % 65536) save)) b

/-- SET_FEATURES_TEMPERATURE_THRESHOLD. -/
def execSetFeaturesTemperatureThreshold (p : Port) (cid sensor : Nat) (under : Bool) (v : Nat) (save : Bool) (s : State) :
    Host.Outcome State Fault Refusal :=
  s.onBlock (temperatureThreshold p cid sensor under v save)

/-- SET_FEATURES_ERROR_RECOVERY (R572): TLER 0 only, and no DULBE. -/
def execSetFeaturesErrorRecovery (p : Port) (cid tler : Nat) (dulbe save : Bool) (s : State) :
    Host.Outcome State Fault Refusal :=
  s.onBlock (setVolatile p cid save (fun _ => decide (tler = 0) && !dulbe) (fun b => setFeat b p 0x05 0 0))

/-- SET_FEATURES_NUMBER_OF_QUEUES (R545): once after each reset, up to 127 of each kind; the operands and the answer count from
0. -/
def numberOfQueues (p : Port) (cid nsq ncq : Nat) (save : Bool) (b : Block) : Block :=
  adminCommand b p cid (fun b =>
    if save then complete b p 0 cid .notSaveable
    else if nsq = 65535 ∨ ncq = 65535 then complete b p 0 cid .invalidField
    else if (vget b.nv p).granted.isSome then complete b p 0 cid .commandSequence
    else
      let n := min (nsq + 1) 127
      let m := min (ncq + 1) 127
      complete (b.onNv p (fun c => { c with granted := some (n, m) })) p 0 cid .success ((m - 1) * 65536 + (n - 1)))

/-- SET_FEATURES_NUMBER_OF_QUEUES. -/
def execSetFeaturesNumberOfQueues (p : Port) (cid nsq ncq : Nat) (save : Bool) (s : State) :
    Host.Outcome State Fault Refusal :=
  s.onBlock (numberOfQueues p cid nsq ncq save)

/-- SET_FEATURES_INTERRUPT_COALESCING (R546, R572): the time in units of 100 µs, and the threshold counted from 0. -/
def execSetFeaturesInterruptCoalescing (p : Port) (cid time threshold : Nat) (save : Bool) (s : State) :
    Host.Outcome State Fault Refusal :=
  s.onBlock (setFeature p cid (fun _ => true) (fun b =>
    keepFeature b p 0x08 0 (time % 256 * 256 + threshold % 256) save))

/-- SET_FEATURES_INTERRUPT_VECTOR_CONFIG (R546, R572): vectors 1 to 129. -/
def execSetFeaturesInterruptVectorConfig (p : Port) (cid vector : Nat) (disable save : Bool) (s : State) :
    Host.Outcome State Fault Refusal :=
  s.onBlock (setVolatile p cid save (fun _ => decide (1 ≤ vector ∧ vector ≤ 129)) (fun b =>
    setFeat b p 0x09 vector (if disable then 1 else 0)))

/-- SET_FEATURES_ASYNC_EVENT_CONFIG (R572). -/
def execSetFeaturesAsyncEventConfig (p : Port) (cid : Nat) (v : Word) (save : Bool) (s : State) :
    Host.Outcome State Fault Refusal :=
  s.onBlock (setFeature p cid (fun _ => true) (fun b => keepFeature b p 0x0B 0 v.toNat save))

/-- An entry of the Autonomous Power State Transition table is valid: none, or a move to PS3 or PS4. -/
def apstEntryOk (e : Nat × Nat) : Bool := decide (e.1 = 0) || decide (e.2 = 3) || decide (e.2 = 4)

/-- SET_FEATURES_APST (R108, R572): enabled or not, and for PS0 to PS4 in order the idle time in ms and the target state. -/
def apstFeature (p : Port) (cid : Nat) (enable : Bool) (table : List (Nat × Nat)) (save : Bool) (b : Block) : Block :=
  setFeature p cid (fun _ => decide (table.length ≤ 5) && table.all apstEntryOk) (fun b =>
    let b := keepFeature b p 0x0C 0 (if enable then 1 else 0) save
    (List.range 5).foldl (fun b i =>
      let e := table.getD i (0, 0)
      keepFeature b p 0x0C (i + 1) (e.1 % 2 ^ 24 * 256 + e.2 % 32 * 8) save) b) b

/-- SET_FEATURES_APST. -/
def execSetFeaturesApst (p : Port) (cid : Nat) (enable : Bool) (table : List (Nat × Nat)) (save : Bool) (s : State) :
    Host.Outcome State Fault Refusal :=
  s.onBlock (apstFeature p cid enable table save)

/-- The host timestamp now, in ms (R136): it counts on from the value set, modulo 2^48. -/
def hostTimestamp (b : Block) : Option Nat := b.sys.hostTs.map (fun t => (t + (b.now - b.sys.hostTsAt) / 1000) % 2 ^ 48)

/-- SET_FEATURES_TIMESTAMP (R136): a backward setting is accepted, and recorded in Sepia with the old value. -/
def timestampFeature (p : Port) (cid ms : Nat) (save : Bool) (b : Block) : Block :=
  setVolatile p cid save (fun _ => true) (fun b =>
    let old := (hostTimestamp b).getD 0
    let b := if ms % 2 ^ 48 < old then b.sepia 0x0203 (srcCC 0) 0 old else b
    { b with sys := { b.sys with hostTs := some (ms % 2 ^ 48), hostTsAt := b.now } }) b

/-- SET_FEATURES_TIMESTAMP. -/
def execSetFeaturesTimestamp (p : Port) (cid ms : Nat) (save : Bool) (s : State) : Host.Outcome State Fault Refusal :=
  s.onBlock (timestampFeature p cid ms save)

/-- SET_FEATURES_HOST_IDENTIFIER (R570): extended identifiers only; not while the present one is registered. -/
def hostIdentifier (p : Port) (cid : Nat) (exhid : Bool) (id : Nat) (save : Bool) (b : Block) : Block :=
  adminCommand b p cid (fun b =>
    let h := (vget b.nv p).hostId
    if save then complete b p 0 cid .notSaveable
    else if !exhid then complete b p 0 cid .invalidField
    else if h ≠ 0 ∧ h ≠ id % 2 ^ 128 ∧ b.xl.namespaces.any (fun n => n.registrants.any (fun r => r.1 = h)) = true then
      complete b p 0 cid .commandSequence
    else complete (b.onNv p (fun c => { c with hostId := id % 2 ^ 128 })) p 0 cid .success)

/-- SET_FEATURES_HOST_IDENTIFIER. -/
def execSetFeaturesHostIdentifier (p : Port) (cid : Nat) (exhid : Bool) (id : Nat) (save : Bool) (s : State) :
    Host.Outcome State Fault Refusal :=
  s.onBlock (hostIdentifier p cid exhid id save)

/-- The namespaces that a feature of a namespace reaches: one attached, or with 0xFFFFFFFF all of them. -/
def featureNamespaces (b : Block) (p : Port) (nsid : Nat) : List Nat :=
  if nsid = 0xFFFFFFFF then ((List.range 8).map (· + 1)).filter (fun n => (nsAttached b p n).isSome)
  else if (nsAttached b p nsid).isSome then [nsid] else []

/-- A Set Features command of a namespace. -/
def setNamespaceFeature (p : Port) (cid nsid : Nat) (f : Block → Nat → Block) (b : Block) : Block :=
  adminCommand b p cid (fun b =>
    match featureNamespaces b p nsid with
    | [] => complete b p 0 cid .invalidNamespace
    | ns => complete (ns.foldl f b) p 0 cid .success)

/-- SET_FEATURES_RESERVATION_NOTIF_MASK (R570, R572). -/
def execSetFeaturesReservationNotifMask (p : Port) (cid nsid mask : Nat) (save : Bool) (s : State) :
    Host.Outcome State Fault Refusal :=
  s.onBlock (setNamespaceFeature p cid nsid (fun b n => keepFeature b p 0x82 n (mask % 2 ^ 32) save))

/-- SET_FEATURES_RESERVATION_PERSISTENCE (R135, R570, R572): the namespace's Persist Through Power Loss. -/
def execSetFeaturesReservationPersistence (p : Port) (cid nsid : Nat) (ptpl save : Bool) (s : State) :
    Host.Outcome State Fault Refusal :=
  s.onBlock (setNamespaceFeature p cid nsid (fun b n =>
    let b := b.onXl (fun x => { x with
      namespaces := updFirst (fun m => m.nsid = n) (fun m => { m with ptpl := ptpl }) x.namespaces })
    keepFeature b p 0x83 n (if ptpl then 1 else 0) save))

/-- SET_FEATURES_VOLATILE_WRITE_CACHE (R556): Invalid Field in Command. -/
def execSetFeaturesVolatileWriteCache (p : Port) (cid : Nat) (s : State) : Host.Outcome State Fault Refusal :=
  s.onBlock (fun b => adminCommand b p cid (fun b => complete b p 0 cid .invalidField))

/-- SET_FEATURES_JOB_EVENT_ROUTING (R600, R609). -/
def execSetFeaturesJobEventRouting (p : Port) (cid v : Nat) (save : Bool) (s : State) : Host.Outcome State Fault Refusal :=
  s.onBlock (setFeature p cid (fun _ => decide (v ≤ 1)) (fun b => keepFeature b p 0xC0 0 v save))

/-- SET_FEATURES_HEALTH_NOTICE_THRESHOLD (R609): 50 to 100 %. -/
def execSetFeaturesHealthNoticeThreshold (p : Port) (cid v : Nat) (save : Bool) (s : State) :
    Host.Outcome State Fault Refusal :=
  s.onBlock (setFeature p cid (fun _ => decide (50 ≤ v ∧ v ≤ 100)) (fun b => keepFeature b p 0xC1 0 v save))

/-- A Feature Identifier is supported (R572, R609). -/
def supportedFeature (fid : Nat) : Bool :=
  decide (fid ∈ [0x01, 0x02, 0x04, 0x05, 0x07, 0x08, 0x09, 0x0B, 0x0C, 0x0E, 0x81, 0x82, 0x83, 0xC0, 0xC1])

/-- A supported feature is saveable. -/
def saveableFeature (fid : Nat) : Bool := !decide (fid ∈ [0x05, 0x07, 0x09, 0x0E, 0x81])

/-- Features whose value is a namespace's. -/
def namespaceFeature (fid : Nat) : Bool := decide (fid = 0x82 ∨ fid = 0x83)

/-- The current value of a feature in Dword 0 (R568: the power state is the controller's own request). -/
def featureDword (b : Block) (p : Port) (fid sel : Nat) : Nat :=
  if fid = 0x02 then requestOf b p
  else if fid = 0x07 then (match (vget b.nv p).granted with | some g => (g.2 - 1) * 65536 + (g.1 - 1) | none => 0)
  else if fid = 0x09 then sel + feat b p 0x09 sel * 65536
  else if fid = 0x83 then (match nsFind b sel with | some n => if n.ptpl then 1 else 0 | none => 0)
  else feat b p fid sel

/-- The data that a feature's current value returns beside Dword 0: the APST table, the timestamp with its origin, the host
identifier. -/
def featureData (b : Block) (p : Port) (fid : Nat) : Reply :=
  if fid = 0x0C then .data ((List.range 5).map (fun i => feat b p 0x0C (i + 1)))
  else if fid = 0x0E then .data [(hostTimestamp b).getD (b.sys.powerOnUs / 1000 % 2 ^ 48), if b.sys.hostTs.isSome then 1 else 0]
  else if fid = 0x81 then .data [(vget b.nv p).hostId]
  else .none

/-- GET_FEATURES (R568, R572, R609): `select` 0 current, 1 default, 2 saved, 3 capabilities; `sel` is the part that selects within
the feature: a threshold, a vector or a namespace. -/
def getFeatures (p : Port) (cid fid sel : Nat) (select : Fin 4) (b : Block) : Block :=
  adminCommand b p cid (fun b =>
    if !supportedFeature fid || (decide (fid = 0x04) && decide (17 < sel)) then complete b p 0 cid .invalidField
    else if namespaceFeature fid && (nsAttached b p sel).isNone then complete b p 0 cid .invalidNamespace
    else
      let saved := match (vget b.nv p).saved.find? (fun e => e.1 = featKey fid sel) with
        | some e => e.2
        | none => featDefault b fid sel
      let caps := (if saveableFeature fid then 1 else 0) + (if namespaceFeature fid then 2 else 0) + 4
      let v := if select = 0 then featureDword b p fid sel else if select = 1 then featDefault b fid sel
        else if select = 2 then saved else caps
      complete (b.answer (if select = 0 then featureData b p fid else .none)) p 0 cid .success v)

/-- GET_FEATURES. -/
def execGetFeatures (p : Port) (cid fid sel : Nat) (select : Fin 4) (s : State) : Host.Outcome State Fault Refusal :=
  s.onBlock (getFeatures p cid fid sel select)

end Sys2Proof.Machine
end

