-- ==== Sys2Proof/Machine/Activation.lean ====
section
/-! DEFINITION. Firmware download, commit and rolling activation (R79 to R86, R90), with the settings each phase brings into use
(R56, R176, R226, R270, R315, R355, R486, R531, R637, R664, R665). -/

namespace Sys2Proof.Machine

/-! ### Download (R73, R79) -/

/-- The bank that recovery mode writes downloads to (R73): one that is not valid and not unusable, bank 0 first (DESIGN CHOICE, log
entry 134). -/
def recoveryBank (b : Block) : Option (Fin 2) :=
  (List.finRange 2).find? (fun k => !(vget b.fcs.banks k).unusable && decide (bankCheck b (vget b.fcs.banks k) ≠ 0))

/-- Downloaded parts written straight into the bank that recovery mode has chosen (R73); the first piece erases it. -/
def recoveryWrite (b : Block) (k : Fin 2) (first : Bool) (parts : Package) : Block :=
  let erased := if first
    then onBank b k (fun x => jobErase x (.commit none k ⟨0, 0, 0, 0, [], 0, 0, 0⟩ ⟨[], []⟩ 0)) else b
  fcsShown (onBank erased k (fun x => { x with fw := parts.fw <|> x.fw, img := parts.img <|> x.img })) k

/-- A piece accepted: staged in DRAM, or in recovery mode written to a bank. -/
def takePiece (b : Block) (p : Port) (cid off len : Nat) (parts : Package) : Block :=
  if b.boot.recovery then
    match (if off = 0 then recoveryBank b else b.fcs.target) with
    | none => complete b p 0 cid .invalidSlot
    | some k =>
      let b := recoveryWrite b k (decide (off = 0)) parts
      complete { b with fcs := { b.fcs with target := some k, stagedNext := off + len } } p 0 cid .success
  else
    let old := b.fcs.staged
    let new : Package := ⟨parts.fw <|> old.fw, parts.img <|> old.img⟩
    complete { b with fcs := { b.fcs with staged := new, stagedNext := off + len } } p 0 cid .success

/-- FIRMWARE_IMAGE_DOWNLOAD (R73, R79): a piece of whole 4 KiB units, in offset order, of a package of at most 28 MiB. A piece that
overlaps or skips what was received discards the staging area. One that is not of whole units, or that passes 28 MiB, completes with
Invalid Field in Command and leaves the staging area as it is (DESIGN CHOICE, log entry 135: R79 gives no outcome). `parts` is what the
package holds as far as this piece completes it. -/
def firmwareDownload (p : Port) (cid off len : Nat) (parts : Package) (b : Block) : Block :=
  adminStamped b p cid true (fun b _ =>
    if off ≠ b.fcs.stagedNext then
      complete { b with fcs := { b.fcs with staged := ⟨none, none⟩, stagedNext := 0 } } p 0 cid .invalidField
    else if len = 0 ∨ len % 4096 ≠ 0 ∨ 28 * 1048576 < off + len then complete b p 0 cid .invalidField
    else takePiece b p cid off len parts)

/-- FIRMWARE_IMAGE_DOWNLOAD. -/
def execFirmwareImageDownload (p : Port) (cid off len : Nat) (parts : Package) (s : State) :
    Host.Outcome State Fault Refusal :=
  s.onBlock (firmwareDownload p cid off len parts)

/-! ### The commit (R80, R81) -/

/-- The firmware and the image of a bank, where it holds both and is not revoked: it may be activated (R59). -/
def bankParts (k : FcsBank) : Option (FwPart × Image) :=
  match bankFw k, bankImg k with
  | some fw, some m => if k.revoke = 0xFF ∧ bankDesc k = .intact then some (fw, m) else none
  | _, _ => none

/-- The bank a slot names: slot 1 is bank 0 and slot 2 is bank 1; slot 0 leaves the choice to the module, which takes the bank
that is not running, or in recovery mode the one that downloads went to. -/
def slotBank (b : Block) (slot : Nat) : Option (Fin 2) :=
  if slot = 0 then some (if b.boot.recovery then b.fcs.target.getD 0 else 1 - b.fcs.running)
  else if slot = 1 then some 0 else if slot = 2 then some 1 else none

/-- A bank that a commit may not target (R60, R73, R81): the running one or one unusable for update; in recovery mode, where no
bank runs, a valid one that no download went to. -/
def slotRefused (b : Block) (k : Fin 2) : Bool :=
  (vget b.fcs.banks k).unusable ||
    (if b.boot.recovery then !decide (b.fcs.target = some k) && decide (bankCheck b (vget b.fcs.banks k) = 0)
     else decide (k = b.fcs.running))

/-- The parts a commit would put together: the staged ones, each missing one taken from the running bank; or the slot's
existing contents, where downloads have already been written to it in recovery mode. -/
def commitParts (b : Block) (k : Fin 2) (write : Bool) : Option (FwPart × Image) :=
  let run := vget b.fcs.banks b.fcs.running
  if write then
    match (b.fcs.staged.fw <|> bankFw run), (b.fcs.staged.img <|> bankImg run) with
    | some fw, some m => some (fw, m)
    | _, _ => none
  else bankParts (vget b.fcs.banks k)

/-- The running firmware is older than the oldest that may hand over to a part (R81). -/
def priorTooOld (b : Block) (fw : FwPart) : Bool :=
  match bankFw (vget b.fcs.banks b.fcs.running) with
  | some r => !b.boot.recovery && decide (r.version < fw.minPrior)
  | none => false

/-- Format-bound content would change against the running image while namespaces exist (R57, R81). -/
def boundChanges (b : Block) (m : Image) : Bool :=
  !b.boot.recovery && !b.xl.namespaces.isEmpty &&
    (match bankImg (vget b.fcs.banks b.fcs.running) with | some r => formatChanges r m | none => false)

/-- Why a commit's parts are refused (R81), none where they are accepted; `newFw` tells that the firmware part is not the
running one. Invalid Firmware Image comes before a low security version (DESIGN CHOICE, log entry 136). -/
def partsRefused (b : Block) (fw : FwPart) (m : Image) (newFw : Bool) : Option Status :=
  let code := if fwSigned fw then imageCode b fw m else 0x02
  if (decide (code ≠ 0) && decide (code ≠ 8)) || boundChanges b m || (newFw && priorTooOld b fw) then some .invalidImage
  else if code = 8 then some .activationProhibitedVersion
  else none

/-- A commit checked and, where a package is to be written, its write begun; a commit of what a slot holds goes on at once. Where
several conditions of R81 hold, the status is that of the first in this order: the slot, another commit or activation, the image, the
security version (DESIGN CHOICE, log entry 136: R81 gives no order). -/
def commitWith (b : Block) (p : Port) (cid slot action : Nat) (write : Bool) (next : Block → Fin 2 → Block) : Block :=
  adminStamped b p cid true (fun b _ =>
    match slotBank b slot with
    | none => complete b p 0 cid .invalidSlot
    | some k =>
      if slotRefused b k then complete b p 0 cid .invalidSlot
      else if b.fcs.activation.isSome || commitRuns b then complete b p 0 cid .activationProhibitedBusy
      else match commitParts b k write with
        | none => complete b p 0 cid .invalidImage
        | some (fw, m) =>
          match partsRefused b fw m (!write || b.fcs.staged.fw.isSome) with
          | some st => complete b p 0 cid st
          | none =>
            if write then
              queueFcs { b with fcs := { b.fcs with staged := ⟨none, none⟩, stagedNext := 0 } }
                (.commit (some (p, cid)) k fw m action)
            else next b k)

/-- A package is staged, whole or in part; in recovery mode it lies in a bank already (R73). -/
def packageStaged (b : Block) : Bool := b.fcs.staged.fw.isSome || b.fcs.staged.img.isSome

/-- The sequence number that a commit in recovery mode programs when it completes (R61), where the bank has none. -/
def programSeq (b : Block) (k : Fin 2) : Block :=
  let n := recoverySeq b
  fcsShown (onBank b k (fun x => { x with seq := some (x.seq.getD n) })) k

/-- The slot's bank armed for the next C, N or P reset. -/
def armBank (b : Block) (k : Fin 2) : Block := { b with fcs := { b.fcs with armed := some k } }

/-- A commit of what a slot holds completes: in recovery mode, which has no rolling activation, with the bank's number programmed
(R61, R73). -/
def commitHeld (b : Block) (p : Port) (cid : Nat) (k : Fin 2) (arm : Bool) : Block :=
  let b := if b.boot.recovery then programSeq b k else if arm then armBank b k else b
  complete b p 0 cid .success

/-- FIRMWARE_COMMIT_REPLACE (R80): action 0b000. With nothing staged it completes with Invalid Firmware Image (DESIGN CHOICE, log entry
137: R80 gives no status). -/
def commitReplace (p : Port) (cid slot : Nat) (b : Block) : Block :=
  if packageStaged b || b.boot.recovery then
    commitWith b p cid slot 0 (!b.boot.recovery) (fun b k => commitHeld b p cid k false)
  else adminStamped b p cid true (fun b _ => complete b p 0 cid .invalidImage)

/-- FIRMWARE_COMMIT_REPLACE. -/
def execFirmwareCommitReplace (p : Port) (cid slot : Nat) (s : State) : Host.Outcome State Fault Refusal :=
  s.onBlock (commitReplace p cid slot)

/-- FIRMWARE_COMMIT_REPLACE_ACTIVATE (R80): action 0b001; with nothing staged, as action 0b000 (log entry 137). -/
def commitReplaceActivate (p : Port) (cid slot : Nat) (b : Block) : Block :=
  if packageStaged b || b.boot.recovery then
    commitWith b p cid slot 1 (!b.boot.recovery) (fun b k => commitHeld b p cid k false)
  else adminStamped b p cid true (fun b _ => complete b p 0 cid .invalidImage)

/-- FIRMWARE_COMMIT_REPLACE_ACTIVATE. -/
def execFirmwareCommitReplaceActivate (p : Port) (cid slot : Nat) (s : State) : Host.Outcome State Fault Refusal :=
  s.onBlock (commitReplaceActivate p cid slot)

/-- FIRMWARE_COMMIT_ACTIVATE (R80): action 0b010, on the slot's existing contents. -/
def commitActivate (p : Port) (cid slot : Nat) (b : Block) : Block :=
  commitWith b p cid slot 2 false (fun b k => commitHeld b p cid k true)

/-- FIRMWARE_COMMIT_ACTIVATE. -/
def execFirmwareCommitActivate (p : Port) (cid slot : Nat) (s : State) : Host.Outcome State Fault Refusal :=
  s.onBlock (commitActivate p cid slot)

/-- The module restarts into a new bank from recovery mode (R73): the links retrain, and BOOT begins. -/
def restartModule (b : Block) : Block :=
  let b := (List.finRange 2).foldl portReset b
  let b := { b with
    fcs := { b.fcs with target := none, stagedNext := 0 }
    boot := { b.boot with
      active := false, halted := none, enginesUp := false, journalUp := false, recovery := false, verified := false, phy := false } }
  enterMode b .boot 0x00

/-- FIRMWARE_COMMIT_IMMEDIATE (R80, R82): action 0b011, with the staged package where there is one; the commit completes when the
activation ends. In recovery mode the module restarts into the bank written instead (R73). -/
def commitImmediate (p : Port) (cid slot : Nat) (b : Block) : Block :=
  commitWith b p cid slot 3 (packageStaged b && !b.boot.recovery) (fun b k =>
    if b.boot.recovery then restartModule (commitHeld b p cid k false)
    else beginActivation b k (some (p, 0, cid)))

/-- FIRMWARE_COMMIT_IMMEDIATE. -/
def execFirmwareCommitImmediate (p : Port) (cid slot : Nat) (s : State) : Host.Outcome State Fault Refusal :=
  s.onReset (commitImmediate p cid slot)

/-! ### Settings brought into use by the phases -/

/-- Settings that take effect at the next BOOT only (R531, and MEM.CARVE_WAYS and MEM.CMB_KIB). -/
def bootOnly (k : Setting) : Bool :=
  decide (k ∈ [.HST_SVID, .HST_SSID, .HST_MAX_RATE, .HST_MAX_WIDTH, .HST_PORTS, .HST_CLKREQ, .MEM_CARVE_WAYS, .MEM_CMB_KIB])

/-- An image whose listed values are those of a second one for the settings and instances chosen, and of the first for the
others. -/
def mergeImages (old new : Image) (take : Setting → Nat → Bool) : Image :=
  let chosen := fun (e : Nat × Int) =>
    let k := Setting.ofNat (e.1 / 4096 / 32)
    take k (e.1 / 4096 % 32) && !bootOnly k
  let vals := (new.vals.filter chosen).foldl (fun (m : NMap Int) e => ninsert (nerase m e.1) e.1 e.2)
    (old.vals.filter (fun e => !chosen e))
  { new with vals := vals }

/-- Settings that the swap of actuator a's engines brings into use (R82, R226, R270, R315, R355): its own instances, and the
records that all actuators share. -/
def actuatorSetting (a : Nat) (k : Setting) (inst : Nat) : Bool :=
  match (settingInfo k).record with
  | .heads => decide (inst / 6 = a)
  | .servo => decide (inst = a)
  | .overlay => decide (inst = a)
  | .assist => true
  | .channel => true
  | _ => false

/-- The Spindle settings, which SPE's swap brings into use (R176). -/
def spindleSetting (k : Setting) (_ : Nat) : Bool := decide ((settingInfo k).record = .spindle)

/-- The Host settings, which the restart of the control cores brings into use (R531). -/
def hostSetting (k : Setting) (_ : Nat) : Bool := decide ((settingInfo k).record = .host)

/-- The image of a bank as its firmware understands it. -/
def bankImage (b : Block) (k : Fin 2) : Image :=
  match bankParts (vget b.fcs.banks k) with
  | some (fw, m) => effective fw m
  | none => b.image

/-- Settings of a bank brought into use. -/
def takeSettings (b : Block) (k : Fin 2) (take : Setting → Nat → Bool) : Block :=
  { b with image := mergeImages b.image (bankImage b k) take }

/-- The primary law's coefficients of an actuator differ between two images (R226). -/
def coefsDiffer (m n : Image) (a : Nat) : Bool :=
  let of := fun (x : Image) => x.vals.filter (fun e =>
    decide (e.1 / 4096 % 32 = a) && decide (Setting.ofNat (e.1 / 4096 / 32) ∈ [.SRV_CTRL_A, .SRV_CTRL_B, .SRV_CTRL_C, .SRV_CTRL_D]))
  !decide (of m = of n)

/-- AEa, TSa and SEa swapped (R82, R226, R270, R315, R355): with changed coefficients the law's states start anew and writes are
held for one revolution; queued jobs, trims and runout tables are kept. -/
def swapActuator (b : Block) (k : Fin 2) (a : Act) : Block :=
  let old := b.image
  let b := takeSettings b k (actuatorSetting a.val)
  let b := if coefsDiffer old b.image a.val
    then b.onSrv a (fun v => { v with
      x := (List.range (b.cfgN .SRV_CTRL_N a.val)).map (Config.lawState v.model), wuHold := b.cfgN .SRV_WEDGES a.val }) else b
  tsReload b a

/-- SPE swapped (R176): a changed set speed in RUN or IDLE has every loaded actuator unloaded; the old speed is held until they are on
their ramps, then the spindle is brought to the new one, and they reload once it is locked there. -/
def swapSpindle (b : Block) (k : Fin 2) : Block :=
  let was := b.cfgN .SPD_SET_RPM
  let b := takeSettings b k spindleSetting
  if decide (b.cfgN .SPD_SET_RPM ≠ was) && decide (b.mode ∈ [.run, .idle]) && decide (b.spn.goal ∈ [.run, .slow]) then
    let b := clearLock (unloadForSpeed b)
    if (List.finRange 4).any (loaded b) then
      { b with spn := { b.spn with goal := .slow, brakeWait := true, holdSpeed := some (b.spn.holdSpeed.getD (8 * was)) } }
    else startSlow b
  else b

/-- Populated actuators from number n on. -/
def actFrom (b : Block) (n : Nat) : Option Act := (List.finRange 4).find? (fun a => decide (n ≤ a.val) && b.populated a)

/-! ### The end of an activation -/

/-- Register fields set back by a reset of kind A (R10, R130). -/
def moduleRegs (b : Block) : Block :=
  { b with regs := b.regs.filter (fun e => decide (.A ∈ (Field.ofNat (e.1 / 256)).info.kept)) }

/-- The dispatch entries and overlay length of TSa shown (R367, R368). -/
def showOverlay (b : Block) (a : Act) : Block :=
  let b := (List.range 16).foldl (fun b op => b.put .TS_DISP_n_ADDR (16 * a.val + op) (dispatchEntry b a op)) b
  (b.putBool .TS_VER_OVL a.val (decide (b.cfgN .TSO_WORDS a.val ≠ 0))).put .TS_VER_OVLWORDS a.val (b.cfgN .TSO_WORDS a.val)

/-- Band copies abandoned by a reset of kind A (R398): the targets are free again, and the copies start anew. -/
def abandonCopies (b : Block) : Block :=
  b.onXl (fun x => { x with
    copies := [], taken := x.taken.filter (fun t => !x.copies.any (fun c => t = c.target * 32 + c.surf)) })

/-- Sepia's buckets of codes whose rate or burst changed start full (R664). -/
def changedBuckets (old b : Block) : Block :=
  { b with sep := { b.sep with
    buckets := b.sep.buckets.map (fun k =>
      if sepRate old k.code = sepRate b k.code ∧ sepBurst old k.code = sepBurst b k.code then k
      else { k with milli := 1000 * sepBurst b k.code, ms := b.now / 1000 }) } }

/-- The activation is over: its commit completes, and the resets put off meanwhile are carried out (R80, R86). -/
def activationOver (b : Block) (v : Activation) (st : Status) : Block :=
  let rs := b.fcs.deferred
  let b := { b with fcs := { b.fcs with activation := none, deferred := [] } }
  let b := match v.commit with
    | some (p, sq, cid) => complete b p sq cid st
    | none => b
  let b := (List.finRange 2).foldl resumePort b
  if rs.isEmpty then b else startArmed (rs.foldl deferredReset b)

/-- Phase 8 ends (R56, R82, R90, R92, R96, R97): the remaining settings are in use, the running bank is switched, the security
counters take the values activated, and factory unlock ends. -/
def activationDone (b : Block) (v : Activation) : Block :=
  match bankParts (vget b.fcs.banks v.bank) with
  | some (fw, m) =>
    let old := b
    let b := policiesChanged old (takeSettings b v.bank (fun _ _ => true))
    let b := (List.finRange 2).foldl endUnlock (abandonCopies (changedBuckets old b))
    let b := (List.finRange 4).foldl (fun b a => stopInjection b a) b
    let b := moduleRegs b
    let b := (List.finRange 4).foldl showOverlay (showImage (applyFirmware b fw) b.image)
    let b := { b with
      fcs := { b.fcs with running := v.bank }
      thm := { b.thm with rethresh := true }
      fuses := { b.fuses with
        fwSvn := max b.fuses.fwSvn (min 64 fw.svn), imgSvn := max b.fuses.imgSvn (min 64 (imgGet m .SEC_SVN 0 0).toNat) } }
    activationOver (b.put .FCS_STAT_RUNBANK 0 v.bank.val) v .success
  | none => activationOver b v .invalidImage

/-- A start check has failed (R84): the groups swapped return to the old firmware, and the new bank is revoked where its
descriptor was already written. -/
def rollback (b : Block) (v : Activation) : Block :=
  let swapped := (List.finRange 4).filter (fun a => b.populated a && (decide (3 < v.phase) || decide (v.phase = 3 ∧ a.val ≤ v.act)))
  let b := swapped.foldl (fun b a => swapActuator b v.oldBank a) b
  let b := if 4 < v.phase then swapSpindle b v.oldBank else b
  let b := { b with image := mergeImages b.image (bankImage b v.oldBank) (fun _ _ => true) }
  let b := if 5 < v.phase then fcsShown (onBank b v.bank (fun k => { k with revoke := 0x00 })) v.bank else b
  activationOver b v .invalidImage

/-- An activation's phase and actuator set. -/
def setPhase (b : Block) (v : Activation) (phase act : Nat) : Block :=
  { b with fcs := { b.fcs with activation := some { v with phase := phase, act := act } } }

/-- ACTIVATION_PHASE_END (R82 to R84): the phase in progress completes and the next begins, after Firmware Activation Starting
before the host pause (R609); where a start check or phase 1's verification fails, the activation rolls back. Phases 1 and 5, which read
and program the FCS, do not end while it serves another operation (R66). -/
def activationPhaseEnd (ok : Bool) (b : Block) : Block :=
  match b.fcs.activation with
  | none => b
  | some v =>
    if decide (v.phase = 1 ∨ v.phase = 5) && b.fcs.op.isSome then b
    else if !ok || (decide (v.phase = 1) && decide (bankCheck b (vget b.fcs.banks v.bank) ≠ 0)) then rollback b v
    else if v.phase = 1 then setPhase (stopNimbus b) v 2 0
    else if v.phase = 2 then
      match actFrom b 0 with
      | some a => setPhase (sepFlushAll b) v 3 a.val
      | none => setPhase (sepFlushAll b) v 4 0
    else if v.phase = 3 then
      let a : Act := ⟨v.act % 4, by omega⟩
      let b := swapActuator b v.bank a
      match actFrom b (v.act + 1) with
      | some n => setPhase b v 3 n.val
      | none => setPhase b v 4 0
    else if v.phase = 4 then setPhase (swapSpindle b v.bank) v 5 0
    else if v.phase = 5 then
      let n := (((vget b.fcs.banks b.fcs.running).seq.getD 0) + 1) % 2 ^ 32
      let b := (List.finRange 2).foldl (fun b p => notice b p 9 0x01 0x03) b
      setPhase (fcsShown (onBank b v.bank (fun k => { k with seq := some n })) v.bank) v 6 0
    else if v.phase = 6 then (List.finRange 2).foldl resumePort (setPhase (takeSettings b v.bank hostSetting) v 7 0)
    else if v.phase = 7 then setPhase b v 8 0
    else activationDone b v

/-- ACTIVATION_PHASE_END. -/
def execActivationPhaseEnd (ok : Bool) (s : State) : Host.Outcome State Fault Refusal := s.onReset (activationPhaseEnd ok)

end Sys2Proof.Machine
end

