-- ==== Sys2Proof/Machine/System.lean ====
section
/-! DEFINITION. The system block's commands: the diagnostic window (R10, R37 to R41), the real-time record (R46), the
core supply's sags (R26), deadline monitors (R31), engine watchdogs (R32) and the rate record (R43). -/

namespace Sys2Proof.Machine

/-! ### Register writes -/

/-- What a write makes of a field by its access type (R10): RO and RSVD fields ignore it, RW fields take it, a 1
clears an RW1C bit and sets an RW1S bit. -/
def accessWrite (a : Access) (old v : Nat) : Nat :=
  match a with
  | .ro => old
  | .rw => v
  | .rw1c => if v = 1 then 0 else old
  | .rw1s => if v = 1 then 1 else old
  | .wo => old

/-- Fields whose writes are commands of their own: a register write leaves them to those commands. -/
def ownCommandField (f : Field) : Bool :=
  decide (f ∈ [.FAB_RTWAIT_CLR, .SYS_CALCTL_START, .SPN_BRAKE_TEST, .SRV_INJ_CTL_EN, .SRV_CAP_CTL_START,
    .CH_SMP_CTL_HOLD, .CH_SMP_CTL_SLOT, .CH_SMP_CTL_FORCE, .CH_SMP_CTL_IDX, .DX_CTL_n_GO, .DX_CTL_n_PAUSE,
    .DX_CTL_n_STOP, .DX_STAT_n_DONE, .DX_STAT_n_POISON])

/-- Registers whose writes act only under factory unlock (R234, R236, R369). -/
def unlockOnly (f : Field) : Bool :=
  decide (f ∈ [.SRV_INJ_CTL_POINT, .SRV_INJ_CTL_KIND, .SRV_INJ_CTL_AMP, .SRV_CAP_CTL_NSIG, .SRV_CAP_CTL_DECIM, .SRV_CAP_CTL_SIG,
    .TS_CS_ADDR_ADDR])

/-- SRC, DST and COUNT of a DMA channel that runs and is not paused: a write to them is discarded with ERR 0x3 (R697). -/
def dxHeld (b : Block) (f : Field) (n : Nat) : Bool :=
  decide (f ∈ [.DX_SRC_LO_ADDR, .DX_SRC_HI_ADDR, .DX_DST_LO_ADDR, .DX_DST_HI_ADDR, .DX_COUNT_COUNT]) &&
    decide (b.get .DX_STAT_n_BUSY n = 1 ∧ b.get .DX_STAT_n_PAUSED n = 0)

/-- The registers of DX00 to DX27, which a host never writes (R696). -/
def dxFirmware (off : Nat) : Bool := decide (0x98000 ≤ off ∧ off < 0x98000 + 0x40 * 28)

/-- One word written at a window offset, field by field. -/
def writeFields (b : Block) (off : Nat) (w : Word) : Block :=
  (fieldsAt off).foldl (fun b fi =>
    let f := fi.1
    if ownCommandField f || (unlockOnly f && !anyUnlocked b) then b
    else if dxHeld b f fi.2 then b.put .DX_STAT_n_ERR fi.2 3
    else
      let v := (w.toNat / 2 ^ f.info.lo) % 2 ^ f.width
      let old := b.get f fi.2
      let new := accessWrite f.info.access old v
      if new = old then b else b.put f fi.2 new) b

/-- The size and alignment that the window accepts (R38): naturally aligned accesses of 4 or 8 bytes. -/
def windowShapeOk (off size : Nat) : Bool := (size = 4 && off % 4 = 0) || (size = 8 && off % 8 = 0)

/-- A window write's words stored at consecutive offsets, the lower offset first (R38). -/
def writeWords (b : Block) : Nat → List Word → Block
  | _, [] => b
  | off, w :: ws => writeWords (writeFields b off w) (off + 4) ws

/-- REGISTER_WRITE (R10, R37, R38, R40): one or two registers written by a control core, or by a host under factory
unlock on its port. A host's write without unlock, or to DX00 to DX27, is discarded and counted; one of a wrong size or alignment is
dropped, as DIAG_ACCESS_BAD_SIZE says, with the write's header logged, as is any in D3hot (R519). A control core's access past the register space is a bus
fault (R36). -/
def registerWrite (w : Agent) (off : Nat) (vals : List Word) (hdr : Nat) (b : Block) : Block :=
  let ok := windowShapeOk off (4 * vals.length)
  match w with
  | .core => if off + 4 * vals.length > 0x100000 then b.coreFault else b.guard ok (fun b => writeWords b off vals)
  | .port p =>
    let b := touchLink b p
    if !ok || decide (b.get .PX_LINK_DSTATE p.val = 3) then refuseWindow b p hdr
    else if unlocked b p && !dxFirmware off then writeWords b off vals
    else discardWrite b p

/-- REGISTER_WRITE. -/
def execRegisterWrite (w : Agent) (off : Nat) (vals : List Word) (hdr : Nat) (s : State) :
    Host.Outcome State Fault Refusal :=
  s.onBlock (registerWrite w off vals hdr)

/-- DIAG_ACCESS_BAD_SIZE (R38): a read is completed with Unsupported Request and a write is dropped, both logged in
AER with the access's header and counted in `PX_RXERR.UR`, and never in `SYS_DIAG_WDROP`. -/
def execDiagAccessBadSize (p : Port) (write : Bool) (off size hdr : Nat) (s : State) :
    Host.Outcome State Fault Refusal :=
  s.onBlock (fun b => b.guard (!windowShapeOk off size) (fun b =>
    let b := refuseWindow (touchLink b p) p hdr
    if write then b.answer .none else b.answer .unsupportedRequest))

/-- DIAG_WRITE_DISCARDED (R40, R45): a well-formed window write without factory unlock on its port. In D3hot it is refused before it is
judged, with the write's header, which this row does not carry, a free value (R519, log entry 165). -/
def execDiagWriteDiscarded (p : Port) (off : Nat) (vals : List Word) (s : State) :
    Host.Outcome State Fault Refusal :=
  s.onBlock (fun b => b.guard (windowShapeOk off (4 * vals.length) && (!unlocked b p || dxFirmware off)) (fun b =>
    registerWrite (.port p) off vals (Config.tlpHeader p.val b.now) b))

/-! ### Counters wider than 32 bits (R41) -/

/-- The low fields of the counters wider than 32 bits. -/
def wideLow (f : Field) : Bool :=
  decide (f ∈ [.SYS_DEVTIME_LO_TIME, .CH_SECT_LO_COUNT, .AST_HAON_LO_TIME, .AST_HWON_LO_TIME, .NV_DBSEQ_LO_SEQ])

/-- The window offset holds the low word of a wide counter. -/
def isWideLow (off : Nat) : Bool := (fieldsAt off).any (fun fi => wideLow fi.1)

/-- A read of the diagnostic window by a port: in D3hot it is answered with Unsupported Request (R519). -/
def windowRead (b : Block) (p : Port) (ok : Bool) (f : Block → Block) : Block :=
  b.guard ok (fun b =>
    let b := touchLink b p
    if b.get .PX_LINK_DSTATE p.val = 3 then (refuseWindow b p (Config.tlpHeader p.val b.now)).answer .unsupportedRequest else f b)

/-- COUNTER_LOW_READ (R41): the low word is returned, and the high word is latched into the port's shadow. -/
def counterLowRead (p : Port) (off : Nat) (b : Block) : Block :=
  windowRead b p (isWideLow off) (fun b =>
    let hi := b.readWord (off + 4)
    let b := b.answer (.words [b.readWord off])
    { b with sys := { b.sys with shadow := vupd b.sys.shadow p (fun _ => some (off, hi)) } })

/-- COUNTER_LOW_READ. -/
def execCounterLowRead (p : Port) (off : Nat) (s : State) : Host.Outcome State Fault Refusal :=
  s.onBlock (counterLowRead p off)

/-- COUNTER_HIGH_READ (R41): the shadow when the same counter's low word was read before from this port, else the
live high word; either way the shadow is spent. -/
def counterHighRead (p : Port) (off : Nat) (b : Block) : Block :=
  windowRead b p (decide (4 ≤ off) && isWideLow (off - 4)) (fun b =>
    let w := match vget b.sys.shadow p with
      | some (o, h) => if o = off - 4 then h else b.readWord off
      | none => b.readWord off
    let b := b.answer (.words [w])
    { b with sys := { b.sys with shadow := vupd b.sys.shadow p (fun _ => none) } })

/-- COUNTER_HIGH_READ. -/
def execCounterHighRead (p : Port) (off : Nat) (s : State) : Host.Outcome State Fault Refusal :=
  s.onBlock (counterHighRead p off)

/-! ### The fabric's record, the core supply and the rate -/

/-- FAB_RTWAIT_CLR (R46): under factory unlock the record restarts; the bit reads 0 again when done. -/
def rtwaitClr (w : Agent) (b : Block) : Block :=
  unlockedWrite b w (fun b => (b.put .FAB_RTWAIT_MAX 0 0).put .FAB_RTWAIT_CLR 0 0)

/-- FAB_RTWAIT_CLR. -/
def execFabRtwaitClr (w : Agent) (s : State) : Host.Outcome State Fault Refusal := s.onBlock (rtwaitClr w)

/-- VCORE_SAG (R26): SV drops the write gates of the four channels and holds them; cut sectors are flagged for
rewrite. Reads, servo control and the spindle go on. -/
def execVcoreSag (s : State) : Host.Outcome State Fault Refusal :=
  s.onBlock (fun b => cutAllWrites { b with sys := { b.sys with sagHold := true } })

/-- VCORE_RESTORED (R26): the write gates are released. -/
def execVcoreRestored (s : State) : Host.Outcome State Fault Refusal :=
  s.onBlock (fun b => { b with sys := { b.sys with sagHold := false } })

/-- The longest wait of a real-time request since the last refresh (R46): `FAB_RTWAIT.MAX` keeps the longest in 0.1 ns, and a
value above 38 marks a fabric fault, which is reported to Sepia. The spec gives that record no code: the code is a free value (log
entry 119). -/
def realTimeWait (wait : Nat) (b : Block) : Block :=
  let w := min wait 0xFFFF
  if w ≤ b.get .FAB_RTWAIT_MAX 0 then b
  else
    let b := b.put .FAB_RTWAIT_MAX 0 w
    if w ≤ 38 then b
    else
      let (code, b) := b.fresh 65536
      b.sepia code srcSV w 0

/-- SYS_RATE_REFRESH (R43, R46): the rate of the last 1 ms in units of 2 M operations per second, its lowest since
power-on, and the core supply in mV; with them comes the longest real-time wait of the millisecond, in 0.1 ns. -/
def execSysRateRefresh (rate vcore wait : Nat) (s : State) : Host.Outcome State Fault Refusal :=
  s.onBlock (fun b =>
    let r := min rate 0x7FF
    let b := realTimeWait wait b
    (((b.put .SYS_RATE_NOW 0 r).put .SYS_RATE_MIN 0 (min (b.get .SYS_RATE_MIN 0) r))).putSat .SYS_RATE_VCORE 0 vcore)

/-! ### Deadline monitors (R31, R44) -/

/-- A number for each obligation and engine: the key of its run of misses and parameter A of its record. -/
def obligationKey : Obligation → Nat
  | .servoStep a => a.val
  | .milliUpdate a => 4 + a.val
  | .exchange a => 8 + a.val
  | .seqReaction a => 12 + a.val
  | .trapEntry a => 16 + a.val
  | .wuToGate a => 20 + a.val
  | .spindleStep => 24
  | .assistStep a => 28 + a.val
  | .powerLoss => 32
  | .retract => 33

/-- The engine that owes an obligation (R29), as SRC codes it. -/
def obligationEngine : Obligation → Nat
  | .servoStep a | .milliUpdate a | .exchange a | .wuToGate a => srcSE a
  | .seqReaction a | .trapEntry a => srcTS a
  | .spindleStep => srcSPE
  | .assistStep a => srcAE a
  | .powerLoss | .retract => srcSV

/-- The field of `SYS_DLMISS` that counts an obligation's misses (R44). -/
def obligationField : Obligation → Field
  | .servoStep _ | .milliUpdate _ | .exchange _ => .SYS_DLMISS_SRV
  | .seqReaction _ | .trapEntry _ => .SYS_DLMISS_TS
  | .spindleStep => .SYS_DLMISS_SPN
  | .wuToGate _ | .assistStep _ | .powerLoss | .retract => .SYS_DLMISS_OTHER

/-- What the monitor of the receiving island does at the n-th miss in a row (R31). -/
def monitorAction (o : Obligation) (n : Nat) (b : Block) : Block :=
  match o with
  | .servoStep a =>
    -- the previous commands stand; write-unsafe by cause 3; three misses in a row are a loop fault
    let b := raiseWu b a 3
    if 3 ≤ n then loopFault b a else b
  | .milliUpdate _ => b
  | .exchange a => { b with srv := vupd b.srv a (fun v => { v with held := true }) }
  | .seqReaction a => cutLate b a
  | .trapEntry a => cutLate b a
  | .wuToGate a => cutWrite b a
  | .spindleStep => if 2 ≤ n then rotorLostFloat b else b
  | .assistStep a => holdAssist b a
  | .powerLoss => preampSupplyOff b
  | .retract => (List.finRange 4).foldl (fun b a => if loaded b a then startRetract b a else b) b

/-- DEADLINE_MISS: the monitor acts, the miss is counted and recorded as code 0x0F01. -/
def deadlineMiss (o : Obligation) (b : Block) : Block :=
  let k := obligationKey o
  let n := nget 0 b.sys.missRuns k + 1
  let b := { b with sys := { b.sys with missRuns := nset 0 b.sys.missRuns k n } }
  let b := monitorAction o n b
  let b := b.bump (obligationField o) 0
  b.sepia 0x0F01 srcSV k (obligationEngine o)

/-- DEADLINE_MISS. -/
def execDeadlineMiss (o : Obligation) (s : State) : Host.Outcome State Fault Refusal := s.onBlock (deadlineMiss o)

/-! ### Engine watchdogs (R32) -/

/-- An engine as SRC codes it (R646). -/
def engineCode : Engine → Nat
  | .cc n => n.val
  | .ts a => srcTS a
  | .se a => srcSE a
  | .spe => srcSPE
  | .ae a => srcAE a
  | .le p => srcLE p
  | .sv => srcSV

/-- The safe state SV forces on what a failed engine owns (R32, R264): write gates off for TSa, AEa and SEa, retract
for SEa with its preamp's safe state, the bridge floating with SPE's fall-back for SPE. Work held by a control core returns to the pool. -/
def engineSafe (e : Engine) (b : Block) : Block :=
  match e with
  | .cc _ => b
  | .ts a => cutWrite b a
  | .se a => startRetract (preampSafe (cutWrite b a) a) a
  | .ae a => cutWrite b a
  | .spe => speFloat b
  | .le _ => b
  | .sv => b

/-- SEa's own working state at a reset of the engine (R32): the states of the law, the model and the filters, the windows and the
runs start anew. What the retract controller holds, and the tables and counts kept in DRAM, stay. -/
def servoRestart (v : Servo) : Servo :=
  { v with
    x := [], model := [], notchVcm := [], notchMa := [], pred := 0, uVcm := 0, uMa := 0, uMaNext := 0, ffMa := 0
    published := [], held := false, residuals := [], window := [], implRun := 0, goodRun := 0, revPeak := 0, revImpl := false
    revPes := [], settleRun := 0, readRun := 0, readSettled := false, writeSettled := false, safeLaw := false, plausRun := 0
    safeWedges := 0, injN := 0, injPhase := 0, capRun := false, measured := Vector.replicate 4 [], slotMa := 0 }

/-- AEa's own working state at a reset of the engine (R32): nothing is applied or ready; what it has learned is in DRAM. -/
def assistRestart (v : Assist) : Assist := { v with wrReady := false, preheat := false, held := false, lastFrame := 0 }

/-- The engine reset, its program reloaded from the DRAM copy, and restarted (R32). Its work in hand begins anew: TSa requeues its
job (R348), LEp's arbitration starts a new turn, and a control core's work has gone back to the pool, of which the core is a part
again unless Nimbus holds it out (R661). -/
def engineRestart (e : Engine) (b : Block) : Block :=
  match e with
  | .cc _ => b
  | .ts a => tsReload b a
  | .se a => engineShown (b.onSrv a servoRestart) e true
  | .ae a => engineShown ((b.onAst a assistRestart).put .AST_STATE_LOOP a.val 0) e true
  | .spe => engineShown { b with spn := { b.spn with torqueRef := 0, integ := 0, implRun := 0, zcLoss := 0 } } e true
  | .le p => engineShown (b.onNv p (fun c => { c with lastServed := [], credits := [] })) e true
  | .sv => b

/-- ENGINE_WATCHDOG (R32): safe state, reset, reload and restart, whole within the step, so that `SYS_ENG_RUN` shows
the engine running after it; a core out of the pool stays out (R661). The failure is recorded as code 0x0F03. -/
def execEngineWatchdog (e : Engine) (s : State) : Host.Outcome State Fault Refusal :=
  s.onBlock (fun b => (engineRestart e (engineSafe e b)).sepia 0x0F03 srcSV (engineCode e) 0)

end Sys2Proof.Machine
end

