-- ==== Sys2Proof/Machine/Recorder.lean ====
section
/-! DEFINITION. Sepia's own commands (R649 to R657) and Nimbus (R658 to R662). -/

namespace Sys2Proof.Machine

/-- SEPIA_EVENT (R649): an event recorded with its continuations, or suppressed by its code's token bucket. -/
def execSepiaEvent (code : Nat) (e : Engine) (pa : Word) (pb : BitVec 64) (conts : List (List Nat)) (s : State) :
    Host.Outcome State Fault Refusal :=
  s.onBlock (fun b => b.sepiaCont code (engineCode e) pa.toNat pb.toNat conts)

/-- A summary is due (R650): events of the code are suppressed that no record has carried, 60 s have passed since its
last record, and the buffer has room. -/
def summaryDue (b : Block) (code : Nat) : Bool :=
  match b.sep.buckets.find? (fun k => k.code = code) with
  | some k => decide (0 < k.supp) && decide (k.last + 60000000 ≤ b.now) && !sepFull b 1
  | none => false

/-- SEPIA_SUPPRESSION_SUMMARY (R650): a record of code 0x0F02 with the code in PA and the count in PB; the count is
then carried, and the code's 60 s restart. -/
def sepiaSummary (code : Nat) (b : Block) : Block :=
  b.guard (summaryDue b code) (fun b =>
    let k := sepRefill b (sepBucket b code)
    let b := sepPutBucket b { k with supp := 0, last := b.now }
    sepMake b 0x0F02 srcSV 0 0 code k.supp false [])

/-- SEPIA_SUPPRESSION_SUMMARY. -/
def execSepiaSuppressionSummary (code : Nat) (s : State) : Host.Outcome State Fault Refusal :=
  s.onBlock (sepiaSummary code)

/-- SEPIA_BUFFER_FLUSH (R652, R654): the whole buffer after a record of a flushing severity, else the page program of a
full half starts; nothing before the NAND is readable. -/
def sepiaBufferFlush (b : Block) : Block :=
  if !b.sep.up then b
  else if b.sep.flushDue then
    (((sepFlushAll b).bump .SEP_FLUSH_SEV 0).put .SEP_STATE_LAST 0 1).put .SEP_FLUSH2_LASTSTART 0 0
  else if decide (b.sep.halfA.length = 256) && !b.sep.flushA then
    ((({ b with sep := { b.sep with flushA := true } }).bump .SEP_FLUSH_HALF 0).put .SEP_STATE_LAST 0 0).put
      .SEP_FLUSH2_LASTSTART 0 0
  else if decide (b.sep.halfB.length = 256) && !b.sep.flushB then
    ((({ b with sep := { b.sep with flushB := true } }).bump .SEP_FLUSH_HALF 0).put .SEP_STATE_LAST 0 0).put
      .SEP_FLUSH2_LASTSTART 0 0
  else b

/-- SEPIA_BUFFER_FLUSH. -/
def execSepiaBufferFlush (s : State) : Host.Outcome State Fault Refusal := s.onBlock sepiaBufferFlush

/-- The critical records held until the flush of a half ended enter the buffer (R653). -/
def sepEnterHeld (b : Block) : Block :=
  let h := b.sep.held
  h.foldl sepBuffer { b with sep := { b.sep with held := [] } }

/-- SEPIA_FLUSH_COMPLETE (R652, R653): the half whose program ran is empty, its records are in the pool, and held
critical records enter the buffer. -/
def sepiaFlushComplete (b : Block) : Block :=
  if b.sep.flushA then
    sepEnterHeld (sepToPool { b with sep := { b.sep with halfA := [], flushA := false } } b.sep.halfA)
  else if b.sep.flushB then
    sepEnterHeld (sepToPool { b with sep := { b.sep with halfB := [], flushB := false } } b.sep.halfB)
  else b

/-- SEPIA_FLUSH_COMPLETE. -/
def execSepiaFlushComplete (s : State) : Host.Outcome State Fault Refusal := s.onBlock sepiaFlushComplete

/-- The records Sepia holds in the order of log page 0xC1 (R657): the keep area, the roll-area records that are not in
it, and the records still buffered, in ascending era and sequence. -/
def sepHeldRecords (b : Block) : List SepRec :=
  b.sep.keepArea ++ sepSorted (b.sep.rollArea.filter (fun r => !r.keep) ++
    (if b.sep.fillB then b.sep.halfA ++ b.sep.halfB else b.sep.halfB ++ b.sep.halfA) ++ b.sep.reserve)

/-! ### Nimbus -/

/-- Why Nimbus may not run a kind now, as `NIM_STATE.SUSP` codes it (R660, R669); 0 when it may. -/
def nimSuspend (b : Block) (kind : Fin 7) (target : Nat) : Nat :=
  if b.mode = .boot ∨ b.mode = .spinup ∨ b.mode = .holdup then 1
  else if (match b.fcs.activation with | some v => decide (2 ≤ v.phase) | none => false) then 2
  else if 2 ≤ b.get .THM_STAGE_STAGE 0 then 3
  else if (decide (kind ∈ [2, 4, 5, 6]) && jobHolds b (nimAct kind target)) || (decide (kind = 6) && patrolRuns b) then 4
  else 0

/-- What a kind needs even for an Extended Self-Test (R18, R659, R662): twelve cores in service for a core self-test, and RUN with the
actuator loaded for a media kind. -/
def nimCan (b : Block) (kind : Fin 7) (target : Nat) : Bool :=
  if kind = 1 then decide (b.get .SYS_ENG_RUN_CC 0 = 0xFFF)
  else if kind = 0 ∨ kind = 3 then true
  else decide (b.mode = .run) && loaded b (nimAct kind target)

/-- The kind's resource is idle (R659). An Extended Self-Test takes a core and actuator time whether or not they are (R662). -/
def nimIdle (b : Block) (kind : Fin 7) (target idleUs : Nat) : Bool :=
  let est := decide (b.get .NIM_STATE_EST 0 = 1)
  if kind = 0 ∨ kind = 1 then est || decide (b.cfgN .NIM_CORE_IDLE_US ≤ idleUs)
  else if kind = 3 then dieIdle b target
  else est || (queueEmpty b (nimAct kind target) && decide (1000 * b.cfgN .NIM_MEDIA_IDLE_MS ≤ idleUs))

/-- NIMBUS_RUN_START (R659, R660): the run starts where its kind is enabled and its resource idle, else the reason it
is suspended shows. Core self-test takes its core out of the pool. -/
def nimbusRunStart (kind : Fin 7) (target idleUs : Nat) (b : Block) : Block :=
  let est := b.get .NIM_STATE_EST 0 = 1
  if b.nim.run.isSome || !(bit (b.cfgN .NIM_EN) kind.val || decide est) then b
  else if nimSuspend b kind target ≠ 0 then b.put .NIM_STATE_SUSP 0 (nimSuspend b kind target)
  else if !(nimCan b kind target && nimIdle b kind target idleUs) then b.put .NIM_STATE_SUSP 0 5
  else
    let b := { b with nim := { b.nim with run := some ⟨kind, target, false⟩,
                                          late := b.nim.late.filter (fun x => x ≠ (kind.val, target)) } }
    let b := ((b.put .NIM_STATE_KIND 0 kind.val).put .NIM_STATE_TARGET 0 target).put .NIM_STATE_SUSP 0 0
    if kind = 1 then b.put .SYS_ENG_RUN_CC 0 (clearBit (b.get .SYS_ENG_RUN_CC 0) target)
    else if kind = 6 then
      -- one track of the surface, read as the Media Patrol job reads it
      let track := b.nim.patrolTracks % max 1 (b.cfgN .FMT_TRACKS)
      newReq b .patrol target track 0 (zoneT b (trackZone b track)) false false
    else b

/-- NIMBUS_RUN_START. -/
def execNimbusRunStart (kind : Fin 7) (target idleUs : Nat) (s : State) : Host.Outcome State Fault Refusal :=
  s.onBlock (nimbusRunStart kind target idleUs)

/-- The run ends and its resource is free: no kind shows. -/
def nimClear (b : Block) : Block :=
  ({ b with nim := { b.nim with run := none } }).put .NIM_STATE_KIND 0 0xF

/-- A kind's result entered in the counts of a running Extended Self-Test (R605, R662). -/
def countTest (b : Block) (kind : Fin 7) (pass : Bool) : Block :=
  let mark := fun (j : Job) =>
    if pass then { j with countA := setBit j.countA kind.val } else { j with countB := setBit j.countB kind.val }
  b.onNvm (fun n => { n with jobs := updFirst (fun j => j.type = 8 ∧ j.state = 2) mark n.jobs })

/-- What a second failure of a kind does (R661). `val` names the row of an SRAM bank, or the NAND block. -/
def nimFailAction (kind : Fin 7) (target val : Nat) (b : Block) : Block :=
  if kind = 0 then
    -- the row stays on its spare and the repair is saved; without a free spare it stays in service under correction
    spareRow b target val
  else if kind = 1 then b.put .NIM_CORE_FAILED 0 (setBit (b.get .NIM_CORE_FAILED 0) target)
  else if kind = 2 then b.put .NIM_CHSUSP_CH 0 (setBit (b.get .NIM_CHSUSP_CH 0) target)
  else if kind = 3 then
    -- the block is due for refresh (R479); what its reads could not correct is dealt with as they end (R480)
    if blkGood b val then putNand b val { nandBlock b val with due := true } else b
  else if kind = 4 ∨ kind = 5 then
    { b with nim := { b.nim with listed := if target ∈ b.nim.listed then b.nim.listed else b.nim.listed ++ [target] } }
  else b

/-- What a pass of a kind does beside its record: a core returns to the pool, a channel is no longer suspect, a
threshold measured is stored (R267), and the media patrol advances by a track (R658, R671). -/
def nimPassAction (kind : Fin 7) (target val : Nat) (b : Block) : Block :=
  if kind = 1 then b.put .SYS_ENG_RUN_CC 0 (setBit (b.get .SYS_ENG_RUN_CC 0) target)
  else if kind = 2 then b.put .NIM_CHSUSP_CH 0 (clearBit (b.get .NIM_CHSUSP_CH 0) target)
  else if kind = 5 then storeThreshold b target val
  else b

/-- The media patrol's progress after one more track, in hundredths of a percent of the tracks of the populated
surfaces; a completed cycle is counted and the next begins at 0. -/
def nimPatrolStep (b : Block) : Block :=
  let total := popCount 24 (b.cfgN .PLT_SURFACES) * b.cfgN .FMT_TRACKS
  let n := b.nim.patrolTracks + 1
  if total ≤ n then
    (({ b with nim := { b.nim with patrolTracks := 0 } }).put .NIM_PATROL_PROG 0 0).bump .NIM_PATROL_CYCLES 0
  else ({ b with nim := { b.nim with patrolTracks := n } }).put .NIM_PATROL_PROG 0 (10000 * n / total)

/-- NIMBUS_RUN_END (R661): a media patrol's run ends once its reads have; a first failure is repeated at once; a second is counted, recorded as 0x0E01 and acted on;
a pass is counted and recorded as 0x0E02. -/
def nimbusRunEnd (pass : Bool) (val : Nat) (b : Block) : Block :=
  match b.nim.run with
  | none => b
  | some r =>
    if r.kind = 6 ∧ patrolInHand b = true then b
    else if pass then
      let b := nimPassAction r.kind r.target val b
      let b := if r.kind = 6 then nimPatrolStep b else b
      let b := (b.bump .NIM_RES_k_PASS r.kind.val).put .NIM_RES_k_LAST r.kind.val 1
      (countTest (nimClear b) r.kind true).sepia 0x0E02 (srcCC 0) r.kind.val r.target
    else if !r.repeated then { b with nim := { b.nim with run := some { r with repeated := true } } }
    else
      let b := nimFailAction r.kind r.target val b
      let b := (b.bump .NIM_RES_k_FAIL r.kind.val).put .NIM_RES_k_LAST r.kind.val 2
      (countTest (nimClear b) r.kind false).sepia 0x0E01 (srcCC 0) r.kind.val r.target

/-- NIMBUS_RUN_END. -/
def execNimbusRunEnd (pass : Bool) (val : Nat) (s : State) : Host.Outcome State Fault Refusal :=
  s.onBlock (nimbusRunEnd pass val)

/-- NIMBUS_RUN_LATE (R660): the run is recorded as 0x0E01 with result late, and it runs at the next idle period. -/
def nimbusRunLate (kind : Fin 7) (target : Nat) (b : Block) : Block :=
  let b := b.put .NIM_RES_k_LAST kind.val 3
  let b := { b with nim := { b.nim with late := if (kind.val, target) ∈ b.nim.late then b.nim.late
                                                else b.nim.late ++ [(kind.val, target)] } }
  b.sepia 0x0E01 (srcCC 0) kind.val target

/-- NIMBUS_RUN_LATE. -/
def execNimbusRunLate (kind : Fin 7) (target : Nat) (s : State) : Host.Outcome State Fault Refusal :=
  s.onBlock (nimbusRunLate kind target)

end Sys2Proof.Machine
end

