-- ==== Sys2Proof/Machine/Thermal.lean ====
section
/-! DEFINITION. Temperature sensors, thermal stages, token throttling and the corrections from temperature (R612 to R624). -/

namespace Sys2Proof.Machine

/-! ### Sensors -/

/-- The sensors of a ring-oscillator sensor's die (R612). -/
def dieSensors (n : Nat) : List Nat := if n < 16 then List.range 16 else [16, 17]

/-- A value put into a list of rising values. -/
def insertInt (x : Int) : List Int → List Int
  | [] => [x]
  | y :: ys => if x ≤ y then x :: y :: ys else y :: insertInt x ys

/-- The median of a list, the mean of the two middle values where their number is even; none of an empty one. -/
def median (l : List Int) : Option Int :=
  let s := l.foldl (fun acc x => insertInt x acc) []
  let n := s.length
  if n = 0 then none
  else if n % 2 = 1 then some (s.getD (n / 2) 0)
  else some ((s.getD (n / 2 - 1) 0 + s.getD (n / 2) 0) / 2)

/-- Readings of the other sensors of a sensor's die that are valid. -/
def otherReadings (b : Block) (n : Nat) : List Int :=
  ((dieSensors n).filter (fun i => decide (i ≠ n) && decide (b.get .THM_SENS_n_NOW i ≠ 0x8000))).map (fun i =>
    bitsSigned 16 (b.get .THM_SENS_n_NOW i))

/-- A reading departs by more than 25 °C from the median of its die's other sensors (R614). -/
def departs (b : Block) (n : Nat) (reading : Int) : Bool :=
  match median (otherReadings b n) with
  | some m => decide (250 < (reading - m).natAbs)
  | none => false

/-- A calibration item has been accepted once. -/
def calHasItem (b : Block) (item : Nat) : Bool :=
  match b.fcs.cal with | some c => c.accepted.any (fun e => e.1 = item) | none => false

/-- Time counted since the last count (R607, R625): the hottest die sensor's bin and limits, and Tj at the warning and critical
levels. -/
def countHeat (b : Block) : Block :=
  let dt := b.now - b.thm.histAt
  let w := hottest b 0 18
  let b := { b with thm := { b.thm with histAt := b.now } }
  if w = 0x8000 then b
  else
    let t := bitsSigned 16 w
    let tj := bitsSigned 16 (b.get .THM_STAGE_TJ 0)
    let bin : Nat := if t < -300 then 0 else min 15 ((t + 400) / 100).toNat
    let add := fun (m : NMap Nat) (k : Nat) (c : Bool) => if c then nset 0 m k (nget 0 m k + dt) else m
    let h := add (add (add b.thm.hist (16 + bin) true) 0 (decide (1050 ≤ t))) 1 (decide (1100 ≤ t))
    let b := { b with thm := { b.thm with hist := h } }
    b.onHea (fun x => { x with
      warnUs := if 10 * b.cfg .THR_T1 ≤ tj then x.warnUs + dt else x.warnUs
      critUs := if 10 * b.cfg .THR_T3 ≤ tj then x.critUs + dt else x.critUs })

/-- A sensor's reading shown, with its highest and lowest since manufacture; those are stored ones, which stand once the journal
has been replayed (R471, R607, R644). -/
def showReading (b : Block) (n : Nat) (reading : Int) : Block :=
  let b := b.putInt .THM_SENS_n_NOW n reading
  if !b.boot.journalUp then b
  else
    let w := signedBits 16 reading
    let low := nget 0 b.thm.sensLow n
    let first := decide (low = 0)
    let b := if first || decide (bitsSigned 16 (b.get .THM_SENS_n_MAX n) < bitsSigned 16 w) then
      ({ b with thm := { b.thm with sensAt := nset 0 b.thm.sensAt n b.now } }).put .THM_SENS_n_MAX n w else b
    if first || decide (bitsSigned 16 w < bitsSigned 16 (low - 1)) then
      { b with thm := { b.thm with sensLow := nset 0 b.thm.sensLow n (w + 1) } } else b

/-- A die sensor excluded until the next BOOT (R614); with the whole die excluded, stage 3 is held. -/
def excludeSensor (b : Block) (n : Nat) (reading : Int) : Block :=
  let excl := setBit (b.get .THM_SRC_EXCL 0) n
  let b := ((b.put .THM_SRC_EXCL 0 excl).put .THM_SENS_n_NOW n 0x8000).sepia 0x0D02 srcSV n (signedBits 16 reading)
  if (dieSensors n).all (bit excl) then { b with thm := { b.thm with stage3Held := true } } else b

/-- Tj and the sensor that sets it (R615, R641): the highest valid reading of sensors 0 to 17, plus 8 °C where item 2 has never been
accepted. -/
def refreshTj (b : Block) : Block :=
  let w := hottest b 0 18
  let uncal := !calHasItem b 2
  let b := b.putBool .THM_STAGE_UNCAL 0 uncal
  if w = 0x8000 then b
  else
    let id := ((List.range 18).find? (fun i => b.get .THM_SENS_n_NOW i = w)).getD 0
    (b.putInt .THM_STAGE_TJ 0 (bitsSigned 16 w + (if uncal then 80 else 0))).put .THM_SRC_HOTID 0 id

/-! ### Stages (R617 to R622) -/

/-- Tj at which a stage is entered, in 0.1 °C. -/
def stageEntry (b : Block) (n : Nat) : Int :=
  if n = 1 then 10 * b.cfg .THR_T1 else if n = 2 then 10 * b.cfg .THR_T2 else if n = 3 then 10 * b.cfg .THR_T3 else 1250

/-- Tj below which a stage is left, in 0.1 °C. -/
def stageLeave (b : Block) (n : Nat) : Int :=
  if n = 1 then 10 * (b.cfg .THR_T1 - b.cfg .THR_HYST)
  else if n = 2 then 10 * (b.cfg .THR_T2 - b.cfg .THR_HYST)
  else 10 * b.cfg .THR_RESUME_C

/-- The time below it in microseconds. -/
def stageTime (b : Block) (n : Nat) : Nat := if n ≤ 2 then 1000000 else 1000000 * b.cfgN .THR_RESUME_S

/-- The highest stage up to n whose entry condition Tj meets; not below 3 while every sensor of a die is excluded (R614). -/
def stageMet (b : Block) (n : Nat) : Nat :=
  let tj := bitsSigned 16 (b.get .THM_STAGE_TJ 0)
  let s := ((List.range (n + 1)).filter (fun k => decide (k ≠ 0) && decide (stageEntry b k ≤ tj))).foldl max 0
  if b.thm.stage3Held then max s 3 else s

/-- The orderly stop of stage 3 (R620, R621): in SPINUP the bridge floats; in RUN and IDLE the way to PARK begins; in BOOT, PARK
and HOLDUP nothing moves. -/
def orderlyStop (b : Block) : Block :=
  if b.mode = .spinup then powerEval (floatSpinup b) 0x03
  else if b.mode ∈ [.run, .idle] then
    let b := { b with thm := { b.thm with stopAt := some b.now } }
    let b := if b.get .PWR_MODE_TARGET 0 = Mode.park.code then b.put .PWR_MODE_CAUSE 0 0x03 else b
    powerEval b 0x03
  else powerEval b 0x03

/-- The hard trip of stage 4 (R622, R678): gates, heaters and assist off, milliactuators at 0 V, island retract, the bridge floats, L2
writes back its dirty lines, and a flush runs until it has sealed. During HOLDUP nothing changes. -/
def hardTrip (b : Block) : Block :=
  if b.mode = .holdup then b
  else
    let b := (List.finRange 4).foldl (fun b a =>
      let b := preampSafe (cutWrite b a) a
      let b := (b.onSrv a (fun v => { v with maLimited := true })).put .SRV_CMD_MA a.val 0
      if loaded b a && decide ((vget b.srv a).retract = .idle) then startRetract b a else b) b
    let b := stopNimbus { writeBackAll b with
      spn := { b.spn with goal := .rest, brakeWait := false, angleKnown := false, lostWait := false, inAttempt := false, zeroSteps := 0 }
      thm := { b.thm with trip := decide (b.mode ≠ .boot), floated := false } }
    let b := if b.spnMode = .stopped then b else b.put .SPN_STATE_STATE 0 SpnMode.float.code
    let b := if b.mode ∈ [.spinup, .run, .idle] then
      { (setTarget b .park 0x03) with pwr := { b.pwr with provisional := openRows b } } else b
    powerEval (refreshThrottle b) 0x03

/-- The dirty DRAM is in the NAND reserve, the Sepia buffer and Device Time are in the NAND, and the journal is sealed (R622). -/
def tripSealed (b : Block) : Block :=
  let b := sepFlushAll (sealNand (flushReserve b b.xl.dirty.length))
  refreshThrottle { b with thm := { b.thm with trip := false }, pwr := { b.pwr with savedTime := b.now } }

/-- What a stop held is resumed (R620, R621): the motor floated in SPINUP is caught. -/
def resumeStop (b : Block) : Block :=
  let waited := match b.thm.stopAt with | some t => b.now - t | none => 0
  let floated := b.thm.floated && decide (b.mode = .spinup)
  let b := { b with thm := { b.thm with floated := false, stopAt := none } }
  if floated then
    ({ b with spn := { b.spn with
      goal := .run, catchTries := 0, attemptAt := b.spn.attemptAt + waited, locateAt := b.spn.locateAt + waited
      zeroSteps := 0, lostWait := false } }).put .SPN_STATE_STATE 0 SpnMode.catching.code
  else b

/-- The field and the counter of entries to a stage (R607, R642). -/
def stageField (n : Nat) : Field :=
  if n = 1 then .THM_EVT_S1 else if n = 2 then .THM_EVT_S2 else if n = 3 then .THM_EVT_S3 else .THM_EVT_S4

/-- A stage change (R617, R648): recorded, its throttle applied, and what it stops or lets resume. A rise counts as an entry. -/
def changeStage (b : Block) (n : Nat) : Block :=
  let old := b.get .THM_STAGE_STAGE 0
  if n = old then b
  else
    let b := b.put .THM_STAGE_STAGE 0 n
    let b := b.sepia 0x0D01 srcSV n (b.get .THM_STAGE_TJ 0)
    let b := if old < n then
      let e := b.thm.entries.toList.zip (List.range 4)
      let up := fun (k : Nat) => ((e.find? (fun x => x.2 = k)).map (fun x => x.1)).getD 0 + (if k + 1 = n then 1 else 0)
      ({ b with thm := { b.thm with entries := #v[up 0, up 1, up 2, up 3] } }).bump (stageField n) 0 else b
    let b := refreshThrottle b
    let b := if 2 ≤ n then stopNimbus b else b
    if old < n then (if n = 4 then hardTrip b else if n = 3 then orderlyStop b else powerEval b 0x03)
    else if n < 3 ∧ 3 ≤ old then powerEval (resumeStop b) 0x03
    else powerEval b 0x03

/-- Since when Tj has stayed below each stage's exit level. -/
def trackBelow (b : Block) : Block :=
  let tj := bitsSigned 16 (b.get .THM_STAGE_TJ 0)
  { b with thm := { b.thm with belowSince := Vector.ofFn (fun (n : Fin 5) =>
    if tj < stageLeave b n.val then some ((vget b.thm.belowSince n).getD b.now) else none) } }

/-- The stage that Tj calls for after a reading: a rise at once, and any change straight after an activation (R617, R664). -/
def evalStage (b : Block) : Block :=
  let b := trackBelow b
  let want := stageMet b 4
  if b.thm.rethresh then changeStage { b with thm := { b.thm with rethresh := false } } want
  else if b.get .THM_STAGE_STAGE 0 < want then changeStage b want else b

/-! ### Limits outside the junction (R624) -/

/-- A sensor's limit in 0.1 °C. -/
def sensorLimit (b : Block) (n : Nat) : Int :=
  10 * (if n < 20 then b.cfg .THR_DRAM_MAX else if n < 22 then b.cfg .THR_NAND_MAX else b.cfg .THR_PREAMP_MAX)

/-- The limit actions with a sensor's bit set or cleared. -/
def putLimit (b : Block) (n : Nat) (v : Bool) : Block :=
  let t := b.thm
  refreshThrottle { b with thm :=
    if n < 20 then { t with dramHot := putBit t.dramHot (n - 18) v }
    else if n < 22 then { t with nandHot := putBit t.nandHot (n - 20) v }
    else { t with preampHot := putBit t.preampHot (n - 22) v } }

/-- A sensor's limit action is in force. -/
def limitOn (b : Block) (n : Nat) : Bool :=
  if n < 20 then bit b.thm.dramHot (n - 18) else if n < 22 then bit b.thm.nandHot (n - 20) else bit b.thm.preampHot (n - 22)

/-- A reading held against its limit: at the limit the action begins; 5 °C below it, the time to its end runs. -/
def checkLimit (b : Block) (n : Nat) (reading : Int) : Block :=
  let lim := sensorLimit b n
  let since := fun (v : Nat) => { b with thm := { b.thm with limitBelow := nset 0 b.thm.limitBelow n v } }
  if lim ≤ reading then putLimit (since 0) n true
  else if reading < lim - 50 then
    (if nget 0 b.thm.limitBelow n = 0 then since (b.now + 1) else b)
  else since 0

/-! ### The commands -/

/-- A die sensor's temperature trimmed by its site's offset, in 0.1 °C, and slope, in 0.01 %, of calibration item 2 (R74, R613): both are
taken as its deviations from the reference sensor (PRESUMED, log entry 172). -/
def trimmed (b : Block) (n : Nat) (raw : Int) : Int := (raw - b.cal 2 n 0) * 10000 / (10000 + b.cal 2 n 1)

/-- A die sensor's reading (R613 to R615): excluded where its counts stop or it departs for 10 reads. -/
def dieReading (b : Block) (n : Nat) (reading : Int) (stopped : Bool) : Block :=
  if bit (b.get .THM_SRC_EXCL 0) n then b
  else
    let run := if departs b n reading then nget 0 b.thm.departRun n + 1 else 0
    let b := { b with thm := { b.thm with departRun := nset 0 b.thm.departRun n run } }
    let b := if stopped ∨ 10 ≤ run then excludeSensor b n reading else showReading b n reading
    evalStage (refreshTj b)

/-- SENSOR_READ (R612 to R617, R624): sensor n has been read, in 0.1 °C: for a ring-oscillator site the temperature that the ratio of
its two counts gives, before trimming (R613). `stopped` tells that a count has stopped, `flushed` that the flush of a hard trip has sealed (R622). A preamp's sensor is present with its actuator. -/
def sensorRead (n : Fin 26) (reading : Int) (stopped flushed : Bool) (b : Block) : Block :=
  let b := if flushed && b.thm.trip then tripSealed b else b
  let b := countHeat b
  let b := if n.val < 18 then dieReading b n.val (trimmed b n.val reading) stopped
    else if n.val < 22 ∨ bit (b.cfgN .PLT_ACTUATORS) (n.val - 22) = true then
      checkLimit (showReading b n.val reading) n.val reading
    else b
  refreshTemperature b

/-- SENSOR_READ. -/
def execSensorRead (n : Fin 26) (reading : Int) (stopped flushed : Bool) (s : State) : Host.Outcome State Fault Refusal :=
  s.onBlock (sensorRead n reading stopped flushed)

/-- THERMAL_STAGE_EXIT (R617): Tj has stayed below the stage's exit level for its time; the stage becomes the highest one below
whose entry condition still holds. -/
def stageExit (b : Block) : Block :=
  let s := b.get .THM_STAGE_STAGE 0
  match b.thm.belowSince.toList.getD s none with
  | some t =>
    let dest := stageMet b (s - 1)
    b.guard (decide (1 ≤ s) && decide (t + stageTime b s ≤ b.now) && !b.thm.trip && decide (dest < s)) (fun b => changeStage b dest)
  | none => b

/-- THERMAL_STAGE_EXIT. -/
def execThermalStageExit (s : State) : Host.Outcome State Fault Refusal := s.onBlock stageExit

/-- ORDERLY_STOP_RETRACT (R620): 2.0 s after stage 3 was entered, an actuator that is not on its ramp is retracted by its island. -/
def stopRetract (a : Act) (b : Block) : Block :=
  match b.thm.stopAt with
  | some t => b.guard (decide (t + 2000000 ≤ b.now) && loaded b a && decide ((vget b.srv a).retract = .idle)) (startRetract · a)
  | none => b

/-- ORDERLY_STOP_RETRACT. -/
def execOrderlyStopRetract (a : Act) (s : State) : Host.Outcome State Fault Refusal := s.onBlock (stopRetract a)

/-- SENSOR_LIMIT_CLEARED (R624): the reading of a DRAM, NAND or preamp sensor has stayed 5 °C below its limit for 1 s. -/
def limitCleared (n : Fin 26) (b : Block) : Block :=
  let t := nget 0 b.thm.limitBelow n.val
  b.guard (decide (18 ≤ n.val) && limitOn b n.val && decide (t ≠ 0) && decide (t + 999999 ≤ b.now)) (fun b => putLimit b n.val false)

/-- SENSOR_LIMIT_CLEARED. -/
def execSensorLimitCleared (n : Fin 26) (s : State) : Host.Outcome State Fault Refusal := s.onBlock (limitCleared n)

/-- TOKEN_REFILL (R618): each throttled initiator, 0 to 11 the control cores, 12 and 13 LE0 and LE1, 14 bulk-class DMA, receives the
token share of the requests that it can issue in the microsecond, and keeps at most 2 µs' worth; `used` are the tokens
that it has spent since the last refill. -/
def tokenRefill (rates used : List Nat) (b : Block) : Block :=
  let share := b.get .THM_STAGE_TOKEN 0
  (List.range 15).foldl (fun b i =>
    let give := rates.getD i 0 * share / 100
    let left := nget 0 b.thm.tokens i - used.getD i 0
    { b with thm := { b.thm with tokens := nset 0 b.thm.tokens i (min (left + give) (2 * give)) } }) b

/-- TOKEN_REFILL. -/
def execTokenRefill (rates used : List Nat) (s : State) : Host.Outcome State Fault Refusal := s.onBlock (tokenRefill rates used)

/-- RESONATOR_CORRECTION (R616, R643): one correction from the resonator's curve at sensor 0, changed by at most 0.05 ppm a step;
none without item 4. -/
def resonatorStep (b : Block) : Block :=
  if !calHasItem b 4 then b.put .THM_RES_NOCOMP 0 1
  else
    let b := b.put .THM_RES_NOCOMP 0 0
    let w := b.get .THM_SENS_n_NOW 0
    if w = 0x8000 then b
    else
      let want := -(resonatorDev ((List.range 4).map (fun i => b.cal 4 0 i)) (bitsSigned 16 w)) / 10 ^ 10
      let now := bitsSigned 16 (b.get .THM_RES_CORR 0)
      b.putInt .THM_RES_CORR 0 (max (now - 5) (min (now + 5) want))

/-- RESONATOR_CORRECTION. -/
def execResonatorCorrection (s : State) : Host.Outcome State Fault Refusal := s.onBlock resonatorStep

/-- REFERENCE_CORRECTION (R616): the band-gap and converter references of item 1 are corrected for temperature; the value is not in
the spec. -/
def referenceStep (b : Block) : Block :=
  if !calHasItem b 1 then b
  else
    let (v, b) := b.fresh 0
    { b with thm := { b.thm with reference := v } }

/-- REFERENCE_CORRECTION. -/
def execReferenceCorrection (s : State) : Host.Outcome State Fault Refusal := s.onBlock referenceStep

end Sys2Proof.Machine
end

