-- ==== Sys2Proof/Machine/Jobs.lean ====
section
/-! DEFINITION. Jobs: Start, Query and Cancel Job, and how each type runs and ends (R203, R212, R266, R445 to R452, R592 to R600, R657,
R662); Device Self-test. -/

namespace Sys2Proof.Machine

/-! ### Slots and handles (R598) -/

/-- A job's handle: generation and slot. -/
def jobHandle (j : Job) : Nat := j.gen * 65536 + j.slot

/-- The job that a handle matches. -/
def jobFind (b : Block) (handle : Nat) : Option Job :=
  if handle / 65536 = 0 then none else b.nvm.jobs.find? (fun j => jobHandle j = handle)

/-- The last job of a slot. -/
def slotJob (b : Block) (slot : Nat) : Option Job := b.nvm.jobs.find? (fun j => j.slot = slot)

/-- The job of a list that ended earliest. -/
def earliestEnded : List Job → Option Job
  | [] => none
  | j :: js => match earliestEnded js with
    | some k => if k.stop < j.stop then some k else some j
    | none => some j

/-- The slot that a new job takes, with its generation. -/
def takeSlot (b : Block) : Option (Nat × Nat) :=
  let ended := b.nvm.jobs.filter (fun j => j.state = 4)
  let reuse := fun (j : Job) => (j.slot, j.gen % 65535 + 1)
  match (List.range 64).find? (fun n => (slotJob b n).isNone) with
  | some n => some (n, 1)
  | none => match earliestEnded (ended.filter (fun j => j.retrieved)) with
    | some j => some (reuse j)
    | none => (earliestEnded ended).map reuse

/-! ### Start Job (R592 to R594) -/

/-- A job's parameters are in range, reserved bits and Dwords are 0, and a type without a namespace names none. -/
def jobFieldsOk (type nsid d12 d13 d14 : Nat) : Bool :=
  let noNs := decide (nsid = 0)
  let rest := decide (d13 = 0 ∧ d14 = 0)
  if type = 1 then decide (d12 ≤ 100) && rest
  else if type = 2 ∨ type = 5 then decide (0 < d12 ∧ d12 < 2 ^ 24) && rest && noNs
  else if type = 3 ∨ type = 6 then decide (d12 = 0) && rest
  else if type = 4 then decide (d12 < 4) && rest && noNs
  else if type = 7 then decide (d13 < 256) && noNs
  else decide (d12 = 0) && rest && noNs

/-- The actuator, surfaces or namespace that a job names exist, and the namespace is of the kind it needs. -/
def jobTargetOk (b : Block) (type nsid d12 : Nat) : Bool :=
  if type = 1 ∨ type = 3 then decide (nsid = 0) || (nsFind b nsid).isSome
  else if type = 2 ∨ type = 5 then (List.range 24).all (fun s => !bit d12 s || bit (b.cfgN .PLT_SURFACES) s)
  else if type = 4 then bit (b.cfgN .PLT_ACTUATORS) d12
  else if type = 6 then (match nsFind b nsid with | some n => !n.zoned | none => false)
  else true

/-- A job that is QUEUED or RUNNING conflicts with one to be started. -/
def jobConflicts (b : Block) (type nsid : Nat) : Bool :=
  b.nvm.jobs.any (fun j => (decide (j.state = 1) || decide (j.state = 2)) &&
    (if type = 4 ∨ type = 5 then decide (j.type = 4) || decide (j.type = 5)
     else if type = 6 then decide (j.type = 6 ∧ j.nsid = nsid)
     else decide (j.type = type)))

/-- A job put into its slot, QUEUED. -/
def queueJob (b : Block) (p : Port) (type nsid : Nat) (params : List Nat) (slot gen : Nat) : Block :=
  let j : Job := { slot := slot, gen := gen, type := type, state := 1, result := 0, ctrl := p, start := b.now, stop := 0, nsid := nsid
                   params := params, progress := 0, countA := 0, countB := 0, retrieved := false }
  b.onNvm (fun n => { n with jobs := n.jobs.filter (fun x => x.slot ≠ slot) ++ [j] })

/-- Start Job of a type: refused in the order of R594's table, or QUEUED with its handle. `rsvd` is what the reserved bits and Dwords of
the entry hold (R592). -/
def startJob (type : Nat) (p : Port) (cid nsid d12 d13 d14 rsvd : Nat) (b : Block) : Block :=
  adminCommand b p cid (fun b =>
    if !jobFieldsOk type nsid d12 d13 d14 || decide (rsvd ≠ 0) then complete b p 0 cid .invalidField
    else if !jobTargetOk b type nsid d12 then complete b p 0 cid .jobTarget
    else if jobConflicts b type nsid then complete b p 0 cid .jobConflict
    else match takeSlot b with
      | none => complete b p 0 cid .jobSlots
      | some (slot, gen) => complete (queueJob b p type nsid [d12, d13, d14] slot gen) p 0 cid .success (gen * 65536 + slot))

/-- START_JOB_MEDIA_PATROL (R593). -/
def execStartJobMediaPatrol (p : Port) (cid nsid d12 d13 d14 rsvd : Nat) (s : State) : Host.Outcome State Fault Refusal :=
  s.onBlock (startJob 1 p cid nsid d12 d13 d14 rsvd)

/-- START_JOB_SURFACE_RETIRE (R446). -/
def execStartJobSurfaceRetire (p : Port) (cid nsid d12 d13 d14 rsvd : Nat) (s : State) : Host.Outcome State Fault Refusal :=
  s.onBlock (startJob 2 p cid nsid d12 d13 d14 rsvd)

/-- START_JOB_PARITY_REBUILD (R445). -/
def execStartJobParityRebuild (p : Port) (cid nsid d12 d13 d14 rsvd : Nat) (s : State) : Host.Outcome State Fault Refusal :=
  s.onBlock (startJob 3 p cid nsid d12 d13 d14 rsvd)

/-- START_JOB_ACTUATOR_RECALIBRATION (R203). -/
def execStartJobActuatorRecalibration (p : Port) (cid nsid d12 d13 d14 rsvd : Nat) (s : State) : Host.Outcome State Fault Refusal :=
  s.onBlock (startJob 4 p cid nsid d12 d13 d14 rsvd)

/-- START_JOB_ASSIST_RECHARACTERISE (R266). -/
def execStartJobAssistRecharacterise (p : Port) (cid nsid d12 d13 d14 rsvd : Nat) (s : State) : Host.Outcome State Fault Refusal :=
  s.onBlock (startJob 5 p cid nsid d12 d13 d14 rsvd)

/-- START_JOB_CONVENTIONAL_COMPACT (R391). -/
def execStartJobConventionalCompact (p : Port) (cid nsid d12 d13 d14 rsvd : Nat) (s : State) : Host.Outcome State Fault Refusal :=
  s.onBlock (startJob 6 p cid nsid d12 d13 d14 rsvd)

/-- START_JOB_SEPIA_EXTRACT (R657). -/
def execStartJobSepiaExtract (p : Port) (cid nsid d12 d13 d14 rsvd : Nat) (s : State) : Host.Outcome State Fault Refusal :=
  s.onBlock (startJob 7 p cid nsid d12 d13 d14 rsvd)

/-- START_JOB_EXTENDED_SELF_TEST (R662). -/
def execStartJobExtendedSelfTest (p : Port) (cid nsid d12 d13 d14 rsvd : Nat) (s : State) : Host.Outcome State Fault Refusal :=
  s.onBlock (startJob 8 p cid nsid d12 d13 d14 rsvd)

/-! ### Query and Cancel Job (R592, R599) -/

/-- A job's result as commands and the Job Log report it: 0xFF until it has ended. -/
def jobResult (j : Job) : Nat := if j.state = 4 then j.result else 0xFF

/-- A job's progress in 0.01 %: 0 while QUEUED; while it runs the spec states no value. -/
def jobProgress (b : Block) (j : Job) : Nat × Block :=
  if j.state = 1 then (0, b) else if j.state = 4 then (j.progress, b) else b.fresh 10001

/-- QUERY_JOB: state, result and progress; the estimated time to the end is open until the job has ended. -/
def queryJob (p : Port) (cid handle rsvd : Nat) (b : Block) : Block :=
  adminCommand b p cid (fun b =>
    if rsvd ≠ 0 then complete b p 0 cid .invalidField
    else match jobFind b handle with
    | none => complete b p 0 cid .jobNotFound
    | some j =>
      let (n, b) := jobProgress b j
      let (t, b) := b.fresh (2 ^ 32)
      complete b p 0 cid .success (j.state * 2 ^ 24 + jobResult j * 65536 + n) (if j.state = 4 then 0 else t))

/-- QUERY_JOB. -/
def execQueryJob (p : Port) (cid handle rsvd : Nat) (s : State) : Host.Outcome State Fault Refusal :=
  s.onBlock (queryJob p cid handle rsvd)

/-- CANCEL_JOB. -/
def cancelJob (p : Port) (cid handle rsvd : Nat) (b : Block) : Block :=
  adminCommand b p cid (fun b =>
    if rsvd ≠ 0 then complete b p 0 cid .invalidField
    else match jobFind b handle with
    | none => complete b p 0 cid .jobNotFound
    | some j => if j.state = 4 then complete b p 0 cid .jobEnded
                else complete (putJob b { j with state := 3 }) p 0 cid .success)

/-- CANCEL_JOB. -/
def execCancelJob (p : Port) (cid handle rsvd : Nat) (s : State) : Host.Outcome State Fault Refusal :=
  s.onBlock (cancelJob p cid handle rsvd)

/-! ### A job becomes RUNNING (R595) -/

/-- The surfaces of a mask. -/
def maskSurfs (mask : Nat) : List Nat := (List.range 24).filter (bit mask)

/-- The width checks of R446. -/
def widthLimit (b : Block) (mask : Nat) : Bool :=
  let left := ((activeSurfs b).filter (fun s => !bit mask s)).length
  (maskSurfs mask).any (fun s => decide (surfState b s = 0 ∨ surfState b s = 6)) || decide (left < maxM b + 2) ||
    (b.xl.namespaces.any (fun n => !n.zoned) && decide (left < b.cfgN .XLT_CONV_WIDTH))

/-- A surface named by a Surface Retire enters RETIRING, with the condition it is in (R434, R454). -/
def retireSurface (b : Block) (s : Nat) : Block :=
  let st := surfState b s
  if st = 5 then b
  else if st = 2 then setSurface b s 5 8
  else if st = 4 then setSurface b s 5 (if b.get .BP_SURF_n_CAUSE s = 3 then 7 else 6)
  else setSurface b s 5 5

/-- Rows written degraded, of a namespace or with 0 of every one, which a Parity Rebuild restores, or skips because a surface of theirs
is not ACTIVE (R445). -/
def rebuildRows (b : Block) (nsid : Nat) (skipped : Bool) : List (RowOwner × Nat × Nat × Nat) :=
  b.xl.degraded.filter (fun d =>
    let ns := match d.1 with
      | .zone n _ => n
      | .conv id => (match groupFind b id with | some g => g.nsid | none => 0)
      | .mcache _ => 0
    (decide (nsid = 0) || decide (ns = nsid)) &&
      (match ownerLog b d.1 with
       | some l => decide (l.surfs.all (fun s => decide (surfState b s = 1)) = !skipped)
       | none => skipped))

/-- The bands of the virtual tracks of a row become due for copies (R394, R445). -/
def rowBandsDue (b : Block) (d : RowOwner × Nat × Nat × Nat) : Block :=
  match ownerLog b d.1 with
  | none => b
  | some l => (maskSurfs d.2.2.1).foldl (fun b s => bandDue b (trackBand b (rowTrack b l d.2.1 s)) s 5) b

/-- The lowest head of a mask. -/
def lowestHead (mask : Nat) : Nat := (maskSurfs mask).headD 0

/-- The actuator that a job of type 4 or 5 takes out of service first. -/
def jobTakes (j : Job) : Act :=
  ⟨(if j.type = 4 then j.params.getD 0 0 else lowestHead (j.params.getD 0 0) / 6) % 4, by omega⟩

/-- The head that an Assist Recharacterise measures now (R266): its heads in ascending order, 30 s each, and 30 s of service between them;
the spec gives the greatest and the least of these times (DESIGN CHOICE, log entry 156). -/
def headMeasured (b : Block) (j : Job) : Option Nat :=
  let t := b.now - j.params.getD 4 0
  if t % 60000000 < 30000000 then (maskSurfs (j.params.getD 0 0))[t / 60000000]? else none

/-- An actuator taken out of service by a job (R203, R212, R266): no new request is scheduled on it; a recalibration lets the requests
in progress complete before it measures, and one for a FAILED actuator loads it first. -/
def holdActuator (b : Block) (j : Job) (a : Act) : Block :=
  let b := putJob b { j with state := 2, params := j.params.take 3 ++ [a.val + 1, b.now] }
  if j.type = 5 then (actuatorOut (withdrawJobs b a) a).put .AST_STATE_LOOP a.val 6
  else
    let b := raiseWu ((actuatorOut b a).onNvm (fun n => { n with recal := some ⟨a.val, 1, 0, none, []⟩ })) a 6
    if b.srvMode a = .failed ∧ b.get .SPN_STATE_LOCK 0 = 1 ∧ b.mode = .run then startLoad b a else b

/-- An Assist Recharacterise as time passes (R266): the actuator of the head measured is out of service, and AEa shows it; between heads
it is back in service. -/
def assistTurn (b : Block) : Block :=
  match b.nvm.jobs.find? (fun j => decide (j.type = 5 ∧ j.state = 2)) with
  | none => b
  | some j =>
    let next : Option Act := (headMeasured b j).map (fun s => ⟨s / 6 % 4, by omega⟩)
    if next.map (fun a => a.val) = jobAct j then b
    else
      let b := match jobAct j with
        | some n => let a : Act := ⟨n % 4, by omega⟩
                    (if b.srvMode a = .failed then b else actuatorBack b a false).put .AST_STATE_LOOP a.val 1
        | none => b
      match next with
      | some a =>
        let b := putJob b { j with params := j.params.take 3 ++ [a.val + 1, j.params.getD 4 0] }
        (actuatorOut (withdrawJobs b a) a).put .AST_STATE_LOOP a.val 6
      | none => putJob b { j with params := j.params.take 3 ++ [0, j.params.getD 4 0] }

/-- What a Media Patrol reads (R593): every track of the populated surfaces, or of one namespace the tracks of the rows that it holds. -/
def patrolList (b : Block) (nsid : Nat) : List (Nat × Nat × Nat) :=
  if nsid = 0 then ((List.range 24).filter (fun s => bit (b.cfgN .PLT_SURFACES) s)).map (fun s => (s, 0, b.cfgN .FMT_TRACKS))
  else
    let mine := (allLogs b).filter (fun x => match x.1 with
      | .zone n _ => decide (n = nsid)
      | .conv id => (match groupFind b id with | some g => decide (g.nsid = nsid) | none => false)
      | .mcache _ => false)
    mine.flatMap (fun x => (List.range (rowsHeld x.2)).flatMap (fun k => x.2.surfs.map (fun s => (s, rowTrack b x.2 k s, 1))))

/-- JOB_RUNNING (R595): a QUEUED job begins, outside activations and when no other job holds an actuator it needs. -/
def jobRunning (slot : Nat) (b : Block) : Block :=
  match slotJob b slot with
  | none => b
  | some j =>
    let holding := b.nvm.jobs.any (fun k => (decide (k.state = 2) || decide (k.state = 3)) &&
      (decide (k.type = j.type ∧ k.type ≠ 6) || ((jobAct k).isSome && decide (j.type = 4 ∨ j.type = 5))))
    b.guard (decide (j.state = 1) && b.fcs.activation.isNone && !holding) (fun b =>
      let run := putJob b { j with state := 2 }
      if j.type = 1 then run.onNvm (fun n => { n with patrol := patrolList b j.nsid })
      else if j.type = 2 then
        if widthLimit b (j.params.getD 0 0) then closeJob b j 4
        else evalSpace ((maskSurfs (j.params.getD 0 0)).foldl retireSurface run)
      else if j.type = 3 then (rebuildRows b j.nsid false).foldl rowBandsDue run
      else if j.type = 4 ∨ j.type = 5 then holdActuator b j (jobTakes j)
      else if j.type = 8 then run.put .NIM_STATE_EST 0 1
      else run)

/-- JOB_RUNNING. -/
def execJobRunning (slot : Nat) (s : State) : Host.Outcome State Fault Refusal := s.onBlock (jobRunning slot)

/-! ### A job ends (R596 to R600) -/

/-- The copies that a Parity Rebuild asked for are given up, and their targets freed (R398, R597). -/
def dropRebuild (b : Block) : Block :=
  let gone := b.xl.copies.filter (fun c => c.cause = 5)
  b.onXl (fun x => { x with
    due := x.due.filter (fun d => d.2 ≠ 5)
    copies := x.copies.filter (fun c => c.cause ≠ 5)
    taken := x.taken.filter (fun t => !gone.any (fun c => t = c.target * 32 + c.surf)) })

/-- A Media Patrol is over: what it had still to read, and its requests, are withdrawn (R597). -/
def dropPatrol (b : Block) : Block :=
  withdrawFor (b.onNvm (fun n => { n with patrol := [] })) (fun f => decide (f = .patrol))

/-- A Media Patrol with nothing in hand ends: Completed, or Partial where surfaces that cannot be read were left (R593, R596). -/
def patrolEnd (b : Block) (j : Job) : Block :=
  if patrolInHand b || b.nvm.patrol.any (fun x => !surfNoRead b x.1 && decide (surfState b x.1 ≠ 2)) then b
  else endJob (dropPatrol b) j (if b.nvm.patrol.isEmpty then 0 else 1)

/-- JOB_CANCEL_STOP (R597): a CANCELLING job has reached its safe point. -/
def jobCancelStop (slot : Nat) (b : Block) : Block :=
  match slotJob b slot with
  | none => b
  | some j => b.guard (decide (j.state = 3)) (fun b =>
      let b := if j.type = 1 then dropPatrol b else if j.type = 3 then dropRebuild b else if j.type = 8 then b.put .NIM_STATE_EST 0 0 else b
      let b := endJob b j 2
      match jobAct j with
      | some n => let a : Act := ⟨n % 4, by omega⟩
                  if j.type = 4 ∧ actFailed b a = true then requestUnload b a else b
      | none => b)

/-- JOB_CANCEL_STOP. -/
def execJobCancelStop (slot : Nat) (s : State) : Host.Outcome State Fault Refusal := s.onBlock (jobCancelStop slot)

/-- A Surface Retire has nothing left to rebuild: every named surface is RETIRED (R452). -/
def retireEnd (b : Block) (j : Job) : Block :=
  let run := putJob b { j with state := 2 }
  if retireLeft run ≠ 0 then b
  else
    let b := (maskSurfs (j.params.getD 0 0)).foldl (fun b s => setSurface b s 6 5) run
    match slotJob b j.slot with
    | some j => endJob b j 0
    | none => b

/-- A Parity Rebuild with no row left to restore ends Completed, or Partial with its skipped rows counted (R445). -/
def rebuildEnd (b : Block) (j : Job) : Block :=
  if !(rebuildRows b j.nsid false).isEmpty then b
  else
    let n := (rebuildRows b j.nsid true).length
    endJob b { j with countB := n } (if n = 0 then 0 else 1)

/-- An Actuator Recalibration's results are written (R76, R200, R203, R212): a FAILED actuator returns to service when all six pairs
pass, and is unloaded otherwise. -/
def recalEnd (b : Block) (j : Job) (rs : List CalResult) : Block :=
  let a := jobTakes j
  let pairs := recalPairs a
  let rs := rs.filter (fun r => decide (r.item = 5) && decide (r.subject ∈ pairs))
  let ok := (calAccepted b rs).map (fun r => r.subject)
  let pass := maskOf (pairs.map (fun k => decide (k ∈ ok)))
  let failed := actFailed b a
  let result := if pass = 63 then 0 else if pass = 0 ∨ failed = true then 6 else 1
  let b := lastRun (calCommit b rs) (2 ^ 5) (if pass = 63 then 0 else 2 ^ 5)
  let b := endJob b { j with countA := pass, countB := 63 - pass } result
  if !failed then b
  else if pass = 63 then modeProgress (refreshWarnings (actuatorBack b a true))
  else requestUnload b a

/-- An Assist Recharacterise's results are written (R76, R255, R259): a head that passes is neither write-failed nor due any longer. -/
def assistEnd (b : Block) (j : Job) (rs : List CalResult) : Block :=
  let heads := maskSurfs (j.params.getD 0 0)
  let rs := rs.filter (fun r => decide (r.item = 6) && decide (r.subject / 64 ∈ heads))
  let ok := (calAccepted b rs).map (fun r => (r.item, r.subject))
  let passed := heads.filter (fun s => ok.any (fun x => decide (x.2 / 64 = s)))
  let failed := heads.filter (fun s => !decide (s ∈ passed))
  let stuck := failed.any (fun s => headWriteFailed b ⟨s / 6 % 4, by omega⟩ (s % 6))
  let result := if failed.isEmpty then 0 else if passed.isEmpty ∨ stuck = true then 6 else 1
  let mask := fun (l : List Nat) => l.foldl (fun (m : Nat) s => setBit m s) 0
  let b := lastRun (calCommit b rs) (2 ^ 6) (if failed.isEmpty then 0 else 2 ^ 6)
  let b := endJob b { j with countA := mask passed, countB := mask failed } result
  let b := passed.foldl (fun b s =>
    b.put .AST_STATE_WFAIL (s / 6) (clearBit (b.get .AST_STATE_WFAIL (s / 6)) (s % 6))) b
  let b := { b with nim := { b.nim with listed := b.nim.listed.filter (fun s => !decide (s ∈ passed)) } }
  refreshWarnings (afterCalibration b ok)

/-- Suppressed events counted in records: their SUPP fields and the PB fields of the 0x0F02 records (R604). -/
def suppressedIn (rs : List SepRec) : Nat := (rs.map (fun r => r.supp + (if r.code = 0x0F02 then r.pb else 0))).sum

/-- A Sepia Extract's copy (R657): the records from the given era and sequence on, up to the count, or with count 0 all that are held,
at most 17,952; Partial when the first one asked for is no longer held. -/
def extractEnd (b : Block) (j : Job) : Block :=
  let all := sepHeldRecords b
  let first := j.params.getD 1 0 * 2 ^ 32 + j.params.getD 0 0
  let count := j.params.getD 2 0
  let rs := if count = 0 then all.take 17952
    else (all.filter (fun r => decide (sepPlace r = first) || serialGt 40 (sepPlace r) first)).take (min count 17952)
  let held := decide (count = 0) || all.any (fun r => decide (sepPlace r = first))
  let b := { b with sep := { b.sep with staged := rs, stagedBy := jobHandle j } }
  endJob b { j with countA := rs.length, countB := suppressedIn rs } (if held then 0 else 1)

/-- An Extended Self-Test's result by the kinds passed and failed, once every kind has run (R605, R662). -/
def selfTestEnd (b : Block) (j : Job) : Block :=
  if j.countA ||| j.countB ≠ 127 then b
  else endJob (b.put .NIM_STATE_EST 0 0) j (if j.countB = 0 then 0 else if j.countA = 0 then 6 else 1)

/-- JOB_ENDED (R596, R599, R600): a job's work is done. `rs` are the measurements of a job of type 4 or 5. -/
def jobEnded (slot : Nat) (rs : List CalResult) (b : Block) : Block :=
  match slotJob b slot with
  | none => b
  | some j => b.guard (decide (j.state = 2 ∨ j.state = 3)) (fun b =>
      if j.type = 1 then patrolEnd b j
      else if j.type = 2 then retireEnd b j
      else if j.type = 3 then rebuildEnd b j
      else if j.type = 4 then (match b.nvm.recal with | some r => if 4 ≤ r.phase then recalEnd b j rs else b | none => b)
      else if j.type = 5 then assistEnd b j rs
      else if j.type = 6 then
        if b.xl.cached.any (fun c => c.1 / 2 ^ 48 = j.nsid) then b else endJob b j 0
      else if j.type = 7 then extractEnd b j
      else selfTestEnd b j)

/-- JOB_ENDED. -/
def execJobEnded (slot : Nat) (rs : List CalResult) (s : State) : Host.Outcome State Fault Refusal :=
  s.onBlock (jobEnded slot rs)

/-! ### Device Self-test (R593, R662) -/

/-- A device self-test is in progress. -/
def selfTesting (b : Block) : Bool := b.nvm.jobs.any (fun j => decide (j.type = 8) && decide (j.state ≠ 4))

/-- One run of a test kind with its result (R661, R662). -/
def testRun (b : Block) (kind : Fin 7) (target : Nat) (fail : Bool) : Block :=
  let b := if fail then nimFailAction kind target 0 b else nimPassAction kind target 0 b
  let b := if fail then (b.bump .NIM_RES_k_FAIL kind.val).put .NIM_RES_k_LAST kind.val 2
    else (b.bump .NIM_RES_k_PASS kind.val).put .NIM_RES_k_LAST kind.val 1
  b.sepia (if fail then 0x0E01 else 0x0E02) (srcCC 0) kind.val target

/-- The first populated head of an actuator. -/
def firstHead (b : Block) (a : Act) : Nat :=
  (((List.range 6).map (fun h => 6 * a.val + h)).find? (fun s => bit (b.cfgN .PLT_SURFACES) s)).getD (6 * a.val)

/-- DEVICE_SELF_TEST_SHORT (R662): loopback and a clearance check on one head of each actuator, each failing by the bit of a mask; where
Nimbus may not run on an actuator it is skipped and the test ends so. -/
def selfTestShort (p : Port) (cid : Nat) (loopFail clearFail : Fin 16) (b : Block) : Block :=
  adminCommand b p cid (fun b =>
    if selfTesting b then complete b p 0 cid .selfTestBusy
    else
      let acts := (List.finRange 4).filter (fun a => b.populated a)
      let may := fun (a : Act) => decide (nimSuspend b 2 a.val = 0) && decide (b.mode = .run) && loaded b a
      let run := acts.filter may
      let b := run.foldl (fun b a => testRun (testRun b 2 a.val (bit loopFail.val a.val)) 4 (firstHead b a) (bit clearFail.val a.val)) b
      let bad := run.any (fun a => bit loopFail.val a.val || bit clearFail.val a.val)
      let r := if bad then 7 else if run.length < acts.length then 8 else 0
      complete (enterSelfTest b p 1 r) p 0 cid .success)

/-- DEVICE_SELF_TEST_SHORT. -/
def execDeviceSelfTestShort (p : Port) (cid : Nat) (loopFail clearFail : Fin 16) (s : State) :
    Host.Outcome State Fault Refusal :=
  s.onBlock (selfTestShort p cid loopFail clearFail)

/-- DEVICE_SELF_TEST_EXTENDED (R593): an Extended Self-Test job starts. -/
def selfTestExtended (p : Port) (cid : Nat) (b : Block) : Block :=
  adminCommand b p cid (fun b =>
    if selfTesting b then complete b p 0 cid .selfTestBusy
    else match takeSlot b with
      | none => complete b p 0 cid .jobSlots
      | some (slot, gen) => complete (queueJob b p 8 0 [0, 0, 0, 0, 1] slot gen) p 0 cid .success)

/-- DEVICE_SELF_TEST_EXTENDED. -/
def execDeviceSelfTestExtended (p : Port) (cid : Nat) (s : State) : Host.Outcome State Fault Refusal :=
  s.onBlock (selfTestExtended p cid)

end Sys2Proof.Machine
end

