-- ==== Sys2Proof/Machine/Namespaces.lean ====
section
/-! DEFINITION. Namespace Management and Attachment (R569, R588 to R591), Format NVM and Sanitize (R89), Security Send and Receive
(R571). -/

namespace Sys2Proof.Machine

/-! ### Creation (R377, R388, R589, R590) -/

/-- The PROFILE byte gives P0, P2, P4 or P6. -/
def profileOk (profile : Nat) : Bool := decide (profile ∈ [0, 2, 4, 6])

/-- DPS of an LBA format: protection information of types 1 to 3, in the first or last 8 bytes, on format 1 only. -/
def dpsOk (flbas dps : Nat) : Bool :=
  decide (dps % 16 = dps) && decide (dps % 8 ≤ 3) && (decide (dps % 8 = 0) || decide (flbas % 16 = 1))

/-- The fields of a creation that Invalid Field in Command answers (R590). -/
def createFieldsOk (csi nsze ncap flbas dps profile : Nat) : Bool :=
  profileOk profile && decide (ncap = nsze) && decide (nsze ≠ 0) && decide (csi = 0 ∨ csi = 2) &&
    (decide (csi = 0) || decide (nsze % zoneSize = 0)) && dpsOk flbas dps

/-- The lowest free namespace identifier (R569). -/
def freeNsid (b : Block) : Option Nat := ((List.range 8).map (· + 1)).find? (fun n => (nsFind b n).isNone)

/-- The zones of a zoned namespace, each on a free band-set index taken in ascending order (R377). -/
def newZones (b : Block) (nsid m count : Nat) : List Zone :=
  (((freeSets b).take count).zip (List.range count)).map (fun x =>
    { nsid := nsid, k := x.2, log := emptyLog b x.1 m, state := ZState.empty, expected := 0, cap := 0, rebuilt := false })

/-- The conventional pool grown from a list of free indices until it holds the data space called for (R388); none when they run out
first. -/
def growPool (b : Block) : List Nat → Option Block
  | [] => if poolNeed b ≤ poolSpace b b.xl.pool (convM b) then some b else none
  | g :: gs =>
    if poolNeed b ≤ poolSpace b b.xl.pool (convM b) then some b
    else growPool (b.onXl (fun x => { x with pool := x.pool ++ [g] })) gs

/-- Blocks of the conventional namespaces together. -/
def convTotal (b : Block) : Nat := ((b.xl.namespaces.filter (fun n => !n.zoned)).map (fun n => n.size)).sum

/-- A namespace with its zones or its share of the pool; none when band-set indices or the 32 TB of R388 do not suffice. -/
def withNamespace (b : Block) (n : Namespace) : Option Block :=
  if n.zoned then
    let zs := newZones b n.nsid n.profile (n.size / zoneSize)
    if zs.length < n.size / zoneSize then none
    else some (b.onXl (fun x => { x with namespaces := x.namespaces ++ [n], zones := x.zones ++ zs }))
  else if 7812500000 < convTotal b + n.size then none
  else
    let free := freeSets b
    growPool (b.onXl (fun x => { x with namespaces := x.namespaces ++ [n] })) free

/-- NAMESPACE_CREATE (R589, R590): refused in the order of R590's table with nothing changed, or created with a new media key (R88),
attached to no controller. -/
def namespaceCreate (p : Port) (cid csi nsze ncap flbas dps nmic profile : Nat) (b : Block) : Block :=
  adminCommand b p cid (fun b =>
    match freeNsid b with
    | none => complete b p 0 cid .nsidUnavailable
    | some nsid =>
      let act := (activeSurfs b).length
      let n : Namespace := { nsid := nsid, zoned := decide (csi = 2), profile := profile, size := nsze, meta8 := decide (flbas % 16 = 1)
                             dps := dps, shared := bit nmic 0, attached := 0, key := 0, registrants := [], reservation := none
                             resGen := 0, ptpl := false }
      if !createFieldsOk csi nsze ncap flbas dps profile then complete b p 0 cid .invalidField
      else if decide (1 < flbas % 16) || decide (act < profile + 2) ||
          (decide (csi = 0) && decide (b.cfgN .XLT_CONV_WIDTH < profile + 2)) then complete b p 0 cid .invalidFormat
      else match withNamespace b n with
        | none => complete b p 0 cid .insufficientCapacity
        | some c =>
          if freeBands c < finalReserve c + c.cfgN .XLT_RO_HYST then complete b p 0 cid .insufficientCapacity
          else
            let c := if convM b < convM c then closeMcRow c else c
            complete (evalSpace (rekey c nsid)) p 0 cid .success nsid)

/-- NAMESPACE_CREATE. -/
def execNamespaceCreate (p : Port) (cid csi nsze ncap flbas dps nmic profile : Nat) (s : State) :
    Host.Outcome State Fault Refusal :=
  s.onBlock (namespaceCreate p cid csi nsze ncap flbas dps nmic profile)

/-! ### Attachment and deletion (R569, R591) -/

/-- Controllers detached from a namespace: their later commands fail, and their attached lists have changed. -/
def detachFrom (b : Block) (nsid mask : Nat) : Block :=
  let b := b.onXl (fun x => { x with
    namespaces := updFirst (fun n => n.nsid = nsid) (fun n => { n with attached := n.attached - (n.attached &&& mask) }) x.namespaces })
  nsNotice b mask nsid

/-- An admin command that waits for the commands in execution, and is done at once where there is none. -/
def waitFor (b : Block) (w : AdminWait) : Block := settleAdmin (b.onNvm (fun n => { n with waits := n.waits ++ [w] })) w

/-- NAMESPACE_DELETE (R569, R591): detached from both controllers, then deleted; 0xFFFFFFFF names every namespace. -/
def namespaceDelete (p : Port) (cid nsid : Nat) (b : Block) : Block :=
  adminCommand b p cid (fun b =>
    let ns := if nsid = 0xFFFFFFFF then b.xl.namespaces else (nsFind b nsid).toList
    if ns.isEmpty ∧ nsid ≠ 0xFFFFFFFF then complete b p 0 cid .invalidNamespace
    else waitFor (ns.foldl (fun b n => detachFrom b n.nsid n.attached) b) ⟨p, cid, nsid, 3, .delete⟩)

/-- NAMESPACE_DELETE. -/
def execNamespaceDelete (p : Port) (cid nsid : Nat) (s : State) : Host.Outcome State Fault Refusal :=
  s.onBlock (namespaceDelete p cid nsid)

/-- The mask of a list of controller identifiers, 1 and 2; none where one of them does not exist. -/
def ctrlMask (b : Block) (ids : List Nat) : Option Nat :=
  if ids.isEmpty then none
  else ids.foldl (fun (m : Option Nat) i =>
    if i = 1 then m.map (setBit · 0)
    else if i = 2 ∧ (vget b.px 1).present = true then m.map (setBit · 1)
    else none) (some 0)

/-- NAMESPACE_ATTACH (R569): to controller 1, 2 or both; a namespace that is not shared has one. -/
def namespaceAttach (p : Port) (cid nsid : Nat) (ids : List Nat) (b : Block) : Block :=
  adminCommand b p cid (fun b =>
    match nsFind b nsid, ctrlMask b ids with
    | none, _ => complete b p 0 cid .invalidNamespace
    | _, none => complete b p 0 cid .controllerListInvalid
    | some n, some mask =>
      if n.attached &&& mask ≠ 0 then complete b p 0 cid .alreadyAttached
      else if n.shared = false ∧ n.attached ||| mask = 3 then complete b p 0 cid .nsPrivate
      else
        let b := b.onXl (fun x => { x with
          namespaces := updFirst (fun y => y.nsid = nsid) (fun y => { y with attached := y.attached ||| mask }) x.namespaces })
        complete (nsNotice b mask nsid) p 0 cid .success)

/-- NAMESPACE_ATTACH. -/
def execNamespaceAttach (p : Port) (cid nsid : Nat) (ids : List Nat) (s : State) : Host.Outcome State Fault Refusal :=
  s.onBlock (namespaceAttach p cid nsid ids)

/-- NAMESPACE_DETACH (R569): it waits for the controller's commands in execution, and later ones fail. -/
def namespaceDetach (p : Port) (cid nsid : Nat) (ids : List Nat) (b : Block) : Block :=
  adminCommand b p cid (fun b =>
    match nsFind b nsid, ctrlMask b ids with
    | none, _ => complete b p 0 cid .invalidNamespace
    | _, none => complete b p 0 cid .controllerListInvalid
    | some n, some mask =>
      if n.attached &&& mask ≠ mask then complete b p 0 cid .notAttached
      else waitFor (detachFrom b nsid mask) ⟨p, cid, nsid, mask, .detach⟩)

/-- NAMESPACE_DETACH. -/
def execNamespaceDetach (p : Port) (cid nsid : Nat) (ids : List Nat) (s : State) : Host.Outcome State Fault Refusal :=
  s.onBlock (namespaceDetach p cid nsid ids)

/-! ### Format NVM, Sanitize, Security -/

/-- FORMAT_NVM (R89, R571): `ses` 0b010 erases cryptographically, and 0b001 does where `SEC.FMT_CRYPTO` is 1. It waits for the
namespace's commands in execution. -/
def formatNvm (p : Port) (cid nsid lbaf ses dps : Nat) (b : Block) : Block :=
  adminCommand b p cid (fun b =>
    let ns := if nsid = 0xFFFFFFFF then b.xl.namespaces else (nsFind b nsid).toList
    if ns.isEmpty ∧ nsid ≠ 0xFFFFFFFF then complete b p 0 cid .invalidNamespace
    else if 2 < ses ∨ dpsOk lbaf dps = false then complete b p 0 cid .invalidField
    else if 1 < lbaf then complete b p 0 cid .invalidFormat
    else if ns.any (fun n => reservationConflict b p n true) then complete b p 0 cid .reservationConflict
    else
      let crypto := decide (ses = 2) || (decide (ses = 1) && decide (b.cfgN .SEC_FMT_CRYPTO = 1))
      waitFor b ⟨p, cid, nsid, 3, .format (decide (lbaf = 1)) dps crypto⟩)

/-- FORMAT_NVM. -/
def execFormatNvm (p : Port) (cid nsid lbaf ses dps : Nat) (s : State) : Host.Outcome State Fault Refusal :=
  s.onBlock (formatNvm p cid nsid lbaf ses dps)

/-- SANITIZE_CRYPTO_ERASE (R89): every namespace's media key is replaced, and every zone is reset. -/
def sanitizeCrypto (p : Port) (cid : Nat) (b : Block) : Block :=
  adminCommand b p cid (fun b => waitFor b ⟨p, cid, 0xFFFFFFFF, 3, .sanitize⟩)

/-- SANITIZE_CRYPTO_ERASE. -/
def execSanitizeCryptoErase (p : Port) (cid : Nat) (s : State) : Host.Outcome State Fault Refusal := s.onBlock (sanitizeCrypto p cid)

/-- SECURITY_SEND (R73, R571): the payload is delivered, in recovery mode too; the spec gives no protocol an effect. -/
def execSecuritySend (p : Port) (cid _protocol _len : Nat) (s : State) : Host.Outcome State Fault Refusal :=
  s.onBlock (fun b => adminStamped b p cid true (fun b _ => complete b p 0 cid .success))

/-- SECURITY_RECEIVE (R73, R571): a payload is returned, in recovery mode too; its bytes are open. -/
def securityReceive (p : Port) (cid len : Nat) (b : Block) : Block :=
  adminStamped b p cid true (fun b _ =>
    let r := (List.range len).foldl (fun (x : List Nat × Block) _ =>
      let y := x.2.fresh 256
      (y.1 :: x.1, y.2)) (([] : List Nat), b)
    complete (r.2.answer (.bytes r.1)) p 0 cid .success)

/-- SECURITY_RECEIVE. -/
def execSecurityReceive (p : Port) (cid _protocol len : Nat) (s : State) : Host.Outcome State Fault Refusal :=
  s.onBlock (securityReceive p cid len)

end Sys2Proof.Machine
end

