-- ==== Sys2Proof/Machine/Ochre.lean ====
section
/-! DEFINITION. Ochre: the 132 indicators, their notices and daily samples, and the prediction from them (R609, R628 to R631, R638,
R639). -/

namespace Sys2Proof.Machine

/-! ### Indicators (R603, R628)

Indicator n, in the order of log page 0xC0: 24 × (class − 1) + surface for classes 1 to 5, then 120 + a and 124 + a for the voice coils
and actuator bearings, and 128 to 131 for the spindle bearing, the NAND and the DRAM and SRAM correction rates. -/

/-- An indicator's class. -/
def ochClass (n : Nat) : Nat := if n < 120 then n / 24 + 1 else if n < 124 then 6 else if n < 128 then 7 else n - 120

/-- An indicator's instance. -/
def ochInst (n : Nat) : Nat := if n < 120 then n % 24 else if n < 128 then n % 4 else 0

/-- An indicator's identifier. -/
def ochId (n : Nat) : Nat := ochClass n * 256 + ochInst n

/-- An indicator of an unpopulated surface or actuator. -/
def ochAbsent (b : Block) (n : Nat) : Bool :=
  if n < 120 then !bit (b.cfgN .PLT_SURFACES) (ochInst n)
  else if n < 128 then !bit (b.cfgN .PLT_ACTUATORS) (ochInst n) else false

/-- A part as a percentage of a whole, rounded down; 0 of nothing. -/
def percentOf (num den : Int) : Nat := if num ≤ 0 ∨ den ≤ 0 then 0 else (num * 100 / den).toNat

/-- A value's rise above a baseline as a percentage of an allowed rise, which is itself in percent of the baseline. -/
def risePercent (v base allowed : Int) : Nat := percentOf ((v - base) * 100) (allowed * base)

/-- The head of a surface in its actuator's tables. -/
def headTime (b : Block) (s : Nat) (writer : Bool) : Nat :=
  let v := vget b.ast ⟨s / 6 % 4, by omega⟩
  nget 0 (if writer then v.wonNs else v.aonNs) (s % 6) / 1000

/-- The threshold current or onset bias of a head: the last measurement, or where none was made the value of item 6. -/
def headThreshold (b : Block) (s : Nat) : Nat :=
  let m := b.get .AST_HLAS_ITH s
  if m ≠ 0 then m else (b.cal 6 (64 * s) 6).toNat

/-- Voice-coil resistance in mΩ corrected to 25 °C at 0.393 % per °C; none without a measurement or a valid Uluantane sensor. -/
def coilAt25 (b : Block) (a : Nat) : Option Nat :=
  let r := nget 0 b.och.measured (120 + a)
  let w := hottest b 16 2
  if r = 0 ∨ w = 0x8000 then none
  else some (((r : Int) * 1000000 / (1000000 + 393 * (bitsSigned 16 w - 250))).toNat)

/-- The mean of a list of hourly counts, as its sum and its length. -/
def hourMean (l : List Nat) : Nat × Nat := (l.sum, max 1 l.length)

/-- An indicator's percent used and raw value; none while its baseline or its value is not known. -/
def indicator (b : Block) (n : Nat) : Option (Nat × Nat) :=
  let i := ochInst n
  let c := ochClass n
  let base := nget 0 b.och.baseline n
  let v := nget 0 b.och.measured n
  if c = 1 then
    let t := headThreshold b i
    let hours := percentOf (headTime b i false) (3600000000 * (b.cfg .THR_ASSIST_H))
    if base = 0 then none else some (max hours (risePercent t base (b.cfg .THR_ITH_RISE)), t)
  else if c = 2 then
    some (percentOf (headTime b i true) (3600000000 * (b.cfg .THR_WRITER_H)), headTime b i true / 1000000)
  else if c = 3 ∨ c = 4 then
    if base = 0 then none
    else some (percentOf ((((v : Int) - (base : Int)).natAbs : Int) * 100) (b.cfg .THR_RDR_DRIFT * (base : Int)), v)
  else if c = 5 then
    let d := b.get .AST_HCLR_DRIFT i
    if d = 0 then none else some (percentOf ((((d : Int) - 1000).natAbs : Int)) (10 * b.cfg .THR_CLR_DRIFT), d)
  else if c = 6 then
    match coilAt25 b i with
    | some r => some (risePercent r (b.cfg .SRV_COIL_R i) (b.cfg .THR_COIL_RISE), r)
    | none => none
  else if c = 7 ∨ c = 8 then
    let k := nget 0 b.och.firstN n
    let sum := nget 0 b.och.firstSum n
    let allow := if c = 7 then b.cfg .THR_PIVOT_RISE else b.cfg .THR_SPN_RISE
    if k < 720 then none else some (risePercent ((v : Int) * k) sum allow, v)
  else if c = 9 then
    let m := (eraseCounts b).2.1 / max 1 (goodBlocks b)
    some (percentOf m 50000, m)
  else if c = 10 then
    let m := hourMean b.och.dramHours
    some (percentOf m.1 ((m.2 : Int) * b.cfg .THR_DRAM_CE), m.1 / m.2)
  else
    let m := hourMean b.och.sramHours
    some (percentOf m.1 ((m.2 : Int) * b.cfg .THR_SRAM_CE), m.1 / m.2)

/-! ### Prediction (R630) -/

/-- The sums of a least-squares line through samples taken a day apart, oldest first: n, X, Y and the residual D, so that the slope
is Y / X and its standard error the root of D / (n − 2), over X. -/
def lineFit (ys : List Nat) : Int × Int × Int × Int :=
  let n : Int := ys.length
  let ps := ys.zip (List.range ys.length)
  let sum := fun (f : Nat × Nat → Int) => (ps.map f).sum
  let sx := sum (fun p => (p.2 : Int))
  let sy := sum (fun p => (p.1 : Int))
  let x := n * sum (fun p => (p.2 : Int) * p.2) - sx * sx
  let y := n * sum (fun p => (p.1 : Int) * p.2) - sx * sy
  let syy := n * sum (fun p => (p.1 : Int) * p.1) - sy * sy
  (n, x, y, syy * x - y * y)

/-- No prediction, and no end in sight. -/
def noEnd : Nat := 0xFFFFFFFF

/-- Predicted end of life and lower bound in days, and whether the prediction is unavailable, from the daily samples of the window,
oldest first, and the present percent used. -/
def predict (ys : List Nat) (pct : Nat) : Nat × Nat × Bool :=
  if ys.length < 14 then (noEnd, noEnd, true)
  else if 100 ≤ pct then (0, 0, false)
  else
    let (n, x, y, d) := lineFit ys
    let px := ((100 - pct : Nat) : Int) * x
    let ok := fun (t : Nat) => decide ((t : Int) * y ≤ px) &&
      decide (4 * (t : Int) * (t : Int) * d ≤ (n - 2) * (px - (t : Int) * y) * (px - (t : Int) * y))
    let rises := decide (0 < y) || decide ((n - 2) * y * y < 4 * d)
    let low := if rises then greatest ok 32 0 else noEnd
    if 0 < y then (min noEnd (px / y).toNat, low, false) else (noEnd, low, false)

/-- The daily samples of an indicator in the window of `THR.WINDOW_D` days, oldest first. -/
def ochSamples (b : Block) (n : Nat) : List Nat :=
  ((b.och.daily.take (b.cfgN .THR_WINDOW_D)).map (fun l => l.getD n 0)).reverse

/-- An indicator's prediction. -/
def ochPredict (b : Block) (n : Nat) : Nat × Nat × Bool := predict (ochSamples b n) (b.get .OCH_IND_n_A_PCT n)

/-- An indicator's flags for a controller's notice threshold (R603): absent, at the threshold, prediction unavailable. -/
def ochFlags (b : Block) (p : Port) (n : Nat) (unknown : Bool) : Nat :=
  if ochAbsent b n then 1
  else (if feat b p 0xC1 0 ≤ b.get .OCH_IND_n_A_PCT n then 2 else 0) + (if unknown || (ochPredict b n).2.2 then 4 else 0)

/-! ### The hourly update and the daily sample (R629) -/

/-- A measurement taken (R628): of an indicator, in its raw unit; a baseline is the first, and the bearings' one is the mean of the first
720 hours. -/
def ochMeasure (b : Block) (m : Nat × Nat) : Block :=
  let o := b.och
  let c := ochClass m.1
  let o := { o with measured := nset 0 o.measured m.1 m.2 }
  let o := if (c = 3 ∨ c = 4) ∧ nget 0 o.baseline m.1 = 0 then { o with baseline := nset 0 o.baseline m.1 m.2 } else o
  let k := nget 0 o.firstN m.1
  let o := if (c = 7 ∨ c = 8) ∧ k < 720 then
      { o with firstN := nset 0 o.firstN m.1 (k + 1), firstSum := nset 0 o.firstSum m.1 (nget 0 o.firstSum m.1 + m.2) }
    else o
  { b with och := o }

/-- Threshold baselines taken where one has become known. -/
def ochBaselines (b : Block) : Block :=
  (List.range 24).foldl (fun b s =>
    let t := headThreshold b s
    if nget 0 b.och.baseline s = 0 ∧ t ≠ 0 then { b with och := { b.och with baseline := nset 0 b.och.baseline s t } } else b) b

/-- One indicator recomputed and shown. -/
def ochShow (b : Block) (n : Nat) : Block :=
  let b := b.put .OCH_IND_n_A_ID n (ochId n)
  let x := if ochAbsent b n then none else indicator b n
  let b := b.putSat .OCH_IND_n_A_PCT n ((x.map (fun y => y.1)).getD 0)
  let b := b.putSat .OCH_IND_n_B_RAW n ((x.map (fun y => y.2)).getD 0)
  b.put .OCH_IND_n_A_FLAGS n (ochFlags b 0 n x.isNone)

/-- The highest percent used among the indicators that are not absent, and its identifier (R638). -/
def ochWorst (b : Block) : Block :=
  let w := (List.range 132).foldl (fun (m : Option (Nat × Nat)) n =>
    if ochAbsent b n then m
    else
      let p := b.get .OCH_IND_n_A_PCT n
      match m with
      | none => some (p, n)
      | some x => if x.1 < p then some (p, n) else m) none
  match w with
  | some (p, n) => (b.put .OCH_STATE_WORSTPCT 0 p).put .OCH_STATE_WORSTID 0 (ochId n)
  | none => b

/-- The health notices (R609, R631): an indicator that crosses a controller's threshold upward raises its event once. -/
def ochNotice (b : Block) (n : Nat) : Block :=
  (List.finRange 2).foldl (fun b p =>
    let key := 2 * n + p.val
    let crossed := !ochAbsent b n && decide (feat b p 0xC1 0 ≤ b.get .OCH_IND_n_A_PCT n)
    if crossed && !decide (key ∈ b.och.noticed) then
      let b := { b with och := { b.och with noticed := key :: b.och.noticed } }
      if b.get .NV_CTL_RDY p.val = 1 then asyncEvent b p 7 0x81 0xC0 else b
    else if crossed then b
    else { b with och := { b.och with noticed := b.och.noticed.filter (fun k => k ≠ key) } }) b

/-- OCHRE_HOURLY_UPDATE (R628, R629): once per power-on hour. `meas` holds the measurements taken since the last one, by indicator and in
its raw unit: reader and coil resistances, holding and spindle currents. -/
def ochreHourly (meas : List (Nat × Nat)) (b : Block) : Block :=
  b.guard b.boot.journalUp (fun b =>
    let o := b.och
    let b := { b with och := { o with
      hours := o.hours + 1, dramHours := (o.dramLast :: o.dramHours).take 168, sramHours := (o.sramLast :: o.sramHours).take 168
      dramLast := 0, sramLast := 0 } }
    let b := ochBaselines (meas.foldl ochMeasure b)
    let b := (List.range 132).foldl ochShow b
    (List.range 132).foldl ochNotice (ochWorst b))

/-- OCHRE_HOURLY_UPDATE. -/
def execOchreHourlyUpdate (meas : List (Nat × Nat)) (s : State) : Host.Outcome State Fault Refusal :=
  s.onBlock (ochreHourly meas)

/-- OCHRE_DAILY_SAMPLE (R629): once per 24 power-on hours, one sample of each indicator's percent used; the last 90 are kept. -/
def ochreDaily (b : Block) : Block :=
  b.guard (b.boot.journalUp && decide (24 ≤ b.och.hours)) (fun b =>
    let day := (List.range 132).map (fun n => b.get .OCH_IND_n_A_PCT n)
    let b := { b with och := { b.och with daily := (day :: b.och.daily).take 90, hours := b.och.hours - 24 } }
    b.put .OCH_STATE_SAMPLES 0 b.och.daily.length)

/-- OCHRE_DAILY_SAMPLE. -/
def execOchreDailySample (s : State) : Host.Outcome State Fault Refusal := s.onBlock ochreDaily

end Sys2Proof.Machine
end

