-- ==== Sys2Proof/Machine/Logs.lean ====
section
/-! DEFINITION. Identify (R104, R544, R569, R571, R583, R593, R625) and Get Log Page (R571, R601 to R608, R657). -/

namespace Sys2Proof.Machine

/-! ### Identify

A structure is answered as the list of the values that the spec gives its fields, in the order of each docstring. -/

/-- Identify Controller: VER, CNTLID, model, serial and firmware version, silicon revision, CMIC, MDTS, RTD3R and RTD3E in µs, OAES,
ACL, AERL, firmware slots, EDSTT in minutes, WCTEMP, CCTEMP, HCTMA, SANICAP (Crypto Erase), NN, MNAN, SQES, CQES, FUSES, KAS, VWC,
then for PS0 to PS4 maximum power in 0.01 W, operational, ENLAT and EXLAT in µs. -/
def identifyController (b : Block) (p : Port) : List Nat :=
  [0x00020000, p.val + 1, b.cfgN .PLT_MODEL, b.cfgN .PLT_SERIAL, b.readWord 0xF0010, 0xB1, if (vget b.px 1).present then 3 else 0, 9,
    31000000, 1000000, 2 ^ 27 + 2 ^ 9 + 2 ^ 8, 7, 7, 2, 30, b.cfgN .THR_T1 + 273, b.cfgN .THR_T3 + 273, 0, 1, 8, 8, 0x66, 0x44, 0, 0, 0,
    1500, 1, 0, 0, 1200, 1, 0, 0, 900, 1, 0, 0, 550, 0, 500000, 1500000, 120, 0, 21000000, 30000000]

/-- Identify Namespace: NSZE, NCAP, NUSE, number of LBA formats, FLBAS, DPS, NMIC, and for formats 0 and 1 the data size and the
metadata size. -/
def identifyNamespace (n : Namespace) : List Nat :=
  [n.size, n.size, n.size, 2, if n.meta8 then 1 else 0, n.dps, if n.shared then 1 else 0, 4096, 0, 4096, 8]

/-- The same of no namespace. -/
def identifyEmpty : List Nat := List.replicate 11 0

/-- The zoned namespace structure (R583): of ZOC variable zone capacity and zone active excursions, of OZCS read across zone boundaries
and zone reset recommended, then MAR, MOR, RRL, FRL, and the zone size and the descriptor extension size of LBA formats 0 and 1. -/
def identifyZoned (b : Block) : List Nat :=
  [1, 0, 0, 1, b.cfgN .XLT_MAX_ACTIVE - 1, b.cfgN .XLT_MAX_ACTIVE - 1, 0, 0, zoneSize, 0, zoneSize, 0]

/-- The existing namespace identifiers above one, in ascending order. -/
def nsList (b : Block) (p : Option Port) (above : Nat) : List Nat :=
  ((List.range 8).map (· + 1)).filter (fun n => decide (above < n) &&
    (match p with | some p => (nsAttached b p n).isSome | none => (nsFind b n).isSome))

/-- Controller identifiers of a mask, from one on. -/
def ctrlList (mask above : Nat) : List Nat := [1, 2].filter (fun i => decide (above ≤ i) && bit mask (i - 1))

/-- The structure that Identify returns for a CNS, or the status it fails with. -/
def identifyData (b : Block) (p : Port) (cns nsid csi cntid : Nat) : Status × List Nat :=
  let valid := decide (1 ≤ nsid ∧ nsid ≤ 8)
  let ports := if (vget b.px 1).present then 3 else 1
  let ok := fun (l : List Nat) => (Status.success, l)
  let ofNs := fun (n : Option Namespace) => match n with | some n => ok (identifyNamespace n) | none => ok identifyEmpty
  if cns = 0x01 then ok (identifyController b p)
  else if cns = 0x00 then
    if nsid = 0xFFFFFFFF then ok [0, 0, 0, 2, 0, 0, 0, 4096, 0, 4096, 8]
    else if valid then ofNs (nsAttached b p nsid) else (.invalidNamespace, [])
  else if cns = 0x02 then if 0xFFFFFFFE ≤ nsid then (.invalidNamespace, []) else ok (nsList b (some p) nsid)
  else if cns = 0x03 then
    (match nsAttached b p nsid with
     | some n => ok [n.nsid, if n.zoned then 2 else 0]
     | none => (.invalidNamespace, []))
  else if cns = 0x05 then
    if csi = 2 then
      (match nsAttached b p nsid with
       | some n => if n.zoned then ok (identifyZoned b) else (.invalidField, [])
       | none => if valid then ok [] else (.invalidNamespace, []))
    else if csi = 0 then (if valid then ok [] else (.invalidNamespace, [])) else (.invalidField, [])
  else if cns = 0x06 then if csi = 2 then ok [9] else if csi = 0 then ok [] else (.invalidField, [])
  else if cns = 0x10 then if 0xFFFFFFFE ≤ nsid then (.invalidNamespace, []) else ok (nsList b none nsid)
  else if cns = 0x11 then if valid then ofNs (nsFind b nsid) else (.invalidNamespace, [])
  else if cns = 0x12 then
    if valid then ok (match nsFind b nsid with | some n => ctrlList n.attached cntid | none => []) else (.invalidNamespace, [])
  else if cns = 0x13 then ok (ctrlList ports cntid)
  else if cns = 0x1C then ok [0x05]
  else (.invalidField, [])

/-- IDENTIFY (R544, R571), in recovery mode too (R73). -/
def identify (p : Port) (cid cns nsid csi cntid : Nat) (b : Block) : Block :=
  adminStamped b p cid true (fun b _ =>
    let r := identifyData b p cns nsid csi cntid
    if r.1 = .success then complete (b.answer (.data r.2)) p 0 cid .success else complete b p 0 cid r.1)

/-- IDENTIFY. -/
def execIdentify (p : Port) (cid cns nsid csi cntid : Nat) (s : State) : Host.Outcome State Fault Refusal :=
  s.onBlock (identify p cid cns nsid csi cntid)

/-! ### Vendor log pages (R601 to R608) -/

/-- A number as n bytes, little-endian. -/
def le : Nat → Nat → List Nat
  | 0, _ => []
  | n + 1, v => v % 256 :: le n (v / 256)

/-- n zero bytes. -/
def zeros (n : Nat) : List Nat := List.replicate n 0

/-- The header of a page with a body (R601). -/
def withHeader (b : Block) (body : List Nat) : List Nat := [1, 0, 0, 0] ++ le 4 (16 + body.length) ++ le 8 b.now ++ body

/-- Surfaces whose bit a test sets. -/
def surfMask (f : Nat → Bool) : Nat := maskOf ((List.range 24).map f)

/-- Log page 0xC0 (R603), with flags for a controller's notice threshold. -/
def pageHealth (b : Block) (p : Port) : List Nat :=
  let heads := surfMask (fun s => decide (s ∈ b.nim.listed))
  let failed := surfMask (fun s => bit (b.get .AST_STATE_WFAIL (s / 6)) (s % 6))
  withHeader b (le 4 heads ++ le 4 failed ++ le 4 b.hea.clampFails ++ le 4 b.hea.clampShorts ++ le 4 b.hea.coasts ++ le 2 132 ++
    le 2 (b.get .OCH_STATE_WORSTID 0) ++ le 1 (b.get .OCH_STATE_WORSTPCT 0) ++ zeros 23 ++
    (List.range 132).flatMap (fun n =>
      let e := ochPredict b n
      let unknown := bit (b.get .OCH_IND_n_A_FLAGS n) 2
      le 2 (ochId n) ++ le 1 (b.get .OCH_IND_n_A_PCT n) ++ le 1 (ochFlags b p n unknown) ++ le 4 e.1 ++ le 4 e.2.1 ++
        le 4 (b.get .OCH_IND_n_B_RAW n)))

/-- A Sepia record's 64 bytes (R646). -/
def recordBytes (r : SepRec) : List Nat :=
  let flags := (if r.cont then 1 else 0) + (if r.snapshot then 2 else 0) + (if r.keep then 4 else 0) + r.severity * 32
  let head := le 4 r.seq ++ le 1 r.era ++ le 1 flags ++ le 2 r.code ++ le 8 r.time
  if r.cont then head ++ ((r.payload.flatMap (le 4)).take 48 ++ zeros (48 - 4 * r.payload.length))
  else head ++ le 1 r.src ++ le 1 r.conts ++ le 2 r.supp ++ le 4 r.pa ++ le 8 r.pb ++
    ((r.snap.flatMap (le 4)).take 32 ++ zeros (32 - 4 * r.snap.length))

/-- Log page 0xC1 (R604, R657): the staged extract while there is one, else the records held. -/
def pageEvents (b : Block) : List Nat :=
  let staged := decide (b.sep.stagedBy ≠ 0)
  let rs := if staged then b.sep.staged else sepHeldRecords b
  let f := rs.head?
  withHeader b (le 4 rs.length ++ le 1 (if staged then 1 else 0) ++ le 1 ((f.map (fun r => r.era)).getD 0) ++ zeros 2 ++
    le 4 ((f.map (fun r => r.seq)).getD 0) ++ le 4 (suppressedIn rs) ++ le 4 (if staged then b.sep.stagedBy else 0) ++ zeros 28 ++
    rs.flatMap recordBytes)

/-- Log page 0xC2 (R605). Progress of a job that runs is open. -/
def pageJobs (b : Block) : List Nat × Block :=
  let r := (List.range 64).foldl (fun (x : List (List Nat) × Block) n =>
    match slotJob x.2 n with
    | none => (zeros 64 :: x.1, x.2)
    | some j =>
      let (g, b) := jobProgress x.2 j
      let e := le 4 (jobHandle j) ++ le 1 j.type ++ le 1 j.state ++ le 1 (jobResult j) ++ le 1 (j.ctrl.val + 1) ++ le 8 j.start ++
        le 8 (if j.state = 4 then j.stop else 0) ++ le 4 j.nsid ++ le 4 (j.params.getD 0 0) ++ le 4 (j.params.getD 1 0) ++
        le 4 (j.params.getD 2 0) ++ le 2 g ++ zeros 6 ++ le 8 j.countA ++ le 8 j.countB
      (e :: x.1, b)) (([] : List (List Nat)), b)
  (withHeader b (zeros 48 ++ r.1.reverse.flatten), r.2)

/-- The owner of rows as a page names it: NSID, and ZSLBA or its index with bit 63 set (R606). -/
def ownerName (b : Block) (o : RowOwner) : Nat × Nat :=
  match o with
  | .zone n lba => (n, lba)
  | .conv id => (match groupFind b id with | some g => g.nsid | none => 0, 2 ^ 63 + id)
  | .mcache id => (0, 2 ^ 63 + id)

/-- The degraded rows of an owner, as the redundancy left of each. -/
def ownerDegraded (b : Block) (x : RowOwner × RowLog) : List Nat :=
  (((List.range (rowsHeld x.2)).map (fun k => goneCount b x.1 x.2 k)).filter (fun g => decide (0 < g))).map (fun g => x.2.m - g)

/-- A degraded zone's entry put at its place: ascending NSID, then ZSLBA. -/
def insertEntry (e : (Nat × Nat) × List Nat) : List ((Nat × Nat) × List Nat) → List ((Nat × Nat) × List Nat)
  | [] => [e]
  | y :: ys => if e.1.1 < y.1.1 ∨ (e.1.1 = y.1.1 ∧ e.1.2 ≤ y.1.2) then e :: y :: ys else y :: insertEntry e ys

/-- Log page 0xC3 (R606). -/
def pageSurfaces (b : Block) : List Nat :=
  let surf := (List.range 24).flatMap (fun s =>
    le 1 (surfState b s) ++ le 1 (b.get .BP_SURF_n_CAUSE s) ++ zeros 2 ++ le 4 (goneRowsOn b s) ++ le 8 (nget 0 b.xl.surfTime s))
  let pend := (List.range 41).flatMap (fun i =>
    match b.pwr.pending[i]? with
    | some r => le 4 (ownerName b r.owner).1 ++ le 8 (ownerName b r.owner).2 ++ le 1 r.row ++ zeros 3
    | none => zeros 16)
  let deg := (allLogs b).foldl (fun acc x =>
    let d := ownerDegraded b x
    if d.isEmpty then acc
    else
      let n := ownerName b x.1
      insertEntry (n, le 4 n.1 ++ le 8 n.2 ++ le 1 x.2.m ++ le 1 (d.foldl min (d.headD 0)) ++ le 2 (min d.length 0xFFFF)) acc)
    ([] : List ((Nat × Nat) × List Nat))
  withHeader b (le 4 (surfMask (fun s => decide (surfState b s = 1))) ++ le 1 b.pwr.pending.length ++
    le 1 ((leastRedundancy b).getD 0) ++ (List.range 4).map (fun a => b.get .SRV_STATE_MODE a) ++ zeros 2 ++ le 4 (degradedRows b) ++
    le 4 b.xl.lost.length ++ le 4 (b.get .BP_RECON_SECT 0) ++ le 4 (retireLeft b) ++ le 4 (retireNeed b) ++
    le 2 (min 512 deg.length) ++ le 1 (if 512 < deg.length then 1 else 0) ++ zeros 13 ++ surf ++ pend ++
    (deg.take 512).flatMap (fun e => e.2))

/-- Log page 0xC4 (R607). -/
def pageThermal (b : Block) : List Nat :=
  let t := b.thm
  let mins := fun (k : Nat) => nget 0 t.hist k / 60000000
  withHeader b (le 4 (mins 0) ++ le 4 (mins 1) ++ le 2 (min t.entries[2] 0xFFFF) ++ le 2 (min t.entries[3] 0xFFFF) ++
    le 1 (b.get .THM_STAGE_TOKEN 0) ++ le 1 (b.get .THM_STAGE_STAGE 0) ++ zeros 2 ++
    (List.range 16).flatMap (fun k => le 4 (nget 0 t.hist (16 + k) / 3600000000)) ++
    (List.range 26).flatMap (fun n =>
      le 2 n ++ le 2 (b.get .THM_SENS_n_NOW n) ++ le 2 (b.get .THM_SENS_n_MAX n) ++ le 2 (nget 0 t.sensLow n - 1) ++
        le 8 (nget 0 t.sensAt n)))

/-- Log page 0xC5 (R608). -/
def pageCalibration (b : Block) : List Nat :=
  let c := b.fcs.cal.getD calEmpty
  let at_ := fun (k : Nat) => le 8 (nget 0 c.accepted k)
  let held := maskOf ((List.range 7).map (fun i => c.accepted.any (fun e => e.1 = i)))
  withHeader b (le 4 c.count ++ zeros 4 ++ le 8 c.time ++ le 1 (if b.fcs.cal.isSome then b.fcs.calBank else 0xFF) ++ le 1 held ++
    le 1 b.fcs.calAsked ++ le 1 b.fcs.calFailed ++ zeros 4 ++ (List.range 7).flatMap at_ ++
    (List.range 24).flatMap (fun s => at_ (16 + s)))

/-- A vendor page's content now. -/
def vendorPage (b : Block) (p : Port) (lid : Nat) : List Nat × Block :=
  if lid = 0xC0 then (pageHealth b p, b)
  else if lid = 0xC1 then (pageEvents b, b)
  else if lid = 0xC2 then pageJobs b
  else if lid = 0xC3 then (pageSurfaces b, b)
  else if lid = 0xC4 then (pageThermal (countHeat b), countHeat b)
  else (pageCalibration b, b)

/-- A vendor page read (R602): a new snapshot at offset 0 or where none is valid; bytes beyond the page are zeros. -/
def readVendor (b : Block) (p : Port) (lid off len : Nat) : Block :=
  let c := vget b.nv p
  let old := c.snaps.find? (fun s => decide (s.1 = lid) && decide (b.now < s.2.1 + 60000000))
  let r := match old with
    | some s => if off = 0 then vendorPage b p lid else (s.2.2, b)
    | none => vendorPage b p lid
  let b := if off = 0 ∨ old = none then
      r.2.onNv p (fun c => { c with snaps := (lid, b.now, r.1) :: c.snaps.filter (fun s => s.1 ≠ lid) })
    else r.2
  b.answer (.bytes ((r.1.drop off).take len ++ zeros (len - (r.1.length - off))))

/-- The standard log pages (R571), as lists: 0x01 queue, identifier and status of each error, newest first; 0x02 the SMART log; 0x03 the
slot that runs, the slot armed, and the firmware versions of slots 1 and 2; 0x04 the changed namespaces; 0xBF the number of changed zones with their
first LBAs, or 0xFFFF alone where more than 511 have changed (R436, log entry 6); 0x05 the
admin and I/O opcodes supported; 0x06 whether a test runs, then self-test code and result of each, newest first; 0x80 the number of
notifications, then type and namespace of the oldest; 0x81 progress and the last operation's status. -/
def standardPage (b : Block) (p : Port) (lid nsid : Nat) : List Nat :=
  let c := vget b.nv p
  if lid = 0x01 then c.errors.reverse.flatMap (fun e => [e.1, e.2.1, e.2.2])
  else if lid = 0x02 then smartLog b
  else if lid = 0x03 then
    [if b.boot.recovery then 0 else b.fcs.running.val + 1, (match b.fcs.armed with | some k => k.val + 1 | none => 0)] ++
      (List.finRange 2).map (fun k => match (vget b.fcs.banks k).fw with | some f => f.version | none => 0)
  else if lid = 0x04 then c.changedNs
  else if lid = 0x05 then
    [0x00, 0x01, 0x02, 0x04, 0x05, 0x06, 0x08, 0x09, 0x0A, 0x0C, 0x0D, 0x10, 0x11, 0x14, 0x15, 0x80, 0x81, 0x82, 0x84, 0xC1, 0xC2, 0xC3, 0xC4,
      0x00, 0x01, 0x02, 0x08, 0x09, 0x0C, 0x0D, 0x0E, 0x11, 0x15, 0x19, 0x79, 0x7A, 0x7D, 0x81]
  else if lid = 0x06 then (if selfTesting b then 2 else 0) :: c.selfTests.flatMap (fun r => [r.1, r.2])
  else if lid = 0x80 then c.resNotes.length :: (match c.resNotes with | n :: _ => [n.1, n.2] | [] => [])
  else if lid = 0x81 then [0xFFFF, b.nvm.sanitize]
  else
    let zs := (c.changedZones.filter (fun z => z.1 = nsid)).map (fun z => z.2 * zoneSize)
    if 511 < zs.length then [0xFFFF] else zs.length :: zs

/-- The standard and vendor pages. -/
def standardPages : List Nat := [0x01, 0x02, 0x03, 0x04, 0x05, 0x06, 0x80, 0x81, 0xBF]
/-- The vendor pages. -/
def vendorPages : List Nat := [0xC0, 0xC1, 0xC2, 0xC3, 0xC4, 0xC5]

/-- What a read with Retain Asynchronous Event cleared does: the page's event is cleared, the lists that it reports are emptied, and ended
jobs count as retrieved (R569, R570, R598, R600). -/
def pageRead (b : Block) (p : Port) (lid nsid : Nat) : Block :=
  let b := b.onNv p (fun c =>
    if lid = 0x04 then { c with changedNs := [] }
    else if lid = 0xBF then { c with changedZones := c.changedZones.filter (fun z => z.1 ≠ nsid) }
    else if lid = 0x80 then { c with resNotes := c.resNotes.drop 1 }
    else c)
  let b := if lid = 0xC2 then
      b.onNvm (fun n => { n with jobs := updAll (fun (j : Job) => decide (j.state = 4)) (fun j => { j with retrieved := true }) n.jobs })
    else b
  clearEvent b p lid

/-- A log page's content left as the answer. -/
def answerPage (b : Block) (p : Port) (lid nsid off len : Nat) : Block :=
  if lid ∈ vendorPages then readVendor b p lid off len else b.answer (.data (standardPage b p lid nsid))

/-- GET_LOG_PAGE (R571, R601, R602): `rae` retains the page's event. In recovery mode the Error, SMART/Health and Firmware Slot pages are
served (R73); any other completes with Invalid Log Page (DESIGN CHOICE, log entry 133: R73 gives no status). -/
def getLogPage (p : Port) (cid nsid lid off len : Nat) (rae : Bool) (b : Block) : Block :=
  adminStamped b p cid true (fun b _ =>
    if lid ∉ standardPages ∧ lid ∉ vendorPages then complete b p 0 cid .invalidLogPage
    else if b.boot.recovery ∧ 3 < lid then complete b p 0 cid .invalidLogPage
    else if off % 4 ≠ 0 then complete b p 0 cid .invalidField
    else
      let b := answerPage b p lid nsid off len
      complete (if rae then b else pageRead b p lid nsid) p 0 cid .success)

/-- GET_LOG_PAGE. -/
def execGetLogPage (p : Port) (cid nsid lid off len : Nat) (rae : Bool) (s : State) : Host.Outcome State Fault Refusal :=
  s.onBlock (getLogPage p cid nsid lid off len rae)

end Sys2Proof.Machine
end

