-- ==== Sys2Proof/Machine/DramCode.lean ====
section
/-! DEFINITION. The Reed-Solomon code of a DRAM line (R689, R690): 64 bytes of data, the tag, and seven check symbols. A codeword is a
number of 72 bytes, byte 0 lowest, so that bit 8s + k is bit k of symbol s, which DQ ⌊s ÷ 3⌋ carries in beat 8 (s mod 3) + k: bit
24 d + t of the number is what DQ d carries in beat t. -/

namespace Sys2Proof.Machine

/-- Byte s of a codeword. -/
def symbolOf (w s : Nat) : Nat := w / 2 ^ (8 * s) % 256

/-- The seven 7-bit groups of line address bits [54:6], summed without carry (R689). The line is given by its internal address divided
by 64. -/
def lineTag (line : Nat) : Nat := (List.range 7).foldl (fun x k => x ^^^ line / 2 ^ (7 * k) % 128) 0

/-- The tag byte (R689): the poison bit over the address bits' sum. -/
def tagByte (line : Nat) (poison : Bool) : Nat := (if poison then 128 else 0) + lineTag line

/-- 2 to a power in GF(2^8). -/
def gfPower : Nat → Nat
  | 0 => 1
  | n + 1 => gfDouble (gfPower n)

/-- A polynomial, highest coefficient first, times x + r. -/
def gfTimesRoot (p : List Nat) (r : Nat) : List Nat := (p ++ [0]).zipWith (fun a c => a ^^^ c) (0 :: p.map (gfMul r))

/-- The generator of the code (R689): its seven roots are consecutive powers of 2 from one that the spec leaves open. -/
def dramGenerator : List Nat :=
  (List.range 7).foldl (fun p i => gfTimesRoot p (gfPower ((Config.dramFirstRoot + i) % 255))) [1]

/-- One byte fed to the division that forms the check symbols. -/
def checkFeed (reg : List Nat) (d : Nat) : List Nat :=
  let q := reg.headD 0 ^^^ d
  (reg.drop 1 ++ [0]).zipWith (fun a c => a ^^^ gfMul q c) (dramGenerator.drop 1)

/-- The seven check symbols of the 65 bytes before them, byte 65 first. -/
def checkSymbols (w : Nat) : List Nat := (List.range 65).foldl (fun reg s => checkFeed reg (symbolOf w s)) (List.replicate 7 0)

/-- The codeword of a line (R689). -/
def dramCodeword (data line : Nat) (poison : Bool) : Nat :=
  let w := data % 2 ^ 512 + 2 ^ 512 * tagByte line poison
  ((checkSymbols w).zip (List.range 7)).foldl (fun x c => x + c.1 * 2 ^ (8 * (65 + c.2))) w

/-- The symbols that an error pattern makes bad. -/
def badSymbols (err : Nat) : Nat := ((List.range 72).filter (fun s => decide (symbolOf err s ≠ 0))).length

/-- A codeword decoded after the bits of `err` have flipped (R690): up to three bad symbols are corrected and four are detected. What
five or more decode to is open. -/
def dramDecode (w err : Nat) : Option (Nat × Nat) :=
  let n := badSymbols err
  if n ≤ 3 then some (w, n)
  else if n = 4 then none
  else (Config.dramMisread (w ^^^ err % 2 ^ 576)).map (fun x => (x.1 % 2 ^ 576, x.2.val))

/-- A line as a read finds it (R690): the data, whether it is poisoned and the symbols corrected; none where it is uncorrectable, a tag of
another address included. -/
def lineRead (line w err : Nat) : Option (Nat × Bool × Nat) :=
  match dramDecode w err with
  | none => none
  | some (v, n) =>
    let tag := symbolOf v 64
    if tag % 128 = lineTag line then some (v % 2 ^ 512, decide (128 ≤ tag), n) else none

end Sys2Proof.Machine
end

