-- ==== Sys2Proof/Machine/Memory.lean ====
section
/-! DEFINITION. The memories and the DMA engine (R36, R673 to R713): the bytes of the address map, the channels DX00 to DX31, the
scrubs of SRAM and DRAM, the recovery of poisoned data (R694, R695), and the release of ACT# (R723). -/

namespace Sys2Proof.Machine

/-! ### The address map (R36) -/

/-- A region of the address map. -/
inductive Region where
  | rom | carve | store (a : Act) | scratch | regs | dram | host
  deriving DecidableEq, Repr

/-- The region an address lies in and the offset in it; none outside every region. The carve-out ends with its populated part
(R36, R680). -/
def regionOf (b : Block) (x : Nat) : Option (Region × Nat) :=
  if x < 0x40000 then some (.rom, x)
  else if 0x01000000 ≤ x ∧ x < 0x01000000 + 524288 * carveWays b then some (.carve, x - 0x01000000)
  else if h : 0x02000000 ≤ x ∧ x < 0x02040000 then
    some (.store ⟨(x - 0x02000000) / 0x10000, by omega⟩, (x - 0x02000000) % 0x10000)
  else if 0x03000000 ≤ x ∧ x < 0x03080000 then some (.scratch, x - 0x03000000)
  else if 0x10000000 ≤ x ∧ x < 0x10100000 then some (.regs, x - 0x10000000)
  else if 0x000400000000 ≤ x ∧ x < 0x000800000000 then some (.dram, x - 0x000400000000)
  else if 0x010000000000 ≤ x ∧ x < 0x018000000000 then some (.host, x - 0x010000000000)
  else none

/-- The bytes from an address on that lie in the region it lies in; the two host windows adjoin and count as one. -/
def regionLeft (b : Block) (x : Nat) : Nat :=
  match regionOf b x with
  | none => 0
  | some (.rom, o) => 0x40000 - o
  | some (.carve, o) => 524288 * carveWays b - o
  | some (.store a, o) => 0x10000 * (4 - a.val) - o
  | some (.scratch, o) => 0x80000 - o
  | some (.regs, o) => 0x100000 - o
  | some (.dram, o) => 0x400000000 - o
  | some (.host, o) => 0x8000000000 - o

/-- The grain in which poison is held (R681, R689): a line of DRAM, a word of SRAM. -/
def poisonGrain (x : Nat) : Nat := if 0x000400000000 ≤ x then 64 else 8

/-- The word or line that holds a byte. -/
def poisonCell (x : Nat) : Nat := x - x % poisonGrain x

/-- A byte lies in poisoned data. -/
def poisonedAt (b : Block) (x : Nat) : Bool := decide (poisonCell x ∈ b.mm.poison)

/-- A byte as a read finds it. The boot ROM's content is open (a constant of Config); the bytes of a host come with the command. -/
def byteAt (m : NMap Byte) (b : Block) (x : Nat) (fromHost : Byte) : Byte :=
  match regionOf b x with
  | none => 0
  | some (.rom, o) => BitVec.ofNat 8 (Config.bootRomByte o)
  | some (.store a, o) => BitVec.ofNat 8 (csWord b a (o / 16) / 2 ^ (8 * (o % 16)))
  | some (.regs, o) => BitVec.ofNat 8 (b.readWord (o - o % 4) / 2 ^ (8 * (o % 4)))
  | some (.host, _) => fromHost
  | some _ => nget 0 m x

/-- Byte k of a number replaced. -/
def putByte (w k : Nat) (d : Byte) : Nat := w - (w / 2 ^ (8 * k) % 256) * 2 ^ (8 * k) + d.toNat * 2 ^ (8 * k)

/-- One byte stored. The boot ROM and a host keep no trace; the store of a running sequencer takes no write (R351); registers take
whole words alone (`storeRegs`). -/
def storeByte (r : NMap Byte × Block) (x : Nat) (d : Byte) : NMap Byte × Block :=
  match regionOf r.2 x with
  | some (.carve, _) | some (.scratch, _) | some (.dram, _) => (nset 0 r.1 x d, r.2)
  | some (.store a, o) =>
    if r.2.get .TS_STATE_STATE a.val ∈ [0, 5, 6] then
      (r.1, r.2.onTs a (fun t => { t with cs := nset (csDefault (o / 16)) t.cs (o / 16)
                                            (putByte (csWord r.2 a (o / 16)) (o % 16) d) }))
    else r
  | _ => r

/-- The marks after a store (R684, R694): poisoned data carries its mark, a store of a whole word or line clears it, and a narrower
one leaves it. `bad` tells which bytes of the store are poisoned. -/
def storeMarks (b : Block) (x : Nat) (bad : List Bool) : Block :=
  let cells := ((List.range bad.length).map (fun i => poisonCell (x + i))).eraseDups
  let dirty := cells.filter (fun c => (List.range (poisonGrain c)).any (fun k => decide (x ≤ c + k) && bad.getD (c + k - x) false))
  let whole := cells.filter (fun c => decide (x ≤ c ∧ c + poisonGrain c ≤ x + bad.length))
  let kept := b.mm.poison.filter (fun c => !decide (c ∈ whole))
  { b with mm := { b.mm with poison := kept ++ dirty.filter (fun c => !decide (c ∈ kept)) } }

/-! ### Poison met by its consumers (R694, R695) -/

/-- The count of `MEM_POISON` that a consumer advances: 1 core, 3 host, 4 media, 5 NAND; the others have none (R694, R710). -/
def poisonCount (consumer : Nat) : Option Field :=
  if consumer = 1 then some .MEM_POISON_CORE
  else if consumer = 3 then some .MEM_POISON_HOST
  else if consumer = 4 then some .MEM_POISON_MEDIA
  else if consumer = 5 then some .MEM_POISON_NAND
  else none

/-- A poisoning counted and recorded with its consumer and address. -/
def recordPoison (b : Block) (consumer addr : Nat) : Block :=
  let b := match poisonCount consumer with | some f => b.bump f 0 | none => b
  b.sepia 0x0F04 (srcCC 0) consumer addr

/-! ### The FCS's reads (R62, R66) -/

/-- FCS_READ (R62, R66): CC0 copies bytes of a bank into DRAM or the L2 carve-out at `dst`; the bank that is programming or erasing is a
bus fault and copies nothing. Nothing is copied to an address elsewhere, or from beyond the bank (log entry 131). -/
def fcsRead (bank : Fin 2) (addr len dst : Nat) (r : NMap Byte × Block) : NMap Byte × Block :=
  let b := r.2
  let busy := match b.fcs.op with | some o => decide (o.bank = bank) | none => false
  if busy then (r.1, b.coreFault)
  else
    let into := match regionOf b dst with
      | some (.dram, _) | some (.carve, _) => decide (len ≤ regionLeft b dst)
      | _ => false
    if into && decide (addr + len ≤ fcsBankBytes) then
      let ds := (List.range len).map (fun i => bankByte bank (vget b.fcs.banks bank) (addr + i))
      let q := (ds.zip (List.range len)).foldl
        (fun (q : NMap Byte × Block) (d : Nat × Nat) => storeByte q (dst + d.2) (BitVec.ofNat 8 d.1)) (r.1, b)
      let b := storeMarks q.2 dst (ds.map (fun _ => false))
      (q.1, (rangeAccess b dst len true (some (0, false))).answer (.bytes ds))
    else (r.1, b.answer .none)

/-- FCS_READ. -/
def execFcsRead (bank : Fin 2) (addr len dst : Nat) (s : State) : Host.Outcome State Fault Refusal :=
  s.onMem (fun m b => fcsRead bank addr len dst (m, b))

/-! ### DMA channels (R696 to R700) -/

/-- A write to a channel's registers: DX28 to DX31 take it from a host under factory unlock, DX00 to DX27 from control cores alone
(R696). -/
def dxWrite (b : Block) (w : Agent) (n : Fin 32) (f : Block → Block) : Block :=
  match w with
  | .core => f b
  | .port p => if 28 ≤ n.val ∧ unlocked b p = true then f b else discardWrite b p

/-- A channel's source address. -/
def dxSrc (b : Block) (n : Nat) : Nat := b.get .DX_SRC_LO_ADDR n + 2 ^ 32 * b.get .DX_SRC_HI_ADDR n
/-- A channel's destination address. -/
def dxDst (b : Block) (n : Nat) : Nat := b.get .DX_DST_LO_ADDR n + 2 ^ 32 * b.get .DX_DST_HI_ADDR n
/-- A channel's count. -/
def dxCount (b : Block) (n : Nat) : Nat := b.get .DX_COUNT_COUNT n
/-- A channel runs. -/
def dxBusy (b : Block) (n : Nat) : Bool := decide (b.get .DX_STAT_n_BUSY n = 1)
/-- A channel drains. -/
def dxDrains (b : Block) (n : Nat) : Bool := bit b.mm.draining n

/-- Strict mode's check of an address; one in a host window is byte-granular in both modes (R700). -/
def strictOk (x : Nat) : Bool := decide (0x010000000000 ≤ x) || decide (x % 32 = 0)

/-- What keeps a channel from starting (R697, R712), as ERR codes it; 0 for nothing. -/
def startError (b : Block) (n : Nat) : Nat :=
  let c := dxCount b n
  if c = 0 then 5
  else if regionLeft b (dxSrc b n) < c ∨ regionLeft b (dxDst b n) < c then 2
  else if b.get .DX_MODE_ALIGN 0 = 1 ∧ ¬ (strictOk (dxSrc b n) = true ∧ strictOk (dxDst b n) = true ∧ c % 32 = 0) then 1
  else 0

/-- The drain bit of a channel. -/
def setDrain (b : Block) (n : Nat) (v : Bool) : Block := { b with mm := { b.mm with draining := putBit b.mm.draining n v } }

/-- A channel ended: GO, STOP and BUSY clear, and an ERR code stands where there is one. -/
def endChannel (b : Block) (n err : Nat) : Block :=
  let b := ((b.put .DX_CTL_n_GO n 0).put .DX_CTL_n_STOP n 0).put .DX_STAT_n_BUSY n 0
  let b := setDrain (b.put .DX_STAT_n_PAUSED n 0) n false
  if err = 0 then b else b.put .DX_STAT_n_ERR n err

/-- DMA_GO (R697, R701): the channel starts and, unless it is paused, requests its first line; or it fails its checks with ERR set and
GO clear. -/
def dmaGo (w : Agent) (n : Fin 32) (b : Block) : Block :=
  dxWrite b w n (fun b => b.guard (!dxBusy b n.val) (fun b =>
    let e := startError b n.val
    if e ≠ 0 then (b.put .DX_CTL_n_GO n.val 0).put .DX_STAT_n_ERR n.val e
    else
      let b := ((b.put .DX_CTL_n_GO n.val 1).put .DX_STAT_n_BUSY n.val 1).put .DX_STAT_n_ERR n.val 0
      let b := setDrain b n.val (decide (b.get .DX_CTL_n_PAUSE n.val = 1))
      if dxDrains b n.val then b else lineAccess b ⟨dxSrc b n.val / 64, false, none, false⟩))

/-- DMA_GO. -/
def execDmaGo (w : Agent) (n : Fin 32) (s : State) : Host.Outcome State Fault Refusal := s.onBlock (dmaGo w n)

/-- DMA_PAUSE (R698): new reads stop; the channel drains. -/
def dmaPause (w : Agent) (n : Fin 32) (b : Block) : Block :=
  dxWrite b w n (fun b =>
    let b := b.put .DX_CTL_n_PAUSE n.val 1
    if dxBusy b n.val && decide (b.get .DX_STAT_n_PAUSED n.val = 0) then setDrain b n.val true else b)

/-- DMA_PAUSE. -/
def execDmaPause (w : Agent) (n : Fin 32) (s : State) : Host.Outcome State Fault Refusal := s.onBlock (dmaPause w n)

/-- DMA_RESUME (R698): the channel goes on from its registers, unless it drains for a stop. -/
def dmaResume (w : Agent) (n : Fin 32) (b : Block) : Block :=
  dxWrite b w n (fun b =>
    let b := (b.put .DX_CTL_n_PAUSE n.val 0).put .DX_STAT_n_PAUSED n.val 0
    setDrain b n.val (dxDrains b n.val && decide (b.get .DX_CTL_n_STOP n.val = 1)))

/-- DMA_RESUME. -/
def execDmaResume (w : Agent) (n : Fin 32) (s : State) : Host.Outcome State Fault Refusal := s.onBlock (dmaResume w n)

/-- DMA_STOP (R698): a running channel drains and ends; one that does not run has nothing to drain. -/
def dmaStop (w : Agent) (n : Fin 32) (b : Block) : Block :=
  dxWrite b w n (fun b =>
    if dxBusy b n.val then setDrain (b.put .DX_CTL_n_STOP n.val 1) n.val true
    else b.put .DX_CTL_n_STOP n.val 0)

/-- DMA_STOP. -/
def execDmaStop (w : Agent) (n : Fin 32) (s : State) : Host.Outcome State Fault Refusal := s.onBlock (dmaStop w n)

/-- DX_STAT_CLEAR (R712): a 1 clears DONE or POISON. -/
def dxStatClear (w : Agent) (n : Fin 32) (done poison : Bool) (b : Block) : Block :=
  dxWrite b w n (fun b =>
    let b := if done then b.put .DX_STAT_n_DONE n.val 0 else b
    if poison then b.put .DX_STAT_n_POISON n.val 0 else b)

/-- What a word stored by DMA does to a field whose writes are commands of their own (R10): that command, as a control core gives it. -/
def storeCommand (b : Block) (f : Field) (n : Nat) (w : Word) : Block :=
  let set := w.toNat.testBit f.info.lo
  let a : Act := ⟨n % 4, by omega⟩
  let d : Fin 32 := ⟨n % 32, by omega⟩
  match f with
  | .FAB_RTWAIT_CLR => if set then rtwaitClr .core b else b
  | .SYS_CALCTL_START => if set then sysCalctlStart .core b else b
  | .SPN_BRAKE_TEST => if set then brakeTest .core b else b
  | .SRV_INJ_CTL_EN => injectionWrite .core a w b
  | .SRV_CAP_CTL_START => captureStart .core a w b
  | .CH_SMP_CTL_HOLD => smpCtlWrite .core a w b
  | .DX_CTL_n_GO => if set then dmaGo .core d b else b
  | .DX_CTL_n_PAUSE => if set then dmaPause .core d b else if b.get .DX_CTL_n_PAUSE d.val = 1 then dmaResume .core d b else b
  | .DX_CTL_n_STOP => if set then dmaStop .core d b else b
  | .DX_STAT_n_DONE => dxStatClear .core d set false b
  | .DX_STAT_n_POISON => dxStatClear .core d false set b
  | _ => b

/-- Bytes stored to registers from an offset on: each aligned word whole, as a control core writes it. -/
def storeRegs (b : Block) (off : Nat) (ds : List Byte) : Block :=
  let first := (off + 3) / 4
  let last := (off + ds.length) / 4
  (List.range (last - first)).foldl (fun b i =>
    let o := 4 * (first + i)
    let at_ := fun (k : Nat) => ((ds[o + k - off]?).getD 0).toNat
    let w := BitVec.ofNat 32 (at_ 0 + 256 * at_ 1 + 65536 * at_ 2 + 16777216 * at_ 3)
    (fieldsAt o).foldl (fun b fi => if ownCommandField fi.1 then storeCommand b fi.1 fi.2 w else b) (writeFields b o w)) b

/-- Bytes moved by a channel from its registers on (R694, R696): all are read, then all are stored, in ascending order; SRC and DST
advance and COUNT falls. Poison is carried with its data and reported; to a host it goes with EP set. -/
def moveBytes (n k : Nat) (fromHost : List Byte) (r : NMap Byte × Block) : NMap Byte × Block :=
  let b := r.2
  let src := dxSrc b n
  let dst := dxDst b n
  let ds := (List.range k).map (fun i => byteAt r.1 b (src + i) (fromHost.getD i 0))
  let bad := (List.range k).map (fun i => poisonedAt b (src + i))
  let stored : NMap Byte × Block := match regionOf b dst with
    | some (.regs, o) => (r.1, storeRegs b o ds)
    | some (.rom, _) | some (.host, _) | none => (r.1, b)
    | _ => (ds.zip (List.range k)).foldl (fun (r : NMap Byte × Block) (d : Byte × Nat) => storeByte r (dst + d.2) d.1) r
  let b := match regionOf b dst with
    | some (.carve, _) | some (.scratch, _) | some (.dram, _) => storeMarks stored.2 dst bad
    | some (.host, _) => if bad.any id then recordPoison stored.2 3 src else stored.2
    | _ => stored.2
  let b := if bad.any id then b.put .DX_STAT_n_POISON n 1 else b
  let b := (b.put .DX_SRC_LO_ADDR n ((src + k) % 2 ^ 32)).put .DX_SRC_HI_ADDR n ((src + k) / 2 ^ 32)
  let b := (b.put .DX_DST_LO_ADDR n ((dst + k) % 2 ^ 32)).put .DX_DST_HI_ADDR n ((dst + k) / 2 ^ 32)
  let b := b.put .DX_COUNT_COUNT n (dxCount r.2 n - k)
  (stored.1, rangeAccess (rangeAccess b src k false none) dst k true none)

/-- The bytes a channel can move before its ranges leave the map (R36). -/
def dxRoom (b : Block) (n : Nat) : Nat := min (regionLeft b (dxSrc b n)) (regionLeft b (dxDst b n))

/-- DMA_DRAINED (R698): the reads outstanding, of `moved` bytes, complete and are written; then the stop completes, or PAUSED is
set. When they are all that was left, the channel is done. -/
def dmaDrained (n : Fin 32) (moved : Nat) (fromHost : List Byte) (r : NMap Byte × Block) : NMap Byte × Block :=
  let b := r.2
  if dxBusy b n.val && dxDrains b n.val && decide (moved ≤ dxCount b n.val ∧ moved ≤ dxRoom b n.val) then
    let q := moveBytes n.val moved fromHost r
    (q.1,
      if dxCount q.2 n.val = 0 ∧ 0 < moved then (endChannel q.2 n.val 0).put .DX_STAT_n_DONE n.val 1
      else if q.2.get .DX_CTL_n_STOP n.val = 1 then endChannel q.2 n.val 0
      else setDrain (q.2.put .DX_STAT_n_PAUSED n.val 1) n.val false)
  else r

/-- DMA_DRAINED. -/
def execDmaDrained (n : Fin 32) (moved : Nat) (fromHost : List Byte) (s : State) : Host.Outcome State Fault Refusal :=
  s.onMem (fun m b => dmaDrained n moved fromHost (m, b))

/-- DMA_DONE (R697, R712): COUNT reaches 0, DONE is set and GO clears. A request to a host that fails after some bytes ends the
channel with ERR 4; ranges rewritten during a pause to leave the map (R698) end it with ERR 2 where they do. -/
def dmaDone (n : Fin 32) (failedAfter : Option Nat) (fromHost : List Byte) (r : NMap Byte × Block) : NMap Byte × Block :=
  let b := r.2
  if dxBusy b n.val && !dxDrains b n.val && decide (b.get .DX_STAT_n_PAUSED n.val = 0) then
    let outside := decide (0x010000000000 ≤ dxSrc b n.val) || decide (0x010000000000 ≤ dxDst b n.val)
    let k := min (dxCount b n.val) (dxRoom b n.val)
    match failedAfter with
    | some f =>
      if outside && decide (f < k) then
        let q := moveBytes n.val f fromHost r
        (q.1, endChannel q.2 n.val 4)
      else r
    | none =>
      let q := moveBytes n.val k fromHost r
      if dxCount q.2 n.val = 0 then (q.1, (endChannel q.2 n.val 0).put .DX_STAT_n_DONE n.val 1)
      else (q.1, endChannel q.2 n.val 2)
  else r

/-- DMA_DONE. -/
def execDmaDone (n : Fin 32) (failedAfter : Option Nat) (fromHost : List Byte) (s : State) :
    Host.Outcome State Fault Refusal :=
  s.onMem (fun m b => dmaDone n failedAfter fromHost (m, b))

/-- DX_STAT_CLEAR. -/
def execDxStatClear (w : Agent) (n : Fin 32) (done poison : Bool) (s : State) : Host.Outcome State Fault Refusal :=
  s.onBlock (dxStatClear w n done poison)

/-! ### SRAM (R681 to R688) -/

/-- A row corrected on a scrub pass (R688): three passes within 24 h switch it to a free spare at once. A pass counts once. -/
def rowCorrected (b : Block) (bank row pass : Nat) : Block :=
  let k := bank * 65536 + row % 65536
  let old := (nget [] b.mm.rowHits k).filter (fun h => decide (b.now ≤ h % 2 ^ 64 + 86400000000 ∧ h / 2 ^ 64 ≠ pass))
  let hits := old ++ [pass * 2 ^ 64 + b.now % 2 ^ 64]
  if 3 ≤ hits.length ∧ 0 < freeRows b bank then
    let b := (spareRow b bank row).bump .MEM_SRAM_SPARED 0
    { b with mm := { b.mm with rowHits := nerase b.mm.rowHits k } }
  else { b with mm := { b.mm with rowHits := nset [] b.mm.rowHits k (takeLast 3 hits) } }

/-- The eight bytes of a word of an addressable array after its bad bits and their correction. -/
def sramPatch (r : NMap Byte × Block) (addr err : Nat) : NMap Byte × Block :=
  (List.range 8).foldl (fun (r : NMap Byte × Block) k =>
    let e := err / 2 ^ (8 * k) % 256
    if e = 0 then r else storeByte r (addr + k) (byteAt r.1 r.2 (addr + k) 0 ^^^ BitVec.ofNat 8 e)) r

/-- A clean line that an L1 or L2 reads uncorrectable is invalidated and fetched again from DRAM (R685). -/
def fetchAgain (b : Block) (x : Nat) : Block :=
  if isDramLine (x / 64) then rangeAccess (writeBackWhere b (fun l => decide (l = x / 64))) x 1 false none else b

/-- SRAM_SCRUB (R682, R685, R688): the scrubber reads a word in whose 80 stored bits those of `bad` have flipped. `addr` is its
internal address where the array has one; `clean` tells a line that is fetched again instead of poisoned; `last` ends the pass. -/
def sramScrub (addr : Option Nat) (bank row : Nat) (bad : Nat) (clean last : Bool) (r : NMap Byte × Block) : NMap Byte × Block :=
  if !r.2.pwr.powered then r
  else
    let pass := r.2.mm.scrubWord
    let bad := bad % 2 ^ 80
    let marked := match addr with | some x => poisonedAt r.2 x | none => false
    let syn := (sramSyndrome bad).map (fun x => xor x marked)
    let word := fun (x : Nat) => x - x % 8
    let q : NMap Byte × Block := match sramDecode syn with
      | .clean => (match addr with | some x => sramPatch r (word x) bad | none => r)
      | .corrected i =>
        let q := match addr with | some x => sramPatch r (word x) (bad ^^^ 2 ^ i) | none => r
        let b := q.2.bump .MEM_SRAM_CORR 0
        (q.1, rowCorrected { b with och := { b.och with sramLast := b.och.sramLast + 1 } } bank row pass)
      | .poisoned => r
      | .uncorrectable =>
        let b := r.2.bump .MEM_SRAM_UNCORR 0
        (r.1, match addr with
          | some x =>
            if clean then fetchAgain b x
            else if marked then b
            else { b with mm := { b.mm with poison := b.mm.poison ++ [poisonCell x] } }
          | none => b)
    (q.1, if last then { q.2 with mm := { q.2.mm with scrubWord := pass + 1 } } else q.2)

/-- SRAM_SCRUB. -/
def execSramScrub (addr : Option Nat) (bank row bad : Nat) (clean last : Bool) (s : State) :
    Host.Outcome State Fault Refusal :=
  s.onMem (fun m b => sramScrub addr bank row bad clean last (m, b))

/-! ### DRAM (R689 to R693) -/

/-- Lines of the DRAM. -/
def dramLines : Nat := 2 ^ 28

/-- The number of the line at which the DRAM begins (R36). -/
def dramFirst : Nat := 0x10000000

/-- The 64 bytes of a line, byte 0 lowest. -/
def lineData (m : NMap Byte) (line : Nat) : Nat :=
  (List.range 64).foldl (fun x k => x + (nget 0 m (64 * line + k)).toNat * 2 ^ (8 * k)) 0

/-- A line's 64 bytes replaced. -/
def putLine (m : NMap Byte) (line data : Nat) : NMap Byte :=
  (List.range 64).foldl (fun m k => nset 0 m (64 * line + k) (BitVec.ofNat 8 (data / 2 ^ (8 * k)))) m

/-- The poison mark of a line set or cleared. -/
def markLine (b : Block) (line : Nat) (poison : Bool) : Block :=
  let x := 64 * line
  if decide (x ∈ b.mm.poison) = poison then b
  else { b with mm := { b.mm with poison := if poison then b.mm.poison ++ [x] else b.mm.poison.filter (· ≠ x) } }

/-- The patrol moves to the next line; after the last it has completed a pass (R709). -/
def scrubNext (b : Block) : Block :=
  let next := b.mm.scrubLine + 1
  if next = dramLines then
    ({ b with mm := { b.mm with scrubLine := 0 } }.bump .MEM_SCRUB_PASSES 0).put .MEM_SCRUB_PROG 0 0
  else { b with mm := { b.mm with scrubLine := next } }.put .MEM_SCRUB_PROG 0 (next * 10000 / dramLines)

/-- DRAM_SCRUB (R689, R690, R692, R708, R709): the patrol reads its next line, which holds the codeword of line `held` of the DRAM, its
own unless a write went astray, with the bits of `bad` flipped. What is read is written back; an uncorrectable line is rewritten with
its poison bit, and its owner is told. -/
def dramScrub (bad held : Nat) (r : NMap Byte × Block) : NMap Byte × Block :=
  if !r.2.pwr.powered then r
  else
    let line := dramFirst + r.2.mm.scrubLine
    let src := dramFirst + held
    let word := dramCodeword (lineData r.1 src) src (decide (64 * src ∈ r.2.mm.poison))
    match lineRead line word bad with
    | some (data, poison, n) =>
      let b := (markLine r.2 line poison).bump .MEM_DRAM_CORR 0 n
      (if data = lineData r.1 line then r.1 else putLine r.1 line data,
        scrubNext { b with och := { b.och with dramLast := b.och.dramLast + n } })
    | none =>
      let b := r.2.bump .MEM_DRAM_UNCORR 0
      let told := decide (64 * line ∈ b.mm.poison)
      let b := markLine b line true
      (r.1, scrubNext (if told then b else { b with mm := { b.mm with owed := b.mm.owed ++ [(8, 64 * line)] } }))

/-- DRAM_SCRUB. -/
def execDramScrub (bad held : Nat) (s : State) : Host.Outcome State Fault Refusal :=
  s.onMem (fun m b => dramScrub bad held (m, b))

/-! ### Poisoned data and its owner (R695) -/

/-- The first frame left unwritten for poison whose owner has not acted: request and sector. -/
def owedFrame (b : Block) : Option (Nat × Nat) :=
  (b.mm.owed.find? (fun e => e.1 = 4)).map (fun e => (e.2 / 1024, e.2 % 1024))

/-- That entry dropped. -/
def dropOwedFrame (b : Block) : Block :=
  { b with mm := { b.mm with owed := dropFirst (fun (e : Nat × Nat) => decide (e.1 = 4)) b.mm.owed } }

/-- The sector of an unwritten frame asked for again. -/
def askFrame (b : Block) : Block :=
  match owedFrame b with
  | none => b
  | some (tag, i) =>
    let b := dropOwedFrame b
    match activeReq b tag with
    | some q => requeueFront b { q with first := i, count := 1 }
    | none => b

/-- Both copies of an unwritten frame's data are gone: its blocks enter the lost-sector list, and the request goes on without
it (R433). -/
def loseFrame (b : Block) : Block :=
  match owedFrame b with
  | none => b
  | some (tag, i) =>
    let b := dropOwedFrame b
    match activeReq b tag with
    | none => b
    | some q =>
      let b := match q.for_ with
        | .data o k j => (match ownerLog b o with
          | none => b
          | some l => (match ownerBlock b o (k * rowBlocks l + j * l.t + i) with
            | some key => (listLost b key).onXl (fun x => { x with data := nerase x.data key })
            | none => b))
        | _ => b
      writeOne b tag

/-- The owner of poisoned data acts (R695). -/
def ownerActs (o : PoisonOwner) (b : Block) : Block :=
  match o with
  | .code e => engineSafe e b
  | .tables => b
  | .partialWrite p sq cid =>
    (match cmdFind b p sq cid with
    | some c => if c.phase = .receiving ∧ writesBlocks c.kind = true then failWrite b c .dataTransferError else b
    | none => b)
  | .staged => askFrame b
  | .mirrored => askFrame (if (owedFrame b).isSome then b.bump .MEM_DRAM_MIRROR 0 else b)
  | .bothCopies => loseFrame b
  | .readData p sq cid =>
    (match cmdFind b p sq cid with
    | some c => if writesBlocks c.kind then b else abortOne b c .dataTransferError
    | none => b)
  | .openRow i =>
    (match b.xl.openRows[i]? with
    | some r => (match ownerLog b r.owner with | some l => reformRow b r.owner l r.row | none => b)
    | none => b)
  | .bandCopy a again =>
    if !again then b
    else (match runningCopy b a with
    | none => b
    | some c => b.onXl (fun x => { x with
        copies := x.copies.filter (fun d => d ≠ c), taken := x.taken.filter (· ≠ c.target * 32 + c.surf) }))
  | .nandCopy die again =>
    if !again then b
    else (match dieCopy b die with
    | none => b
    | some c => abandonCopy b c)

/-- Frames left unwritten and programs not issued for poison are counted and recorded when that happens; what a scrub found is its
owner's now. -/
def ownsFrame : PoisonOwner → Bool
  | .staged | .mirrored | .bothCopies => true
  | _ => false

/-- What the owner is told of has been counted already, where it was met. -/
def metBefore (b : Block) (o : PoisonOwner) (addr : Nat) : Bool := ownsFrame o || decide ((5, addr) ∈ b.mm.owed)

/-- The owner puts good data where the poison was (R695): code from the bank, a table rebuilt, a copy made again. CC0 stores it. -/
def putsBack : PoisonOwner → Bool
  | .code _ | .tables | .mirrored => true
  | _ => false

/-- Poisoned data replaced (R684, R695): the mark of its word or line is gone. -/
def poisonReplaced (b : Block) (addr : Nat) : Block :=
  let b := { b with mm := { b.mm with poison := b.mm.poison.filter (· ≠ poisonCell addr) } }
  rangeAccess b (poisonCell addr) (poisonGrain addr) true (some (0, false))

/-- The access by which a control core met the poison (R673, R694): it ends in a precise exception. -/
def coreMet (b : Block) (o : PoisonOwner) (consumer addr : Nat) : Block :=
  let fetch := match o with | .code _ => true | _ => false
  if consumer = 1 then (rangeAccess b addr 1 false (some (0, fetch))).coreFault else b

/-- POISON_OWNER_RECOVERY (R694, R695): the poisoning is counted by its consumer and recorded, and the owner of the data acts. Code is
reloaded only once no program or erase of the FCS is in progress. -/
def poisonOwnerRecovery (o : PoisonOwner) (consumer : Fin 8) (addr : Nat) (b : Block) : Block :=
  let waits := match o with | .code _ => b.fcs.op.isSome | _ => false
  b.guard (!waits) (fun b =>
    let b := coreMet b o consumer.val addr
    let b := if metBefore b o addr then b else recordPoison b consumer.val addr
    let b := { b with mm := { b.mm with owed := b.mm.owed.filter (fun e => !decide (e = (8, addr) ∨ e = (5, addr))) } }
    let b := if putsBack o then poisonReplaced b addr else b
    qrecAll (ownerActs o b))

/-- POISON_OWNER_RECOVERY. -/
def execPoisonOwnerRecovery (o : PoisonOwner) (consumer : Fin 8) (addr : Nat) (s : State) :
    Host.Outcome State Fault Refusal :=
  s.onBlock (poisonOwnerRecovery o consumer addr)

/-! ### ACT# (R723) -/

/-- ACT_RELEASE (R723): no I/O command is in execution, and ACT# has been low for 50 ms. -/
def actRelease (b : Block) : Block :=
  match b.hea.actLow with
  | none => b
  | some t => b.guard (b.nvm.cmds.isEmpty && decide (t + 50000 ≤ b.now)) (fun b =>
      b.onHea (fun h => { h with actLow := none }))

/-- ACT_RELEASE. -/
def execActRelease (s : State) : Host.Outcome State Fault Refusal := s.onBlock actRelease

end Sys2Proof.Machine
end

