-- ==== Sys2Proof/Machine/Mi.lean ====
section
/-! DEFINITION. The management endpoint (R128, R632 to R635). NVMe-MI response statuses are the family's: 0x02 Internal Error, 0x03 Invalid
Command Opcode, 0x04 Invalid Parameter (log entry 6). -/

namespace Sys2Proof.Machine

/-- The retention domain, and the endpoint in it, has a supply (R128). -/
def miPowered (b : Block) : Bool := b.pwr.aux || b.pwr.v12 || b.pwr.powered

/-- The host interface is down: no mode is current, or no link carries traffic (R633). -/
def miDown (b : Block) : Bool := !b.pwr.powered || !(List.finRange 2).any (linkUp b)

/-- BOOT has halted (R72, R635). -/
def miHalted (b : Block) : Bool := b.pwr.powered && b.boot.halted.isSome

/-- A request answered by the endpoint; after a halt of BOOT only the Basic Management Command is. -/
def miServe (b : Block) (f : Block → Block) : Block := if !miPowered b || miHalted b then b.answer .none else f b

/-- A request answered while the host interface is up, and with Internal Error while it is down. -/
def miUp (b : Block) (f : Block → Block) : Block := miServe b (fun b => if miDown b then b.answer (.code 0x02) else f b)

/-- The SMART log that the endpoint reports from: the snapshot while the host interface is down. -/
def miSmart (b : Block) : List Nat := if miDown b then b.hea.snapshot else smartLog b

/-- MI_READ_DATA_STRUCTURE (R632): type 0 the subsystem (ports, NVMe-MI version), 1 a port (0 and 1 PCIe, 2 SMBus with its two addresses), 2
the controllers, 3 one controller (its port and device), 4 the optional commands. -/
def miReadData (type idx : Nat) (b : Block) : Block :=
  miUp b (fun b =>
    let n := if (vget b.px 1).present then 2 else 1
    if type = 0 then b.answer (.data [n + 1, 1, 2])
    else if type = 1 then
      (if idx < n then b.answer (.data [1, idx])
       else if idx = 2 then b.answer (.data [2, 0x1D, 0x6A]) else b.answer (.code 0x04))
    else if type = 2 then b.answer (.data (ctrlList (if n = 2 then 3 else 1) idx))
    else if type = 3 then
      (if 1 ≤ idx ∧ idx ≤ n then b.answer (.data [idx, idx - 1]) else b.answer (.code 0x04))
    else if type = 4 then b.answer (.data [])
    else b.answer (.code 0x04))

/-- MI_READ_DATA_STRUCTURE. -/
def execMiReadDataStructure (type idx : Nat) (s : State) : Host.Outcome State Fault Refusal := s.onBlock (miReadData type idx)

/-- MI_SUBSYSTEM_HEALTH_POLL (R633): critical warning, composite temperature, available spare, percentage used. -/
def miSubsystemPoll (b : Block) : Block :=
  miServe b (fun b =>
    let l := miSmart b
    b.answer (.data [l.getD 0 0, l.getD 1 0, l.getD 2 0, l.getD 4 0]))

/-- MI_SUBSYSTEM_HEALTH_POLL. -/
def execMiSubsystemHealthPoll (s : State) : Host.Outcome State Fault Refusal := s.onBlock miSubsystemPoll

/-- MI_CONTROLLER_HEALTH_POLL (R633): of each controller its identifier, whether it is ready and its shutdown status, and the health values
of the subsystem. -/
def miControllerPoll (b : Block) : Block :=
  miServe b (fun b =>
    let l := miSmart b
    let up := !miDown b
    b.answer (.data ((ctrlList (if (vget b.px 1).present then 3 else 1) 1).flatMap (fun i =>
      [i, if up then b.get .NV_CTL_RDY (i - 1) else 0, if up then b.get .NV_CTL_SHST (i - 1) else 0, l.getD 1 0, l.getD 4 0, l.getD 2 0,
        l.getD 0 0]))))

/-- MI_CONTROLLER_HEALTH_POLL. -/
def execMiControllerHealthPoll (s : State) : Host.Outcome State Fault Refusal := s.onBlock miControllerPoll

/-- Standard configuration identifiers: 1 the SMBus frequency, 2 the health status change, 3 the MCTP transmission unit. -/
def miStandard (id : Nat) : Bool := decide (1 ≤ id ∧ id ≤ 3)

/-- A configuration value that nothing has set: 100 kHz, and 64 bytes. -/
def miDefault (id : Nat) : Nat := if id = 1 then 1 else if id = 3 then 64 else 0

/-- A configuration value. -/
def miValue (b : Block) (id : Nat) : Nat :=
  match b.hea.miConfig.find? (fun e => e.1 = id) with | some e => e.2 | none => miDefault id

/-- MI_CONFIGURATION_GET (R632). -/
def miGet (id : Nat) (b : Block) : Block :=
  miUp b (fun b => if miStandard id then b.answer (.data [miValue b id]) else b.answer (.code 0x04))

/-- MI_CONFIGURATION_GET. -/
def execMiConfigurationGet (id : Nat) (s : State) : Host.Outcome State Fault Refusal := s.onBlock (miGet id)

/-- MI_CONFIGURATION_SET (R632) for standard identifiers. -/
def miSet (id v : Nat) (b : Block) : Block :=
  miUp b (fun b =>
    if miStandard id then (b.onHea (fun h => { h with miConfig := ninsert (nerase h.miConfig id) id v })).answer (.code 0)
    else b.answer (.code 0x04))

/-- MI_CONFIGURATION_SET. -/
def execMiConfigurationSet (id v : Nat) (s : State) : Host.Outcome State Fault Refusal := s.onBlock (miSet id v)

/-- D3cold: 12 V and the core are off, and the retention domain runs from 3.3 V aux. -/
def inD3cold (b : Block) : Bool := !b.pwr.powered && !b.pwr.v12 && b.pwr.aux

/-- MI_WAKE_REQUEST (R520, R634): WAKE# is asserted, or the request is answered with Invalid Parameter. -/
def miWake (b : Block) : Block :=
  miServe b (fun b =>
    let ps := (List.finRange 2).filter (fun p => (vget b.px p).present && (vget b.px p).pmeEn)
    if inD3cold b && decide (b.cfgN .HST_WAKE_EN = 1) && !ps.isEmpty then
      (ps.foldl (fun b p => (b.onPx p (fun x => { x with wake := true })).bump .PX_PM_WAKE p.val) b).answer (.code 0)
    else b.answer (.code 0x04))

/-- MI_WAKE_REQUEST. -/
def execMiWakeRequest (s : State) : Host.Outcome State Fault Refusal := s.onBlock miWake

/-- MI_VPD_READ (R632): the parts that the structure is built from, `PLT.MODEL`, `PLT.SERIAL`, `ID_PART` and the firmware version; their places
in its 256 bytes are not in the spec. -/
def miVpd (b : Block) : Block :=
  miUp b (fun b => b.answer (.data [b.cfgN .PLT_MODEL, b.cfgN .PLT_SERIAL, b.readWord 0xF0000, b.readWord 0xF0010]))

/-- MI_VPD_READ. -/
def execMiVpdRead (s : State) : Host.Outcome State Fault Refusal := s.onBlock miVpd

/-- MI_ADMIN_TUNNEL (R632, R633): Identify (0x06, `x` its CNS), Get Features (0x0A, `x` the feature) for feature 0x04, and Get Log Page (0x02,
`x` the page) for pages 0x02, 0xC0, 0xC3, 0xC4 and 0xC5, on behalf of a controller. Pages 0x02 and 0xC0 come from the snapshot while the
host interface is down. -/
def miTunnel (p : Port) (opcode nsid x off len : Nat) (b : Block) : Block :=
  miServe b (fun b =>
    let page := decide (opcode = 0x02) && decide (x ∈ [0x02, 0xC0, 0xC3, 0xC4, 0xC5])
    let allowed := decide (opcode = 0x06) || (decide (opcode = 0x0A) && decide (x = 0x04)) || page
    if miDown b then
      if page && decide (x = 0x02) then b.answer (.data b.hea.snapshot)
      else if page && decide (x = 0xC0) then b.answer (.data b.hea.snapOchre)
      else b.answer (.code 0x02)
    else if !allowed then b.answer (.code 0x03)
    else if opcode = 0x06 then
      let r := identifyData b p x nsid off len
      if r.1 = .success then b.answer (.data r.2) else b.answer (.code r.1.code)
    else if opcode = 0x0A then b.answer (.data [feat b p 0x04 off])
    else answerPage b p x nsid off len)

/-- MI_ADMIN_TUNNEL. -/
def execMiAdminTunnel (p : Port) (opcode nsid x off len : Nat) (s : State) : Host.Outcome State Fault Refusal :=
  s.onBlock (miTunnel p opcode nsid x off len)

/-- MI_BASIC_MANAGEMENT (R632, R633, R635): critical warning, composite temperature, percentage used, and the first vendor-specific byte, which
holds the code of a halt of BOOT. -/
def miBasic (b : Block) : Block :=
  if !miPowered b then b.answer .none
  else
    let l := miSmart b
    b.answer (.data [l.getD 0 0, l.getD 1 0, l.getD 4 0, b.boot.halted.getD 0])

/-- MI_BASIC_MANAGEMENT. -/
def execMiBasicManagement (s : State) : Host.Outcome State Fault Refusal := s.onBlock miBasic

/-- MI_SNAPSHOT_REFRESH (R633): every 1 s in operation. -/
def execMiSnapshotRefresh (s : State) : Host.Outcome State Fault Refusal :=
  s.onBlock (fun b => b.guard (b.pwr.powered && b.boot.halted.isNone) takeSnapshot)

end Sys2Proof.Machine
end

