-- ==== Sys2Proof/Machine/ResetRows.lean ====
section
/-! DEFINITION. PERST#, hot reset and link disable (R515), controller enable and disable, shutdown and NVM Subsystem Reset (R547, R548). -/

namespace Sys2Proof.Machine

/-- The link of a port goes down at once; the reset of its port state follows, or waits for an activation to end (R134, R515). -/
def portResetNow (b : Block) (p : Port) (r : DeferredReset) (l : ResetLetter) : Block :=
  resetOrDefer (linkDown b p) r (fun b => portPart b p l)

/-- PERST_ASSERT (R515): P of the port. -/
def perstAssert (p : Port) (b : Block) : Block :=
  portResetNow (b.onPx p (fun x => { x with perst := true })) p (.perst p) .P

/-- PERST_ASSERT. -/
def execPerstAssert (p : Port) (s : State) : Host.Outcome State Fault Refusal := s.onReset (perstAssert p)

/-- PERST_DEASSERT (R501, R520): link training starts, and WAKE# is no longer asserted. -/
def perstDeassert (p : Port) (b : Block) : Block :=
  b.onPx p (fun x => { x with perst := false, wake := false, fetchStopped := false, disabled := false })

/-- PERST_DEASSERT. -/
def execPerstDeassert (p : Port) (s : State) : Host.Outcome State Fault Refusal := s.onBlock (perstDeassert p)

/-- HOT_RESET (R515): as P, without PERST#. -/
def hotReset (p : Port) (b : Block) : Block :=
  b.guard (onBus b p) (fun b => (portResetNow b p (.hot p) .H).put .PX_LINK_STATE p.val 0xA)

/-- HOT_RESET. -/
def execHotReset (p : Port) (s : State) : Host.Outcome State Fault Refusal := s.onReset (hotReset p)

/-- LINK_DISABLE (R515): as a hot reset; the link stays down until the partner re-enables it. -/
def linkDisable (p : Port) (b : Block) : Block :=
  b.guard (onBus b p) (fun b =>
    ((portResetNow b p (.hot p) .H).onPx p (fun x => { x with disabled := true })).put .PX_LINK_STATE p.val 9)

/-- LINK_DISABLE. -/
def execLinkDisable (p : Port) (s : State) : Host.Outcome State Fault Refusal := s.onReset (linkDisable p)

/-- CC_EN_SET (R545, R547, R552): the controller is enabled in any mode, with its admin queues; CSTS.RDY becomes 1. -/
def ccEnSet (p : Port) (ams : Fin 8) (asqSize acqSize : Nat) (b : Block) : Block :=
  hostWrite b p (fun b => b.guard ((vget b.px p).present && b.boot.enginesUp && b.get .NV_CTL_EN p.val = 0 && queueSizeOk asqSize &&
      queueSizeOk acqSize) (fun b =>
    let sq := newSq b 0 asqSize 0 0 false
    let cq : CompQueue := ⟨0, acqSize, 0, true, [], 0, 0, 0⟩
    let b := b.onNv p (fun c => { c with sqs := [sq], cqs := [cq] })
    let b := (((b.put .NV_CTL_EN p.val 1).put .NV_CTL_RDY p.val 1).put .NV_CTL_AMS p.val ams.val).put .NV_CTL_SHST p.val 0
    powerEval ((b.put .NV_CTL_CFS p.val 0).onHea (fun h => { h with notified := vupd h.notified p (fun _ => false) })) 0x01))

/-- CC_EN_SET. -/
def execCcEnSet (p : Port) (ams : Fin 8) (asqSize acqSize : Nat) (s : State) : Host.Outcome State Fault Refusal :=
  s.onBlock (ccEnSet p ams asqSize acqSize)

/-- CC_EN_CLEAR (R133, R547): C of the controller, put off while an activation runs. -/
def ccEnClear (p : Port) (b : Block) : Block :=
  hostWrite b p (fun b =>
    b.guard (decide (b.get .NV_CTL_EN p.val = 1)) (fun b => resetOrDefer b (.ctrl p) (fun b => controllerReset b p)))

/-- CC_EN_CLEAR. -/
def execCcEnClear (p : Port) (s : State) : Host.Outcome State Fault Refusal := s.onReset (ccEnClear p)

/-- A controller has a command in execution or waiting. -/
def ctrlBusy (b : Block) (p : Port) : Bool :=
  b.nvm.cmds.any (fun c => decide (c.port = p ∧ c.cid < noCompletion)) || b.nvm.waits.any (fun w => w.port = p)

/-- A shutdown has ended (R548): a journal checkpoint, and CSTS.SHST 0b10. -/
def shutdownDone (b : Block) (p : Port) : Block :=
  ((checkpoint b).onNv p (fun c => { c with shutAt := none })).put .NV_CTL_SHST p.val 2

/-- CC_SHUTDOWN (R548): I/O entries are fetched no longer, and the commands in execution go on. -/
def ccShutdown (p : Port) (abrupt : Bool) (b : Block) : Block :=
  hostWrite b p (fun b => b.guard (decide (b.get .NV_CTL_EN p.val = 1) && decide (b.get .NV_CTL_SHST p.val = 0)) (fun b =>
    let now := b.now
    let b := b.onHea (fun h => { h with notified := vupd h.notified p (fun _ => true) })
    let b := (b.put .NV_CTL_SHST p.val 1).onNv p (fun c => { c with shutAt := some (now, abrupt) })
    if ctrlBusy b p then b else shutdownDone b p))

/-- CC_SHUTDOWN. -/
def execCcShutdown (p : Port) (abrupt : Bool) (s : State) : Host.Outcome State Fault Refusal := s.onBlock (ccShutdown p abrupt)

/-- SHUTDOWN_DEADLINE (R548): the commands have all ended, or 1 s has passed and those still running end under R133. -/
def shutdownDeadline (p : Port) (b : Block) : Block :=
  match (vget b.nv p).shutAt with
  | none => b
  | some t => b.guard (!ctrlBusy b p || decide (t.1 + 1000000 ≤ b.now)) (fun b => shutdownDone (resetCmds b p) p)

/-- SHUTDOWN_DEADLINE. -/
def execShutdownDeadline (p : Port) (s : State) : Host.Outcome State Fault Refusal := s.onBlock (shutdownDeadline p)

/-- NVM_SUBSYSTEM_RESET (R547): NSSR of a port written with the key resets both controllers; any other value does nothing. -/
def nssrWrite (p : Port) (key : Word) (b : Block) : Block :=
  hostWrite b p (fun b => b.guard (decide (key.toNat = 0x4E564D65) && (vget b.px p).present && b.boot.enginesUp) (fun b =>
    resetOrDefer b .subsystem subsystemReset))

/-- NVM_SUBSYSTEM_RESET. -/
def execNvmSubsystemReset (p : Port) (key : Word) (s : State) : Host.Outcome State Fault Refusal := s.onReset (nssrWrite p key)

end Sys2Proof.Machine
end

