-- ==== Sys2Proof/Machine/Dispatch.lean ====
section
/-! DEFINITION. One arm per command, each a direct call of its meaning. -/

namespace Sys2Proof.Machine

def exec (i : Instr) (s : State) : Host.Outcome State Fault Refusal :=
  match i with
  | .registerWrite w off vals hdr => Sys2Proof.Machine.execRegisterWrite w off vals hdr s
  | .diagAccessBadSize p write off size hdr => Sys2Proof.Machine.execDiagAccessBadSize p write off size hdr s
  | .diagWriteDiscarded p off vals => Sys2Proof.Machine.execDiagWriteDiscarded p off vals s
  | .counterLowRead p off => Sys2Proof.Machine.execCounterLowRead p off s
  | .counterHighRead p off => Sys2Proof.Machine.execCounterHighRead p off s
  | .fabRtwaitClr w => Sys2Proof.Machine.execFabRtwaitClr w s
  | .vcoreSag => Sys2Proof.Machine.execVcoreSag s
  | .vcoreRestored => Sys2Proof.Machine.execVcoreRestored s
  | .deadlineMiss o => Sys2Proof.Machine.execDeadlineMiss o s
  | .engineWatchdog e => Sys2Proof.Machine.execEngineWatchdog e s
  | .sysRateRefresh rate vcore wait => Sys2Proof.Machine.execSysRateRefresh rate vcore wait s
  | .fcsRead bank addr len dst => Sys2Proof.Machine.execFcsRead bank addr len dst s
  | .fcsProgram bank addr data => Sys2Proof.Machine.execFcsProgram bank addr data s
  | .fcsErase bank addr => Sys2Proof.Machine.execFcsErase bank addr s
  | .fcsStatus => Sys2Proof.Machine.execFcsStatus s
  | .fcsOperationDone verified sector => Sys2Proof.Machine.execFcsOperationDone verified sector s
  | .v12Stable => Sys2Proof.Machine.execV12Stable s
  | .auxSupplyChange valid => Sys2Proof.Machine.execAuxSupplyChange valid s
  | .bootStart fusesOk bootMemOk dualPort => Sys2Proof.Machine.execBootStart fusesOk bootMemOk dualPort s
  | .dramTrainingDone ok => Sys2Proof.Machine.execDramTrainingDone ok s
  | .bootDescriptorsRead => Sys2Proof.Machine.execBootDescriptorsRead s
  | .bootBankVerified readOk => Sys2Proof.Machine.execBootBankVerified readOk s
  | .enginesStart => Sys2Proof.Machine.execEnginesStart s
  | .bootEnd => Sys2Proof.Machine.execBootEnd s
  | .journalReplayDone ms gap => Sys2Proof.Machine.execJournalReplayDone ms gap s
  | .holdupEntry => Sys2Proof.Machine.execHoldupEntry s
  | .pendingListProgrammed => Sys2Proof.Machine.execPendingListProgrammed s
  | .holdupFlushEnd energy poisoned => Sys2Proof.Machine.execHoldupFlushEnd energy poisoned s
  | .holdupShortfall blocks energy => Sys2Proof.Machine.execHoldupShortfall blocks energy s
  | .holdupEnd energy => Sys2Proof.Machine.execHoldupEnd energy s
  | .shortBrakeEnd => Sys2Proof.Machine.execShortBrakeEnd s
  | .pwdisAssert => Sys2Proof.Machine.execPwdisAssert s
  | .pwdisDeassert => Sys2Proof.Machine.execPwdisDeassert s
  | .spindleBelow60rpm => Sys2Proof.Machine.execSpindleBelow60rpm s
  | .apstIdleExpiry p => Sys2Proof.Machine.execApstIdleExpiry p s
  | .deviceTimeSave => Sys2Proof.Machine.execDeviceTimeSave s
  | .pendingRowComplete o row lost => Sys2Proof.Machine.execPendingRowComplete o row lost s
  | .perstAssert p => Sys2Proof.Machine.execPerstAssert p s
  | .perstDeassert p => Sys2Proof.Machine.execPerstDeassert p s
  | .hotReset p => Sys2Proof.Machine.execHotReset p s
  | .linkDisable p => Sys2Proof.Machine.execLinkDisable p s
  | .initiateFlr p => Sys2Proof.Machine.execInitiateFlr p s
  | .flrComplete p => Sys2Proof.Machine.execFlrComplete p s
  | .ccEnSet p ams asqSize acqSize => Sys2Proof.Machine.execCcEnSet p ams asqSize acqSize s
  | .ccEnClear p => Sys2Proof.Machine.execCcEnClear p s
  | .ccShutdown p abrupt => Sys2Proof.Machine.execCcShutdown p abrupt s
  | .shutdownDeadline p => Sys2Proof.Machine.execShutdownDeadline p s
  | .nvmSubsystemReset p key => Sys2Proof.Machine.execNvmSubsystemReset p key s
  | .spinupInducedVoltageMeasured speed crossing => Sys2Proof.Machine.execSpinupInducedVoltageMeasured speed crossing s
  | .shortBrakeStandstill => Sys2Proof.Machine.execShortBrakeStandstill s
  | .locateDone rises => Sys2Proof.Machine.execLocateDone rises s
  | .spindleControlStep x => Sys2Proof.Machine.execSpindleControlStep x s
  | .sixstepZeroCrossing intervalNs floatMv busMv => Sys2Proof.Machine.execSixstepZeroCrossing intervalNs floatMv busMv s
  | .zeroCrossingLost => Sys2Proof.Machine.execZeroCrossingLost s
  | .catchMeasured intervals => Sys2Proof.Machine.execCatchMeasured intervals s
  | .spinupAttemptTimeout => Sys2Proof.Machine.execSpinupAttemptTimeout s
  | .spinupRetryWaitEnd => Sys2Proof.Machine.execSpinupRetryWaitEnd s
  | .speedErrorUnload => Sys2Proof.Machine.execSpeedErrorUnload s
  | .clampComparator high busMv => Sys2Proof.Machine.execClampComparator high busMv s
  | .clampFaultTimeout rising busMv => Sys2Proof.Machine.execClampFaultTimeout rising busMv s
  | .clampTest currentMa busMv => Sys2Proof.Machine.execClampTest currentMa busMv s
  | .spnBrakeTest w => Sys2Proof.Machine.execSpnBrakeTest w s
  | .busOvervoltage busMv => Sys2Proof.Machine.execBusOvervoltage busMv s
  | .busOvervoltageCleared busMv => Sys2Proof.Machine.execBusOvervoltageCleared busMv s
  | .spindleOvercurrent => Sys2Proof.Machine.execSpindleOvercurrent s
  | .servoControlStep a x => Sys2Proof.Machine.execServoControlStep a x s
  | .midWedgeTick a => Sys2Proof.Machine.execMidWedgeTick a s
  | .loopFaultReacquireTimeout a => Sys2Proof.Machine.execLoopFaultReacquireTimeout a s
  | .writeUnsafeClear a => Sys2Proof.Machine.execWriteUnsafeClear a s
  | .settleReached a => Sys2Proof.Machine.execSettleReached a s
  | .actuatorDispatch a => Sys2Proof.Machine.execActuatorDispatch a s
  | .loadStart a => Sys2Proof.Machine.execLoadStart a s
  | .loadWedgeLimit a => Sys2Proof.Machine.execLoadWedgeLimit a s
  | .loadRetryTimer a => Sys2Proof.Machine.execLoadRetryTimer a s
  | .unloadRequest a => Sys2Proof.Machine.execUnloadRequest a s
  | .unloadComplete a => Sys2Proof.Machine.execUnloadComplete a s
  | .retractParked a bemfMv => Sys2Proof.Machine.execRetractParked a bemfMv s
  | .retractLatchDone a => Sys2Proof.Machine.execRetractLatchDone a s
  | .internalBusLoss => Sys2Proof.Machine.execInternalBusLoss s
  | .srvInjectionEnable w a val => Sys2Proof.Machine.execSrvInjectionEnable w a val s
  | .srvCaptureStart w a val => Sys2Proof.Machine.execSrvCaptureStart w a val s
  | .srvCaptureFull a => Sys2Proof.Machine.execSrvCaptureFull a s
  | .milliactuatorCurrentLimit a => Sys2Proof.Machine.execMilliactuatorCurrentLimit a s
  | .pslWriteFrame a head addr data ack1 ack2 => Sys2Proof.Machine.execPslWriteFrame a head addr data ack1 ack2 s
  | .pslReadFrame a head addr rsp1 rsp2 => Sys2Proof.Machine.execPslReadFrame a head addr rsp1 rsp2 s
  | .pslFastFrame a head assist heater ack1 ack2 => Sys2Proof.Machine.execPslFastFrame a head assist heater ack1 ack2 s
  | .pslReinit a ok => Sys2Proof.Machine.execPslReinit a ok s
  | .assistLoopStep a ack1 ack2 => Sys2Proof.Machine.execAssistLoopStep a ack1 ack2 s
  | .heaterLoopStep a amplL amplT temp ack1 ack2 => Sys2Proof.Machine.execHeaterLoopStep a amplL amplT temp ack1 ack2 s
  | .writeReady a => Sys2Proof.Machine.execWriteReady a s
  | .writeRetrimDone a h zone fails => Sys2Proof.Machine.execWriteRetrimDone a h zone fails s
  | .touchdown a h => Sys2Proof.Machine.execTouchdown a h s
  | .touchdownReapply a h => Sys2Proof.Machine.execTouchdownReapply a h s
  | .preampFault a h status readers => Sys2Proof.Machine.execPreampFault a h status readers s
  | .preampFaultRetry a h => Sys2Proof.Machine.execPreampFaultRetry a h s
  | .preampSupplyFault a => Sys2Proof.Machine.execPreampSupplyFault a s
  | .preampSupplyGood a => Sys2Proof.Machine.execPreampSupplyGood a s
  | .channelReady a => Sys2Proof.Machine.execChannelReady a s
  | .sectorRead a x => Sys2Proof.Machine.execSectorRead a x s
  | .freezeHoldEnd a => Sys2Proof.Machine.execFreezeHoldEnd a s
  | .ontheflyDecodeDone a index unsat info => Sys2Proof.Machine.execOntheflyDecodeDone a index unsat info s
  | .replayDecodeDone a index unsat info => Sys2Proof.Machine.execReplayDecodeDone a index unsat info s
  | .deepDecodeDone d unsat info => Sys2Proof.Machine.execDeepDecodeDone d unsat info s
  | .sectorReread a index x => Sys2Proof.Machine.execSectorReread a index x s
  | .sectorWrite a => Sys2Proof.Machine.execSectorWrite a s
  | .poisonOwnerRecovery o consumer addr => Sys2Proof.Machine.execPoisonOwnerRecovery o consumer addr s
  | .verifyResult a index x power err decode skipped => Sys2Proof.Machine.execVerifyResult a index x power err decode skipped s
  | .chSmpCtlWrite w a val => Sys2Proof.Machine.execChSmpCtlWrite w a val s
  | .microwordStep a dt buf lo hi => Sys2Proof.Machine.execMicrowordStep a dt buf lo hi s
  | .bitTimerExpiry a => Sys2Proof.Machine.execBitTimerExpiry a s
  | .frameEnd a => Sys2Proof.Machine.execFrameEnd a s
  | .servoPreambleDue a => Sys2Proof.Machine.execServoPreambleDue a s
  | .wedgeTrapRequest a => Sys2Proof.Machine.execWedgeTrapRequest a s
  | .trapEntry a => Sys2Proof.Machine.execTrapEntry a s
  | .stopRequest a => Sys2Proof.Machine.execStopRequest a s
  | .hardStop a => Sys2Proof.Machine.execHardStop a s
  | .sequencerRestart a => Sys2Proof.Machine.execSequencerRestart a s
  | .controlStoreWrite a word data => Sys2Proof.Machine.execControlStoreWrite a word data s
  | .writeDataReceived p sq cid data poison pi => Sys2Proof.Machine.execWriteDataReceived p sq cid data poison pi s
  | .runWaitExpiry o => Sys2Proof.Machine.execRunWaitExpiry o s
  | .bandCopyStart a => Sys2Proof.Machine.execBandCopyStart a s
  | .bandCopyCommit a => Sys2Proof.Machine.execBandCopyCommit a s
  | .bandCopyTargetFail a => Sys2Proof.Machine.execBandCopyTargetFail a s
  | .mediaCacheDestage => Sys2Proof.Machine.execMediaCacheDestage s
  | .cleaningMerge nsid ext => Sys2Proof.Machine.execCleaningMerge nsid ext s
  | .groupCompaction => Sys2Proof.Machine.execGroupCompaction s
  | .wearSpreadRefresh => Sys2Proof.Machine.execWearSpreadRefresh s
  | .readOnlyExit => Sys2Proof.Machine.execReadOnlyExit s
  | .reconstructionSolve id read => Sys2Proof.Machine.execReconstructionSolve id read s
  | .zoneDescriptorChangedNotice => Sys2Proof.Machine.execZoneDescriptorChangedNotice s
  | .zoneRebuildCommit nsid k => Sys2Proof.Machine.execZoneRebuildCommit nsid k s
  | .nandPageProgram role blk page fails scan poison => Sys2Proof.Machine.execNandPageProgram role blk page fails scan poison s
  | .nandPageRead blk slot tries => Sys2Proof.Machine.execNandPageRead blk slot tries s
  | .nandErase die ev => Sys2Proof.Machine.execNandErase die ev s
  | .gcStart die => Sys2Proof.Machine.execGcStart die s
  | .gcCopyCommit die errors => Sys2Proof.Machine.execGcCopyCommit die errors s
  | .gcTargetFail die plane programFailed => Sys2Proof.Machine.execGcTargetFail die plane programFailed s
  | .wearLevelMove die => Sys2Proof.Machine.execWearLevelMove die s
  | .blockRefresh die => Sys2Proof.Machine.execBlockRefresh die s
  | .checkpointWrite => Sys2Proof.Machine.execCheckpointWrite s
  | .reserveReplenish => Sys2Proof.Machine.execReserveReplenish s
  | .linkUpL0 p rate width flit rev => Sys2Proof.Machine.execLinkUpL0 p rate width flit rev s
  | .linkRateChange p rate width flit => Sys2Proof.Machine.execLinkRateChange p rate width flit s
  | .configRead p off => Sys2Proof.Machine.execConfigRead p off s
  | .configWrite p off v enables => Sys2Proof.Machine.execConfigWrite p off v enables s
  | .bmeClear p => Sys2Proof.Machine.execBmeClear p s
  | .bmeSet p => Sys2Proof.Machine.execBmeSet p s
  | .d3hotEntry p => Sys2Proof.Machine.execD3hotEntry p s
  | .d3hotExit p => Sys2Proof.Machine.execD3hotExit p s
  | .pmeRepeat p => Sys2Proof.Machine.execPmeRepeat p s
  | .pmeTurnOff p => Sys2Proof.Machine.execPmeTurnOff p s
  | .aspmL1Entry p sub => Sys2Proof.Machine.execAspmL1Entry p sub s
  | .memoryRequestRefused p read hdr => Sys2Proof.Machine.execMemoryRequestRefused p read hdr s
  | .malformedTlp p kind hdr => Sys2Proof.Machine.execMalformedTlp p kind hdr s
  | .completionReceived p tag status poison hdr => Sys2Proof.Machine.execCompletionReceived p tag status poison hdr s
  | .completionTimeout p tag hdr => Sys2Proof.Machine.execCompletionTimeout p tag hdr s
  | .tagQuarantineEnd p tag => Sys2Proof.Machine.execTagQuarantineEnd p tag s
  | .sqFetchRetry p sq => Sys2Proof.Machine.execSqFetchRetry p sq s
  | .sqEntryFetch p => Sys2Proof.Machine.execSqEntryFetch p s
  | .sqTailDoorbell p sq value => Sys2Proof.Machine.execSqTailDoorbell p sq value s
  | .cqHeadDoorbell p cq value => Sys2Proof.Machine.execCqHeadDoorbell p cq value s
  | .translationCompletion p page read write needWrite sq cid => Sys2Proof.Machine.execTranslationCompletion p page read write needWrite sq cid s
  | .invalidationRequest p page pages => Sys2Proof.Machine.execInvalidationRequest p page pages s
  | .invalidateCompletion p => Sys2Proof.Machine.execInvalidateCompletion p s
  | .doeRequest p protocol length op => Sys2Proof.Machine.execDoeRequest p protocol length op s
  | .doeAbort p => Sys2Proof.Machine.execDoeAbort p s
  | .factoryUnlockExpiry p => Sys2Proof.Machine.execFactoryUnlockExpiry p s
  | .deleteIoSubmissionQueue p cid qid unfetched => Sys2Proof.Machine.execDeleteIoSubmissionQueue p cid qid unfetched s
  | .deleteIoCompletionQueue p cid qid => Sys2Proof.Machine.execDeleteIoCompletionQueue p cid qid s
  | .createIoSubmissionQueue p cid qid size cqid prio pc cmb => Sys2Proof.Machine.execCreateIoSubmissionQueue p cid qid size cqid prio pc cmb s
  | .createIoCompletionQueue p cid qid size vector ien pc => Sys2Proof.Machine.execCreateIoCompletionQueue p cid qid size vector ien pc s
  | .getLogPage p cid nsid lid off len rae => Sys2Proof.Machine.execGetLogPage p cid nsid lid off len rae s
  | .identify p cid cns nsid csi cntid => Sys2Proof.Machine.execIdentify p cid cns nsid csi cntid s
  | .abort p cid sq target => Sys2Proof.Machine.execAbort p cid sq target s
  | .setFeaturesArbitration p cid v save => Sys2Proof.Machine.execSetFeaturesArbitration p cid v save s
  | .setFeaturesPowerManagement p cid ps hint save => Sys2Proof.Machine.execSetFeaturesPowerManagement p cid ps hint save s
  | .setFeaturesTemperatureThreshold p cid sensor under v save => Sys2Proof.Machine.execSetFeaturesTemperatureThreshold p cid sensor under v save s
  | .setFeaturesErrorRecovery p cid tler dulbe save => Sys2Proof.Machine.execSetFeaturesErrorRecovery p cid tler dulbe save s
  | .setFeaturesNumberOfQueues p cid nsq ncq save => Sys2Proof.Machine.execSetFeaturesNumberOfQueues p cid nsq ncq save s
  | .setFeaturesInterruptCoalescing p cid time threshold save => Sys2Proof.Machine.execSetFeaturesInterruptCoalescing p cid time threshold save s
  | .setFeaturesInterruptVectorConfig p cid vector disable save => Sys2Proof.Machine.execSetFeaturesInterruptVectorConfig p cid vector disable save s
  | .setFeaturesAsyncEventConfig p cid v save => Sys2Proof.Machine.execSetFeaturesAsyncEventConfig p cid v save s
  | .setFeaturesApst p cid enable table save => Sys2Proof.Machine.execSetFeaturesApst p cid enable table save s
  | .setFeaturesTimestamp p cid ms save => Sys2Proof.Machine.execSetFeaturesTimestamp p cid ms save s
  | .setFeaturesHostIdentifier p cid exhid id save => Sys2Proof.Machine.execSetFeaturesHostIdentifier p cid exhid id save s
  | .setFeaturesReservationNotifMask p cid nsid mask save => Sys2Proof.Machine.execSetFeaturesReservationNotifMask p cid nsid mask save s
  | .setFeaturesReservationPersistence p cid nsid ptpl save => Sys2Proof.Machine.execSetFeaturesReservationPersistence p cid nsid ptpl save s
  | .setFeaturesVolatileWriteCache p cid => Sys2Proof.Machine.execSetFeaturesVolatileWriteCache p cid s
  | .setFeaturesJobEventRouting p cid v save => Sys2Proof.Machine.execSetFeaturesJobEventRouting p cid v save s
  | .setFeaturesHealthNoticeThreshold p cid v save => Sys2Proof.Machine.execSetFeaturesHealthNoticeThreshold p cid v save s
  | .getFeatures p cid fid sel select => Sys2Proof.Machine.execGetFeatures p cid fid sel select s
  | .asynchronousEventRequest p cid => Sys2Proof.Machine.execAsynchronousEventRequest p cid s
  | .namespaceCreate p cid csi nsze ncap flbas dps nmic profile => Sys2Proof.Machine.execNamespaceCreate p cid csi nsze ncap flbas dps nmic profile s
  | .namespaceDelete p cid nsid => Sys2Proof.Machine.execNamespaceDelete p cid nsid s
  | .namespaceAttach p cid nsid ids => Sys2Proof.Machine.execNamespaceAttach p cid nsid ids s
  | .namespaceDetach p cid nsid ids => Sys2Proof.Machine.execNamespaceDetach p cid nsid ids s
  | .firmwareImageDownload p cid off len parts => Sys2Proof.Machine.execFirmwareImageDownload p cid off len parts s
  | .firmwareCommitReplace p cid slot => Sys2Proof.Machine.execFirmwareCommitReplace p cid slot s
  | .firmwareCommitReplaceActivate p cid slot => Sys2Proof.Machine.execFirmwareCommitReplaceActivate p cid slot s
  | .firmwareCommitActivate p cid slot => Sys2Proof.Machine.execFirmwareCommitActivate p cid slot s
  | .firmwareCommitImmediate p cid slot => Sys2Proof.Machine.execFirmwareCommitImmediate p cid slot s
  | .activationPhaseEnd ok => Sys2Proof.Machine.execActivationPhaseEnd ok s
  | .deviceSelfTestShort p cid loopFail clearFail => Sys2Proof.Machine.execDeviceSelfTestShort p cid loopFail clearFail s
  | .deviceSelfTestExtended p cid => Sys2Proof.Machine.execDeviceSelfTestExtended p cid s
  | .formatNvm p cid nsid lbaf ses dps => Sys2Proof.Machine.execFormatNvm p cid nsid lbaf ses dps s
  | .securitySend p cid protocol len => Sys2Proof.Machine.execSecuritySend p cid protocol len s
  | .securityReceive p cid protocol len => Sys2Proof.Machine.execSecurityReceive p cid protocol len s
  | .sanitizeCryptoErase p cid => Sys2Proof.Machine.execSanitizeCryptoErase p cid s
  | .startJobMediaPatrol p cid nsid d12 d13 d14 rsvd => Sys2Proof.Machine.execStartJobMediaPatrol p cid nsid d12 d13 d14 rsvd s
  | .startJobSurfaceRetire p cid nsid d12 d13 d14 rsvd => Sys2Proof.Machine.execStartJobSurfaceRetire p cid nsid d12 d13 d14 rsvd s
  | .startJobParityRebuild p cid nsid d12 d13 d14 rsvd => Sys2Proof.Machine.execStartJobParityRebuild p cid nsid d12 d13 d14 rsvd s
  | .startJobActuatorRecalibration p cid nsid d12 d13 d14 rsvd => Sys2Proof.Machine.execStartJobActuatorRecalibration p cid nsid d12 d13 d14 rsvd s
  | .startJobAssistRecharacterise p cid nsid d12 d13 d14 rsvd => Sys2Proof.Machine.execStartJobAssistRecharacterise p cid nsid d12 d13 d14 rsvd s
  | .startJobConventionalCompact p cid nsid d12 d13 d14 rsvd => Sys2Proof.Machine.execStartJobConventionalCompact p cid nsid d12 d13 d14 rsvd s
  | .startJobSepiaExtract p cid nsid d12 d13 d14 rsvd => Sys2Proof.Machine.execStartJobSepiaExtract p cid nsid d12 d13 d14 rsvd s
  | .startJobExtendedSelfTest p cid nsid d12 d13 d14 rsvd => Sys2Proof.Machine.execStartJobExtendedSelfTest p cid nsid d12 d13 d14 rsvd s
  | .jobRunning slot => Sys2Proof.Machine.execJobRunning slot s
  | .queryJob p cid handle rsvd => Sys2Proof.Machine.execQueryJob p cid handle rsvd s
  | .cancelJob p cid handle rsvd => Sys2Proof.Machine.execCancelJob p cid handle rsvd s
  | .jobCancelStop slot => Sys2Proof.Machine.execJobCancelStop slot s
  | .jobEnded slot rs => Sys2Proof.Machine.execJobEnded slot rs s
  | .calibrationRunEnd rs => Sys2Proof.Machine.execCalibrationRunEnd rs s
  | .queueRecovery p cid mask unfetched => Sys2Proof.Machine.execQueueRecovery p cid mask unfetched s
  | .flush p sq cid nsid => Sys2Proof.Machine.execFlush p sq cid nsid s
  | .write p sq cid nsid slba nlb cmb => Sys2Proof.Machine.execWrite p sq cid nsid slba nlb cmb s
  | .read p sq cid nsid slba nlb pi => Sys2Proof.Machine.execRead p sq cid nsid slba nlb pi s
  | .writeZeroes p sq cid nsid slba nlb => Sys2Proof.Machine.execWriteZeroes p sq cid nsid slba nlb s
  | .datasetManagementDeallocate p sq cid nsid ranges ad => Sys2Proof.Machine.execDatasetManagementDeallocate p sq cid nsid ranges ad s
  | .verify p sq cid nsid slba nlb pi => Sys2Proof.Machine.execVerify p sq cid nsid slba nlb pi s
  | .reservationRegister p sq cid nsid action ignore cur new change => Sys2Proof.Machine.execReservationRegister p sq cid nsid action ignore cur new change s
  | .reservationReport p sq cid nsid => Sys2Proof.Machine.execReservationReport p sq cid nsid s
  | .reservationAcquire p sq cid nsid preempt ignore cur prKey kind => Sys2Proof.Machine.execReservationAcquire p sq cid nsid preempt ignore cur prKey kind s
  | .reservationPreemptAndAbort p sq cid nsid ignore cur prKey kind => Sys2Proof.Machine.execReservationPreemptAndAbort p sq cid nsid ignore cur prKey kind s
  | .reservationRelease p sq cid nsid action ignore cur kind => Sys2Proof.Machine.execReservationRelease p sq cid nsid action ignore cur kind s
  | .copy p sq cid nsid slba ranges => Sys2Proof.Machine.execCopy p sq cid nsid slba ranges s
  | .zoneOpen p sq cid nsid slba all => Sys2Proof.Machine.execZoneOpen p sq cid nsid slba all s
  | .zoneClose p sq cid nsid slba all => Sys2Proof.Machine.execZoneClose p sq cid nsid slba all s
  | .zoneFinish p sq cid nsid slba all => Sys2Proof.Machine.execZoneFinish p sq cid nsid slba all s
  | .zoneReset p sq cid nsid slba all => Sys2Proof.Machine.execZoneReset p sq cid nsid slba all s
  | .zoneOffline p sq cid nsid slba all => Sys2Proof.Machine.execZoneOffline p sq cid nsid slba all s
  | .zoneSetDescriptorExtension p sq cid nsid => Sys2Proof.Machine.execZoneSetDescriptorExtension p sq cid nsid s
  | .reportZones p sq cid nsid slba option part room => Sys2Proof.Machine.execReportZones p sq cid nsid slba option part room s
  | .extendedReportZones p sq cid nsid => Sys2Proof.Machine.execExtendedReportZones p sq cid nsid s
  | .zoneAppend p sq cid nsid slba nlb cmb remap => Sys2Proof.Machine.execZoneAppend p sq cid nsid slba nlb cmb remap s
  | .orderingFence p sq cid nsid reserved => Sys2Proof.Machine.execOrderingFence p sq cid nsid reserved s
  | .fenceComplete p sq cid => Sys2Proof.Machine.execFenceComplete p sq cid s
  | .sensorRead n reading stopped flushed => Sys2Proof.Machine.execSensorRead n reading stopped flushed s
  | .thermalStageExit => Sys2Proof.Machine.execThermalStageExit s
  | .orderlyStopRetract a => Sys2Proof.Machine.execOrderlyStopRetract a s
  | .sensorLimitCleared n => Sys2Proof.Machine.execSensorLimitCleared n s
  | .tokenRefill rates used => Sys2Proof.Machine.execTokenRefill rates used s
  | .resonatorCorrection => Sys2Proof.Machine.execResonatorCorrection s
  | .referenceCorrection => Sys2Proof.Machine.execReferenceCorrection s
  | .ochreHourlyUpdate meas => Sys2Proof.Machine.execOchreHourlyUpdate meas s
  | .ochreDailySample => Sys2Proof.Machine.execOchreDailySample s
  | .miReadDataStructure type idx => Sys2Proof.Machine.execMiReadDataStructure type idx s
  | .miSubsystemHealthPoll => Sys2Proof.Machine.execMiSubsystemHealthPoll s
  | .miControllerHealthPoll => Sys2Proof.Machine.execMiControllerHealthPoll s
  | .miConfigurationGet id => Sys2Proof.Machine.execMiConfigurationGet id s
  | .miConfigurationSet id v => Sys2Proof.Machine.execMiConfigurationSet id v s
  | .miWakeRequest => Sys2Proof.Machine.execMiWakeRequest s
  | .miVpdRead => Sys2Proof.Machine.execMiVpdRead s
  | .miAdminTunnel p opcode nsid x off len => Sys2Proof.Machine.execMiAdminTunnel p opcode nsid x off len s
  | .miBasicManagement => Sys2Proof.Machine.execMiBasicManagement s
  | .miSnapshotRefresh => Sys2Proof.Machine.execMiSnapshotRefresh s
  | .sepiaEvent code e pa pb conts => Sys2Proof.Machine.execSepiaEvent code e pa pb conts s
  | .sepiaSuppressionSummary code => Sys2Proof.Machine.execSepiaSuppressionSummary code s
  | .sepiaBufferFlush => Sys2Proof.Machine.execSepiaBufferFlush s
  | .sepiaFlushComplete => Sys2Proof.Machine.execSepiaFlushComplete s
  | .nimbusRunStart kind target idleUs => Sys2Proof.Machine.execNimbusRunStart kind target idleUs s
  | .nimbusRunEnd pass val => Sys2Proof.Machine.execNimbusRunEnd pass val s
  | .dmaGo w n => Sys2Proof.Machine.execDmaGo w n s
  | .dmaPause w n => Sys2Proof.Machine.execDmaPause w n s
  | .dmaResume w n => Sys2Proof.Machine.execDmaResume w n s
  | .dmaStop w n => Sys2Proof.Machine.execDmaStop w n s
  | .dmaDrained n moved fromHost => Sys2Proof.Machine.execDmaDrained n moved fromHost s
  | .dmaDone n failedAfter fromHost => Sys2Proof.Machine.execDmaDone n failedAfter fromHost s
  | .dxStatClear w n done poison => Sys2Proof.Machine.execDxStatClear w n done poison s
  | .sramScrub addr bank row bad clean last => Sys2Proof.Machine.execSramScrub addr bank row bad clean last s
  | .dramScrub bad held => Sys2Proof.Machine.execDramScrub bad held s
  | .sysCalctlStart w => Sys2Proof.Machine.execSysCalctlStart w s
  | .interruptCoalescingTime p cq => Sys2Proof.Machine.execInterruptCoalescingTime p cq s
  | .aspmL1Exit p => Sys2Proof.Machine.execAspmL1Exit p s
  | .linkDown p => Sys2Proof.Machine.execLinkDown p s
  | .linkRecovery p => Sys2Proof.Machine.execLinkRecovery p s
  | .receiverError p kind => Sys2Proof.Machine.execReceiverError p kind s
  | .replayTimerTimeout p rollover => Sys2Proof.Machine.execReplayTimerTimeout p rollover s
  | .cmbWrite p off data poison enabled hdr => Sys2Proof.Machine.execCmbWrite p off data poison enabled hdr s
  | .nimbusRunLate kind target => Sys2Proof.Machine.execNimbusRunLate kind target s
  | .actRelease => Sys2Proof.Machine.execActRelease s
  | .pwrV12Refresh mv => Sys2Proof.Machine.execPwrV12Refresh mv s

end Sys2Proof.Machine
end

