-- ==== Sys2Proof/Machine/Tick.lean ====
section
/-! DEFINITION. What one microsecond does when no command is waiting (log entry 41): the clocks that count time alone (R136, R137,
R169), and work whose cause was an earlier command and that needs no further one. -/

namespace Sys2Proof.Machine

/-- The time counted toward the next clamp test (R169): that in RUN and IDLE. At `SPD.CLAMP_TEST_H` hours the test is due. -/
def clampTick (b : Block) : Spindle :=
  if b.mode = .run ∨ b.mode = .idle then
    let n := b.spn.clampUs + 1
    { b.spn with clampUs := n, clampDue := b.spn.clampDue || decide (b.cfgN .SPD_CLAMP_TEST_H * 3600000000 ≤ n) }
  else b.spn

/-- The clocks after one microsecond: Device Time while a supply is present (R137), power-on time while the core is powered, the time
since the last clamp test in RUN and IDLE (R169), and the time in which I/O commands are in execution. -/
def advanceClocks (b : Block) : Block :=
  { b with
    sys := { b.sys with
      devTime := if b.pwr.v12 || b.pwr.aux || b.pwr.powered then b.sys.devTime + 1 else b.sys.devTime
      powerOnUs := if b.pwr.powered then b.sys.powerOnUs + 1 else b.sys.powerOnUs }
    spn := clampTick b
    hea := { b.hea with busyUs := if b.nvm.cmds.isEmpty then b.hea.busyUs else b.hea.busyUs + 1 } }

/-- One idle microsecond: the clocks, the reads that L2 awaits (R701), writes checked behind a zone action that may start (R586), the
data reads that writes still owe (R103, R513), queue recoveries that have what they waited for (R566), and the turns of an Assist
Recharacterise (R266). -/
def idleTick (b : Block) : Block :=
  assistTurn (qrecAll (pumpReads (pumpReads (releaseFenced (allAnswered (advanceClocks b))) 0) 1))

end Sys2Proof.Machine
end

