-- ==== Sys2Proof/Machine/Step.lean ====
section
/-! DEFINITION. One step: the command at the front of the queue, or one idle microsecond. -/

namespace Sys2Proof.Machine

/-- The command at the front is taken and executed with the rest of the queue; with none waiting one microsecond passes (log
entry 41). -/
def step (s : State) : Host.Outcome State Fault Refusal :=
  match s.pending with
  | [] => .next { s with blk := idleTick s.blk }
  | c :: cs => exec c { s with pending := cs }

/-- The state with the command that a word spells put at the front of its queue; unchanged where the word spells none. -/
def State.withFetchWord (s : State) (nbits w : Nat) : State :=
  match decodeTableWord nbits w with
  | some c => { s with pending := c :: s.pending }
  | none => s

end Sys2Proof.Machine
end

