-- ==== Sys2Proof/Safety.lean ====
section
/-! DEFINITION. What counts as a safe run: a step never stops, the queue gives up its first command alone, and memory keeps its
canonical form. -/

namespace Sys2Proof.Machine

/-- A step answers a next state. -/
def Goes (s : State) : Prop := ∃ t, step s = .next t

/-- Memory is in canonical form (the invariant that every step keeps). -/
def State.wf (s : State) : Prop := Memory.wf s.mem = true

/-- Every register field but those of a list reads in one block as in the other. Instance numbers are below 256. -/
def regsKept (fs : List Field) (b b' : Block) : Prop := ∀ (f : Field) (i : Nat), i < 256 → f ∉ fs → b'.get f i = b.get f i

/-- The block once an admin command has been taken from its queue, before it acts. -/
def adminBlock (b : Block) (p : Port) : Block := (adminStamp b p).2

/-- An admin command is taken and, outside recovery mode, acts (R73, R83, R113, R622). -/
abbrev AdminTaken (b : Block) (p : Port) : Prop :=
  queueLive b p 0 = true ∧ b.thm.trip = false ∧ linkEnginesStopped b = false ∧ b.boot.recovery = false

/-- The block once an I/O command has been taken from its queue and the power state has answered it (R107). -/
def ioBlock (b : Block) (p : Port) (sq : Nat) : Block := ioArrived (takeStamp b p sq).2 p

/-- The stamp that an I/O command takes (R559). -/
def ioStamp (b : Block) (p : Port) (sq : Nat) : Nat := (takeStamp b p sq).1

/-- An I/O command is taken and acts on an attached namespace: its identifier is free, the module is calibrated and not in recovery
mode, the link engines run and may take it, and no Format NVM or sanitize waits (R72, R73, R83, R113, R549, R563, R569). -/
abbrev IoTaken (b : Block) (p : Port) (sq cid nsid : Nat) (n : Namespace) : Prop :=
  sq ≠ 0 ∧ queueLive b p sq = true ∧ linkEnginesStopped b = false ∧ mayTake b p sq = true ∧ cmdFind (ioBlock b p sq) p sq cid = none ∧ (ioBlock b p sq).boot.recovery = false ∧
    nsAttached (ioBlock b p sq) p nsid = some n ∧ (ioBlock b p sq).get .SYS_BOOT_UNCAL 0 ≠ 1 ∧
    formatWaits (ioBlock b p sq) nsid = none

/-- The commands that may store to memory: those that write it, and those that reset a controller or take the core's power. -/
def storesMemory : Instr → Bool
  | .bootEnd => true
  | .holdupEntry => true
  | .holdupShortfall _ _ => true
  | .holdupEnd _ => true
  | .shortBrakeEnd => true
  | .pwdisAssert => true
  | .spindleBelow60rpm => true
  | .perstAssert _ => true
  | .hotReset _ => true
  | .linkDisable _ => true
  | .initiateFlr _ => true
  | .ccEnClear _ => true
  | .nvmSubsystemReset _ _ => true
  | .configWrite _ _ _ _ => true
  | .firmwareCommitImmediate _ _ _ => true
  | .activationPhaseEnd _ => true
  | .dmaDrained _ _ _ => true
  | .dmaDone _ _ _ => true
  | .fcsRead _ _ _ _ => true
  | .sramScrub _ _ _ _ _ _ => true
  | .dramScrub _ _ => true
  | .cmbWrite _ _ _ _ _ _ => true
  | _ => false

/-- The limits of every L2 slice: sixteen miss registers in use, at most fifteen of them below the real-time class, eight requests joined
to each, and eight lines in the eviction buffer (R675, R676). -/
abbrev CachesBounded (b : Block) : Prop := ∀ i : Fin 4,
  (sliceAt b i).miss.length ≤ 16 ∧ ((sliceAt b i).miss.filter (fun m => !m.realTime)).length ≤ 15 ∧
    (∀ m ∈ (sliceAt b i).miss, m.requests ≤ 8) ∧ (sliceAt b i).evict.length ≤ 8

/-- A byte of a memory, as the arrays that hold bytes of their own read it: the carve-out, scratch SRAM and DRAM. -/
def byteOf (s : State) (x : Nat) : Byte := nget 0 s.mem x

end Sys2Proof.Machine
end

