-- ==== Sys2Proof/Certificates/Slice0/Obligations.lean ====
section
/-! DEFINITION. The statements for the provers: one completion statement for each command with its next state, and the rules of the
block as a whole. -/

open Sys2Proof Sys2Proof.Machine

/-! ### The system block, the FCS, BOOT -/

/-- REGISTER_WRITE, DIAG_ACCESS_BAD_SIZE, DIAG_WRITE_DISCARDED (R36, R37, R38, R40, R519): a control core, and a host under factory
unlock outside DX00 to DX27, write each register of a well-shaped access; a core's access past the register space is a bus
fault; a host's write without unlock is counted and writes no register; an ill-shaped read is answered Unsupported Request and
an ill-shaped write, or any write in D3hot, is dropped, each logged with its header. A host's access finds the link awake.
COUNTER_LOW_READ and COUNTER_HIGH_READ (R39, R41): outside D3hot a read of the low word of a wide counter answers it and keeps
the high word for the port; a read of the high word right after it answers the kept word and spends it, whatever the counter
reads then; without one it answers the live high word. The link is awake; nothing else changes: no register, no memory, and not
the other port's kept word. -/
def Obligations.RegisterAccessCompletes : Prop :=
  (∀ (s : State) (off hdr : Nat) (vals : List Word), windowShapeOk off (4 * vals.length) = true → off + 4 * vals.length ≤ 0x100000 →
    exec (.registerWrite .core off vals hdr) s = .next { s with blk := writeWords s.blk off vals }) ∧
  (∀ (s : State) (off hdr : Nat) (vals : List Word), 0x100000 < off + 4 * vals.length →
    exec (.registerWrite .core off vals hdr) s = .next { s with blk := s.blk.coreFault }) ∧
  (∀ (s : State) (p : Port) (off hdr : Nat) (vals : List Word), windowShapeOk off (4 * vals.length) = true →
    s.blk.get .PX_LINK_DSTATE p.val ≠ 3 → unlocked s.blk p = true → dxFirmware off = false →
    exec (.registerWrite (.port p) off vals hdr) s = .next { s with blk := writeWords (touchLink s.blk p) off vals }) ∧
  (∀ (s : State) (p : Port) (off hdr : Nat) (vals : List Word), windowShapeOk off (4 * vals.length) = true →
    s.blk.get .PX_LINK_DSTATE p.val ≠ 3 → (unlocked s.blk p = false ∨ dxFirmware off = true) →
    exec (.registerWrite (.port p) off vals hdr) s = .next { s with blk := discardWrite (touchLink s.blk p) p } ∧
    exec (.diagWriteDiscarded p off vals) s = .next { s with blk := discardWrite (touchLink s.blk p) p }) ∧
  (∀ (s : State) (p : Port) (off hdr : Nat) (vals : List Word),
    (windowShapeOk off (4 * vals.length) = false ∨ s.blk.get .PX_LINK_DSTATE p.val = 3) →
    exec (.registerWrite (.port p) off vals hdr) s = .next { s with blk := refuseWindow (touchLink s.blk p) p hdr }) ∧
  (∀ (s : State) (p : Port) (off size hdr : Nat), windowShapeOk off size = false →
    exec (.diagAccessBadSize p false off size hdr) s =
      .next { s with blk := (refuseWindow (touchLink s.blk p) p hdr).answer .unsupportedRequest } ∧
    exec (.diagAccessBadSize p true off size hdr) s =
      .next { s with blk := (refuseWindow (touchLink s.blk p) p hdr).answer .none }) ∧
  (∀ (s : State) (p q : Port) (off : Nat) (b : Block), b = touchLink s.blk p → s.blk.get .PX_LINK_DSTATE p.val ≠ 3 →
    isWideLow off = true →
    ∃ t, exec (.counterLowRead p off) s = .next t ∧ t = { s with blk := { b with sys := { b.sys with
        reply := .words [b.readWord off], shadow := t.blk.sys.shadow } } } ∧
      vget t.blk.sys.shadow p = some (off, b.readWord (off + 4)) ∧
      (q ≠ p → vget t.blk.sys.shadow q = vget s.blk.sys.shadow q)) ∧
  (∀ (s : State) (p q : Port) (off h : Nat) (b : Block), b = touchLink s.blk p → s.blk.get .PX_LINK_DSTATE p.val ≠ 3 →
    isWideLow off = true → vget s.blk.sys.shadow p = some (off, h) →
    ∃ t, exec (.counterHighRead p (off + 4)) s = .next t ∧ t = { s with blk := { b with sys := { b.sys with
        reply := .words [h], shadow := t.blk.sys.shadow } } } ∧
      vget t.blk.sys.shadow p = none ∧ (q ≠ p → vget t.blk.sys.shadow q = vget s.blk.sys.shadow q)) ∧
  (∀ (s : State) (p q : Port) (off : Nat) (b : Block), b = touchLink s.blk p → s.blk.get .PX_LINK_DSTATE p.val ≠ 3 →
    isWideLow off = true → (∀ h, vget s.blk.sys.shadow p ≠ some (off, h)) →
    ∃ t, exec (.counterHighRead p (off + 4)) s = .next t ∧ t = { s with blk := { b with sys := { b.sys with
        reply := .words [b.readWord (off + 4)], shadow := t.blk.sys.shadow } } } ∧
      vget t.blk.sys.shadow p = none ∧ (q ≠ p → vget t.blk.sys.shadow q = vget s.blk.sys.shadow q)) ∧
  (∀ (s : State) (p : Port) (off : Nat), s.blk.get .PX_LINK_DSTATE p.val = 3 → isWideLow off = true →
    ∃ t, exec (.counterLowRead p off) s = .next t ∧ exec (.counterHighRead p (off + 4)) s = .next t ∧
      t.blk.sys.reply = .unsupportedRequest ∧ t.blk.sys.shadow = s.blk.sys.shadow ∧ t.mem = s.mem)

/-- FAB_RTWAIT_CLR, VCORE_SAG, VCORE_RESTORED, DEADLINE_MISS, ENGINE_WATCHDOG, SYS_RATE_REFRESH, SPN_BRAKE_TEST (R26, R31, R32, R43,
R46, R181): each answers the next state that its rule gives. -/
def Obligations.SystemEventsComplete : Prop :=
  (∀ (s : State), anyUnlocked s.blk = true → ∃ t, exec (.fabRtwaitClr .core) s = .next t ∧ t.blk.get .FAB_RTWAIT_MAX 0 = 0 ∧
    t.blk.get .FAB_RTWAIT_CLR 0 = 0) ∧
  (∀ (s : State) (p : Port), unlocked s.blk p = true → ∃ t, exec (.fabRtwaitClr (.port p)) s = .next t ∧
    t.blk.get .FAB_RTWAIT_MAX 0 = 0) ∧
  (∀ (s : State), exec .vcoreSag s =
    .next { s with blk := cutAllWrites { s.blk with sys := { s.blk.sys with sagHold := true } } }) ∧
  (∀ (s : State), ∃ t, exec .vcoreRestored s = .next t ∧ t.blk.sys.sagHold = false ∧ t.blk.regs = s.blk.regs ∧ t.mem = s.mem) ∧
  (∀ (s : State) (o : Obligation) (k n : Nat), k = obligationKey o → n = nget 0 s.blk.sys.missRuns k + 1 →
    exec (.deadlineMiss o) s = .next { s with
      blk := ((monitorAction o n { s.blk with sys := { s.blk.sys with missRuns := nset 0 s.blk.sys.missRuns k n } }).bump
        (obligationField o) 0).sepia 0x0F01 srcSV k (obligationEngine o) }) ∧
  (∀ (s : State) (e : Engine), exec (.engineWatchdog e) s =
    .next { s with blk := (engineRestart e (engineSafe e s.blk)).sepia 0x0F03 srcSV (engineCode e) 0 }) ∧
  (∀ (s : State) (r v wait : Nat), ∃ t, exec (.sysRateRefresh r v wait) s = .next t ∧ t.blk.get .SYS_RATE_NOW 0 = min r 0x7FF ∧
    t.blk.get .SYS_RATE_MIN 0 = min (s.blk.get .SYS_RATE_MIN 0) (min r 0x7FF) % 2 ^ 11 ∧
    t.blk.get .SYS_RATE_VCORE 0 = min v 0x3FF ∧
    t.blk.get .FAB_RTWAIT_MAX 0 = max (s.blk.get .FAB_RTWAIT_MAX 0) (min wait 0xFFFF)) ∧
  (∀ (s : State), anyUnlocked s.blk = true → ∃ t, exec (.spnBrakeTest .core) s = .next t ∧ t.blk.get .SPN_BRAKE_TEST 0 = 1)

/-- FCS_READ, FCS_PROGRAM, FCS_ERASE, FCS_STATUS, FCS_OPERATION_DONE (R60, R62, R64 to R66): with no operation in progress a read
copies a bank's bytes into DRAM and nowhere else, and a read of the bank that programs or erases is a bus fault; a program of
blank bytes inside one page and an erase of a sector start on the bank that is not running while no operation is in progress; a
verified end changes the bank and returns 0, and one whose verification failed remaps the sector to the next spare and returns
5. FCS_PROGRAM refused (R64): a range that is not allowed returns 0x04, the running bank outside recovery mode 0x01, an
operation in progress 0x03, a byte that is not blank 0x02, and nothing starts. -/
def Obligations.FcsCompletes : Prop :=
  (∀ (s : State) (bank : Fin 2) (addr len dst : Nat), s.blk.fcs.op = none → addr + len ≤ fcsBankBytes → 1 ≤ len → 0x400000000 ≤ dst →
    dst + len ≤ 0x800000000 →
    ∃ t, exec (.fcsRead bank addr len dst) s = .next t ∧
      t.blk.sys.reply = .bytes ((List.range len).map (fun i => bankByte bank (vget s.blk.fcs.banks bank) (addr + i))) ∧
      t.blk.fcs = s.blk.fcs ∧ regsKept cacheFields s.blk t.blk ∧
      ∀ x, byteOf t x = (if dst ≤ x ∧ x < dst + len
        then BitVec.ofNat 8 (bankByte bank (vget s.blk.fcs.banks bank) (addr + (x - dst))) else byteOf s x)) ∧
  (∀ (s : State) (bank : Fin 2) (addr len dst : Nat) (o : FcsOp), s.blk.fcs.op = some o → o.bank = bank →
    exec (.fcsRead bank addr len dst) s = .next { s with blk := s.blk.coreFault }) ∧
  (∀ (s : State) (bank : Fin 2) (addr : Nat) (data : List Byte), s.blk.fcs.op = none → bank ≠ s.blk.fcs.running →
    1 ≤ data.length → data.length ≤ 256 → addr + data.length ≤ fcsBankBytes →
    addr / 256 = (addr + data.length - 1) / 256 →
    (∀ i, i < data.length → bankByte bank (vget s.blk.fcs.banks bank) (addr + i) = 0xFF) →
    ∃ t, exec (.fcsProgram bank addr data) s = .next t ∧
      t.blk.fcs.op = some ⟨bank, false, addr, data.map (fun d => d.toNat), none⟩ ∧ t.blk.get .FCS_STAT_BUSY 0 = 1 ∧
      t.blk.get .FCS_STAT_OPBANK 0 = bank.val ∧ t.blk.get .FCS_STAT_LAST 0 = 0 ∧ t.blk.sys.reply = .code 0 ∧ t.mem = s.mem) ∧
  (∀ (s : State) (bank : Fin 2) (addr : Nat), s.blk.fcs.op = none → bank ≠ s.blk.fcs.running → addr < fcsBankBytes →
    addr % 65536 = 0 → ∃ t, exec (.fcsErase bank addr) s = .next t ∧ t.blk.fcs.op = some ⟨bank, true, addr, [], none⟩ ∧
      t.blk.get .FCS_STAT_BUSY 0 = 1 ∧ t.blk.sys.reply = .code 0 ∧ t.mem = s.mem) ∧
  (∀ (s : State), exec .fcsStatus s = .next { s with blk := s.blk.answer (.words [s.blk.readWord 0xA0000]) }) ∧
  (∀ (s : State) (o : FcsOp) (sector : Nat), s.blk.fcs.op = some o → o.job = none → s.blk.fcs.jobs = [] →
    ∃ t, exec (.fcsOperationDone true sector) s = .next t ∧ t.blk.fcs.op = none ∧ t.blk.get .FCS_STAT_BUSY 0 = 0 ∧
      t.blk.sys.reply = .code 0 ∧ t.mem = s.mem ∧
      vget t.blk.fcs.banks o.bank =
        (if o.erase then bankEraseSector (vget s.blk.fcs.banks o.bank) (o.addr / 65536)
         else bankProgram (vget s.blk.fcs.banks o.bank) o.addr o.data)) ∧
  (∀ (s : State) (o : FcsOp) (sector : Nat), s.blk.fcs.op = some o → o.job = none → s.blk.fcs.jobs = [] → 1 ≤ o.addr / 65536 →
    (vget s.blk.fcs.banks o.bank).bad.length < 32 →
    ∃ t, exec (.fcsOperationDone false sector) s = .next t ∧ t.blk.fcs.op = none ∧ t.blk.sys.reply = .code 5 ∧ t.mem = s.mem ∧
      (vget t.blk.fcs.banks o.bank).bad = (vget s.blk.fcs.banks o.bank).bad ++
        [(o.addr / 65536, 480 + (vget s.blk.fcs.banks o.bank).bad.length)]) ∧
  (∀ (s : State) (bank : Fin 2) (addr : Nat) (data : List Byte), s.blk.fcs.op = none → bank ≠ s.blk.fcs.running →
    (data.length = 0 ∨ 256 < data.length ∨ fcsBankBytes < addr + data.length ∨
      addr / 256 ≠ (addr + data.length - 1) / 256) →
    ∃ t, exec (.fcsProgram bank addr data) s = .next t ∧ t.blk.fcs = s.blk.fcs ∧ t.blk.sys.reply = .code 4 ∧ t.mem = s.mem) ∧
  (∀ (s : State) (addr : Nat) (data : List Byte), s.blk.fcs.op = none → s.blk.boot.recovery = false →
    1 ≤ data.length → data.length ≤ 256 → addr + data.length ≤ fcsBankBytes → addr / 256 = (addr + data.length - 1) / 256 →
    ∃ t, exec (.fcsProgram s.blk.fcs.running addr data) s = .next t ∧ t.blk.fcs = s.blk.fcs ∧ t.blk.sys.reply = .code 1 ∧
      t.mem = s.mem) ∧
  (∀ (s : State) (bank : Fin 2) (addr : Nat) (data : List Byte), s.blk.fcs.op.isSome = true → bank ≠ s.blk.fcs.running →
    1 ≤ data.length → data.length ≤ 256 → addr + data.length ≤ fcsBankBytes → addr / 256 = (addr + data.length - 1) / 256 →
    ∃ t, exec (.fcsProgram bank addr data) s = .next t ∧ t.blk.fcs = s.blk.fcs ∧ t.blk.sys.reply = .code 3 ∧ t.mem = s.mem) ∧
  (∀ (s : State) (bank : Fin 2) (addr i : Nat) (data : List Byte), s.blk.fcs.op = none → bank ≠ s.blk.fcs.running →
    1 ≤ data.length → data.length ≤ 256 → addr + data.length ≤ fcsBankBytes → addr / 256 = (addr + data.length - 1) / 256 →
    i < data.length → bankByte bank (vget s.blk.fcs.banks bank) (addr + i) ≠ 0xFF →
    ∃ t, exec (.fcsProgram bank addr data) s = .next t ∧ t.blk.fcs = s.blk.fcs ∧ t.blk.sys.reply = .code 2 ∧ t.mem = s.mem)

/-- BOOT_START, DRAM_TRAINING_DONE, BOOT_DESCRIPTORS_READ, BOOT_BANK_VERIFIED, ENGINES_START, BOOT_END, JOURNAL_REPLAY_DONE (R69 to
R73, R100, R471): each stage of BOOT, in the state in which it is due, takes the module to the next one. -/
def Obligations.BootCompletes : Prop :=
  (∀ (s : State) (dual : Bool), bootEnabled s.blk = true →
    ∃ t, exec (.bootStart true true dual) s = .next t ∧ t.blk.get .SYS_BOOT_STAGE 0 = 3 ∧ t.blk.boot.active = true ∧ t.mem = s.mem) ∧
  (∀ (s : State) (fusesOk memOk dual : Bool), bootEnabled s.blk = true → (fusesOk = false ∨ memOk = false) →
    ∃ t, exec (.bootStart fusesOk memOk dual) s = .next t ∧ t.blk.boot.halted = some (if fusesOk then 2 else 1) ∧
      t.blk.boot.active = false ∧ t.blk.boot.phy = false) ∧
  (∀ (s : State), s.blk.boot.active = true → s.blk.get .SYS_BOOT_STAGE 0 = 3 →
    exec (.dramTrainingDone true) s = .next { s with blk := s.blk.put .SYS_BOOT_STAGE 0 4 } ∧
    exec (.dramTrainingDone false) s = .next { s with blk := recoveryEntry s.blk }) ∧
  (∀ (s : State) (c : Fin 2) (cs : List (Fin 2)), s.blk.boot.active = true → s.blk.get .SYS_BOOT_STAGE 0 = 4 →
    s.blk.boot.recovery = false → bootOrder (vget s.blk.fcs.banks 0) (vget s.blk.fcs.banks 1) = c :: cs →
    ∃ t, exec .bootDescriptorsRead s = .next t ∧ t.blk.boot.current = some c ∧ t.blk.boot.candidates = cs ∧
      t.blk.get .SYS_BOOT_STAGE 0 = 5 ∧ t.blk.get .SYS_BOOT_BANK 0 = c.val) ∧
  (∀ (s : State) (ok : Bool) (c d : Fin 2) (ds : List (Fin 2)), s.blk.boot.active = true → s.blk.boot.recovery = false →
    s.blk.boot.verified = false → 5 ≤ s.blk.get .SYS_BOOT_STAGE 0 → s.blk.boot.current = some c → s.blk.boot.candidates = d :: ds →
    ∃ t, exec (.bootBankVerified ok) s = .next t ∧ t.mem = s.mem ∧
      (ok = true → bankCheck s.blk (vget s.blk.fcs.banks c) = 0 →
        t.blk.get .SYS_BOOT_STAGE 0 = 8 ∧ t.blk.boot.verified = true ∧ t.blk.fcs.running = c) ∧
      ((ok = false ∨ bankCheck s.blk (vget s.blk.fcs.banks c) ≠ 0) →
        t.blk.boot.current = some d ∧ t.blk.boot.candidates = ds ∧ t.blk.boot.rejected = true) ∧
      (ok = false → t.blk.get .SYS_BOOT_FAIL 0 = 9)) ∧
  (∀ (s : State), s.blk.boot.active = true → s.blk.boot.verified = true → s.blk.get .SYS_BOOT_STAGE 0 = 8 →
    ∃ t, exec .enginesStart s = .next t ∧ t.blk.get .SYS_BOOT_STAGE 0 = 9 ∧ t.blk.boot.enginesUp = true ∧ t.mem = s.mem) ∧
  (∀ (s : State), s.blk.boot.active = true → s.blk.boot.recovery = true →
    ∃ t, exec .bootEnd s = .next t ∧
      t.blk = powerDownIfDue (enterPark { s.blk with boot := { s.blk.boot with active := false } } 0x07)) ∧
  (∀ (s : State), s.blk.boot.active = true → s.blk.boot.recovery = false → s.blk.get .SYS_BOOT_STAGE 0 = 9 →
    s.blk.fcs.cal.isSome = true → s.blk.pwr.pwdis = false → s.blk.pwr.pwdisDown = false → s.blk.get .THM_STAGE_STAGE 0 < 3 →
    ∃ t, exec .bootEnd s = .next t ∧
      t.blk = enterSpinup ((readMarks ((bootStage { s.blk with boot := { s.blk.boot with active := false } } 0xA).putSat .SYS_BOOT_TIME 0
        (bootMs s.blk))).put .NS_STATE_REPLAY 0 1) 0x0B) ∧
  (∀ (s : State) (ms : Nat), s.blk.boot.enginesUp = true → s.blk.boot.recovery = false → s.blk.boot.journalUp = false →
    s.blk.boot.active = false → s.blk.mode ≠ .spinup →
    ∃ t, exec (.journalReplayDone ms none) s = .next t ∧ t.blk.boot.journalUp = true ∧ t.blk.get .NS_STATE_REPLAY 0 = 0 ∧
      t.blk.get .NS_JRNL_REPLAY 0 = min ms (Field.max .NS_JRNL_REPLAY) ∧ t.mem = s.mem)

/-! ### Power loss, HOLDUP, PWDIS and the supplies -/

/-- V12_STABLE, AUX_SUPPLY_CHANGE, DEVICE_TIME_SAVE, APST_IDLE_EXPIRY, PENDING_ROW_COMPLETE (R108, R116, R124, R128, R137, R717):
each answers the next state of its rule. -/
def Obligations.SuppliesComplete : Prop :=
  (∀ (s : State), (s.blk.pwr.afterHoldup = false ∨ s.blk.pwr.pwdis = true ∨ s.blk.pwr.powered = true) →
    exec .v12Stable s = .next { s with blk := { s.blk with pwr := { s.blk.pwr with v12 := true, v12Held := true } } }) ∧
  (∀ (s : State), s.blk.pwr.afterHoldup = true → s.blk.pwr.pwdis = false → s.blk.pwr.powered = false →
    ∃ t, exec .v12Stable s = .next t ∧ t.blk.mode = .boot ∧ t.blk.pwr.powered = true ∧ t.blk.pwr.afterHoldup = false ∧ t.mem = s.mem) ∧
  (∀ (s : State) (valid : Bool), (valid = true ∨ s.blk.pwr.v12 = true ∨ s.blk.pwr.powered = true) →
    exec (.auxSupplyChange valid) s = .next { s with blk := { s.blk with pwr := { s.blk.pwr with aux := valid } } }) ∧
  (∀ (s : State), s.blk.pwr.v12 = false → s.blk.pwr.powered = false →
    ∃ t, exec (.auxSupplyChange false) s = .next t ∧ t.blk.pwr.aux = false ∧ t.blk.pwr.retention = ⟨none, none⟩ ∧
      t.blk.sys.devTime = s.blk.pwr.savedTime ∧ t.blk.sys.hostTs = none) ∧
  (∀ (s : State), exec .deviceTimeSave s =
    .next { s with blk := { s.blk with pwr := { s.blk.pwr with savedTime := s.blk.sys.devTime } } }) ∧
  (∀ (s : State) (p : Port) (ps : Nat), apstTarget s.blk p = some ps →
    exec (.apstIdleExpiry p) s = .next { s with blk := powerEval (setRequest s.blk p ps) 0x02 }) ∧
  (∀ (s : State) (o : RowOwner) (row : Nat) (lost : List Nat), s.blk.mode = .run →
    s.blk.pwr.pending.any (fun r => r.owner = o ∧ r.row = row) = true →
    ∃ t, exec (.pendingRowComplete o row lost) s = .next t ∧
      t.blk.get .PWR_PENDING_ROWS 0 =
        (s.blk.pwr.pending.filter (fun r => !(decide (r.owner = o ∧ r.row = row)))).length % 2 ^ Field.width .PWR_PENDING_ROWS ∧
      t.mem = s.mem)

/-- HOLDUP_ENTRY, PENDING_LIST_PROGRAMMED, HOLDUP_FLUSH_END, HOLDUP_SHORTFALL, HOLDUP_END, SHORT_BRAKE_END (R110, R113, R114, R116,
R117, R120, R123, R128, R137, R139): a powered module enters HOLDUP from every other mode, whatever else its state holds; the
list of pending rows, the flush and the end follow in that order. A flush that skips nothing has put every dirty block into the
NAND. A HOLDUP with 12 V back returns to SPINUP; one without, and one whose energy falls short, brakes the spindle, and the
supplies go off when the brake ends. -/
def Obligations.HoldupCompletes : Prop :=
  (∀ (s : State), s.blk.pwr.powered = true → s.blk.mode ≠ .holdup →
    ∃ t, exec .holdupEntry s = .next t ∧ t.blk.mode = .holdup ∧ t.blk.get .PWR_MODE_CAUSE 0 = 5 ∧ t.blk.pwr.v12 = false ∧
      t.blk.pwr.holdup = some ⟨s.blk.mode, s.blk.now, false, 0, 0, 0, false, false⟩ ∧ t.blk.pwr.provisional = [] ∧
      t.blk.fcs.op = none ∧ t.blk.fcs.activation = none ∧ t.pending = s.pending) ∧
  (∀ (s : State), s.blk.pwr.powered = false → s.blk.pwr.aux = true →
    exec .holdupEntry s = .next { s with blk := { s.blk with pwr := { s.blk.pwr with v12 := false, v12Held := false } } }) ∧
  (∀ (s : State) (h : Holdup), s.blk.pwr.holdup = some h →
    ∃ t, exec .pendingListProgrammed s = .next t ∧ t.blk.pwr.holdup = some { h with listed := true, listedAt := s.blk.now } ∧
      t.blk.get .PWR_PENDING_ROWS 0 = s.blk.pwr.pending.length % 2 ^ Field.width .PWR_PENDING_ROWS ∧
      t.blk.pwr.pending = s.blk.pwr.pending ∧ t.mem = s.mem ∧ t.pending = s.pending) ∧
  (∀ (s : State) (h : Holdup) (energy : Nat), s.blk.pwr.holdup = some h → h.listed = true → h.flushDone = false → h.short = false →
    ∃ t, exec (.holdupFlushEnd energy []) s = .next t ∧
      t.blk.pwr.holdup = some { h with flushed := ceilDiv (dirtyCount s.blk) 256, energy := energy, flushDone := true } ∧
      t.blk.pwr.retention.devTime = some s.blk.now ∧
      (s.blk.sep.up = true → t.blk.pwr.savedTime = s.blk.now ∧ t.blk.get .SEP_STATE_LAST 0 = 2) ∧
      (s.blk.sep.up = false → t.blk.pwr.savedTime = s.blk.pwr.savedTime) ∧ t.mem = s.mem) ∧
  (∀ (s : State) (h : Holdup) (energy : Nat) (poisoned : List Nat), s.blk.pwr.holdup = some h → h.listed = true →
    h.flushDone = false → h.short = false →
    ∃ t h', exec (.holdupFlushEnd energy poisoned) s = .next t ∧ t.blk.pwr.holdup = some h' ∧ h'.flushDone = true ∧
      h'.energy = energy ∧ h'.mode = h.mode ∧ h'.start = h.start ∧ t.blk.pwr.retention.devTime = some s.blk.now ∧ t.mem = s.mem) ∧
  (∀ (s : State) (h : Holdup) (n energy : Nat), s.blk.pwr.holdup = some h → h.flushDone = false → h.short = false →
    ∃ t, exec (.holdupShortfall n energy) s = .next t ∧ t.blk.pwr.holdup = none ∧ t.blk.pwr.braking = true ∧
      t.blk.pwr.afterHoldup = true ∧ t.blk.get .SPN_STATE_STATE 0 = SpnMode.short.code ∧ t.blk.get .PWR_HOLDUP_SHORT 0 = 1 ∧
      t.blk.get .PWR_HOLDUP_WARM 0 = 0 ∧ t.mem = s.mem ∧
      t.blk.pwr.shortLost = s.blk.xl.dirty.drop (if h.listed then min n s.blk.xl.dirty.length else 0)) ∧
  (∀ (s : State) (h : Holdup) (energy : Nat), s.blk.pwr.holdup = some h → h.flushDone = true →
    (s.blk.pwr.v12Held = false ∨ s.blk.pwr.pwdis = true) →
    ∃ t, exec (.holdupEnd energy) s = .next t ∧ t.blk.pwr.holdup = none ∧ t.blk.pwr.braking = true ∧
      t.blk.pwr.afterHoldup = true ∧ t.blk.get .SPN_STATE_STATE 0 = SpnMode.short.code ∧ t.blk.get .PWR_HOLDUP_SHORT 0 = 0 ∧
      t.blk.get .PWR_HOLDUP_WARM 0 = 0 ∧ t.mem = s.mem) ∧
  (∀ (s : State) (h : Holdup) (energy : Nat), s.blk.pwr.holdup = some h → h.flushDone = true → s.blk.pwr.v12Held = true →
    s.blk.pwr.pwdis = false →
    ∃ t, exec (.holdupEnd energy) s = .next t ∧ t.blk.mode = .spinup ∧ t.blk.pwr.holdup = none ∧
      t.blk.pwr.powered = s.blk.pwr.powered ∧ t.blk.get .PWR_HOLDUP_WARM 0 = 1) ∧
  (∀ (s : State), s.blk.pwr.braking = true →
    (s.blk.pwr.afterHoldup = false ∨ s.blk.pwr.v12Held = false ∨ s.blk.pwr.pwdis = true) →
    ∃ t, exec .shortBrakeEnd s = .next t ∧ t.blk.pwr.braking = false ∧ t.blk.pwr.powered = false ∧ t.mem = []) ∧
  (∀ (s : State), s.blk.pwr.braking = true → s.blk.pwr.afterHoldup = true → s.blk.pwr.v12Held = true → s.blk.pwr.v12 = true →
    s.blk.pwr.pwdis = false →
    ∃ t, exec .shortBrakeEnd s = .next t ∧ t.blk.pwr.braking = false ∧ t.blk.pwr.powered = true ∧ t.blk.mode = .boot ∧ t.mem = [])

/-- PWDIS_ASSERT, PWDIS_DEASSERT, SPINDLE_BELOW_60RPM (R100, R126, R127): an assertion in a powered module begins a power-down, from
PARK at once, and outside of one changes the pin's state alone: in HOLDUP, before BOOT has started, without power, and while a
power-down is in progress; a deassertion lets a power-down in progress complete, and after one with 12 V starts BOOT; the
spindle at rest ends the way to PARK, where the supplies of a power-down go off. -/
def Obligations.PowerDownCompletes : Prop :=
  (∀ (s : State), s.blk.pwr.powered = true → s.blk.mode = .park → s.blk.pwr.pwdisDown = false →
    ∃ t, exec .pwdisAssert s = .next t ∧ t.blk.pwr.pwdis = true ∧ t.blk.pwr.powered = false ∧ t.mem = []) ∧
  (∀ (s : State), s.blk.pwr.powered = true → s.blk.mode = .boot → s.blk.boot.active = true → s.blk.pwr.pwdisDown = false →
    ∃ t, exec .pwdisAssert s = .next t ∧ t.blk.pwr.pwdis = true ∧ t.blk.pwr.pwdisDown = true ∧ t.blk.pwr.powered = true ∧
      t.blk.mode = .boot ∧ t.blk.pwr.savedTime = s.blk.now ∧
      t.blk.get .PX_LINK_STATE 0 = (if (vget s.blk.px 0).present then 0 else 0xB) ∧
      t.blk.get .PX_LINK_STATE 1 = (if (vget s.blk.px 1).present then 0 else 0xB)) ∧
  (∀ (s : State), s.blk.pwr.powered = true → s.blk.mode ∈ [Mode.spinup, Mode.run, Mode.idle] → s.blk.pwr.pwdisDown = false →
    ∃ t, exec .pwdisAssert s = .next t ∧ t.blk.pwr.pwdis = true ∧ t.blk.pwr.pwdisDown = true ∧
      t.blk.get .PWR_MODE_TARGET 0 = Mode.park.code ∧ t.blk.get .PWR_MODE_CAUSE 0 = 4) ∧
  (∀ (s : State), (s.blk.pwr.powered = false ∨ s.blk.mode = .holdup ∨ s.blk.pwr.pwdisDown = true ∨
      (s.blk.mode = .boot ∧ s.blk.boot.active = false)) →
    exec .pwdisAssert s = .next { s with blk := { s.blk with pwr := { s.blk.pwr with pwdis := true } } }) ∧
  (∀ (s : State), (s.blk.pwr.powered = true ∨ s.blk.pwr.braking = true ∨ s.blk.pwr.v12 = false ∨
      (s.blk.pwr.afterHoldup = true ∧ s.blk.pwr.v12Held = false)) →
    exec .pwdisDeassert s = .next { s with blk := { s.blk with pwr := { s.blk.pwr with pwdis := false } } }) ∧
  (∀ (s : State), s.blk.pwr.powered = false → s.blk.pwr.braking = false → s.blk.pwr.v12 = true →
    (s.blk.pwr.afterHoldup = false ∨ s.blk.pwr.v12Held = true) →
    ∃ t, exec .pwdisDeassert s = .next t ∧ t.blk.pwr.pwdis = false ∧ t.blk.mode = .boot ∧ t.blk.pwr.powered = true ∧
      t.mem = s.mem) ∧
  (∀ (s : State), s.blk.pwr.powered = true → s.blk.get .PWR_MODE_TARGET 0 = Mode.park.code →
    s.blk.mode ∈ [Mode.spinup, Mode.run, Mode.idle] → s.blk.pwr.pwdis = false → s.blk.pwr.pwdisDown = false →
    ∃ t, exec .spindleBelow60rpm s = .next t ∧ t.blk.mode = .park ∧ t.blk.get .SPN_STATE_STATE 0 = SpnMode.stopped.code ∧
      t.blk.pwr.powered = true) ∧
  (∀ (s : State), s.blk.pwr.powered = true → s.blk.get .PWR_MODE_TARGET 0 = Mode.park.code →
    s.blk.mode ∈ [Mode.spinup, Mode.run, Mode.idle] → s.blk.pwr.pwdis = true →
    ∃ t, exec .spindleBelow60rpm s = .next t ∧ t.blk.pwr.powered = false ∧ t.mem = [])

/-! ### Resets, controller enable and shutdown -/

/-- PERST_ASSERT, PERST_DEASSERT, HOT_RESET, LINK_DISABLE, INITIATE_FLR, FLR_COMPLETE (R134, R501, R515): outside an activation the
port's reset is carried out; during one the link goes down and the rest waits. -/
def Obligations.PortResetsComplete : Prop :=
  (∀ (s : State) (p : Port), s.blk.fcs.activation = none → s.blk.fcs.armed = none →
    ∃ t, exec (.perstAssert p) s = .next t ∧
      t.blk = portPart (linkDown (s.blk.onPx p (fun x => { x with perst := true })) p) p .P ∧
      t.mem = memAfter s.mem s.blk t.blk) ∧
  (∀ (s : State) (p : Port), s.blk.fcs.activation.isSome = true →
    ∃ t, exec (.perstAssert p) s = .next t ∧ t.blk.fcs.deferred = s.blk.fcs.deferred ++ [.perst p] ∧
      t.blk.get .PX_LINK_STATE p.val = (if (vget s.blk.px p).present then 0 else 0xB) ∧ t.mem = s.mem) ∧
  (∀ (s : State) (p : Port), exec (.perstDeassert p) s = .next { s with
    blk := s.blk.onPx p (fun x => { x with perst := false, wake := false, fetchStopped := false, disabled := false }) }) ∧
  (∀ (s : State) (p : Port), onBus s.blk p = true →
    ∃ t, exec (.hotReset p) s = .next t ∧ t.blk.get .PX_LINK_STATE p.val = 0xA) ∧
  (∀ (s : State) (p : Port), onBus s.blk p = true →
    ∃ t, exec (.linkDisable p) s = .next t ∧ t.blk.get .PX_LINK_STATE p.val = 9 ∧ (vget t.blk.px p).disabled = true) ∧
  (∀ (s : State) (p : Port), onBus s.blk p = true → s.blk.boot.enginesUp = true → (vget s.blk.px p).flr = false →
    ∃ t, exec (.initiateFlr p) s = .next t ∧
      t.blk = resetOrDefer ((bmeClear p s.blk).onPx p (fun x => { x with flr := true })) (.flr p)
        (fun b => functionReset b p)) ∧
  (∀ (s : State) (p : Port), DeferredReset.flr p ∉ s.blk.fcs.deferred →
    exec (.flrComplete p) s = .next { s with blk := s.blk.onPx p (fun x => { x with flr := false }) })

/-- CC_EN_SET, CC_EN_CLEAR, CC_SHUTDOWN, SHUTDOWN_DEADLINE, NVM_SUBSYSTEM_RESET (R133, R519, R547, R548): outside D3hot each answers
the next state of its rule; in D3hot a write is refused. NVM_SUBSYSTEM_RESET (R547): NSSR written with any other value than the
key does nothing but wake the link. -/
def Obligations.ControllerCompletes : Prop :=
  (∀ (s : State) (p : Port) (ams : Fin 8) (asq acq : Nat), s.blk.get .PX_LINK_DSTATE p.val ≠ 3 → (vget s.blk.px p).present = true →
    s.blk.boot.enginesUp = true → s.blk.get .NV_CTL_EN p.val = 0 → queueSizeOk asq = true → queueSizeOk acq = true →
    ∃ t b, exec (.ccEnSet p ams asq acq) s = .next t ∧ t.blk = powerEval b 0x01 ∧ b.get .NV_CTL_EN p.val = 1 ∧
      b.get .NV_CTL_RDY p.val = 1 ∧ b.get .NV_CTL_SHST p.val = 0 ∧
      (vget b.nv p).sqs.map (fun q => (q.qid, q.size)) = [(0, asq)] ∧
      (vget b.nv p).cqs.map (fun q => (q.qid, q.size)) = [(0, acq)]) ∧
  (∀ (s : State) (p : Port), s.blk.get .PX_LINK_DSTATE p.val ≠ 3 → s.blk.get .NV_CTL_EN p.val = 1 → s.blk.fcs.activation = none →
    s.blk.fcs.armed = none →
    exec (.ccEnClear p) s = .next { s with
      mem := memAfter s.mem s.blk (controllerReset (touchLink s.blk p) p), blk := controllerReset (touchLink s.blk p) p }) ∧
  (∀ (s : State) (p : Port), s.blk.get .PX_LINK_DSTATE p.val ≠ 3 → s.blk.get .NV_CTL_EN p.val = 1 →
    s.blk.fcs.activation.isSome = true →
    exec (.ccEnClear p) s = .next { s with blk := deferReset (touchLink s.blk p) (.ctrl p) }) ∧
  (∀ (s : State) (p : Port) (abrupt : Bool), s.blk.get .PX_LINK_DSTATE p.val ≠ 3 → s.blk.get .NV_CTL_EN p.val = 1 →
    s.blk.get .NV_CTL_SHST p.val = 0 → ctrlBusy s.blk p = true →
    ∃ t, exec (.ccShutdown p abrupt) s = .next t ∧ t.blk.get .NV_CTL_SHST p.val = 1 ∧
      (vget t.blk.nv p).shutAt = some (s.blk.now, abrupt) ∧ vget t.blk.hea.notified p = true ∧ t.mem = s.mem) ∧
  (∀ (s : State) (p : Port) (abrupt : Bool), s.blk.get .PX_LINK_DSTATE p.val ≠ 3 → s.blk.get .NV_CTL_EN p.val = 1 →
    s.blk.get .NV_CTL_SHST p.val = 0 → ctrlBusy s.blk p = false →
    ∃ t, exec (.ccShutdown p abrupt) s = .next t ∧ t.blk.get .NV_CTL_SHST p.val = 2 ∧ (vget t.blk.nv p).shutAt = none ∧
      t.mem = s.mem) ∧
  (∀ (s : State) (p : Port) (at_ : Nat) (abrupt : Bool), (vget s.blk.nv p).shutAt = some (at_, abrupt) →
    (ctrlBusy s.blk p = false ∨ at_ + 1000000 ≤ s.blk.now) →
    ∃ t, exec (.shutdownDeadline p) s = .next t ∧ t.blk.get .NV_CTL_SHST p.val = 2 ∧ t.mem = s.mem) ∧
  (∀ (s : State) (p : Port), s.blk.get .PX_LINK_DSTATE p.val ≠ 3 → (vget s.blk.px p).present = true → s.blk.boot.enginesUp = true →
    s.blk.fcs.activation = none → s.blk.fcs.armed = none →
    exec (.nvmSubsystemReset p 0x4E564D65) s = .next { s with
      mem := memAfter s.mem s.blk (subsystemReset (touchLink s.blk p)), blk := subsystemReset (touchLink s.blk p) }) ∧
  (∀ (s : State) (p : Port) (ams : Fin 8) (asq acq : Nat) (abrupt : Bool) (key : Word), s.blk.get .PX_LINK_DSTATE p.val = 3 →
    ∃ t, exec (.ccEnSet p ams asq acq) s = .next t ∧ exec (.ccShutdown p abrupt) s = .next t ∧ exec (.ccEnClear p) s = .next t ∧
      exec (.nvmSubsystemReset p key) s = .next t ∧
      t.blk = refuseWindow (touchLink s.blk p) p (Config.tlpHeader p.val s.blk.now) ∧ t.mem = s.mem) ∧
  (∀ (s : State) (p : Port) (key : Word), s.blk.get .PX_LINK_DSTATE p.val ≠ 3 → key ≠ 0x4E564D65 →
    exec (.nvmSubsystemReset p key) s = .next { s with blk := touchLink s.blk p })

/-! ### The spindle -/

/-- SPINUP_INDUCED_VOLTAGE_MEASURED, SHORT_BRAKE_STANDSTILL, LOCATE_DONE, SIXSTEP_ZERO_CROSSING, ZERO_CROSSING_LOST, CATCH_MEASURED
(R155, R160 to R162, R165, R173): the start sequence, each command in the state of SPE in which it comes. SPINDLE_CONTROL_STEP,
SPINUP_ATTEMPT_TIMEOUT, SPINUP_RETRY_WAIT_END, SPEED_ERROR_UNLOAD, SPINDLE_OVERCURRENT (R152, R163, R166, R167, R182, R721): the
control step and the ways in which a spin-up or the speed fails. -/
def Obligations.SpindleCompletes : Prop :=
  (∀ (s : State) (speed : Nat) (crossing : Bool), s.blk.mode = .spinup → s.blk.spnMode = .float → s.blk.spn.goal = .run →
    s.blk.cfgN .SPD_CATCH_MIN * setSpeed s.blk ≤ 100 * speed →
    ∃ t, exec (.spinupInducedVoltageMeasured speed crossing) s = .next t ∧ t.blk.spnMode = .catching ∧ t.mem = s.mem) ∧
  (∀ (s : State) (speed : Nat), s.blk.mode = .spinup → s.blk.spnMode = .float → s.blk.spn.goal = .run →
    100 * speed < s.blk.cfgN .SPD_CATCH_MIN * setSpeed s.blk →
    (∃ t, exec (.spinupInducedVoltageMeasured speed true) s = .next t ∧ t.blk.spnMode = .short ∧ t.blk.spn.goal = .restart) ∧
    (∃ t, exec (.spinupInducedVoltageMeasured speed false) s = .next t ∧ t.blk.spnMode = .locate ∧ t.blk.spn.inAttempt = true)) ∧
  (∀ (s : State), s.blk.spnMode = .short → s.blk.spn.goal = .restart →
    ∃ t, exec .shortBrakeStandstill s = .next t ∧ t.blk.spnMode = .locate ∧ t.blk.get .SPN_STATE_SPEED 0 = 0) ∧
  (∀ (s : State), s.blk.spnMode = .short → s.blk.spn.goal = .retry →
    ∃ t, exec .shortBrakeStandstill s = .next t ∧ t.blk.spnMode = .stopped ∧ t.blk.get .SPN_STATE_SPEED 0 = 0) ∧
  (∀ (s : State) (rises : List Nat), s.blk.spnMode = .locate →
    ∃ t, exec (.locateDone rises) s = .next t ∧ t.blk.spnMode = .forced ∧ t.blk.spn.angleKnown = true ∧
      t.blk.spn.commSector = largestPulse rises ∧ regsKept [.SPN_STATE_STATE] s.blk t.blk ∧ t.mem = s.mem) ∧
  (∀ (s : State) (ns floatMv busMv v : Nat), s.blk.spnMode = .forced → s.blk.spn.zcRun = 5 → crossed s.blk floatMv busMv = true →
    v = sectorSpeed s.blk ns → 4000000 ≤ s.blk.cfgN .SPD_KE * v →
    within2 v (s.blk.spn.forcedRate * 240 / 3141592653589793) = true →
    ∃ t, exec (.sixstepZeroCrossing ns floatMv busMv) s = .next t ∧ t.blk.spnMode = .sixstep ∧ t.blk.spn.zcSeen = true ∧
      t.mem = s.mem) ∧
  (∀ (s : State) (ns floatMv busMv : Nat), s.blk.spnMode = .sixstep → crossed s.blk floatMv busMv = true →
    s.blk.cfgN .SPD_FALLBACK ≠ 1 → s.blk.spn.zeroSteps = 0 → s.blk.spn.lost = false →
    s.blk.cfgN .SPD_HANDOVER * setSpeed s.blk ≤ 100 * sectorSpeed s.blk ns →
    ∃ t, exec (.sixstepZeroCrossing ns floatMv busMv) s = .next t ∧ t.blk.spnMode = .dtc ∧ t.blk.spn.angleKnown = true ∧
      t.mem = s.mem) ∧
  (∀ (s : State) (ns floatMv busMv : Nat), crossed s.blk floatMv busMv = false →
    exec (.sixstepZeroCrossing ns floatMv busMv) s = .next s) ∧
  (∀ (s : State), s.blk.spnMode = .sixstep → s.blk.spn.zcLoss + 1 < s.blk.cfgN .SPD_ZC_LOSS →
    exec .zeroCrossingLost s = .next { s with blk := { s.blk with spn := { s.blk.spn with
      zcLoss := s.blk.spn.zcLoss + 1, zcRun := 0 } } }) ∧
  (∀ (s : State), s.blk.spnMode = .sixstep → s.blk.cfgN .SPD_ZC_LOSS ≤ s.blk.spn.zcLoss + 1 →
    ∃ t, exec .zeroCrossingLost s = .next t ∧ t.blk.spnMode = .catching ∧ t.blk.spn.angleKnown = false) ∧
  (∀ (s : State) (intervals : List Nat), s.blk.spnMode = .catching → s.blk.spn.zeroSteps = 0 → s.blk.mode ≠ .holdup →
    catchConsistent s.blk intervals = true → s.blk.cfgN .SPD_CATCH_MIN * setSpeed s.blk ≤ 100 * catchSpeed s.blk intervals →
    ∃ t, exec (.catchMeasured intervals) s = .next t ∧ t.blk.spn.zeroSteps = 10 ∧ t.blk.spn.torqueRef = 0 ∧
      t.blk.spn.angleKnown = true ∧ t.mem = s.mem) ∧
  (∀ (s : State) (intervals : List Nat), s.blk.spnMode = .catching → s.blk.spn.zeroSteps = 0 → s.blk.mode = .holdup →
    catchConsistent s.blk intervals = true →
    ∃ t, exec (.catchMeasured intervals) s = .next t ∧ t.blk.spnMode = .generator ∧ t.blk.spn.angleKnown = true ∧ t.mem = s.mem) ∧
  (∀ (s : State) (x : SpnSample), ∃ t, exec (.spindleControlStep x) s = .next t ∧ t.mem = s.mem ∧ t.pending = s.pending ∧
    t.blk = spindleStep x s.blk) ∧
  (∀ (s : State) (cause : Nat), attemptFailure s.blk = some cause → s.blk.spn.fails < 2 →
    ∃ t, exec .spinupAttemptTimeout s = .next t ∧ t.blk.spnMode = .short ∧ t.blk.spn.goal = .retry ∧
      t.blk.spn.fails = s.blk.spn.fails + 1 ∧ t.blk.spn.inAttempt = false ∧ t.blk.get .SPN_SPINUP_CAUSE 0 = cause ∧ t.mem = s.mem) ∧
  (∀ (s : State) (cause : Nat), attemptFailure s.blk = some cause → 2 ≤ s.blk.spn.fails →
    ∃ t, exec .spinupAttemptTimeout s = .next t ∧ t.blk.spnMode = .short ∧ t.blk.spn.goal = .giveUp ∧
      t.blk.spn.inAttempt = false ∧ t.blk.get .SPN_SPINUP_CAUSE 0 = cause ∧ t.mem = s.mem) ∧
  (∀ (s : State), s.blk.spnMode = .short → s.blk.spn.goal = .giveUp →
    ∃ t b, exec .shortBrakeStandstill s = .next t ∧ t.blk = spinupFailure b ∧ b.spnMode = .stopped ∧
      b.get .SPN_STATE_SPEED 0 = 0 ∧ b.pwr = s.blk.pwr) ∧
  (∀ (s : State), s.blk.spn.goal = .retry → s.blk.spnMode = .stopped → s.blk.spn.inAttempt = false →
    ∃ t, exec .spinupRetryWaitEnd s = .next t ∧ t.blk.spnMode = .locate ∧ t.blk.spn.attemptAt = s.blk.now ∧ t.mem = s.mem) ∧
  (∀ (s : State) (a : Act), 3200 ≤ s.blk.spn.errSteps → loaded s.blk a = true → (vget s.blk.srv a).retract = .idle →
    s.blk.srvMode a ≠ .unloading →
    ∃ t, exec .speedErrorUnload s = .next t ∧ t.blk.spn.errSteps = 0 ∧ (vget t.blk.srv a).speedReload = true ∧
      t.blk.get .SPN_FAULT_UNLOAD 0 = min (s.blk.get .SPN_FAULT_UNLOAD 0 + 1) (Field.max .SPN_FAULT_UNLOAD) ∧ t.mem = s.mem) ∧
  (∀ (s : State), (s.blk.spn.trips.filter (fun t => s.blk.now ≤ t + 10000000)).length < 2 →
    ∃ t, exec .spindleOvercurrent s = .next t ∧ t.blk.spnMode = .catching ∧ t.blk.spn.angleKnown = false ∧ t.mem = s.mem) ∧
  (∀ (s : State), 2 ≤ (s.blk.spn.trips.filter (fun t => s.blk.now ≤ t + 10000000)).length →
    ∃ t, exec .spindleOvercurrent s = .next t ∧ t.blk.spnMode = .float ∧ t.blk.get .SPN_SPINUP_CAUSE 0 = 4 ∧
      (s.blk.mode ∈ [Mode.spinup, Mode.run, Mode.idle] → t.blk.pwr.spinupFailed = true ∧
        t.blk.get .PWR_MODE_TARGET 0 = Mode.park.code ∧ t.blk.get .PWR_MODE_CAUSE 0 = 9))

/-- CLAMP_COMPARATOR, CLAMP_FAULT_TIMEOUT, CLAMP_TEST, BUS_OVERVOLTAGE, BUS_OVERVOLTAGE_CLEARED (R168 to R172, R181): the clamp and
the bus. -/
def Obligations.BrakesComplete : Prop :=
  (∀ (s : State) (mv : Nat), 13600 < mv → ∃ t, exec (.clampComparator true mv) s = .next t ∧ t.blk.spn.clampClosed = true ∧
    t.blk.get .SPN_BUS_NOW 0 = min mv 0xFFFF) ∧
  (∀ (s : State) (mv : Nat), mv < 13200 → ∃ t, exec (.clampComparator false mv) s = .next t ∧
    t.blk.spn.clampClosed = false ∧ t.blk.get .SPN_BUS_NOW 0 = mv) ∧
  (∀ (s : State) (mv : Nat), s.blk.spn.clampClosed = true → s.blk.spnMode = .regen →
    ∃ t, exec (.clampFaultTimeout true mv) s = .next t ∧ t.blk.get .SPN_BRAKE_CLAMPBAD 0 = 1 ∧ t.blk.spnMode = .short ∧
      t.blk.get .SPN_BRAKE_LAST 0 = 2) ∧
  (∀ (s : State) (ma mv : Nat), (s.blk.spn.clampDue = true ∨ s.blk.get .SPN_BRAKE_TEST 0 = 1) →
    ∃ t, exec (.clampTest ma mv) s = .next t ∧
    t.blk.get .SPN_BRAKE_CLAMPBAD 0 = (if 10 * mv ≤ 47 * ma + 2 * mv ∧ 47 * ma ≤ 12 * mv then 0 else 1) ∧
    t.blk.get .SPN_BRAKE_TEST 0 = 0 ∧ t.blk.spn.clampUs = 0 ∧ t.blk.spn.clampDue = false ∧ t.mem = s.mem) ∧
  (∀ (s : State) (mv : Nat), 15000 < mv → s.blk.spnMode ≠ .coast →
    ∃ t, exec (.busOvervoltage mv) s = .next t ∧ t.blk.spnMode = .coast ∧ t.blk.get .SPN_BRAKE_LAST 0 = 3 ∧
      t.blk.spn.angleKnown = false ∧ t.blk.spn.ovBraking = decide (s.blk.spnMode ∈ [SpnMode.regen, SpnMode.short]) ∧ t.mem = s.mem) ∧
  (∀ (s : State) (mv : Nat), 15000 < mv → s.blk.spnMode = .coast →
    exec (.busOvervoltage mv) s = .next { s with blk := seeBus s.blk mv }) ∧
  (∀ (s : State) (mv : Nat), s.blk.spnMode = .coast → mv < 14000 → s.blk.spn.ovBraking = true →
    ∃ t, exec (.busOvervoltageCleared mv) s = .next t ∧ t.blk.spnMode = .short) ∧
  (∀ (s : State) (mv : Nat), s.blk.spnMode = .coast → mv < 14000 → s.blk.spn.ovBraking = false →
    s.blk.spn.goal ∉ [SpnGoal.rest, SpnGoal.retry] →
    ∃ t, exec (.busOvervoltageCleared mv) s = .next t ∧ t.blk.spnMode = .catching ∧ t.blk.spn.catchTries = 0)

/-! ### The servo engines -/

/-- SERVO_CONTROL_STEP, MID_WEDGE_TICK, SETTLE_REACHED, WRITE_UNSAFE_CLEAR, LOOP_FAULT_REACQUIRE_TIMEOUT,
MILLIACTUATOR_CURRENT_LIMIT (R191, R193, R207, R210, R214, R721): what SEa does at its events. -/
def Obligations.ServoStepsComplete : Prop :=
  (∀ (s : State) (a : Act) (x : ServoSample), ∃ t, exec (.servoControlStep a x) s = .next t ∧ t.blk = servoStep a x s.blk ∧
    t.mem = s.mem ∧ t.pending = s.pending) ∧
  (∀ (s : State) (a : Act) (x : ServoSample), s.blk.srvMode a ∈ [SrvMode.unloaded, SrvMode.failed, SrvMode.retract] →
    exec (.servoControlStep a x) s = .next { s with blk := { s.blk with sys := { s.blk.sys with
      missRuns := nerase s.blk.sys.missRuns a.val } } }) ∧
  (∀ (s : State) (a : Act), tracking s.blk a = true → (vget s.blk.srv a).maLimited = false →
    ∃ t, exec (.midWedgeTick a) s = .next t ∧ t.blk.srvMode a = s.blk.srvMode a ∧
      (vget t.blk.srv a).uVcm = (vget s.blk.srv a).uVcm ∧ regsKept [.SRV_CMD_MA] s.blk t.blk) ∧
  (∀ (s : State) (a : Act), s.blk.srvMode a ∈ [SrvMode.settle, SrvMode.follow] → s.blk.cfgN .SRV_SETTLE_N a.val ≤ (vget s.blk.srv
    a).settleRun → (vget s.blk.srv a).forWrite = true → ∃ t, exec (.settleReached a) s = .next t ∧ t.blk.srvMode a ∈
    [SrvMode.follow, SrvMode.inject] ∧ (vget t.blk.srv a).writeSettled = true ∧ t.mem = s.mem) ∧
  (∀ (s : State) (a : Act), s.blk.srvMode a ∈ [SrvMode.settle, SrvMode.follow] → s.blk.cfgN .SRV_RDSETTLE_N a.val ≤ (vget s.blk.srv
    a).readRun → (vget s.blk.srv a).forWrite = false → ∃ t, exec (.settleReached a) s = .next t ∧ t.blk.srvMode a ∈ [SrvMode.follow,
    SrvMode.inject] ∧ (vget t.blk.srv a).readSettled = true ∧ t.mem = s.mem) ∧
  (∀ (s : State) (a : Act), s.blk.cfgN .SRV_WU_CLEAR a.val ≤ (vget s.blk.srv a).goodRun → s.blk.get .SRV_WU_CAUSE a.val = 0 →
    exec (.writeUnsafeClear a) s = .next { s with
      blk := (s.blk.onSrv a (fun v => { v with implWu := false })).put .SRV_STATE_WU a.val 0 }) ∧
  (∀ (s : State) (a : Act), s.blk.srvMode a = .safe → (vget s.blk.srv a).reacquired = false →
    (vget s.blk.srv a).safeAt + 20000 ≤ s.blk.now → (vget s.blk.srv a).unloadWanted = false →
    (vget s.blk.srv a).reloads = some 0 →
    exec (.loopFaultReacquireTimeout a) s = .next { s with blk := failActuator s.blk a 1 }) ∧
  (∀ (s : State) (a : Act) (n : Nat), s.blk.srvMode a = .safe → (vget s.blk.srv a).reacquired = false →
    (vget s.blk.srv a).safeAt + 20000 ≤ s.blk.now → (vget s.blk.srv a).unloadWanted = false →
    ((vget s.blk.srv a).reloads).getD 3 = n + 1 →
    ∃ t, exec (.loopFaultReacquireTimeout a) s = .next t ∧ (vget t.blk.srv a).reloads = some n ∧
      (vget t.blk.srv a).loadDue = true ∧ (vget t.blk.srv a).climbing = true ∧
      t.blk.get .SRV_FAULT_RELOAD a.val = min (s.blk.get .SRV_FAULT_RELOAD a.val + 1) (Field.max .SRV_FAULT_RELOAD) ∧ t.mem = s.mem) ∧
  (∀ (s : State) (a : Act), ∃ t, exec (.milliactuatorCurrentLimit a) s = .next t ∧ t.blk.get .SRV_CMD_MA a.val = 0 ∧
    t.blk.get .SRV_STATE_WU a.val ≠ 0)

/-- LOAD_START, LOAD_WEDGE_LIMIT, LOAD_RETRY_TIMER, UNLOAD_REQUEST, UNLOAD_COMPLETE, RETRACT_PARKED, RETRACT_LATCH_DONE,
INTERNAL_BUS_LOSS (R210 to R212, R216 to R220): a populated actuator on its ramp loads while the spindle is locked; a load that
sees no mark ends on the ramp and is retried, and the third failure is the last; an unload and a retract run to the ramp; loss
of the internal bus retracts every loaded actuator. Each leaves memory as it is. -/
def Obligations.LoadsComplete : Prop :=
  (∀ (s : State) (a : Act), s.blk.populated a = true → (vget s.blk.srv a).retract = .idle → s.blk.get .SPN_STATE_LOCK 0 = 1 →
    s.blk.srvMode a = .unloaded →
    ∃ t, exec (.loadStart a) s = .next t ∧ t.blk = startLoad s.blk a ∧ t.blk.srvMode a = .loading ∧
      t.blk.get .SRV_STATE_WU a.val ≠ 0 ∧ (vget t.blk.srv a).loadWedges = 0 ∧ t.mem = s.mem) ∧
  (∀ (s : State) (a : Act), s.blk.populated a = true → (vget s.blk.srv a).retract = .idle → s.blk.get .SPN_STATE_LOCK 0 = 1 →
    s.blk.srvMode a = .failed → recalRuns s.blk a = true →
    ∃ t, exec (.loadStart a) s = .next t ∧ t.blk.srvMode a = .loading ∧ t.mem = s.mem) ∧
  (∀ (s : State) (a : Act), s.blk.srvMode a = .loading → 64 ≤ (vget s.blk.srv a).loadWedges → (vget s.blk.srv a).markSeen = false →
    (vget s.blk.srv a).reloads ≠ some 0 → (vget s.blk.srv a).loadFails < 2 →
    ∃ t, exec (.loadWedgeLimit a) s = .next t ∧ t.blk.srvMode a = .unloaded ∧ t.blk.get .SRV_STATE_LOCK a.val = 0 ∧
      (vget t.blk.srv a).loadFails = (vget s.blk.srv a).loadFails + 1 ∧ (vget t.blk.srv a).loadDue = true ∧ t.mem = s.mem) ∧
  (∀ (s : State) (a : Act), s.blk.srvMode a = .loading → 64 ≤ (vget s.blk.srv a).loadWedges → (vget s.blk.srv a).markSeen = false →
    (vget s.blk.srv a).reloads ≠ some 0 → 2 ≤ (vget s.blk.srv a).loadFails →
    ∃ t b, exec (.loadWedgeLimit a) s = .next t ∧ t.blk = failActuator b a 3 ∧ b.srvMode a = .unloaded ∧
      b.get .SRV_STATE_LOCK a.val = 0 ∧ t.mem = s.mem) ∧
  (∀ (s : State) (a : Act), s.blk.srvMode a = .unloaded → (vget s.blk.srv a).loadDue = true →
    0 < (vget s.blk.srv a).loadFails → (vget s.blk.srv a).reloads = none →
    exec (.loadRetryTimer a) s = .next { s with blk := startLoad s.blk a }) ∧
  (∀ (s : State) (a : Act) (n : Nat), s.blk.srvMode a = .unloaded → (vget s.blk.srv a).loadDue = true →
    0 < (vget s.blk.srv a).loadFails → (vget s.blk.srv a).reloads = some (n + 1) →
    ∃ t, exec (.loadRetryTimer a) s = .next t ∧ t.blk.srvMode a = .loading ∧ (vget t.blk.srv a).reloads = some n ∧ t.mem = s.mem) ∧
  (∀ (s : State) (a : Act), loaded s.blk a = true → exec (.unloadRequest a) s = .next { s with blk := requestUnload s.blk a }) ∧
  (∀ (s : State) (a : Act), loaded s.blk a = true → (vget s.blk.srv a).retract = .idle →
    ∃ t, exec (.unloadRequest a) s = .next t ∧ t.blk.srvMode a = .unloading ∧ t.mem = s.mem) ∧
  (∀ (s : State) (a : Act) (b : Block), s.blk.srvMode a = .unloading →
    b = brakeIfReady (onRamp (s.blk.put .SRV_STATE_LOCK a.val 0) a) →
    ∃ t, exec (.unloadComplete a) s = .next t ∧ t.mem = s.mem ∧ t.pending = s.pending ∧
      (t.blk = startLoad b a ∨ t.blk = modeProgress b)) ∧
  (∀ (s : State) (a : Act) (mv target limit : Nat), (vget s.blk.srv a).retract = .driving →
    (vget s.blk.srv a).coil = some (target, limit) → 5 * mv < target →
    ∃ t, exec (.retractParked a mv) s = .next t ∧ (vget t.blk.srv a).retract = .latching ∧ t.blk.regs = s.blk.regs ∧
      t.mem = s.mem) ∧
  (∀ (s : State) (a : Act), (vget s.blk.srv a).retract = .latching →
    ∃ t b, exec (.retractLatchDone a) s = .next t ∧ t.mem = s.mem ∧ (t.blk = startLoad b a ∨ t.blk = modeProgress b) ∧
      (vget b.srv a).retract = .idle ∧ (vget b.srv a).coil = none ∧ b.get .SRV_STATE_ISLAND_RET a.val = 0 ∧
      b.get .SRV_STATE_LOCK a.val = 0 ∧ b.srvMode a ∈ [SrvMode.unloaded, SrvMode.failed]) ∧
  (∀ (s : State), exec .internalBusLoss s = .next { s with
    blk := (List.finRange 4).foldl (fun b a => if loaded b a then startRetract b a else b) s.blk })

/-- ACTUATOR_DISPATCH, SRV_INJECTION_ENABLE, SRV_CAPTURE_START, SRV_CAPTURE_FULL (R222, R223, R234, R236, R554): a free actuator
takes the next request of its queue, and stays as it is with none to take; under factory unlock the injection and the capture of
SEa start and stop, and a host's write without it is discarded. -/
def Obligations.ServoAidsComplete : Prop :=
  (∀ (s : State) (a : Act) (r : MediaReq), s.blk.mode = .run → s.blk.srvMode a ∈ [SrvMode.follow, SrvMode.settle] →
    (vget s.blk.ts a).jobs = [] → (vget s.blk.ts a).cur = none → jobHolds s.blk a = false → swapHolds s.blk a = false →
    ladderHolds s.blk a = false → actGrant s.blk a = true → nextReq s.blk a = some r →
    exec (.actuatorDispatch a) s = .next { s with blk := serve (if r.for_ = .patrol then s.blk else nimYield s.blk a) a r }) ∧
  (∀ (s : State) (a : Act), nextReq s.blk a = none → patrolRuns s.blk = false →
    exec (.actuatorDispatch a) s = .next s) ∧
  (∀ (s : State) (a : Act) (val : Word), anyUnlocked s.blk = true → s.blk.srvMode a = .follow → 2 ^ 31 ≤ val.toNat →
    ∃ t, exec (.srvInjectionEnable .core a val) s = .next t ∧ t.blk.srvMode a = .inject ∧
      t.blk.get .SRV_INJ_CTL_EN a.val = 1 ∧ t.blk.get .SRV_STATE_WU a.val ≠ 0 ∧ (vget t.blk.srv a).injN = 0 ∧ t.mem = s.mem) ∧
  (∀ (s : State) (a : Act) (val : Word), anyUnlocked s.blk = true → val.toNat < 2 ^ 31 → s.blk.srvMode a = .inject →
    ∃ t, exec (.srvInjectionEnable .core a val) s = .next t ∧ t.blk.srvMode a = .follow ∧ t.blk.get .SRV_INJ_CTL_EN a.val = 0 ∧
      t.mem = s.mem) ∧
  (∀ (s : State) (a : Act) (p : Port) (val : Word), unlocked s.blk p = false →
    exec (.srvInjectionEnable (.port p) a val) s = .next { s with blk := discardWrite s.blk p } ∧
    exec (.srvCaptureStart (.port p) a val) s = .next { s with blk := discardWrite s.blk p }) ∧
  (∀ (s : State) (a : Act) (val : Word), anyUnlocked s.blk = false →
    exec (.srvInjectionEnable .core a val) s = .next s ∧ exec (.srvCaptureStart .core a val) s = .next s) ∧
  (∀ (s : State) (a : Act) (p : Port) (val : Word), unlocked s.blk p = true → 2 ^ 31 ≤ val.toNat →
    ∃ t, exec (.srvCaptureStart (.port p) a val) s = .next t ∧ (vget t.blk.srv a).capRun = true ∧
      (vget t.blk.srv a).capture = [] ∧ t.blk.get .SRV_CAP_CTL_START a.val = 1 ∧ t.blk.get .SRV_CAP_CTL_DONE a.val = 0 ∧
      t.mem = s.mem) ∧
  (∀ (s : State) (a : Act), (vget s.blk.srv a).capRun = true → captureDepth s.blk a ≤ (vget s.blk.srv a).capture.length →
    ∃ t, exec (.srvCaptureFull a) s = .next t ∧ (vget t.blk.srv a).capRun = false ∧ t.blk.get .SRV_CAP_CTL_DONE a.val = 1 ∧
      t.blk.get .SRV_CAP_CTL_START a.val = 0 ∧ (vget t.blk.srv a).capture = (vget s.blk.srv a).capture ∧ t.mem = s.mem) ∧
  (∀ (s : State) (a : Act), ((vget s.blk.srv a).capRun = false ∨ (vget s.blk.srv a).capture.length < captureDepth s.blk a) →
    exec (.srvCaptureFull a) s = .next s)

/-! ### The heads, the preamps and assist -/

/-- ASSIST_LOOP_STEP, HEATER_LOOP_STEP, WRITE_READY, WRITE_RETRIM_DONE, TOUCHDOWN, TOUCHDOWN_REAPPLY, PREAMP_FAULT,
PREAMP_FAULT_RETRY, PREAMP_SUPPLY_FAULT, PREAMP_SUPPLY_GOOD (R252 to R263): the assist loops and the preamps' faults.
PSL_WRITE_FRAME, PSL_READ_FRAME, PSL_FAST_FRAME, PSL_REINIT (R244 to R246): frames of the preamp link while the writer is off. -/
def Obligations.HeadsComplete : Prop :=
  (∀ (s : State) (a : Act) (h : Fin 6) (z : Nat) (m : Int) (rest : List (Fin 6 × Nat × Int)) (k1 k2 : Fin 4),
    (vget s.blk.ast a).metrics = (h, z, m) :: rest →
    ∃ t, exec (.assistLoopStep a k1 k2) s = .next t ∧ (vget t.blk.ast a).metrics = rest ∧
      nget 0 (vget t.blk.ast a).trims (64 * h.val + z) =
        trimStep s.blk (nget 0 (vget s.blk.ast a).trims (64 * h.val + z)) (verifyError s.blk a h z m) ∧ t.mem = s.mem) ∧
  (∀ (s : State) (a : Act) (k1 k2 : Fin 4), (vget s.blk.ast a).metrics = [] → exec (.assistLoopStep a k1 k2) s = .next s) ∧
  (∀ (s : State) (a : Act) (l u : Nat) (x : Int) (k1 k2 : Fin 4),
    ∃ t, exec (.heaterLoopStep a l u x k1 k2) s = .next t ∧ (vget t.blk.ast a).temp = x ∧ t.mem = s.mem) ∧
  (∀ (s : State) (a : Act) (l u : Nat) (x : Int) (k1 k2 : Fin 4), s.blk.get .AST_STATE_LOOP a.val ∉ [1, 3] →
    exec (.heaterLoopStep a l u x k1 k2) s = .next { s with blk := s.blk.onAst a (fun v => { v with temp := x }) }) ∧
  (∀ (s : State) (a : Act), (vget s.blk.ast a).preheat = true →
    ∃ t, exec (.writeReady a) s = .next t ∧ (vget t.blk.ast a).wrReady = true ∧ (vget t.blk.ast a).preheat = false ∧
      t.blk.get .AST_STATE_LOOP a.val = 3 ∧ regsKept [.AST_STATE_LOOP] s.blk t.blk ∧ t.mem = s.mem) ∧
  (∀ (s : State) (a : Act) (h : Fin 6) (z : Nat) (rest : List Nat), bit (vget s.blk.ast a).suspended h.val = true →
    ∃ t, exec (.writeRetrimDone a h z (0 :: rest)) s = .next t ∧ bit (vget t.blk.ast a).suspended h.val = false ∧
      vget (vget t.blk.ast a).verify h = []) ∧
  (∀ (s : State) (a : Act) (h : Fin 6), exec (.touchdown a h) s = .next { s with blk := preampFault a h 0x20 0 s.blk }) ∧
  (∀ (s : State) (a : Act) (h : Fin 6), bit (vget s.blk.ast a).touchWait h.val = true →
    ∃ t, exec (.touchdownReapply a h) s = .next t ∧ bit (vget t.blk.ast a).touchWait h.val = false ∧
      (vget t.blk.srv a).settleRun = 0 ∧ (vget t.blk.srv a).writeSettled = false) ∧
  (∀ (s : State) (a : Act) (h : Fin 6) (st : Fin 256) (r : Fin 4), st.val ≠ 0 →
    exec (.preampFault a h st r) s = .next { s with blk := preampFault a h st.val r s.blk }) ∧
  (∀ (s : State) (a : Act) (h : Fin 6), bit (vget s.blk.ast a).faultWait h.val = true →
    ∃ t, exec (.preampFaultRetry a h) s = .next t ∧ bit (vget t.blk.ast a).faultWait h.val = false) ∧
  (∀ (s : State) (a : Act), ∃ t, exec (.preampSupplyFault a) s = .next t ∧ (vget t.blk.ast a).supplyBad = true ∧
    t.blk.get .AST_FAULT_SUPPLY a.val = 1 ∧ t.blk.get .AST_FAULT_CAUSE a.val = 0) ∧
  (∀ (s : State) (a : Act), exec (.preampSupplyGood a) s = .next { s with
    blk := s.blk.onAst a (fun v => { v with supplyBad := false }) }) ∧
  (∀ (s : State) (a : Act) (head addr data : Nat) (k2 : Fin 4), (vget s.blk.ts a).wg = false → head ≤ 5 →
    ∃ t, exec (.pslWriteFrame a head addr data 2 k2) s = .next t ∧
      (vget t.blk.ast a).lastFrame = frame40 (writeFrameBits head addr data) ∧
      nget 0 (vget t.blk.ast a).pre (head * 256 + addr % 256) = data % 65536 ∧ regsKept [.AST_HCLR_HTR] s.blk t.blk ∧
      t.mem = s.mem) ∧
  (∀ (s : State) (a : Act) (head addr : Nat) (r1 r2 : Word), (vget s.blk.ts a).wg = false → head ≤ 5 → rspOk r1 = true →
    ∃ t, exec (.pslReadFrame a head addr r1 r2) s = .next t ∧
      t.blk.sys.reply = .words [r1.toNat / 65536, r1.toNat / 256 % 256] ∧
      (vget t.blk.ast a).lastFrame = frame24 (readFrameBits head addr) ∧ t.blk.regs = s.blk.regs ∧ t.mem = s.mem) ∧
  (∀ (s : State) (a : Act) (head assist heater : Nat) (k1 k2 : Fin 4), head ≤ 5 → mayCommand s.blk a head = true →
    exec (.pslFastFrame a head assist heater k1 k2) s =
      .next { s with blk := sendFast s.blk a head (assist % 4096) (heater % 4096) k1 k2 }) ∧
  (∀ (s : State) (a : Act), (vget s.blk.ast a).pslFault = true →
    ∃ t, exec (.pslReinit a true) s = .next t ∧ (vget t.blk.ast a).pslFault = false ∧ (vget t.blk.ast a).reinitFails = 0 ∧
      t.blk.regs = s.blk.regs) ∧
  (∀ (s : State) (a : Act), (vget s.blk.ast a).pslFault = true → (vget s.blk.ast a).reinitFails < 2 →
    ∃ t, exec (.pslReinit a false) s = .next t ∧ (vget t.blk.ast a).reinitFails = (vget s.blk.ast a).reinitFails + 1 ∧
      (vget t.blk.ast a).pslFault = true)

/-! ### The channels -/

/-- CHANNEL_READY, SECTOR_READ, FREEZE_HOLD_END, ONTHEFLY_DECODE_DONE, REPLAY_DECODE_DONE, DEEP_DECODE_DONE, SECTOR_REREAD (R283,
R284, R286, R293 to R300): a read sector and its recovery ladder. -/
def Obligations.ReadsComplete : Prop :=
  (∀ (s : State) (a : Act), s.blk.get .CH_STATE_MODE a.val = 4 →
    ∃ t, exec (.channelReady a) s = .next t ∧ t.blk.get .CH_STATE_MODE a.val = 0 ∧ (vget t.blk.ts a).chReady = true ∧
      (vget t.blk.ch a).boost = s.blk.cfgN .CHN_CTLE_BOOST 0 (s.blk.get .CH_STATE_ZONE a.val) ∧
      (vget t.blk.ch a).fc = s.blk.cfgN .CHN_CTLE_FC 0 (s.blk.get .CH_STATE_ZONE a.val)) ∧
  (∀ (s : State) (a : Act) (f : TsFrame) (x : MarkScan), (vget s.blk.ts a).frame = some f → f.write = false →
    ∃ t r, exec (.sectorRead a x) s = .next t ∧ t.blk = readSector s.blk a r x false ∧ r.index = f.index ∧
      r.rung = 0 ∧ r.phase = .onTheFly) ∧
  (∀ (s : State) (a : Act), ∃ t, exec (.freezeHoldEnd a) s = .next t ∧ t.blk.get .CH_STATE_FROZEN a.val = 0 ∧
    (vget t.blk.ch a).frozen = 0 ∧ regsKept [.CH_STATE_FROZEN] s.blk t.blk) ∧
  (∀ (s : State) (a : Act) (r : SectorRead) (unsat info : Nat), sectorAt s.blk a r.index = some r → r.phase = .onTheFly →
    r.dropped = false →
    (unsat = 0 → crcMatches r.gen (6 * a.val + r.head.val) r.track r.index info = true →
      exec (.ontheflyDecodeDone a r.index unsat info) s = .next { s with blk := acceptSector s.blk a r (r.found.getD 0) false }) ∧
    (unsat ≠ 0 → exec (.ontheflyDecodeDone a r.index unsat info) s = .next { s with
      blk := firstFailure s.blk a { r with decoded := [(r.found.getD 0, unsat)], found := none } false }) ∧
    (unsat = 0 → crcMatches r.gen (6 * a.val + r.head.val) r.track r.index info = false →
      exec (.ontheflyDecodeDone a r.index unsat info) s = .next { s with
        blk := firstFailure (s.blk.bump .CH_EVT_MISCOR a.val) a { r with decoded := [(r.found.getD 0, 0)], found := none } false })) ∧
  (∀ (s : State) (a : Act) (r : SectorRead) (n unsat info : Nat) (p : Int), sectorAt s.blk a r.index = some r →
    r.phase = .replay n p → r.dropped = false →
    (unsat = 0 → crcMatches r.gen (6 * a.val + r.head.val) r.track r.index info = true →
      exec (.replayDecodeDone a r.index unsat info) s = .next { s with blk := acceptSector s.blk a r p false }) ∧
    (unsat ≠ 0 → exec (.replayDecodeDone a r.index unsat info) s = .next { s with
      blk := rungThree s.blk a { r with decoded := r.decoded ++ [(p, unsat)] } })) ∧
  (∀ (s : State) (d : Fin 2) (unsat info : Nat) (q : DeepReq), vget s.blk.deep.running d = some q →
    ∃ t, exec (.deepDecodeDone d unsat info) s = .next t ∧ t.blk = deepDone d unsat info s.blk ∧ t.mem = s.mem) ∧
  (∀ (s : State) (a : Act) (r : SectorRead) (x : MarkScan), sectorAt s.blk a r.index = some r → r.phase = .reread →
    r.dropped = false → r.rung ≠ 7 →
    exec (.sectorReread a r.index x) s = .next { s with
      blk := readSector s.blk a { r with rereads := r.rereads + 1, revs := r.revs + 1 } x true })

/-- SECTOR_WRITE, VERIFY_RESULT, CH_SMP_CTL_WRITE, POISON_OWNER_RECOVERY (R303, R310, R325, R695): a sector is written and its
parity folded in, the read-after-write check of a sector ends, a replay slot is kept for test, and the owner of poisoned data
recovers. -/
def Obligations.WritesComplete : Prop :=
  (∀ (s : State) (a : Act) (f : TsFrame) (j : TsJob), (vget s.blk.ts a).frame = some f → f.write = true → f.silent = false →
    f.job = some j →
    exec (.sectorWrite a) s = .next { s with
      blk := sendSector (parityAdd (s.blk.put .CH_STATE_MODE a.val 2) a f) a j f.index }) ∧
  (∀ (s : State) (a : Act) (f : TsFrame), (vget s.blk.ts a).frame = some f → f.write = true → f.silent = false → f.job = none →
    exec (.sectorWrite a) s = .next { s with blk := parityAdd (s.blk.put .CH_STATE_MODE a.val 2) a f }) ∧
  (∀ (s : State) (a : Act) (f : TsFrame), (vget s.blk.ts a).frame = some f → f.write = true → f.silent = true →
    exec (.sectorWrite a) s = .next { s with blk := poisonedSector (s.blk.put .CH_STATE_MODE a.val 2) a f }) ∧
  (∀ (s : State) (a : Act) (e : RwEntry) (index : Nat) (x : MarkScan) (power err : Nat) (d : Option (Nat × Nat)),
    (vget s.blk.ts a).unverified.find? (fun e => e.index = index) = some e →
    ∃ t, exec (.verifyResult a index x power err d false) s = .next t ∧
      t.blk = verifyResult a index x power err d false s.blk ∧ t.mem = s.mem) ∧
  (∀ (s : State) (a : Act) (val : Word) (p : Port), unlocked s.blk p = true → ∃ t, exec (.chSmpCtlWrite .core a val) s = .next t ∧
    t.blk.get .CH_SMP_CTL_HOLD a.val = val.toNat / 2 ^ 31 ∧ t.blk.get .CH_SMP_CTL_SLOT a.val = val.toNat / 2 ^ 28 % 8) ∧
  (∀ (s : State) (o : PoisonOwner) (consumer : Fin 8) (addr : Nat),
    (∀ e, o = .code e → s.blk.fcs.op = none) →
    ∃ t, exec (.poisonOwnerRecovery o consumer addr) s = .next t ∧ t.blk = poisonOwnerRecovery o consumer addr s.blk ∧
      t.mem = s.mem)

/-! ### The sequencers -/

/-- MICROWORD_STEP, BIT_TIMER_EXPIRY, FRAME_END, SERVO_PREAMBLE_DUE (R334, R337 to R341): a step of TSa and what the bit timer, the
channel and a wedge do to it. WEDGE_TRAP_REQUEST, TRAP_ENTRY, STOP_REQUEST, HARD_STOP, SEQUENCER_RESTART, CONTROL_STORE_WRITE
(R342 to R351): traps, stops and the control store. A trap saves the micro-address and enters the vector at 16 × its number.
CONTROL_STORE_WRITE while TSa runs (R351): the access ends in a bus fault, and the control store is unchanged. -/
def Obligations.SequencerCompletes : Prop :=
  (∀ (s : State) (a : Act) (dt : Nat) (buf : Fin 8) (lo hi : Nat), tsRunning s.blk a = true →
    ∃ t b, exec (.microwordStep a dt buf lo hi) s = .next t ∧ b.regs = s.blk.regs ∧ (vget b.ts a).cs = (vget s.blk.ts a).cs ∧
      t.blk = (if (vget s.blk.ts a).await then dispatchJob b a else stepWord b a lo hi)) ∧
  (∀ (s : State) (a : Act) (e : Nat), (vget s.blk.ts a).expAt = some e → (vget s.blk.ts a).armed = none →
    ∃ t, exec (.bitTimerExpiry a) s = .next t ∧ (vget t.blk.ts a).btDone = true ∧ (vget t.blk.ts a).expAt = none ∧
      (vget t.blk.ts a).bit = max (vget s.blk.ts a).bit e ∧ t.blk.regs = s.blk.regs) ∧
  (∀ (s : State) (a : Act) (e : Nat) (x : ArmedSet), (vget s.blk.ts a).expAt = some e → (vget s.blk.ts a).armed = some x →
    ∃ t b, exec (.bitTimerExpiry a) s = .next t ∧ t.blk = applySet b a x ∧ (vget b.ts a).btDone = true ∧
      (vget b.ts a).armed = none) ∧
  (∀ (s : State) (a : Act) (f : TsFrame), (vget s.blk.ts a).frame = some f → f.paused = false →
    ∃ t, exec (.frameEnd a) s = .next t ∧ (vget t.blk.ts a).frame = none ∧ (vget t.blk.ts a).frameDone = true ∧
      (f.silent = false → (vget t.blk.ts a).transferred = (vget s.blk.ts a).transferred + 1)) ∧
  (∀ (s : State) (a : Act), (vget s.blk.ts a).rg = false → (vget s.blk.ts a).wg = false → (vget s.blk.ts a).sg = false →
    ∃ t, exec (.servoPreambleDue a) s = .next t ∧ (vget t.blk.ts a).sg = true ∧ (vget t.blk.ts a).wedgeDone = false ∧
      t.blk.get .TS_EVT_SGLATE a.val = min (s.blk.get .TS_EVT_SGLATE a.val + 1) (Field.max .TS_EVT_SGLATE)) ∧
  (∀ (s : State) (a : Act), ((vget s.blk.ts a).rg = true ∨ (vget s.blk.ts a).wg = true) →
    ∃ t, exec (.servoPreambleDue a) s = .next t ∧ (vget t.blk.ts a).sg = true ∧ (vget t.blk.ts a).rg = false ∧
      (vget t.blk.ts a).wg = false) ∧
  (∀ (s : State) (a : Act), loaded s.blk a = true →
    exec (.wedgeTrapRequest a) s = .next { s with blk := trapRequest s.blk a 2 }) ∧
  (∀ (s : State) (a : Act) (n : Nat), tsRunning s.blk a = true → s.blk.get .TS_STATE_TRAP a.val = 0 → nextTrap s.blk a = some n →
    n ≤ 3 → ∃ t, exec (.trapEntry a) s = .next t ∧ t.blk.get .TS_STATE_TRAP a.val = n + 1 ∧
      t.blk.get .TS_STATE_UPC a.val = 16 * n ∧
      t.blk.get .TS_TSAVE_PC a.val = s.blk.get .TS_STATE_UPC a.val % 2 ^ Field.width .TS_TSAVE_PC ∧
      t.blk.get .TS_STATE_STATE a.val = 4 ∧ (vget t.blk.ts a).savedAwait = (vget s.blk.ts a).await) ∧
  (∀ (s : State) (a : Act), tsRunning s.blk a = true →
    ∃ t, exec (.stopRequest a) s = .next t ∧ t.blk.get .TS_STATE_STOPREQ a.val = 1) ∧
  (∀ (s : State) (a : Act), s.blk.get .TS_STATE_STOPREQ a.val = 1 →
    ∃ t, exec (.hardStop a) s = .next t ∧ (vget t.blk.ts a).armed = none ∧ (vget t.blk.ts a).stopForced = true) ∧
  (∀ (s : State) (a : Act), s.blk.get .TS_STATE_STATE a.val ∈ [0, 5, 6] →
    exec (.sequencerRestart a) s = .next { s with blk := tsReload s.blk a }) ∧
  (∀ (s : State) (a : Act) (word : Fin 4096) (data : BitVec 128), s.blk.get .TS_STATE_STATE a.val ∈ [0, 5, 6] →
    ∃ t, exec (.controlStoreWrite a word data) s = .next t ∧ csWord t.blk a word.val = data.toNat ∧ t.blk.regs = s.blk.regs) ∧
  (∀ (s : State) (a : Act) (word : Fin 4096) (data : BitVec 128), s.blk.get .TS_STATE_STATE a.val ∉ [0, 5, 6] →
    ∃ t, exec (.controlStoreWrite a word data) s = .next t ∧ t.blk.ts = s.blk.ts ∧ t.blk.sys.reply = .busFault ∧
      t.blk.sys.busFaults = s.blk.sys.busFaults + 1)

/-! ### Translation, parity and the NAND -/

/-- WRITE_DATA_RECEIVED, RUN_WAIT_EXPIRY, BAND_COPY_START, BAND_COPY_COMMIT, BAND_COPY_TARGET_FAIL, MEDIA_CACHE_DESTAGE (R380, R383,
R390, R394 to R398): data received, partial tracks, band copies and the media cache. CLEANING_MERGE, GROUP_COMPACTION,
WEAR_SPREAD_REFRESH, READ_ONLY_EXIT (R391, R400, R405): cleaning, head wear, and the end of read-only. -/
def Obligations.TranslationAndCleaningComplete : Prop :=
  (∀ (s : State) (p : Port) (sq cid : Nat) (data : List Nat) (poison : Bool) (pi : PiCheck) (c : Cmd),
    cmdFind (releaseFenced s.blk) p sq cid = some c → mayReceive (releaseFenced s.blk) c = true →
    ∃ t b, exec (.writeDataReceived p sq cid data poison pi) s = .next t ∧
      t.blk = qrecAll (receiveWrite b c (ownData c data) poison pi) ∧ b.regs = (releaseFenced s.blk).regs ∧
      ∀ o ∈ (vget b.px p).out, o.for_ ≠ .command sq cid) ∧
  (∀ (s : State) (o : RowOwner), s.blk.mode = .run → exec (.runWaitExpiry o) s = .next { s with blk := feedPartial s.blk o }) ∧
  (∀ (s : State) (a : Act) (d : Nat × Nat) (g x : Nat), s.blk.mode = .run → s.blk.srvMode a ≠ .failed →
    nextDue s.blk a s.blk.xl.due = some (d, g) → replacement s.blk (d.1 / 32 / 2 ^ 20) (d.1 % 32) = some x →
    ∃ t b, exec (.bandCopyStart a) s = .next t ∧ t.blk = evalSpace b ∧
      b.xl.copies = s.blk.xl.copies ++ [⟨g, d.1 % 32, x, d.2, s.blk.now⟩] ∧ b.regs = s.blk.regs) ∧
  (∀ (s : State) (a : Act) (c : BandCopy), runningCopy s.blk a = some c →
    exec (.bandCopyCommit a) s = .next { s with blk := commitCopy s.blk c }) ∧
  (∀ (s : State) (a : Act) (c : BandCopy), runningCopy s.blk a = some c →
    ∃ t b, exec (.bandCopyTargetFail a) s = .next t ∧ t.blk = evalSpace b ∧
      c.target * 32 + c.surf ∈ b.xl.retired) ∧
  (∀ (s : State), s.blk.mode = .run → s.blk.cfgN .XLT_MC_HIGH < nandShare s.blk (cachedInNand s.blk).length →
    exec .mediaCacheDestage s = .next { s with blk := destage s.blk (lowMark s.blk - 1) }) ∧
  (∀ (s : State) (nsid ext : Nat) (n : Namespace), s.blk.mode = .run → (cachedOf s.blk nsid ext).isEmpty = false →
    nsFind s.blk nsid = some n → n.zoned = false → (rewriteExtent s.blk n ext).isSome = true →
    ∃ t c, exec (.cleaningMerge nsid ext) s = .next t ∧ rewriteExtent s.blk n ext = some c ∧
      t.blk = evalSpace (if compactJob s.blk = some nsid then countJob c 6 1 0 else c)) ∧
  (∀ (s : State) (g : Group) (n : Namespace), s.blk.mode = .run → compactionVictim s.blk = some g →
    nsFind s.blk g.nsid = some n →
    ∃ t, exec .groupCompaction s = .next t ∧ t.blk = groupCompaction s.blk ∧ t.mem = s.mem) ∧
  (∀ (s : State), s.blk.boot.journalUp = true → ∃ t b, exec .wearSpreadRefresh s = .next t ∧ t.blk = retentionDue b ∧
    b.get .XL_WEAR_MAX 0 = mostWorn s.blk (activeSurfs s.blk) % 2 ^ Field.width .XL_WEAR_MAX ∧
    b.get .XL_WEAR_MIN 0 = leastWorn s.blk (activeSurfs s.blk) % 2 ^ Field.width .XL_WEAR_MIN) ∧
  (∀ (s : State), s.blk.xl.belowReserve = true → finalReserve s.blk + s.blk.cfgN .XLT_RO_HYST ≤ freeBands s.blk →
    ∃ t, exec .readOnlyExit s = .next t ∧ t.blk.xl.belowReserve = false)

/-- RECONSTRUCTION_SOLVE, ZONE_DESCRIPTOR_CHANGED_NOTICE, ZONE_REBUILD_COMMIT (R436, R437, R449): what a solve gives for a missing
data sector `j` of the row whose sources have all been read, by what the check track says. -/
def Obligations.ParityCompletes : Prop :=
  (∀ (s : State) (id j : Nat) (read : List (Nat × Nat)) (x : Recon) (l : RowLog) (sol : List (Nat × Nat)) (ok : Option Bool),
    reconFind s.blk id = some x → ownerLog s.blk x.owner = some l → x.sourcesLeft = 0 →
    dataTrackOf l x.row x.surf = some j → solveRow s.blk l x read = some (sol, ok) →
    ∃ t v, exec (.reconstructionSolve id read) s = .next t ∧
      v = ((sol.find? (fun d => d.1 = j)).map (fun d => d.2)).getD 0 ∧
      (ok = none → t.blk = reconDone (s.blk.bump .BP_RECON_UNVER 0) l x v) ∧
      (ok = some true → t.blk = reconDone s.blk l x v) ∧
      (ok = some false → x.repeated = false →
        t.blk = readSources (putRecon s.blk { x with repeated := true }) { x with repeated := true } false) ∧
      (ok = some false → x.repeated = true →
        t.blk = reconFails ((s.blk.bump .BP_RECON_FAIL 0).sepia 0x0903 (srcCC 0) (rowName s.blk x).1 (rowName s.blk x).2) x)) ∧
  (∀ (s : State) (id : Nat) (read : List (Nat × Nat)) (x : Recon) (l : RowLog),
    reconFind s.blk id = some x → ownerLog s.blk x.owner = some l → x.sourcesLeft = 0 → solveRow s.blk l x read = none →
    exec (.reconstructionSolve id read) s = .next { s with blk := reconFails s.blk x }) ∧
  (∀ (s : State) (zs : List (Nat × Nat)), zs = s.blk.xl.changed ++
      ((recommendChanges s.blk).map (fun e => e.1)).filter (fun z => !decide (z ∈ s.blk.xl.changed)) → zs ≠ [] →
    ∃ t, exec .zoneDescriptorChangedNotice s = .next t ∧ t.blk.xl.changed = [] ∧
      ∀ (p : Port) (z : Nat × Nat), z ∈ zs → (nsAttached s.blk p z.1).isSome = true → z ∈ (vget t.blk.nv p).changedZones) ∧
  (∀ (s : State) (z : Zone) (j : Job), s.blk.nvm.jobs.find? (fun j => j.type = 2 ∧ j.state = 2) = some j →
    lowestZone (rebuildZones s.blk) = some z → wideSets s.blk z.log.t = [] →
    exec (.zoneRebuildCommit z.nsid z.k) s = .next { s with blk := endJob s.blk j 5 }) ∧
  (∀ (s : State) (z : Zone) (j : Job) (base : Nat) (more : List Nat),
    s.blk.nvm.jobs.find? (fun j => j.type = 2 ∧ j.state = 2) = some j →
    lowestZone (rebuildZones s.blk) = some z → wideSets s.blk z.log.t = base :: more →
    rebuiltRows z (retireSurfs s.blk (retireMask s.blk)).length ≤ s.blk.cfgN .FMT_BAND_TRK →
    exec (.zoneRebuildCommit z.nsid z.k) s = .next { s with
      blk := countJob (bindRebuilt s.blk z base (retireSurfs s.blk (retireMask s.blk)).length none) 2 1
        (retireSurfs s.blk (retireMask s.blk)).length })

/-- NAND_PAGE_PROGRAM, NAND_PAGE_READ, NAND_ERASE, GC_START, GC_COPY_COMMIT, GC_TARGET_FAIL, WEAR_LEVEL_MOVE, BLOCK_REFRESH,
CHECKPOINT_WRITE, RESERVE_REPLENISH (R462, R466, R470, R473 to R482, R694): each operation of the NAND store. -/
def Obligations.NandCompletes : Prop :=
  (∀ (s : State) (role : Fin 7) (blk page scan : Nat) (fails : Fin 16), mayProgram s.blk blk (poolOf role) = true →
    knownErased (nandBlock s.blk blk) page = true →
    exec (.nandPageProgram role blk page fails scan none) s = .next { s with
      blk := qrecAll ((aimed s.blk blk page).foldl (programOne (poolOf role) fails.val)
        (putNand s.blk blk { nandBlock s.blk blk with ptr := page })) }) ∧
  (∀ (s : State) (role : Fin 7) (blk page scan poison : Nat) (fails : Fin 16), mayProgram s.blk blk (poolOf role) = true →
    exec (.nandPageProgram role blk page fails scan (some poison)) s = .next { s with
      blk := qrecAll (poisonSeen s.blk .MEM_POISON_NAND 5 5 poison) }) ∧
  (∀ (s : State) (blk slot errors : Nat) (more : List (Nat × Nat)) (die : Fin 2), die.val = blkDie blk →
    vget s.blk.ns.erases die = none → blkGood s.blk blk = true → slot < 8192 → errors < s.blk.cfgN .NND_REFRESH_BE →
    ∃ t, exec (.nandPageRead blk slot ((0, errors) :: more)) s = .next t ∧ t.blk.regs = s.blk.regs ∧
      t.blk.ns.blocks = s.blk.ns.blocks ∧
      vget t.blk.ns.rdOffset die = readOffset s.blk (nandBlock s.blk blk) die.val) ∧
  (∀ (s : State) (die : Fin 2) (i0 i1 i2 i3 : Nat) (ns : List Nat), vget s.blk.ns.erases die = none →
    ns = (([i0, i1, i2, i3].zipIdx.filter (fun e => decide (e.1 < 348))).map
      (fun e => 1392 * die.val + 348 * e.2 + e.1)).filter (erasable s.blk) → ns ≠ [] →
    ∃ t, exec (.nandErase die (.issue i0 i1 i2 i3)) s = .next t ∧ vget t.blk.ns.erases die = some ⟨ns, false⟩ ∧
      t.blk.ns.blocks = s.blk.ns.blocks) ∧
  (∀ (s : State) (die : Fin 2) (e : NErase), vget s.blk.ns.erases die = some e →
    ∃ t b, exec (.nandErase die (.ended 0)) s = .next t ∧ vget b.ns.erases die = none ∧ t.blk = e.blocks.foldl erasedBlock b) ∧
  (∀ (s : State) (die : Fin 2) (n : Nat) (ns : List Nat), mayCopy s.blk die = true →
    dieBlocks s.blk die (fun x => x.scan) = n :: ns →
    exec (.gcStart die) s = .next { s with blk := copyBlocks s.blk die .emptying [n] }) ∧
  (∀ (s : State) (die : Fin 2) (errors : Nat) (c : NCopy), dieCopy s.blk die = some c → c.kind = .wear →
    errors < s.blk.cfgN .NND_REFRESH_BE →
    ∃ t, exec (.gcCopyCommit die errors) s = .next t ∧
      t.blk = (journalEntry (copySpent (c.moved.foldl moveEntry (s.blk.onNs (fun x => { x with
        copies := x.copies.filter (fun d => d ≠ c) }))) c)).bump .NS_EVT_WLMOVE 0) ∧
  (∀ (s : State) (die : Fin 2) (plane : Fin 4) (c : NCopy) (x : Nat) (pf : Bool), dieCopy s.blk die = some c →
    c.target.find? (fun n => decide (blkPlane n = plane.val)) = some x →
    ∃ t b, exec (.gcTargetFail die plane pf) s = .next t ∧
      b.get .NS_EVT_GCRETIRE 0 = min (s.blk.get .NS_EVT_GCRETIRE 0 + 1) (Field.max .NS_EVT_GCRETIRE) ∧
      regsKept [.NS_EVT_GCRETIRE, .NS_DEFECT_PROGFAIL] s.blk b ∧ b.ns = s.blk.ns ∧
      (∀ y, leastBlk (fun n => (nandBlock b n).ec) (planeFree b (blkDie x) (blkPlane x)) = some y →
        t.blk = retireBlock (replaceTarget b c x y) x) ∧
      (leastBlk (fun n => (nandBlock b n).ec) (planeFree b (blkDie x) (blkPlane x)) = none → t.blk = retireBlock (abandonCopy b c) x)) ∧
  (∀ (s : State) (die : Fin 2) (n m : Nat), mayCopy s.blk die = true →
    s.blk.cfgN .NND_WL_SPREAD < (ecRange s.blk).1 - (ecRange s.blk).2 →
    leastBlk (fun n => (nandBlock s.blk n).ec) (dieBlocks s.blk die (fun x =>
      decide (x.wrote + 24 ≤ s.blk.now / 3600000000) && x.slots.any (fun e => e.2.valid))) = some n →
    leastBlk (fun m => 100000 - (nandBlock s.blk m).ec) ((List.range 2784).filter (blkFree s.blk)) = some m →
    exec (.wearLevelMove die) s = .next { s with
      blk := beginCopy (takeBlocks s.blk (nandBlock s.blk n).pool [m]) die .wear [n] [m] }) ∧
  (∀ (s : State) (die : Fin 2) (n : Nat) (ns : List Nat), mayCopy s.blk die = true → dieBlocks s.blk die (refreshDue s.blk) = n :: ns →
    exec (.blockRefresh die) s = .next { s with blk := copyBlocks s.blk die .refresh [n] }) ∧
  (∀ (s : State), (64 * s.blk.cfgN .NND_CKPT_MIB ≤ s.blk.ns.jrnlPages ∨
      (s.blk.mode = .run ∧ s.blk.ns.ckptAt + 3600000000 ≤ s.blk.now)) →
    exec .checkpointWrite s = .next { s with blk := checkpoint s.blk }) ∧
  (∀ (s : State), s.blk.mode = .run → ∃ t, exec .reserveReplenish s = .next t ∧ t.blk = replenish s.blk ∧
    t.blk.regs = s.blk.regs)

/-! ### PCIe -/

/-- LINK_UP_L0, LINK_RATE_CHANGE, LINK_DOWN, LINK_RECOVERY, ASPM_L1_ENTRY, ASPM_L1_EXIT, D3HOT_ENTRY, D3HOT_EXIT (R497 to R501,
R518, R519, R521, R533): the link state, rate and width, the power states, and what resumes. -/
def Obligations.LinkCompletes : Prop :=
  (∀ (s : State) (p : Port) (rate : Fin 7) (width : Fin 3) (flit rev : Bool), (vget s.blk.px p).present = true →
    (vget s.blk.px p).perst = false → s.blk.pwr.powered = true → s.blk.mode ≠ .holdup → s.blk.pwr.pwdisDown = false →
    s.blk.boot.phy = true → rate ≠ 0 → width ≠ 0 →
    ∃ t b, exec (.linkUpL0 p rate width flit rev) s = .next t ∧ t.blk = resumePort b p ∧ b.get .PX_LINK_STATE p.val = 3 ∧
      b.get .PX_LINK_RATE p.val = min rate.val (s.blk.cfgN .HST_MAX_RATE) ∧
      b.get .PX_LINK_WIDTH p.val = min width.val (s.blk.cfgN .HST_MAX_WIDTH) ∧ b.get .PX_LINK_DSTATE p.val = 0 ∧
      b.get .PX_LINK_REV p.val = rev.toNat ∧ (vget b.px p).disabled = false) ∧
  (∀ (s : State) (p : Port) (rate : Fin 7) (width : Fin 3) (flit : Bool), s.blk.get .PX_LINK_STATE p.val ∈ [3, 4] →
    rate ≠ 0 → width ≠ 0 →
    ∃ t b, exec (.linkRateChange p rate width flit) s = .next t ∧ t.blk = resumePort b p ∧ b.get .PX_LINK_STATE p.val = 3 ∧
      b.get .PX_LINK_RATE p.val = min rate.val (s.blk.cfgN .HST_MAX_RATE) ∧
      b.get .PX_LINK_WIDTH p.val = min width.val (s.blk.cfgN .HST_MAX_WIDTH) ∧ b.px = s.blk.px) ∧
  (∀ (s : State) (p : Port), onBus s.blk p = true →
    ∃ t, exec (.linkDown p) s = .next t ∧ t.blk.get .PX_LINK_STATE p.val = 0 ∧ (vget t.blk.px p).out = [] ∧
      t.blk.get .PX_LINKEVT_DOWN p.val = min (s.blk.get .PX_LINKEVT_DOWN p.val + 1) (Field.max .PX_LINKEVT_DOWN) ∧
      (vget t.blk.px p).pmeStatus = (vget s.blk.px p).pmeStatus ∧ t.blk.nv = s.blk.nv ∧ t.blk.nvm = s.blk.nvm) ∧
  (∀ (s : State) (p : Port), s.blk.get .PX_LINK_STATE p.val = 3 →
    ∃ t, exec (.linkRecovery p) s = .next t ∧ t.blk.get .PX_LINK_STATE p.val = 4 ∧
      t.blk.get .PX_LINKEVT_RECOV p.val = min (s.blk.get .PX_LINKEVT_RECOV p.val + 1) (Field.max .PX_LINKEVT_RECOV) ∧
      regsKept [.PX_LINK_STATE, .PX_LINKEVT_RECOV] s.blk t.blk) ∧
  (∀ (s : State) (p : Port) (sub : Fin 3), s.blk.get .PX_LINK_STATE p.val = 3 → bit (configReg (vget s.blk.px p) 0x80 0) 1 = true →
    portIdle s.blk p = true → (vget s.blk.px p).tlpAt + s.blk.cfgN .HST_L1_IDLE_US ≤ s.blk.now →
    ∃ t, exec (.aspmL1Entry p sub) s = .next t ∧ regsKept [.PX_LINK_STATE] s.blk t.blk ∧ t.blk.get .PX_LINK_STATE p.val =
      (if sub ≠ 0 ∧ s.blk.cfgN .HST_CLKREQ = 1 ∧ bit (configReg (vget s.blk.px p) 0x188 0) (if sub = 1 then 3 else 2) = true
        then 5 + sub.val else 5)) ∧
  (∀ (s : State) (p : Port), s.blk.get .PX_LINK_STATE p.val ∈ [5, 6, 7] →
    ∃ t, exec (.aspmL1Exit p) s = .next t ∧ t.blk.get .PX_LINK_STATE p.val = 3 ∧ regsKept [.PX_LINK_STATE] s.blk t.blk) ∧
  (∀ (s : State) (p : Port), onBus s.blk p = true →
    ∃ t, exec (.d3hotEntry p) s = .next t ∧ t.blk.get .PX_LINK_DSTATE p.val = 3 ∧ regsKept [.PX_LINK_DSTATE] s.blk t.blk ∧
      t.blk.nv = s.blk.nv ∧ t.mem = s.mem) ∧
  (∀ (s : State) (p : Port), s.blk.get .PX_LINK_DSTATE p.val = 3 →
    exec (.d3hotExit p) s = .next { s with blk := resumePort (s.blk.put .PX_LINK_DSTATE p.val 0) p })

/-- CONFIG_READ, CONFIG_WRITE, BME_CLEAR, BME_SET, PME_REPEAT, PME_TURN_OFF (R70, R503, R513, R514, R519, R520): configuration
requests and what they command. -/
def Obligations.ConfigurationCompletes : Prop :=
  (∀ (s : State) (p : Port) (off : Nat), onBus s.blk p = true →
    ∃ t, exec (.configRead p off) s = .next t ∧ t.blk.regs = (touchLink s.blk p).regs ∧ t.mem = s.mem ∧ t.blk.sys.reply =
      (if answersCrs s.blk p = true then .retryStatus else .words [configWord (touchLink s.blk p) p (off / 4 * 4)])) ∧
  (∀ (s : State) (p : Port) (off : Nat) (v : Word) (enables : Fin 16), onBus s.blk p = true → answersCrs s.blk p = true →
    ∃ t, exec (.configWrite p off v enables) s = .next t ∧ t.blk = (touchLink s.blk p).answer .retryStatus) ∧
  (∀ (s : State) (p : Port) (off : Nat) (v : Word) (enables : Fin 16), onBus s.blk p = true → answersCrs s.blk p = false → ∃ t b,
    exec (.configWrite p off v enables) s = .next t ∧ t.mem = memAfter s.mem s.blk t.blk ∧ t.blk = configEffect p (off / 4 * 4)
    (mergeBytes (configWord (touchLink s.blk p) p (off / 4 * 4)) v.toNat enables.val) (mergeBytes 0 v.toNat enables.val) b ∧
    b.sys.reply = .none ∧ b.regs = (touchLink s.blk p).regs ∧ (vget b.px p).config = nset (configDefault (off / 4 * 4)) (vget
    s.blk.px p).config (off / 4) (mergeBytes (configWord (touchLink s.blk p) p (off / 4 * 4)) v.toNat enables.val &&& configMask
    (touchLink s.blk p) (off / 4 * 4))) ∧
  (∀ (s : State) (p : Port), s.blk.get .PX_BME_BME p.val = 1 →
    ∃ t b, exec (.bmeClear p) s = .next t ∧ b.get .PX_BME_BME p.val = 0 ∧ (vget b.px p).out = [] ∧ b.nv = s.blk.nv ∧
      b.nvm = s.blk.nvm ∧
      (b.get .PX_BME_CLEARS p.val = (if (vget s.blk.px p).out = [] then s.blk.get .PX_BME_CLEARS p.val
        else min (s.blk.get .PX_BME_CLEARS p.val + 1) (Field.max .PX_BME_CLEARS))) ∧
      t.blk = (s.blk.nvm.cmds.filter (halfReceived p)).foldl dropHalf b) ∧
  (∀ (s : State) (p : Port), exec (.bmeSet p) s = .next { s with blk := resumePort (s.blk.put .PX_BME_BME p.val 1) p }) ∧
  (∀ (s : State) (p : Port), (vget s.blk.px p).pmeStatus = true →
    ∃ t, exec (.pmeRepeat p) s = .next t ∧ regsKept [.PX_PM_PME] s.blk t.blk ∧
      t.blk.get .PX_PM_PME p.val = min (s.blk.get .PX_PM_PME p.val + 1) (Field.max .PX_PM_PME)) ∧
  (∀ (s : State) (p : Port), onBus s.blk p = true → ∃ t, exec (.pmeTurnOff p) s = .next t ∧ (vget t.blk.px p).fetchStopped = true ∧
    regsKept [.PX_PM_TURNOFF, .PX_LINK_STATE] s.blk t.blk ∧ t.blk.get .PX_PM_TURNOFF p.val = min (s.blk.get .PX_PM_TURNOFF p.val +
    1) (Field.max .PX_PM_TURNOFF))

/-- MEMORY_REQUEST_REFUSED, MALFORMED_TLP, RECEIVER_ERROR, REPLAY_TIMER_TIMEOUT, COMPLETION_RECEIVED, COMPLETION_TIMEOUT,
TAG_QUARANTINE_END (R509 to R513, R516, R517, R527): errors set their AER bits and are counted, and reads end. -/
def Obligations.TransactionsComplete : Prop :=
  (∀ (s : State) (p : Port) (read : Bool) (hdr : Nat), ∃ t, exec (.memoryRequestRefused p read hdr) s = .next t ∧ bit (vget t.blk.px
    p).aerUnc 20 = true ∧ (bit (aerSeverity (vget s.blk.px p)) 20 = false → bit (vget t.blk.px p).aerCor 13 = true) ∧
    t.blk.sys.reply = (if read then .unsupportedRequest else .none) ∧ t.blk.get .PX_RXERR_UR p.val = min (s.blk.get .PX_RXERR_UR
    p.val + 1) (Field.max .PX_RXERR_UR) ∧ regsKept [.PX_RXERR_UR, .PX_LINK_STATE] s.blk t.blk ∧ t.mem = s.mem ∧ t.blk.nv = s.blk.nv
    ∧ t.blk.nvm = s.blk.nvm) ∧
  (∀ (s : State) (p : Port) (kind : Fin 3) (hdr : Nat),
    ∃ t, exec (.malformedTlp p kind hdr) s = .next t ∧
      bit (vget t.blk.px p).aerUnc (if kind = 0 then 18 else if kind = 1 then 17 else 22) = true ∧
      t.blk.get .PX_RXERR_MALF p.val = min (s.blk.get .PX_RXERR_MALF p.val + 1) (Field.max .PX_RXERR_MALF) ∧
      regsKept [.PX_RXERR_MALF] s.blk t.blk ∧ t.mem = s.mem) ∧
  (∀ (s : State) (p : Port) (kind : Fin 3),
    ∃ t, exec (.receiverError p kind) s = .next t ∧ t.blk.regs = s.blk.regs ∧ t.mem = s.mem ∧
      (vget t.blk.px p).aerCor = setBit (vget s.blk.px p).aerCor (if kind = 0 then 0 else if kind = 1 then 6 else 7)) ∧
  (∀ (s : State) (p : Port) (rollover : Bool),
    ∃ t, exec (.replayTimerTimeout p rollover) s = .next t ∧ t.blk.regs = s.blk.regs ∧ t.mem = s.mem ∧
      (vget t.blk.px p).aerCor = setBit (vget s.blk.px p).aerCor (if rollover then 8 else 12)) ∧
  (∀ (s : State) (p : Port) (tag hdr : Nat) (o : OutRead), (vget s.blk.px p).out.find? (fun o => o.tag = tag) = some o →
    exec (.completionReceived p tag 0 false hdr) s = .next { s with
      blk := pumpReads (readDone (endTag (touchLink s.blk p) p tag) p o.for_) p }) ∧
  (∀ (s : State) (p : Port) (tag hdr : Nat) (status : Fin 3) (poison : Bool) (o : OutRead),
    (vget s.blk.px p).out.find? (fun o => o.tag = tag) = some o → status ≠ 0 →
    exec (.completionReceived p tag status poison hdr) s = .next { s with
      blk := pumpReads (readFailed ((endTag (touchLink s.blk p) p tag).bump .PX_RXERR_CPLERR p.val) p o.for_) p }) ∧
  (∀ (s : State) (p : Port) (tag hdr : Nat) (o : OutRead), (vget s.blk.px p).out.find? (fun o => o.tag = tag) = some o →
    o.at_ + 1000 * o.tms ≤ s.blk.now →
    ∃ t b, exec (.completionTimeout p tag hdr) s = .next t ∧ t.blk = pumpReads (readFailed b p o.for_) p ∧
      (vget b.px p).quarantine = (vget s.blk.px p).quarantine ++ [(tag, s.blk.now + 2000 * o.tms)] ∧
      bit (vget b.px p).aerUnc 14 = true ∧ b.get .PX_CTO_COUNT p.val =
        min (s.blk.get .PX_CTO_COUNT p.val + 1) (Field.max .PX_CTO_COUNT)) ∧
  (∀ (s : State) (p : Port) (tag at_ : Nat), (tag, at_) ∈ (vget s.blk.px p).quarantine → at_ ≤ s.blk.now →
    ∃ t b, exec (.tagQuarantineEnd p tag) s = .next t ∧ t.blk = pumpReads b p ∧
      (vget b.px p).quarantine = (vget s.blk.px p).quarantine.filter (fun q => q.1 ≠ tag) ∧ b.regs = s.blk.regs)

/-- SQ_FETCH_RETRY, SQ_ENTRY_FETCH, SQ_TAIL_DOORBELL, CQ_HEAD_DOORBELL, INTERRUPT_COALESCING_TIME (R512, R528, R529, R546, R552,
R558): doorbells move their queues, entries are fetched, and coalesced interrupts are sent. An accepted tail doorbell takes the
next doorbell sequence. SQ_TAIL_DOORBELL and CQ_HEAD_DOORBELL of a queue that does not exist (R528): counted, and nothing of a
queue changes. -/
def Obligations.QueuesComplete : Prop :=
  (∀ (s : State) (p : Port) (sq : Nat) (q : SubQueue), sqFind (vget s.blk.nv p) sq = some q → 0 < q.readFails → q.readFails < 3 →
    q.failAt + 1000 ≤ s.blk.now →
    sqReady s.blk p { q with readFails := 0 } = true → fetchHalted s.blk p = false →
    exec (.sqFetchRetry p sq) s = .next { s with
      blk := sendFetch s.blk p q (min q.failN (min (sqWaiting q) (q.size - q.head))) }) ∧
  (∀ (s : State) (p : Port) (q : SubQueue) (cs : NMap Nat), s.blk.get .NV_CTL_RDY p.val = 1 → fetchHalted s.blk p = false →
    arbitrate (markThrottled s.blk p) p ((vget (markThrottled s.blk p).nv p).sqs.filter (fun q =>
      sqReady (markThrottled s.blk p) p q && decide (0 < fetchSize (markThrottled s.blk p) p q) &&
        (q.cmb || (freeTag (markThrottled s.blk p) p).isSome))) = some (q, cs) →
    ∃ t b, exec (.sqEntryFetch p) s = .next t ∧ t.blk = sendFetch b p q (fetchSize (markThrottled s.blk p) p q) ∧
      (vget b.nv p).credits = cs ∧ b.regs = (markThrottled s.blk p).regs) ∧
  (∀ (s : State) (p : Port) (sq value : Nat) (q : SubQueue), s.blk.get .PX_LINK_DSTATE p.val ≠ 3 →
    sqFind (vget s.blk.nv p) sq = some q → tailValid q value = true →
    ∃ t q', exec (.sqTailDoorbell p sq value) s = .next t ∧ sqFind (vget t.blk.nv p) sq = some q' ∧ q'.tail = value ∧
      q'.head = q.head ∧ q'.waiting = (if (value + q.size - q.tail) % q.size = 0 then q.waiting
        else q.waiting ++ [(doorbellSeq t.blk, (value + q.size - q.tail) % q.size)]) ∧
      regsKept [.NV_DBSEQ_LO_SEQ, .NV_DBSEQ_HI_SEQ, .PX_LINK_STATE] s.blk t.blk ∧ t.blk.nvm = s.blk.nvm ∧ t.mem = s.mem) ∧
  (∀ (s : State) (p : Port) (cq value : Nat) (q : CompQueue), s.blk.get .PX_LINK_DSTATE p.val ≠ 3 →
    cqFind (vget s.blk.nv p) cq = some q → value < q.size → (value + q.size - q.head) % q.size ≤ q.entries.length →
    ∃ t b q', exec (.cqHeadDoorbell p cq value) s = .next t ∧ t.blk = releaseHeld (settleIntx b p) p ∧
      cqFind (vget b.nv p) cq = some q' ∧ q'.head = value ∧
      q'.entries = q.entries.drop ((value + q.size - q.head) % q.size) ∧ b.regs = (touchLink s.blk p).regs) ∧
  (∀ (s : State) (p : Port) (cq : Nat) (q : CompQueue), cqFind (vget s.blk.nv p) cq = some q → 0 < q.aggregated →
    hostReachable s.blk p = true →
    ∃ t b, exec (.interruptCoalescingTime p cq) s = .next t ∧ t.blk = (if q.irq then sendMessage b p q.vector else b) ∧
      cqFind (vget b.nv p) cq = some { q with aggregated := 0 } ∧ b.regs = s.blk.regs) ∧
  (∀ (s : State) (p : Port) (sq value : Nat), s.blk.get .PX_LINK_DSTATE p.val ≠ 3 → sqFind (vget s.blk.nv p) sq = none →
    s.blk.get .NV_CTL_RDY p.val ≠ 1 →
    ∃ t, exec (.sqTailDoorbell p sq value) s = .next t ∧ t.blk.nv = s.blk.nv ∧ regsKept [.PX_DB_NOQ, .PX_LINK_STATE] s.blk t.blk ∧
      t.blk.get .PX_DB_NOQ p.val = min (s.blk.get .PX_DB_NOQ p.val + 1) (Field.max .PX_DB_NOQ)) ∧
  (∀ (s : State) (p : Port) (cq value : Nat), s.blk.get .PX_LINK_DSTATE p.val ≠ 3 → cqFind (vget s.blk.nv p) cq = none →
    s.blk.get .NV_CTL_RDY p.val ≠ 1 →
    ∃ t, exec (.cqHeadDoorbell p cq value) s = .next t ∧ t.blk.nv = s.blk.nv ∧ regsKept [.PX_DB_NOQ, .PX_LINK_STATE] s.blk t.blk ∧
      t.blk.get .PX_DB_NOQ p.val = min (s.blk.get .PX_DB_NOQ p.val + 1) (Field.max .PX_DB_NOQ))

/-- TRANSLATION_COMPLETION, INVALIDATION_REQUEST, INVALIDATE_COMPLETION, DOE_REQUEST, DOE_ABORT, FACTORY_UNLOCK_EXPIRY, CMB_WRITE
(R92, R504, R523 to R526): address translation, the DOE mailbox, factory unlock and the Controller Memory Buffer. -/
def Obligations.PortServicesComplete : Prop :=
  (∀ (s : State) (p : Port) (page : Nat) (read write needWrite : Bool) (sq cid : Nat), atsOn s.blk p = true →
    (if needWrite then write else read) = true →
    ∃ t, exec (.translationCompletion p page read write needWrite sq cid) s = .next t ∧ t.blk.regs = (touchLink s.blk p).regs ∧
      (vget t.blk.px p).ats = takeLast 512 ((vget s.blk.px p).ats.filter (fun e => e.page ≠ page) ++ [⟨page, read, write⟩])) ∧
  (∀ (s : State) (p : Port) (page pages : Nat), (vget s.blk.px p).invalidations.length < 32 →
    ∃ t, exec (.invalidationRequest p page pages) s = .next t ∧ t.blk.regs = (touchLink s.blk p).regs ∧
      (∀ e ∈ (vget t.blk.px p).ats, e.page < page ∨ page + pages ≤ e.page) ∧
      (vget t.blk.px p).invalidations = (vget s.blk.px p).invalidations ++ [(vget s.blk.px p).out.map (fun o => o.tag)]) ∧
  (∀ (s : State) (p : Port), [] ∈ (vget s.blk.px p).invalidations →
    ∃ t, exec (.invalidateCompletion p) s = .next t ∧ regsKept [.PX_ATS_INV, .PX_LINK_STATE] s.blk t.blk ∧
      t.blk.get .PX_ATS_INV p.val = min (s.blk.get .PX_ATS_INV p.val + 1) (Field.max .PX_ATS_INV) ∧
      (vget t.blk.px p).invalidations.length + 1 = (vget s.blk.px p).invalidations.length) ∧
  (∀ (s : State) (p : Port) (protocol : Fin 4) (length : Nat) (op : SpdmOp), onBus s.blk p = true →
    (16384 < length ∨ protocol = 3) →
    ∃ t, exec (.doeRequest p protocol length op) s = .next t ∧ (vget t.blk.px p).doe.error = true ∧
      (vget t.blk.px p).doe.busy = false ∧ (vget t.blk.px p).doe.sessions = (vget s.blk.px p).doe.sessions ∧
      t.blk.get .PX_DOE_OBJECTS p.val = min (s.blk.get .PX_DOE_OBJECTS p.val + 1) (Field.max .PX_DOE_OBJECTS) ∧
      regsKept [.PX_DOE_OBJECTS, .PX_LINK_STATE] s.blk t.blk) ∧
  (∀ (s : State) (p : Port) (protocol : Fin 4) (length : Nat) (op : SpdmOp), onBus s.blk p = true →
    length ≤ 16384 → protocol ≠ 3 →
    ∃ t, exec (.doeRequest p protocol length op) s = .next t ∧ (vget t.blk.px p).doe.error = false ∧
      (vget t.blk.px p).doe.ready = true ∧
      t.blk.get .PX_DOE_OBJECTS p.val = min (s.blk.get .PX_DOE_OBJECTS p.val + 1) (Field.max .PX_DOE_OBJECTS) ∧
      regsKept [.PX_DOE_OBJECTS, .PX_LINK_STATE] s.blk t.blk) ∧
  (∀ (s : State) (p : Port), onBus s.blk p = true →
    ∃ t, exec (.doeAbort p) s = .next t ∧ (vget t.blk.px p).doe.error = false ∧ (vget t.blk.px p).doe.ready = false ∧
      (vget t.blk.px p).doe.busy = false ∧ regsKept [.PX_DOE_ABORTS, .PX_LINK_STATE] s.blk t.blk ∧
      t.blk.get .PX_DOE_ABORTS p.val = min (s.blk.get .PX_DOE_ABORTS p.val + 1) (Field.max .PX_DOE_ABORTS)) ∧
  (∀ (s : State) (p : Port) (e : Nat), (vget s.blk.px p).unlockAt = some e → e ≤ s.blk.now →
    ∃ t, exec (.factoryUnlockExpiry p) s = .next t ∧ (vget t.blk.px p).unlockAt = none ∧
      t.blk = unlockOver (s.blk.onPx p (fun x => { x with unlockAt := none })) p) ∧
  (∀ (s : State) (p : Port) (off : Nat) (data : List Byte) (hdr : Nat), s.blk.get .PX_LINK_DSTATE p.val ≠ 3 →
    ∃ t, exec (.cmbWrite p off data false true hdr) s = .next t ∧ t.blk.regs = (touchLink s.blk p).regs ∧
      t.mem = storeBytes s.mem ((cmbShare s.blk p).1 + off) ((data.take 4096).take ((cmbShare s.blk p).2 - off)))

/-! ### Admin commands -/

/-- DELETE_IO_SUBMISSION_QUEUE, DELETE_IO_COMPLETION_QUEUE, CREATE_IO_SUBMISSION_QUEUE, CREATE_IO_COMPLETION_QUEUE (R545, R546,
R566, R571): queues made and taken away. -/
def Obligations.QueueAdminCompletes : Prop :=
  (∀ (s : State) (p : Port) (cid qid : Nat) (unfetched : List Nat) (q : SubQueue), AdminTaken s.blk p → qid ≠ 0 →
    sqFind (vget (adminBlock s.blk p).nv p) qid = some q →
    exec (.deleteIoSubmissionQueue p cid qid unfetched) s = .next { s with
      blk := qrecAll ((adminBlock s.blk p).onNv p (fun (c : Ctrl) => { c with
        qrec := c.qrec ++ [⟨cid, 2 ^ qid, 2 ^ 64, s.blk.now, unfetched.map (fun c => (qid, c)), false, false, [], 0, some qid⟩] })) }) ∧
  (∀ (s : State) (p : Port) (cid qid : Nat) (q : CompQueue), AdminTaken s.blk p → qid ≠ 0 →
    cqFind (vget (adminBlock s.blk p).nv p) qid = some q →
    (vget (adminBlock s.blk p).nv p).sqs.any (fun q => q.cq = qid) = false →
    ∃ t b, exec (.deleteIoCompletionQueue p cid qid) s = .next t ∧ t.blk = complete b p 0 cid .success ∧
      cqFind (vget b.nv p) qid = none ∧ b.regs = s.blk.regs) ∧
  (∀ (s : State) (p : Port) (cid qid size cqid : Nat) (prio : Fin 4) (q : CompQueue), AdminTaken s.blk p → 0 < qid →
    qid ≤ (grantedQueues s.blk p).1 → sqFind (vget s.blk.nv p) qid = none → 2 ≤ size → size ≤ 4096 → cqid ≠ 0 →
    cqFind (vget s.blk.nv p) cqid = some q →
    ∃ t b, exec (.createIoSubmissionQueue p cid qid size cqid prio true false) s = .next t ∧
      t.blk = complete b p 0 cid .success ∧ b.regs = s.blk.regs ∧
      sqFind (vget b.nv p) qid = some (newSq s.blk qid size cqid prio.val false)) ∧
  (∀ (s : State) (p : Port) (cid qid size vector : Nat) (ien : Bool), AdminTaken s.blk p → 0 < qid →
    qid ≤ (grantedQueues s.blk p).2 → cqFind (vget s.blk.nv p) qid = none → 2 ≤ size → size ≤ 4096 → vector ≤ 129 →
    ∃ t b, exec (.createIoCompletionQueue p cid qid size vector ien true) s = .next t ∧
      t.blk = complete b p 0 cid .success ∧ b.regs = s.blk.regs ∧
      cqFind (vget b.nv p) qid = some ⟨qid, size, vector, ien, [], 0, 0, 0⟩)

/-- GET_LOG_PAGE, IDENTIFY, ABORT, GET_FEATURES, ASYNCHRONOUS_EVENT_REQUEST, QUEUE_RECOVERY (R564 to R567, R571, R572, R602): the
other commands of the queues and the controller. QUEUE_RECOVERY's mask (R565): a mask of 0, with bit 0, or naming a queue that
does not exist is refused with Invalid Field in Command. -/
def Obligations.ControllerCommandsComplete : Prop :=
  (∀ (s : State) (p : Port) (cid nsid lid off len : Nat) (rae : Bool), AdminTaken s.blk p →
    (lid ∈ standardPages ∨ lid ∈ vendorPages) → off % 4 = 0 →
    exec (.getLogPage p cid nsid lid off len rae) s = .next { s with
      blk := complete (if rae then answerPage (adminBlock s.blk p) p lid nsid off len
        else pageRead (answerPage (adminBlock s.blk p) p lid nsid off len) p lid nsid) p 0 cid .success }) ∧
  (∀ (s : State) (p : Port) (cid cns nsid csi cntid : Nat), AdminTaken s.blk p →
    (identifyData (adminBlock s.blk p) p cns nsid csi cntid).1 = .success →
    exec (.identify p cid cns nsid csi cntid) s = .next { s with
      blk := complete ((adminBlock s.blk p).answer (.data (identifyData (adminBlock s.blk p) p cns nsid csi cntid).2)) p 0 cid
        .success }) ∧
  (∀ (s : State) (p : Port) (cid sq target : Nat) (c : Cmd), AdminTaken s.blk p → sq ≠ 0 →
    cmdFind (adminBlock s.blk p) p sq target = some c → fullyReceived c = false → c.cid < noCompletion →
    exec (.abort p cid sq target) s = .next { s with
      blk := abortEnded (abortCmd (adminBlock s.blk p) c .abortRequested) p cid }) ∧
  (∀ (s : State) (p : Port) (cid sq target : Nat), AdminTaken s.blk p → sq ≠ 0 →
    cmdFind (adminBlock s.blk p) p sq target = none →
    exec (.abort p cid sq target) s = .next { s with
      blk := complete ((adminBlock s.blk p).bump .NV_ABORT_COUNT p.val) p 0 cid .success 1 }) ∧
  (∀ (s : State) (p : Port) (cid fid sel : Nat), AdminTaken s.blk p → supportedFeature fid = true → fid ≠ 0x04 →
    namespaceFeature fid = false →
    exec (.getFeatures p cid fid sel 0) s = .next { s with
      blk := complete ((adminBlock s.blk p).answer (featureData (adminBlock s.blk p) p fid)) p 0 cid .success
        (featureDword (adminBlock s.blk p) p fid sel) }) ∧
  (∀ (s : State) (p : Port) (cid : Nat), AdminTaken s.blk p → (vget s.blk.nv p).aers.length < 8 → (vget s.blk.nv p).events = [] →
    ∃ t, exec (.asynchronousEventRequest p cid) s = .next t ∧ (vget t.blk.nv p).aers = (vget s.blk.nv p).aers ++ [cid] ∧
      t.blk.regs = s.blk.regs ∧ t.blk.nvm = s.blk.nvm ∧ t.mem = s.mem) ∧
  (∀ (s : State) (p : Port) (cid : Nat), AdminTaken s.blk p → 8 ≤ (vget s.blk.nv p).aers.length →
    exec (.asynchronousEventRequest p cid) s = .next { s with blk := complete (adminBlock s.blk p) p 0 cid .asyncLimit }) ∧
  (∀ (s : State) (p : Port) (cid mask : Nat) (unfetched : List (Nat × Nat)), AdminTaken s.blk p →
    maskOk (adminBlock s.blk p) p mask = true →
    exec (.queueRecovery p cid mask unfetched) s = .next { s with
      blk := qrecAll ((adminBlock s.blk p).onNv p (fun (c : Ctrl) => { c with
        qrec := c.qrec ++ [⟨cid, mask % 2 ^ 128, (adminStamp s.blk p).1, s.blk.now, unfetched, false, false, [], 0, none⟩] })) }) ∧
  (∀ (s : State) (p : Port) (cid mask : Nat) (unfetched : List (Nat × Nat)), AdminTaken s.blk p →
    (mask % 2 ^ 128 = 0 ∨ mask.testBit 0 = true ∨
      ∃ q ∈ List.range 128, mask.testBit q = true ∧ sqFind (vget s.blk.nv p) q = none) →
    exec (.queueRecovery p cid mask unfetched) s = .next { s with blk := complete (adminBlock s.blk p) p 0 cid .invalidField })

/-- SET_FEATURES_* (R108, R136, R545, R546, R552, R556, R568, R570, R572, R609, R627): each feature takes its value, and the command
completes. -/
def Obligations.FeaturesComplete : Prop :=
  (∀ (s : State) (p : Port) (cid : Nat) (v : Word) (save : Bool), AdminTaken s.blk p →
    ∃ t b, exec (.setFeaturesArbitration p cid v save) s = .next t ∧ t.blk = complete b p 0 cid .success ∧
      b.nv = ((keepFeature (adminBlock s.blk p) p 0x01 0 v.toNat save).onNv p (fun c => { c with credits := [] })).nv ∧
      b.regs = s.blk.regs) ∧
  (∀ (s : State) (p : Port) (cid ps hint : Nat) (save : Bool), AdminTaken s.blk p → ps ≤ 4 →
    ∃ t b, exec (.setFeaturesPowerManagement p cid ps hint save) s = .next t ∧
      t.blk = complete (refreshWarnings (powerEval b 0x01)) p 0 cid .success ∧ requestOf b p = ps ∧
      requestOf b (1 - p) = requestOf s.blk (1 - p)) ∧
  (∀ (s : State) (p : Port) (cid sensor : Nat) (under : Bool) (v : Nat) (save : Bool), AdminTaken s.blk p → sensor ≤ 8 →
    exec (.setFeaturesTemperatureThreshold p cid sensor under v save) s = .next { s with
      blk := complete (refreshTemperature (keepFeature (adminBlock s.blk p) p 0x04 (2 * sensor + (if under then 1 else 0)) (v % 65536)
        save)) p 0 cid .success }) ∧
  (∀ (s : State) (p : Port) (cid : Nat), AdminTaken s.blk p →
    exec (.setFeaturesErrorRecovery p cid 0 false false) s = .next { s with
      blk := complete (setFeat (adminBlock s.blk p) p 0x05 0 0) p 0 cid .success }) ∧
  (∀ (s : State) (p : Port) (cid nsq ncq : Nat), AdminTaken s.blk p → nsq < 65535 → ncq < 65535 → (vget s.blk.nv p).granted = none →
    ∃ t b, exec (.setFeaturesNumberOfQueues p cid nsq ncq false) s = .next t ∧
      t.blk = complete b p 0 cid .success (min ncq 126 * 65536 + min nsq 126) ∧
      (vget b.nv p).granted = some (min nsq 126 + 1, min ncq 126 + 1) ∧ b.regs = s.blk.regs) ∧
  (∀ (s : State) (p : Port) (cid time threshold : Nat) (save : Bool), AdminTaken s.blk p →
    exec (.setFeaturesInterruptCoalescing p cid time threshold save) s = .next { s with
      blk := complete (keepFeature (adminBlock s.blk p) p 0x08 0 (time % 256 * 256 + threshold % 256) save) p 0 cid .success }) ∧
  (∀ (s : State) (p : Port) (cid vector : Nat) (disable : Bool), AdminTaken s.blk p → 1 ≤ vector → vector ≤ 129 →
    exec (.setFeaturesInterruptVectorConfig p cid vector disable false) s = .next { s with
      blk := complete (setFeat (adminBlock s.blk p) p 0x09 vector disable.toNat) p 0 cid .success }) ∧
  (∀ (s : State) (p : Port) (cid : Nat) (v : Word) (save : Bool), AdminTaken s.blk p →
    exec (.setFeaturesAsyncEventConfig p cid v save) s = .next { s with
      blk := complete (keepFeature (adminBlock s.blk p) p 0x0B 0 v.toNat save) p 0 cid .success }) ∧
  (∀ (s : State) (p : Port) (cid : Nat) (enable : Bool) (table : List (Nat × Nat)) (save : Bool), AdminTaken s.blk p →
    table.length ≤ 5 → table.all apstEntryOk = true →
    ∃ t b, exec (.setFeaturesApst p cid enable table save) s = .next t ∧ t.blk = complete b p 0 cid .success ∧
      b.regs = s.blk.regs ∧ feat b p 0x0C 0 = enable.toNat ∧
      feat b p 0x0C 3 = (table.getD 2 (0, 0)).1 % 2 ^ 24 * 256 + (table.getD 2 (0, 0)).2 % 32 * 8) ∧
  (∀ (s : State) (p : Port) (cid ms : Nat), AdminTaken s.blk p → (hostTimestamp s.blk).getD 0 ≤ ms % 2 ^ 48 →
    ∃ t b, exec (.setFeaturesTimestamp p cid ms false) s = .next t ∧ t.blk = complete b p 0 cid .success ∧
      b.sys.hostTs = some (ms % 2 ^ 48) ∧ b.sys.hostTsAt = s.blk.now ∧ b.regs = s.blk.regs ∧ b.sep = s.blk.sep) ∧
  (∀ (s : State) (p : Port) (cid id : Nat), AdminTaken s.blk p →
    ((vget s.blk.nv p).hostId = 0 ∨ (vget s.blk.nv p).hostId = id % 2 ^ 128) →
    ∃ t b, exec (.setFeaturesHostIdentifier p cid true id false) s = .next t ∧ t.blk = complete b p 0 cid .success ∧
      (vget b.nv p).hostId = id % 2 ^ 128 ∧ b.regs = s.blk.regs) ∧
  (∀ (s : State) (p : Port) (cid nsid mask : Nat) (save : Bool), AdminTaken s.blk p →
    featureNamespaces (adminBlock s.blk p) p nsid ≠ [] →
    exec (.setFeaturesReservationNotifMask p cid nsid mask save) s = .next { s with
      blk := complete ((featureNamespaces (adminBlock s.blk p) p nsid).foldl (fun b n => keepFeature b p 0x82 n (mask % 2 ^ 32) save)
        (adminBlock s.blk p)) p 0 cid .success }) ∧
  (∀ (s : State) (p : Port) (cid nsid : Nat) (ptpl save : Bool) (n : Namespace), AdminTaken s.blk p → nsid ≠ 0xFFFFFFFF →
    nsAttached s.blk p nsid = some n →
    ∃ t b, exec (.setFeaturesReservationPersistence p cid nsid ptpl save) s = .next t ∧ t.blk = complete b p 0 cid .success ∧
      nsFind b nsid = some { n with ptpl := ptpl } ∧ b.regs = s.blk.regs) ∧
  (∀ (s : State) (p : Port) (cid : Nat), AdminTaken s.blk p →
    exec (.setFeaturesVolatileWriteCache p cid) s = .next { s with
      blk := complete (adminBlock s.blk p) p 0 cid .invalidField }) ∧
  (∀ (s : State) (p : Port) (cid v : Nat) (save : Bool), AdminTaken s.blk p → v ≤ 1 →
    exec (.setFeaturesJobEventRouting p cid v save) s = .next { s with
      blk := complete (keepFeature (adminBlock s.blk p) p 0xC0 0 v save) p 0 cid .success }) ∧
  (∀ (s : State) (p : Port) (cid v : Nat) (save : Bool), AdminTaken s.blk p → 50 ≤ v → v ≤ 100 →
    exec (.setFeaturesHealthNoticeThreshold p cid v save) s = .next { s with
      blk := complete (keepFeature (adminBlock s.blk p) p 0xC1 0 v save) p 0 cid .success })

/-- NAMESPACE_CREATE, NAMESPACE_DELETE, NAMESPACE_ATTACH, NAMESPACE_DETACH, FORMAT_NVM, SECURITY_SEND, SECURITY_RECEIVE,
SANITIZE_CRYPTO_ERASE (R89, R569, R571, R590, R591). The bytes that SECURITY_RECEIVE answers are open: the statement says how
many. -/
def Obligations.NamespacesComplete : Prop :=
  (∀ (s : State) (p : Port) (cid csi nsze flbas dps nmic profile nsid : Nat) (c : Block), AdminTaken s.blk p →
    freeNsid (adminBlock s.blk p) = some nsid → createFieldsOk csi nsze nsze flbas dps profile = true → flbas % 16 ≤ 1 →
    profile + 2 ≤ (activeSurfs (adminBlock s.blk p)).length → (csi = 0 → profile + 2 ≤ s.blk.cfgN .XLT_CONV_WIDTH) →
    withNamespace (adminBlock s.blk p) ⟨nsid, decide (csi = 2), profile, nsze, decide (flbas % 16 = 1), dps, bit nmic 0, 0, 0, [],
      none, 0, false⟩ = some c → finalReserve c + c.cfgN .XLT_RO_HYST ≤ freeBands c →
    exec (.namespaceCreate p cid csi nsze nsze flbas dps nmic profile) s = .next { s with
      blk := complete (evalSpace (rekey c nsid)) p 0 cid .success nsid }) ∧
  (∀ (s : State) (p : Port) (cid nsid : Nat) (n : Namespace), AdminTaken s.blk p → nsid ≠ 0xFFFFFFFF →
    nsFind (adminBlock s.blk p) nsid = some n →
    exec (.namespaceDelete p cid nsid) s = .next { s with
      blk := waitFor (detachFrom (adminBlock s.blk p) n.nsid n.attached) ⟨p, cid, nsid, 3, .delete⟩ }) ∧
  (∀ (s : State) (p : Port) (cid nsid mask : Nat) (ids : List Nat) (n : Namespace), AdminTaken s.blk p →
    nsFind s.blk nsid = some n → ctrlMask (adminBlock s.blk p) ids = some mask →
    n.attached &&& mask = 0 → (n.shared = true ∨ n.attached ||| mask ≠ 3) →
    ∃ t b, exec (.namespaceAttach p cid nsid ids) s = .next t ∧ t.blk = complete (nsNotice b mask nsid) p 0 cid .success ∧
      nsFind b nsid = some { n with attached := n.attached ||| mask } ∧ b.regs = s.blk.regs) ∧
  (∀ (s : State) (p : Port) (cid nsid mask : Nat) (ids : List Nat) (n : Namespace), AdminTaken s.blk p →
    nsFind (adminBlock s.blk p) nsid = some n → ctrlMask (adminBlock s.blk p) ids = some mask → n.attached &&& mask = mask →
    exec (.namespaceDetach p cid nsid ids) s = .next { s with
      blk := waitFor (detachFrom (adminBlock s.blk p) nsid mask) ⟨p, cid, nsid, mask, .detach⟩ }) ∧
  (∀ (s : State) (p : Port) (cid nsid lbaf ses dps : Nat) (n : Namespace), AdminTaken s.blk p → nsid ≠ 0xFFFFFFFF →
    nsFind (adminBlock s.blk p) nsid = some n → ses ≤ 2 → lbaf ≤ 1 → dpsOk lbaf dps = true →
    reservationConflict (adminBlock s.blk p) p n true = false →
    exec (.formatNvm p cid nsid lbaf ses dps) s = .next { s with
      blk := waitFor (adminBlock s.blk p) ⟨p, cid, nsid, 3, .format (decide (lbaf = 1)) dps
        (decide (ses = 2) || (decide (ses = 1) && decide ((adminBlock s.blk p).cfgN .SEC_FMT_CRYPTO = 1)))⟩ }) ∧
  (∀ (s : State) (p : Port) (cid protocol len : Nat), AdminTaken s.blk p →
    exec (.securitySend p cid protocol len) s = .next { s with blk := complete (adminBlock s.blk p) p 0 cid .success }) ∧
  (∀ (s : State) (p : Port) (cid protocol len : Nat), AdminTaken s.blk p →
    ∃ t b l, exec (.securityReceive p cid protocol len) s = .next t ∧ t.blk = complete b p 0 cid .success ∧
      b.sys.reply = .bytes l ∧ l.length = len ∧ (∀ x ∈ l, x < 256) ∧ b.regs = s.blk.regs) ∧
  (∀ (s : State) (p : Port) (cid : Nat), AdminTaken s.blk p →
    exec (.sanitizeCryptoErase p cid) s = .next { s with
      blk := waitFor (adminBlock s.blk p) ⟨p, cid, 0xFFFFFFFF, 3, .sanitize⟩ })

/-- FIRMWARE_IMAGE_DOWNLOAD, FIRMWARE_COMMIT_REPLACE, FIRMWARE_COMMIT_REPLACE_ACTIVATE, FIRMWARE_COMMIT_ACTIVATE,
FIRMWARE_COMMIT_IMMEDIATE, ACTIVATION_PHASE_END (R79 to R86). Whether a commit's parts are refused rests on a signature check
that the model leaves open, so the statement says both outcomes. -/
def Obligations.FirmwareCompletes : Prop :=
  (∀ (s : State) (p : Port) (cid off len : Nat) (parts : Package), AdminTaken s.blk p → off = s.blk.fcs.stagedNext →
    0 < len → len % 4096 = 0 → off + len ≤ 28 * 1048576 →
    ∃ t b, exec (.firmwareImageDownload p cid off len parts) s = .next t ∧ t.blk = complete b p 0 cid .success ∧
      b.fcs.stagedNext = off + len ∧ b.fcs.staged = ⟨parts.fw <|> s.blk.fcs.staged.fw, parts.img <|> s.blk.fcs.staged.img⟩ ∧
      b.fcs.banks = s.blk.fcs.banks) ∧
  (∀ (s : State) (p : Port) (cid slot : Nat) (k : Fin 2) (fw : FwPart) (m : Image), AdminTaken s.blk p →
    packageStaged s.blk = true → slotBank (adminBlock s.blk p) slot = some k → slotRefused (adminBlock s.blk p) k = false →
    s.blk.fcs.activation = none → commitRuns (adminBlock s.blk p) = false →
    commitParts (adminBlock s.blk p) k true = some (fw, m) →
    exec (.firmwareCommitReplace p cid slot) s = .next { s with
      blk := (partsRefused (adminBlock s.blk p) fw m (adminBlock s.blk p).fcs.staged.fw.isSome).elim
        (queueFcs { adminBlock s.blk p with fcs := { (adminBlock s.blk p).fcs with staged := ⟨none, none⟩, stagedNext := 0 } }
          (.commit (some (p, cid)) k fw m 0))
        (fun st => complete (adminBlock s.blk p) p 0 cid st) } ∧
    exec (.firmwareCommitReplaceActivate p cid slot) s = .next { s with
      blk := (partsRefused (adminBlock s.blk p) fw m (adminBlock s.blk p).fcs.staged.fw.isSome).elim
        (queueFcs { adminBlock s.blk p with fcs := { (adminBlock s.blk p).fcs with staged := ⟨none, none⟩, stagedNext := 0 } }
          (.commit (some (p, cid)) k fw m 1))
        (fun st => complete (adminBlock s.blk p) p 0 cid st) } ∧
    ∃ t, exec (.firmwareCommitImmediate p cid slot) s = .next t ∧
      t.blk = (partsRefused (adminBlock s.blk p) fw m (adminBlock s.blk p).fcs.staged.fw.isSome).elim
        (queueFcs { adminBlock s.blk p with fcs := { (adminBlock s.blk p).fcs with staged := ⟨none, none⟩, stagedNext := 0 } }
          (.commit (some (p, cid)) k fw m 3))
        (fun st => complete (adminBlock s.blk p) p 0 cid st)) ∧
  (∀ (s : State) (p : Port) (cid slot : Nat) (k : Fin 2) (fw : FwPart) (m : Image), AdminTaken s.blk p →
    slotBank (adminBlock s.blk p) slot = some k → slotRefused (adminBlock s.blk p) k = false →
    s.blk.fcs.activation = none → commitRuns (adminBlock s.blk p) = false →
    commitParts (adminBlock s.blk p) k false = some (fw, m) →
    exec (.firmwareCommitActivate p cid slot) s = .next { s with
      blk := (partsRefused (adminBlock s.blk p) fw m true).elim (complete (armBank (adminBlock s.blk p) k) p 0 cid .success)
        (fun st => complete (adminBlock s.blk p) p 0 cid st) }) ∧
  (∀ (s : State) (p : Port) (cid slot : Nat) (k : Fin 2) (fw : FwPart) (m : Image), AdminTaken s.blk p →
    slotBank (adminBlock s.blk p) slot = some k → slotRefused (adminBlock s.blk p) k = false → s.blk.fcs.activation = none →
    commitRuns (adminBlock s.blk p) = false → packageStaged s.blk = false →
    commitParts (adminBlock s.blk p) k false = some (fw, m) →
    ∃ t, exec (.firmwareCommitImmediate p cid slot) s = .next t ∧
      t.blk = (partsRefused (adminBlock s.blk p) fw m true).elim (beginActivation (adminBlock s.blk p) k (some (p, 0, cid)))
        (fun st => complete (adminBlock s.blk p) p 0 cid st)) ∧
  (∀ (s : State) (v : Activation), s.blk.fcs.activation = some v → v.phase = 1 → s.blk.fcs.op = none →
    ∃ t, exec (.activationPhaseEnd true) s = .next t ∧
      t.blk = (if bankCheck s.blk (vget s.blk.fcs.banks v.bank) ≠ 0 then rollback s.blk v else setPhase (stopNimbus s.blk) v 2 0)) ∧
  (∀ (s : State) (v : Activation), s.blk.fcs.activation = some v → v.phase = 4 →
    ∃ t, exec (.activationPhaseEnd true) s = .next t ∧ t.blk = setPhase (swapSpindle s.blk v.bank) v 5 0) ∧
  (∀ (s : State) (v : Activation), s.blk.fcs.activation = some v → s.blk.fcs.op = none →
    ∃ t, exec (.activationPhaseEnd false) s = .next t ∧ t.blk = rollback s.blk v)

/-! ### Jobs -/

/-- START_JOB_* (R203, R266, R391, R445, R446, R592 to R594, R657, R662): a job with valid fields, an existing target and no
conflict is queued in the slot taken, and its handle is returned; one with a reserved field set is refused. -/
def Obligations.StartJobsComplete : Prop :=
  (∀ (s : State) (p : Port) (cid nsid d12 d13 d14 slot gen : Nat), AdminTaken s.blk p → jobFieldsOk 1 nsid d12 d13 d14 = true →
    jobTargetOk (adminBlock s.blk p) 1 nsid d12 = true → jobConflicts (adminBlock s.blk p) 1 nsid = false →
    takeSlot (adminBlock s.blk p) = some (slot, gen) →
    exec (.startJobMediaPatrol p cid nsid d12 d13 d14 0) s = .next { s with
      blk := complete (queueJob (adminBlock s.blk p) p 1 nsid [d12, d13, d14] slot gen) p 0 cid .success (gen * 65536 + slot) }) ∧
  (∀ (s : State) (p : Port) (cid nsid d12 d13 d14 slot gen : Nat), AdminTaken s.blk p → jobFieldsOk 2 nsid d12 d13 d14 = true →
    jobTargetOk (adminBlock s.blk p) 2 nsid d12 = true → jobConflicts (adminBlock s.blk p) 2 nsid = false →
    takeSlot (adminBlock s.blk p) = some (slot, gen) →
    exec (.startJobSurfaceRetire p cid nsid d12 d13 d14 0) s = .next { s with
      blk := complete (queueJob (adminBlock s.blk p) p 2 nsid [d12, d13, d14] slot gen) p 0 cid .success (gen * 65536 + slot) }) ∧
  (∀ (s : State) (p : Port) (cid nsid d12 d13 d14 slot gen : Nat), AdminTaken s.blk p → jobFieldsOk 3 nsid d12 d13 d14 = true →
    jobTargetOk (adminBlock s.blk p) 3 nsid d12 = true → jobConflicts (adminBlock s.blk p) 3 nsid = false →
    takeSlot (adminBlock s.blk p) = some (slot, gen) →
    exec (.startJobParityRebuild p cid nsid d12 d13 d14 0) s = .next { s with
      blk := complete (queueJob (adminBlock s.blk p) p 3 nsid [d12, d13, d14] slot gen) p 0 cid .success (gen * 65536 + slot) }) ∧
  (∀ (s : State) (p : Port) (cid nsid d12 d13 d14 slot gen : Nat), AdminTaken s.blk p → jobFieldsOk 4 nsid d12 d13 d14 = true →
    jobTargetOk (adminBlock s.blk p) 4 nsid d12 = true → jobConflicts (adminBlock s.blk p) 4 nsid = false →
    takeSlot (adminBlock s.blk p) = some (slot, gen) →
    exec (.startJobActuatorRecalibration p cid nsid d12 d13 d14 0) s = .next { s with
      blk := complete (queueJob (adminBlock s.blk p) p 4 nsid [d12, d13, d14] slot gen) p 0 cid .success (gen * 65536 + slot) }) ∧
  (∀ (s : State) (p : Port) (cid nsid d12 d13 d14 slot gen : Nat), AdminTaken s.blk p → jobFieldsOk 5 nsid d12 d13 d14 = true →
    jobTargetOk (adminBlock s.blk p) 5 nsid d12 = true → jobConflicts (adminBlock s.blk p) 5 nsid = false →
    takeSlot (adminBlock s.blk p) = some (slot, gen) →
    exec (.startJobAssistRecharacterise p cid nsid d12 d13 d14 0) s = .next { s with
      blk := complete (queueJob (adminBlock s.blk p) p 5 nsid [d12, d13, d14] slot gen) p 0 cid .success (gen * 65536 + slot) }) ∧
  (∀ (s : State) (p : Port) (cid nsid d12 d13 d14 slot gen : Nat), AdminTaken s.blk p → jobFieldsOk 6 nsid d12 d13 d14 = true →
    jobTargetOk (adminBlock s.blk p) 6 nsid d12 = true → jobConflicts (adminBlock s.blk p) 6 nsid = false →
    takeSlot (adminBlock s.blk p) = some (slot, gen) →
    exec (.startJobConventionalCompact p cid nsid d12 d13 d14 0) s = .next { s with
      blk := complete (queueJob (adminBlock s.blk p) p 6 nsid [d12, d13, d14] slot gen) p 0 cid .success (gen * 65536 + slot) }) ∧
  (∀ (s : State) (p : Port) (cid nsid d12 d13 d14 slot gen : Nat), AdminTaken s.blk p → jobFieldsOk 7 nsid d12 d13 d14 = true →
    jobTargetOk (adminBlock s.blk p) 7 nsid d12 = true → jobConflicts (adminBlock s.blk p) 7 nsid = false →
    takeSlot (adminBlock s.blk p) = some (slot, gen) →
    exec (.startJobSepiaExtract p cid nsid d12 d13 d14 0) s = .next { s with
      blk := complete (queueJob (adminBlock s.blk p) p 7 nsid [d12, d13, d14] slot gen) p 0 cid .success (gen * 65536 + slot) }) ∧
  (∀ (s : State) (p : Port) (cid nsid d12 d13 d14 slot gen : Nat), AdminTaken s.blk p → jobFieldsOk 8 nsid d12 d13 d14 = true →
    jobTargetOk (adminBlock s.blk p) 8 nsid d12 = true → jobConflicts (adminBlock s.blk p) 8 nsid = false →
    takeSlot (adminBlock s.blk p) = some (slot, gen) →
    exec (.startJobExtendedSelfTest p cid nsid d12 d13 d14 0) s = .next { s with
      blk := complete (queueJob (adminBlock s.blk p) p 8 nsid [d12, d13, d14] slot gen) p 0 cid .success (gen * 65536 + slot) }) ∧
  (∀ (s : State) (p : Port) (cid nsid d12 d13 d14 rsvd : Nat), AdminTaken s.blk p → rsvd ≠ 0 → exec (.startJobMediaPatrol p cid nsid
    d12 d13 d14 rsvd) s = .next { s with blk := complete (adminBlock s.blk p) p 0 cid .invalidField } ∧ exec (.startJobSurfaceRetire
    p cid nsid d12 d13 d14 rsvd) s = .next { s with blk := complete (adminBlock s.blk p) p 0 cid .invalidField } ∧ exec
    (.startJobParityRebuild p cid nsid d12 d13 d14 rsvd) s = .next { s with
      blk := complete (adminBlock s.blk p) p 0 cid .invalidField } ∧ exec (.startJobActuatorRecalibration p cid nsid d12 d13 d14
    rsvd) s = .next { s with blk := complete (adminBlock s.blk p) p 0 cid .invalidField } ∧ exec (.startJobAssistRecharacterise p
    cid nsid d12 d13 d14 rsvd) s = .next { s with blk := complete (adminBlock s.blk p) p 0 cid .invalidField } ∧ exec
    (.startJobConventionalCompact p cid nsid d12 d13 d14 rsvd) s = .next { s with
      blk := complete (adminBlock s.blk p) p 0 cid .invalidField } ∧ exec (.startJobSepiaExtract p cid nsid d12 d13 d14 rsvd) s =
    .next { s with blk := complete (adminBlock s.blk p) p 0 cid .invalidField } ∧ exec (.startJobExtendedSelfTest p cid nsid d12 d13
    d14 rsvd) s = .next { s with blk := complete (adminBlock s.blk p) p 0 cid .invalidField })

/-- START_JOB_* (R598): the slot taken is below 64, its generation is 1 to 0xFFFF and never 0, and it never held a job or holds one
that has ended; the queued job is the last one of that slot, and no other slot changes. -/
def Obligations.JobSlots : Prop :=
  ∀ (b : Block) (p : Port) (type nsid : Nat) (params : List Nat) (slot gen : Nat), (∀ j ∈ b.nvm.jobs, j.slot < 64) →
    takeSlot b = some (slot, gen) →
    slot < 64 ∧ 1 ≤ gen ∧ gen ≤ 65535 ∧ (slotJob b slot = none ∧ gen = 1 ∨ ∃ j ∈ b.nvm.jobs, j.slot = slot ∧ j.state = 4) ∧
      (∃ j, slotJob (queueJob b p type nsid params slot gen) slot = some j ∧ j.state = 1 ∧ j.gen = gen ∧ j.type = type ∧ j.ctrl = p) ∧
      ∀ k, k ≠ slot → slotJob (queueJob b p type nsid params slot gen) k = slotJob b k

/-- QUERY_JOB, CANCEL_JOB, JOB_RUNNING, JOB_CANCEL_STOP, JOB_ENDED, CALIBRATION_RUN_END, DEVICE_SELF_TEST_SHORT,
DEVICE_SELF_TEST_EXTENDED (R76, R445, R592 to R600, R657, R662): how jobs run, are asked after, and end. The progress of a
running job and the estimated time are open, and the statement names neither. -/
def Obligations.JobsComplete : Prop :=
  (∀ (s : State) (p : Port) (cid handle : Nat) (j : Job), AdminTaken s.blk p → jobFind (adminBlock s.blk p) handle = some j →
    j.state = 4 →
    ∃ t b, exec (.queryJob p cid handle 0) s = .next t ∧ b.regs = s.blk.regs ∧ b.nvm = s.blk.nvm ∧
      t.blk = complete b p 0 cid .success (4 * 2 ^ 24 + j.result * 65536 + j.progress) 0) ∧
  (∀ (s : State) (p : Port) (cid handle : Nat) (j : Job), AdminTaken s.blk p → jobFind (adminBlock s.blk p) handle = some j →
    j.state = 2 →
    ∃ t b n e, exec (.queryJob p cid handle 0) s = .next t ∧ b.regs = s.blk.regs ∧ b.nvm = s.blk.nvm ∧ n ≤ 10000 ∧
      t.blk = complete b p 0 cid .success (2 * 2 ^ 24 + 0xFF * 65536 + n) e) ∧
  (∀ (s : State) (p : Port) (cid handle : Nat), AdminTaken s.blk p → jobFind (adminBlock s.blk p) handle = none →
    exec (.queryJob p cid handle 0) s = .next { s with blk := complete (adminBlock s.blk p) p 0 cid .jobNotFound } ∧
    exec (.cancelJob p cid handle 0) s = .next { s with blk := complete (adminBlock s.blk p) p 0 cid .jobNotFound }) ∧
  (∀ (s : State) (p : Port) (cid handle : Nat) (j : Job), AdminTaken s.blk p → jobFind (adminBlock s.blk p) handle = some j →
    exec (.cancelJob p cid handle 0) s = .next { s with
      blk := if j.state = 4 then complete (adminBlock s.blk p) p 0 cid .jobEnded
        else complete (putJob (adminBlock s.blk p) { j with state := 3 }) p 0 cid .success }) ∧
  (∀ (s : State) (slot : Nat) (j : Job), slotJob s.blk slot = some j → j.state = 1 → j.type = 1 → s.blk.fcs.activation = none →
    (∀ k ∈ s.blk.nvm.jobs, k.state ≠ 2 ∧ k.state ≠ 3) →
    exec (.jobRunning slot) s = .next { s with
      blk := (putJob s.blk { j with state := 2 }).onNvm (fun n => { n with patrol := patrolList s.blk j.nsid }) }) ∧
  (∀ (s : State) (slot : Nat) (j : Job), slotJob s.blk slot = some j → j.state = 1 → j.type = 4 → s.blk.fcs.activation = none →
    (∀ k ∈ s.blk.nvm.jobs, k.state ≠ 2 ∧ k.state ≠ 3) →
    exec (.jobRunning slot) s = .next { s with blk := holdActuator s.blk j (jobTakes j) }) ∧
  (∀ (s : State) (slot : Nat) (j : Job), slotJob s.blk slot = some j → j.state = 3 → j.type = 3 → jobAct j = none →
    exec (.jobCancelStop slot) s = .next { s with blk := endJob (dropRebuild s.blk) j 2 }) ∧
  (∀ (s : State) (slot : Nat) (j : Job) (rs : List CalResult), slotJob s.blk slot = some j → j.state = 2 →
    j.type = 1 → patrolInHand s.blk = false → s.blk.nvm.patrol = [] →
    exec (.jobEnded slot rs) s = .next { s with blk := endJob (dropPatrol s.blk) j 0 }) ∧
  (∀ (s : State) (slot : Nat) (j : Job) (rs : List CalResult), slotJob s.blk slot = some j → j.state = 2 →
    j.type = 3 → rebuildRows s.blk j.nsid false = [] →
    exec (.jobEnded slot rs) s = .next { s with
      blk := endJob s.blk { j with countB := (rebuildRows s.blk j.nsid true).length }
        (if (rebuildRows s.blk j.nsid true).length = 0 then 0 else 1) }) ∧
  (∀ (s : State) (rs : List CalResult), s.blk.mode ≠ .run → s.blk.get .SYS_CALCTL_BUSY 0 = 1 → ∃ t b ok, exec (.calibrationRunEnd
    rs) s = .next t ∧ ok = calAccepted s.blk (rs.filter (fun r => bit s.blk.fcs.calItems r.item)) ∧ t.blk = afterCalibration b
    (ok.map (fun r => (r.item, r.subject))) ∧ b.fcs.calPort = none ∧ b.get .SYS_CALCTL_BUSY 0 = 0 ∧ b.get .SYS_CALCTL_START 0 = 0 ∧
    b.get .SYS_CALCTL_FAIL 0 = (if (List.range 7).any (fun i => bit s.blk.fcs.calItems i && itemFailed s.blk ok i) = true then 1
    else 0)) ∧
  (∀ (s : State) (p : Port) (cid : Nat), AdminTaken s.blk p → selfTesting (adminBlock s.blk p) = false →
    (adminBlock s.blk p).mode = .run →
    (∀ a ∈ List.finRange 4, (adminBlock s.blk p).populated a = true →
      nimSuspend (adminBlock s.blk p) 2 a.val = 0 ∧ loaded (adminBlock s.blk p) a = true) →
    exec (.deviceSelfTestShort p cid 0 0) s = .next { s with
      blk := complete (enterSelfTest (((List.finRange 4).filter (fun a => (adminBlock s.blk p).populated a)).foldl (fun b a =>
        testRun (testRun b 2 a.val false) 4 (firstHead b a) false) (adminBlock s.blk p)) p 1 0) p 0 cid .success }) ∧
  (∀ (s : State) (p : Port) (cid : Nat) (loopFail clearFail : Fin 16), AdminTaken s.blk p →
    selfTesting (adminBlock s.blk p) = false → (adminBlock s.blk p).mode ≠ .run →
    (∃ a ∈ List.finRange 4, (adminBlock s.blk p).populated a = true) →
    exec (.deviceSelfTestShort p cid loopFail clearFail) s = .next { s with
      blk := complete (enterSelfTest (adminBlock s.blk p) p 1 8) p 0 cid .success }) ∧
  (∀ (s : State) (p : Port) (cid slot gen : Nat), AdminTaken s.blk p → selfTesting (adminBlock s.blk p) = false →
    takeSlot (adminBlock s.blk p) = some (slot, gen) →
    exec (.deviceSelfTestExtended p cid) s = .next { s with
      blk := complete (queueJob (adminBlock s.blk p) p 8 0 [0, 0, 0, 0, 1] slot gen) p 0 cid .success })

/-! ### I/O commands -/

/-- FLUSH, WRITE, READ, VERIFY, WRITE_ZEROES, COPY, DATASET_MANAGEMENT_DEALLOCATE, ZONE_APPEND (R383, R404, R555, R556, R573, R587):
a command that passes its checks enters execution with the block as it was when it was taken, a write behind a zone action is
checked later (R586), and Flush completes at once. -/
def Obligations.IoCommandsComplete : Prop :=
  (∀ (s : State) (p : Port) (sq cid nsid : Nat) (n : Namespace), IoTaken s.blk p sq cid nsid n →
    exec (.flush p sq cid nsid) s = .next { s with
      blk := complete (ioBlock s.blk p sq) p sq cid .success }) ∧
  (∀ (s : State) (p : Port) (sq cid nsid : Nat) (n : Namespace) (slba nlb : Nat) (cmb : Option Nat), IoTaken s.blk p sq cid nsid n →
    (ioBlock s.blk p sq).pwr.spinupFailed = false → 1 ≤ nlb → nlb ≤ 512 → cmbFits (ioBlock s.blk p sq) p n nlb cmb = true →
    (n.zoned = true → checkedLater (ioBlock s.blk p sq) (ioBlock s.blk p sq).nvm.cmds
      { newCmd (ioBlock s.blk p sq) p sq cid (ioStamp s.blk p sq) .write nsid slba nlb with cmb := cmb } = false) →
    writeCheck (ioBlock s.blk p sq) n slba nlb false = .success →
    exec (.write p sq cid nsid slba nlb cmb) s = .next { s with
      blk := enter (acceptWrite (ioBlock s.blk p sq) n slba nlb false)
        { newCmd (ioBlock s.blk p sq) p sq cid (ioStamp s.blk p sq) .write nsid slba nlb with cmb := cmb } }) ∧
  (∀ (s : State) (p : Port) (sq cid nsid : Nat) (n : Namespace) (slba nlb : Nat) (cmb : Option Nat), IoTaken s.blk p sq cid nsid n →
    (ioBlock s.blk p sq).pwr.spinupFailed = false → 1 ≤ nlb → nlb ≤ 512 → cmbFits (ioBlock s.blk p sq) p n nlb cmb = true →
    n.zoned = true → checkedLater (ioBlock s.blk p sq) (ioBlock s.blk p sq).nvm.cmds
      { newCmd (ioBlock s.blk p sq) p sq cid (ioStamp s.blk p sq) .write nsid slba nlb with cmb := cmb } = true →
    exec (.write p sq cid nsid slba nlb cmb) s = .next { s with
      blk := enter (ioBlock s.blk p sq) { newCmd (ioBlock s.blk p sq) p sq cid (ioStamp s.blk p sq) .write nsid slba nlb with
        cmb := cmb, phase := .behind } }) ∧
  (∀ (s : State) (p : Port) (sq cid nsid : Nat) (n : Namespace) (slba nlb : Nat) (pi : PiCheck), IoTaken s.blk p sq cid nsid n →
    (ioBlock s.blk p sq).pwr.spinupFailed = false → readCheck (ioBlock s.blk p sq) n slba nlb = .success → exec (.read p sq cid nsid
    slba nlb pi) s = .next { s with
      blk := enter (ioBlock s.blk p sq) { newCmd (ioBlock s.blk p sq) p sq cid (ioStamp s.blk p sq) .read nsid slba nlb with
          bad := if n.dps % 8 ≠ 0 ∧ pi ≠ .ok then some (piStatus pi) else none } }) ∧
  (∀ (s : State) (p : Port) (sq cid nsid : Nat) (n : Namespace) (slba nlb : Nat) (pi : PiCheck), IoTaken s.blk p sq cid nsid n →
    (ioBlock s.blk p sq).pwr.spinupFailed = false → readCheck (ioBlock s.blk p sq) n slba nlb = .success → exec (.verify p sq cid
    nsid slba nlb pi) s = .next { s with
      blk := enter (ioBlock s.blk p sq) { newCmd (ioBlock s.blk p sq) p sq cid (ioStamp s.blk p sq) .verify nsid slba nlb with
          bad := if n.dps % 8 ≠ 0 ∧ pi ≠ .ok then some (piStatus pi) else none } }) ∧
  (∀ (s : State) (p : Port) (sq cid nsid : Nat) (n : Namespace) (slba nlb : Nat), IoTaken s.blk p sq cid nsid n → (ioBlock s.blk p
    sq).pwr.spinupFailed = false → 1 ≤ nlb → nlb ≤ 65536 → (n.zoned = true → checkedLater (ioBlock s.blk p sq) (ioBlock s.blk p
    sq).nvm.cmds (newCmd (ioBlock s.blk p sq) p sq cid (ioStamp s.blk p sq) .zeroes nsid slba nlb) = false) → writeCheck (ioBlock
    s.blk p sq) n slba nlb false = .success → exec (.writeZeroes p sq cid nsid slba nlb) s = .next { s with
      blk := enter (acceptWrite (ioBlock s.blk p sq) n slba nlb false) (newCmd (ioBlock s.blk p sq) p sq cid (ioStamp s.blk p sq)
        .zeroes nsid slba nlb) }) ∧
  (∀ (s : State) (p : Port) (sq cid nsid : Nat) (n : Namespace) (slba : Nat) (ranges : List (Nat × Nat)) (src : List Nat), IoTaken
    s.blk p sq cid nsid n → (ioBlock s.blk p sq).pwr.spinupFailed = false → src = ranges.flatMap (fun r => (List.range r.2).map (fun
    i => r.1 + i)) → src ≠ [] → src.length ≤ 65536 → ranges.length ≤ 128 → (∀ r ∈ ranges, r.1 + r.2 ≤ n.size) → (n.zoned = true →
    checkedLater (ioBlock s.blk p sq) (ioBlock s.blk p sq).nvm.cmds { newCmd (ioBlock s.blk p sq) p sq cid (ioStamp s.blk p sq) .copy nsid slba src.length with
      src := src } = false) → writeCheck (ioBlock s.blk p sq) n slba src.length false = .success → exec (.copy p sq cid nsid slba
    ranges) s = .next { s with
      blk := enter (acceptWrite (ioBlock s.blk p sq) n slba src.length false) { newCmd (ioBlock s.blk p sq) p sq cid (ioStamp s.blk p sq) .copy nsid slba src.length with
          src := src } }) ∧
  (∀ (s : State) (p : Port) (sq cid nsid : Nat) (n : Namespace) (ranges : List (Nat × Nat)), IoTaken s.blk p sq cid nsid n → ranges
    ≠ [] → ranges.length ≤ 256 → (∀ r ∈ ranges, r.1 + r.2 ≤ n.size ∧ r.2 < 2 ^ 32) → exec (.datasetManagementDeallocate p sq cid
    nsid ranges true) s = .next { s with
      blk := instantIo (ioBlock s.blk p sq) p sq cid nsid 0 (ranges.map (fun r => r.1 * 2 ^ 32 + r.2)) (ioStamp s.blk p sq) }) ∧
  (∀ (s : State) (p : Port) (sq cid nsid : Nat) (n : Namespace) (slba nlb : Nat) (cmb : Option Nat) (remap : Bool), IoTaken s.blk p
    sq cid nsid n → (ioBlock s.blk p sq).pwr.spinupFailed = false → n.zoned = true → slba % zoneSize = 0 → 1 ≤ nlb → nlb ≤ 512 →
    cmbFits (ioBlock s.blk p sq) p n nlb cmb = true → (n.zoned = true → checkedLater (ioBlock s.blk p sq) (ioBlock s.blk p
    sq).nvm.cmds { newCmd (ioBlock s.blk p sq) p sq cid (ioStamp s.blk p sq) .append nsid slba nlb with cmb := cmb, remap := remap }
    = false) → writeCheck (ioBlock s.blk p sq) n slba nlb true = .success → exec (.zoneAppend p sq cid nsid slba nlb cmb remap) s =
    .next { s with
      blk := enter (acceptWrite (ioBlock s.blk p sq) n slba nlb true) { newCmd (ioBlock s.blk p sq) p sq cid (ioStamp s.blk p sq) .append nsid slba nlb with
          cmb := cmb, remap := remap } })

/-- RESERVATION_REGISTER, RESERVATION_REPORT, RESERVATION_ACQUIRE, RESERVATION_PREEMPT_AND_ABORT, RESERVATION_RELEASE (R563, R570):
each enters execution and is done when it starts; after a preempt and abort, commands that ended fences held go on. ZONE_OPEN,
ZONE_CLOSE, ZONE_FINISH, ZONE_RESET, ZONE_OFFLINE, ZONE_SET_DESCRIPTOR_EXTENSION, REPORT_ZONES, EXTENDED_REPORT_ZONES (R385 to
R387, R443, R585, R588): zone management on one zone or on all of them, and reports. -/
def Obligations.ReservationsAndZonesComplete : Prop :=
  (∀ (s : State) (p : Port) (sq cid nsid : Nat) (n : Namespace) (action : Nat) (ignore : Bool) (cur new change : Nat), IoTaken s.blk
    p sq cid nsid n → exec (.reservationRegister p sq cid nsid action ignore cur new change) s = .next { s with
      blk := instantIo (ioBlock s.blk p sq) p sq cid nsid 1 [action, if ignore then 1 else 0, cur, new, change] (ioStamp s.blk p sq)
        }) ∧
  (∀ (s : State) (p : Port) (sq cid nsid : Nat) (n : Namespace), IoTaken s.blk p sq cid nsid n →
    exec (.reservationReport p sq cid nsid) s = .next { s with
      blk := instantIo (ioBlock s.blk p sq) p sq cid nsid 2 [] (ioStamp s.blk p sq) }) ∧
  (∀ (s : State) (p : Port) (sq cid nsid : Nat) (n : Namespace) (preempt ignore : Bool) (cur prKey kind : Nat), IoTaken s.blk p sq
    cid nsid n → exec (.reservationAcquire p sq cid nsid preempt ignore cur prKey kind) s = .next { s with
      blk := instantIo (ioBlock s.blk p sq) p sq cid nsid 3 [if preempt then 1 else 0, if ignore then 1 else 0, cur, prKey, kind]
        (ioStamp s.blk p sq) }) ∧
  (∀ (s : State) (p : Port) (sq cid nsid : Nat) (n : Namespace) (ignore : Bool) (cur prKey kind : Nat), IoTaken s.blk p sq cid nsid
    n → exec (.reservationPreemptAndAbort p sq cid nsid ignore cur prKey kind) s = .next { s with
      blk := releaseFenced (instantIo (ioBlock s.blk p sq) p sq cid nsid 3 [2, if ignore then 1 else 0, cur, prKey, kind] (ioStamp
        s.blk p sq)) }) ∧
  (∀ (s : State) (p : Port) (sq cid nsid : Nat) (n : Namespace) (action : Nat) (ignore : Bool) (cur kind : Nat), IoTaken s.blk p sq
    cid nsid n → exec (.reservationRelease p sq cid nsid action ignore cur kind) s = .next { s with
      blk := instantIo (ioBlock s.blk p sq) p sq cid nsid 4 [action, if ignore then 1 else 0, cur, kind] (ioStamp s.blk p sq) }) ∧
  (∀ (s : State) (p : Port) (sq cid nsid : Nat) (n : Namespace) (slba : Nat) (all : Bool), IoTaken s.blk p sq cid nsid n → n.zoned =
    true → (all = true ∨ slba < n.size ∧ slba % zoneSize = 0) → exec (.zoneClose p sq cid nsid slba all) s = .next { s with
      blk := enter (ioBlock s.blk p sq) (newCmd (ioBlock s.blk p sq) p sq cid (ioStamp s.blk p sq) (.zone 1) nsid slba (if all then
        0 else 1)) }) ∧
  (∀ (s : State) (p : Port) (sq cid nsid : Nat) (n : Namespace) (slba : Nat) (all : Bool), IoTaken s.blk p sq cid nsid n → n.zoned =
    true → (all = true ∨ slba < n.size ∧ slba % zoneSize = 0) → exec (.zoneFinish p sq cid nsid slba all) s = .next { s with
      blk := enter (ioBlock s.blk p sq) (newCmd (ioBlock s.blk p sq) p sq cid (ioStamp s.blk p sq) (.zone 2) nsid slba (if all then
        0 else 1)) }) ∧
  (∀ (s : State) (p : Port) (sq cid nsid : Nat) (n : Namespace) (slba : Nat) (all : Bool), IoTaken s.blk p sq cid nsid n → n.zoned =
    true → (all = true ∨ slba < n.size ∧ slba % zoneSize = 0) → exec (.zoneOpen p sq cid nsid slba all) s = .next { s with
      blk := enter (ioBlock s.blk p sq) (newCmd (ioBlock s.blk p sq) p sq cid (ioStamp s.blk p sq) (.zone 3) nsid slba (if all then
        0 else 1)) }) ∧
  (∀ (s : State) (p : Port) (sq cid nsid : Nat) (n : Namespace) (slba : Nat) (all : Bool), IoTaken s.blk p sq cid nsid n → n.zoned =
    true → (all = true ∨ slba < n.size ∧ slba % zoneSize = 0) → exec (.zoneReset p sq cid nsid slba all) s = .next { s with
      blk := enter (ioBlock s.blk p sq) (newCmd (ioBlock s.blk p sq) p sq cid (ioStamp s.blk p sq) (.zone 4) nsid slba (if all then
        0 else 1)) }) ∧
  (∀ (s : State) (p : Port) (sq cid nsid : Nat) (n : Namespace) (slba : Nat) (all : Bool), IoTaken s.blk p sq cid nsid n → n.zoned =
    true → (all = true ∨ slba < n.size ∧ slba % zoneSize = 0) → exec (.zoneOffline p sq cid nsid slba all) s = .next { s with
      blk := enter (ioBlock s.blk p sq) (newCmd (ioBlock s.blk p sq) p sq cid (ioStamp s.blk p sq) (.zone 5) nsid slba (if all then
        0 else 1)) }) ∧
  (∀ (s : State) (p : Port) (sq cid nsid : Nat) (n : Namespace), IoTaken s.blk p sq cid nsid n →
    exec (.zoneSetDescriptorExtension p sq cid nsid) s = .next { s with
      blk := complete (ioBlock s.blk p sq) p sq cid .invalidField }) ∧
  (∀ (s : State) (p : Port) (sq cid nsid : Nat) (n : Namespace), IoTaken s.blk p sq cid nsid n →
    exec (.extendedReportZones p sq cid nsid) s = .next { s with
      blk := complete (ioBlock s.blk p sq) p sq cid .invalidField }) ∧
  (∀ (s : State) (p : Port) (sq cid nsid : Nat) (n : Namespace) (slba option room : Nat) (part : Bool), IoTaken s.blk p sq cid nsid
    n → n.zoned = true → slba < n.size → option ≤ 7 → exec (.reportZones p sq cid nsid slba option part room) s = .next { s with
      blk := instantIo (ioBlock s.blk p sq) p sq cid nsid 5 [slba, option, if part then 1 else 0, room] (ioStamp s.blk p sq) })

/-- ORDERING_FENCE, FENCE_COMPLETE (R557, R560, R561): a fence enters execution counting the commands that it waits for, and
completes with that number when they are done, releasing what it held. FENCE_COMPLETE (R559, R560): while a command that the
fence concerns is before it and not done, the fence does not complete and nothing changes. -/
def Obligations.FencesComplete : Prop :=
  (∀ (s : State) (p : Port) (sq cid nsid : Nat), sq ≠ 0 → queueLive s.blk p sq = true →
    linkEnginesStopped s.blk = false → mayTake s.blk p sq = true →
    (s.blk.nvm.cmds.filter (fun c => c.kind = .fence)).length < 64 → cmdFind (ioBlock s.blk p sq) p sq cid = none →
    (ioBlock s.blk p sq).boot.recovery = false →
    (nsid = 0xFFFFFFFF ∨ (nsAttached (ioBlock s.blk p sq) p nsid).isSome = true) →
    exec (.orderingFence p sq cid nsid 0) s = .next { s with
      blk := enter (ioBlock s.blk p sq) { newCmd (ioBlock s.blk p sq) p sq cid (ioStamp s.blk p sq) .fence nsid 0 0 with
        waited := ((ioBlock s.blk p sq).nvm.cmds.filter (fun c =>
          fenceConcerns (ioBlock s.blk p sq) (newCmd (ioBlock s.blk p sq) p sq cid (ioStamp s.blk p sq) .fence nsid 0 0) c.nsid &&
            decide (c.stamp ≤ ioStamp s.blk p sq))).length } }) ∧
  (∀ (s : State) (p : Port) (sq cid nsid reserved : Nat), sq ≠ 0 → queueLive s.blk p sq = true →
    linkEnginesStopped s.blk = false → mayTake s.blk p sq = true →
    (s.blk.nvm.cmds.filter (fun c => c.kind = .fence)).length < 64 → cmdFind (ioBlock s.blk p sq) p sq cid = none →
    (ioBlock s.blk p sq).boot.recovery = false → reserved ≠ 0 →
    exec (.orderingFence p sq cid nsid reserved) s = .next { s with
      blk := complete (ioBlock s.blk p sq) p sq cid .invalidField }) ∧
  (∀ (s : State) (p : Port) (sq cid : Nat) (f : Cmd), cmdFind s.blk p sq cid = some f → f.kind = .fence → f.phase = .waiting →
    fenceReady s.blk f = true →
    exec (.fenceComplete p sq cid) s = .next { s with
      blk := releaseFenced (finishCmd (s.blk.bump .NV_FENCE_DONE p.val) f .success (min f.waited 0xFFFFFFFF)) }) ∧
  (∀ (s : State) (p : Port) (sq cid : Nat) (f c : Cmd), cmdFind s.blk p sq cid = some f → c ∈ s.blk.nvm.cmds →
    sameCmd c f = false → c.stamp < f.stamp → c.nsid = f.nsid → exec (.fenceComplete p sq cid) s = .next s)

/-! ### Temperature and health -/

/-- SENSOR_READ, THERMAL_STAGE_EXIT, ORDERLY_STOP_RETRACT, SENSOR_LIMIT_CLEARED, TOKEN_REFILL, RESONATOR_CORRECTION,
REFERENCE_CORRECTION (R612 to R624, R643): sensors, stages, tokens and corrections. The resonator's curve is item 4's cubic,
whose units are the model's (log entry 126); the reference is open, and the statement does not name it. -/
def Obligations.ThermalCompletes : Prop :=
  (∀ (s : State) (n : Fin 26) (reading : Int) (stopped : Bool), n.val < 18 → s.blk.thm.trip = false →
    exec (.sensorRead n reading stopped false) s = .next { s with
      blk := refreshTemperature (dieReading (countHeat s.blk) n.val (trimmed (countHeat s.blk) n.val reading) stopped) }) ∧
  (∀ (s : State) (n : Fin 26) (reading : Int) (stopped : Bool), 18 ≤ n.val → s.blk.thm.trip = false →
    (n.val < 22 ∨ bit ((countHeat s.blk).cfgN .PLT_ACTUATORS) (n.val - 22) = true) →
    exec (.sensorRead n reading stopped false) s = .next { s with
      blk := refreshTemperature (checkLimit (showReading (countHeat s.blk) n.val reading) n.val reading) }) ∧
  (∀ (s : State) (since : Nat), s.blk.thm.belowSince.toList.getD (s.blk.get .THM_STAGE_STAGE 0) none = some since →
    1 ≤ s.blk.get .THM_STAGE_STAGE 0 → since + stageTime s.blk (s.blk.get .THM_STAGE_STAGE 0) ≤ s.blk.now → s.blk.thm.trip = false →
    stageMet s.blk (s.blk.get .THM_STAGE_STAGE 0 - 1) < s.blk.get .THM_STAGE_STAGE 0 →
    exec .thermalStageExit s = .next { s with blk := changeStage s.blk (stageMet s.blk (s.blk.get .THM_STAGE_STAGE 0 - 1)) }) ∧
  (∀ (s : State) (a : Act) (since : Nat), s.blk.thm.stopAt = some since → since + 2000000 ≤ s.blk.now → loaded s.blk a = true →
    (vget s.blk.srv a).retract = .idle →
    exec (.orderlyStopRetract a) s = .next { s with blk := startRetract s.blk a }) ∧
  (∀ (s : State) (n : Fin 26), 18 ≤ n.val → limitOn s.blk n.val = true → nget 0 s.blk.thm.limitBelow n.val ≠ 0 →
    nget 0 s.blk.thm.limitBelow n.val + 999999 ≤ s.blk.now →
    exec (.sensorLimitCleared n) s = .next { s with blk := putLimit s.blk n.val false }) ∧
  (∀ (s : State) (rates used : List Nat), ∃ t, exec (.tokenRefill rates used) s = .next t ∧ t.blk.regs = s.blk.regs ∧
    (∀ i < 15, nget 0 t.blk.thm.tokens i = min (nget 0 s.blk.thm.tokens i - used.getD i 0 +
      rates.getD i 0 * s.blk.get .THM_STAGE_TOKEN 0 / 100) (2 * (rates.getD i 0 * s.blk.get .THM_STAGE_TOKEN 0 / 100)))) ∧
  (∀ (s : State), calHasItem s.blk 4 = true → s.blk.get .THM_SENS_n_NOW 0 ≠ 0x8000 → s.blk.get .THM_RES_CORR 0 < 2 ^ 16 →
    ∃ t, exec .resonatorCorrection s = .next t ∧ t.blk.get .THM_RES_NOCOMP 0 = 0 ∧
      regsKept [.THM_RES_NOCOMP, .THM_RES_CORR] s.blk t.blk ∧
      t.blk = (s.blk.put .THM_RES_NOCOMP 0 0).putInt .THM_RES_CORR 0 (max (bitsSigned 16 (s.blk.get .THM_RES_CORR 0) - 5)
        (min (bitsSigned 16 (s.blk.get .THM_RES_CORR 0) + 5) (-(resonatorDev ((List.range 4).map (fun i => s.blk.cal 4 0 i))
          (bitsSigned 16 (s.blk.get .THM_SENS_n_NOW 0))) / 10 ^ 10))) ∧
      bitsSigned 16 (t.blk.get .THM_RES_CORR 0) ≤ bitsSigned 16 (s.blk.get .THM_RES_CORR 0) + 5 ∧
      bitsSigned 16 (s.blk.get .THM_RES_CORR 0) ≤ bitsSigned 16 (t.blk.get .THM_RES_CORR 0) + 5) ∧
  (∀ (s : State), calHasItem s.blk 4 = false →
    ∃ t, exec .resonatorCorrection s = .next t ∧ t.blk.get .THM_RES_NOCOMP 0 = 1 ∧ regsKept [.THM_RES_NOCOMP] s.blk t.blk) ∧
  (∀ (s : State), calHasItem s.blk 1 = true →
    ∃ t, exec .referenceCorrection s = .next t ∧ t.blk.regs = s.blk.regs ∧ t.blk.sys.free = s.blk.sys.free + 1)

/-- SENSOR_READ of a DRAM, NAND or preamp sensor (R624): at its limit or above, the limit's action is in force afterwards, and no
other sensor's action begins or ends. -/
def Obligations.SensorLimits : Prop :=
  ∀ (s : State) (n : Fin 26) (reading : Int), 18 ≤ n.val → s.blk.thm.trip = false →
    (n.val < 22 ∨ bit (s.blk.cfgN .PLT_ACTUATORS) (n.val - 22) = true) → sensorLimit s.blk n.val ≤ reading →
    ∃ t, exec (.sensorRead n reading false false) s = .next t ∧ limitOn t.blk n.val = true ∧
      ∀ m : Fin 26, 18 ≤ m.val → m ≠ n → limitOn t.blk m.val = limitOn s.blk m.val

/-- OCHRE_HOURLY_UPDATE, OCHRE_DAILY_SAMPLE (R628, R629): the hour is counted and the error counts of the hour enter their lists; a
daily sample of every indicator's percent used is kept, 90 of them. -/
def Obligations.OchreCompletes : Prop :=
  (∀ (s : State) (meas : List (Nat × Nat)), s.blk.boot.journalUp = true →
    ∃ t, exec (.ochreHourlyUpdate meas) s = .next t ∧ t.blk.och.hours = s.blk.och.hours + 1 ∧
      t.blk.och.dramHours = (s.blk.och.dramLast :: s.blk.och.dramHours).take 168 ∧
      t.blk.och.sramHours = (s.blk.och.sramLast :: s.blk.och.sramHours).take 168 ∧ t.blk.och.dramLast = 0 ∧
      t.blk.och.sramLast = 0 ∧ t.blk.och.daily = s.blk.och.daily ∧ t.mem = s.mem) ∧
  (∀ (s : State), s.blk.boot.journalUp = true → 24 ≤ s.blk.och.hours → ∃ t, exec .ochreDailySample s = .next t ∧ t.blk.och.daily =
    ((List.range 132).map (fun n => s.blk.get .OCH_IND_n_A_PCT n) :: s.blk.och.daily).take 90 ∧ t.blk.get .OCH_STATE_SAMPLES 0 = min
    90 (s.blk.och.daily.length + 1) ∧ t.blk.och.hours = s.blk.och.hours - 24 ∧ regsKept [.OCH_STATE_SAMPLES] s.blk t.blk)

/-- MI_* (R520, R632 to R635): the management endpoint's answers while the host interface is up; nothing but the answer changes,
apart from a configuration value set, WAKE# and the snapshot. -/
def Obligations.ManagementCompletes : Prop :=
  (∀ (s : State) (type idx : Nat), miPowered s.blk = true → miHalted s.blk = false → miDown s.blk = false → type = 0 →
    exec (.miReadDataStructure type idx) s = .next { s with
      blk := s.blk.answer (.data [if (vget s.blk.px 1).present then 3 else 2, 1, 2]) }) ∧
  (∀ (s : State), miPowered s.blk = true → miHalted s.blk = false →
    exec .miSubsystemHealthPoll s = .next { s with
      blk := s.blk.answer (.data [(miSmart s.blk).getD 0 0, (miSmart s.blk).getD 1 0, (miSmart s.blk).getD 2 0,
        (miSmart s.blk).getD 4 0]) }) ∧
  (∀ (s : State), miPowered s.blk = true → miHalted s.blk = false →
    ∃ t l, exec .miControllerHealthPoll s = .next t ∧ t.blk = s.blk.answer (.data l) ∧
      l.length = 7 * (if (vget s.blk.px 1).present then 2 else 1)) ∧
  (∀ (s : State) (id : Nat), miPowered s.blk = true → miHalted s.blk = false → miDown s.blk = false → 1 ≤ id → id ≤ 3 →
    exec (.miConfigurationGet id) s = .next { s with blk := s.blk.answer (.data [miValue s.blk id]) }) ∧
  (∀ (s : State) (id v : Nat), miPowered s.blk = true → miHalted s.blk = false → miDown s.blk = false → 1 ≤ id → id ≤ 3 →
    ∃ t, exec (.miConfigurationSet id v) s = .next t ∧ miValue t.blk id = v ∧ t.blk.sys.reply = .code 0 ∧ t.blk.regs = s.blk.regs ∧
      ∀ i, i ≠ id → miValue t.blk i = miValue s.blk i) ∧
  (∀ (s : State), s.blk.pwr.powered = false → s.blk.pwr.v12 = false → s.blk.pwr.aux = true → s.blk.cfgN .HST_WAKE_EN = 1 →
    (vget s.blk.px 0).present = true → (vget s.blk.px 0).pmeEn = true →
    ∃ t, exec .miWakeRequest s = .next t ∧ (vget t.blk.px 0).wake = true ∧ t.blk.sys.reply = .code 0 ∧
      t.blk.get .PX_PM_WAKE 0 = min (s.blk.get .PX_PM_WAKE 0 + 1) (Field.max .PX_PM_WAKE)) ∧
  (∀ (s : State), miPowered s.blk = true → miHalted s.blk = false → miDown s.blk = false →
    exec .miVpdRead s = .next { s with
      blk := s.blk.answer (.data [s.blk.cfgN .PLT_MODEL, s.blk.cfgN .PLT_SERIAL, s.blk.readWord 0xF0000, s.blk.readWord 0xF0010]) }) ∧
  (∀ (s : State) (p : Port) (nsid x off len : Nat), miPowered s.blk = true → miHalted s.blk = false → miDown s.blk = true →
    x = 0x02 →
    exec (.miAdminTunnel p 0x02 nsid x off len) s = .next { s with blk := s.blk.answer (.data s.blk.hea.snapshot) }) ∧
  (∀ (s : State) (p : Port) (nsid x off len : Nat), miPowered s.blk = true → miHalted s.blk = false → miDown s.blk = false →
    (identifyData s.blk p x nsid off len).1 = .success →
    exec (.miAdminTunnel p 0x06 nsid x off len) s = .next { s with
      blk := s.blk.answer (.data (identifyData s.blk p x nsid off len).2) }) ∧
  (∀ (s : State), miPowered s.blk = true →
    exec .miBasicManagement s = .next { s with
      blk := s.blk.answer (.data [(miSmart s.blk).getD 0 0, (miSmart s.blk).getD 1 0, (miSmart s.blk).getD 4 0,
        s.blk.boot.halted.getD 0]) }) ∧
  (∀ (s : State), s.blk.pwr.powered = true → s.blk.boot.halted = none →
    ∃ t, exec .miSnapshotRefresh s = .next t ∧ t.blk.hea.snapshot = smartLog s.blk ++ [s.blk.mode.code] ∧
      t.blk.hea.snapOchre = ochreLog s.blk ∧ t.blk.hea.snapAt = s.blk.now ∧ t.blk.regs = s.blk.regs)

/-! ### Sepia and Nimbus -/

/-- SEPIA_EVENT, SEPIA_SUPPRESSION_SUMMARY, SEPIA_BUFFER_FLUSH, SEPIA_FLUSH_COMPLETE (R649 to R653): recording touches the recorder
alone, and a full half is programmed to the pool. NIMBUS_RUN_START, NIMBUS_RUN_END, NIMBUS_RUN_LATE (R659 to R661): a run starts
where its kind is enabled and its resource idle; a first failure is repeated at once; a pass is counted and recorded. -/
def Obligations.RecorderAndTestsComplete : Prop :=
  (∀ (s : State) (code : Nat) (e : Engine) (pa : Word) (pb : BitVec 64) (conts : List (List Nat)),
    ∃ t, exec (.sepiaEvent code e pa pb conts) s = .next t ∧ t.blk = s.blk.sepiaCont code (engineCode e) pa.toNat pb.toNat conts ∧
      t.blk.nvm = s.blk.nvm ∧ t.blk.xl = s.blk.xl ∧ t.mem = s.mem) ∧
  (∀ (s : State) (code : Nat), summaryDue s.blk code = true →
    ∃ t b, exec (.sepiaSuppressionSummary code) s = .next t ∧ b.regs = s.blk.regs ∧
      (sepBucket b code).supp = 0 ∧ (sepBucket b code).last = s.blk.now ∧
      t.blk = sepMake b 0x0F02 srcSV 0 0 code (sepBucket s.blk code).supp false []) ∧
  (∀ (s : State), s.blk.sep.up = true → s.blk.sep.flushDue = true →
    ∃ t, exec .sepiaBufferFlush s = .next t ∧ t.blk.get .SEP_STATE_LAST 0 = 1 ∧ t.blk.get .SEP_FLUSH2_LASTSTART 0 = 0 ∧
      t.blk.sep.halfA = [] ∧ t.blk.sep.halfB = [] ∧ t.blk.sep.flushDue = false) ∧
  (∀ (s : State), s.blk.sep.up = true → s.blk.sep.flushDue = false → s.blk.sep.halfA.length = 256 → s.blk.sep.flushA = false →
    ∃ t, exec .sepiaBufferFlush s = .next t ∧ t.blk.sep.flushA = true ∧ t.blk.get .SEP_STATE_LAST 0 = 0 ∧
      t.blk.get .SEP_FLUSH_HALF 0 = min (s.blk.get .SEP_FLUSH_HALF 0 + 1) (Field.max .SEP_FLUSH_HALF) ∧
      t.blk.sep.halfA = s.blk.sep.halfA) ∧
  (∀ (s : State), s.blk.sep.flushA = true → s.blk.sep.held = [] →
    ∃ t, exec .sepiaFlushComplete s = .next t ∧ t.blk.sep.halfA = [] ∧ t.blk.sep.flushA = false ∧
      t.blk.sep.rollArea = takeLast 16384 (s.blk.sep.rollArea ++ s.blk.sep.halfA) ∧
      t.blk.sep.keepArea = s.blk.sep.keepArea ++ s.blk.sep.halfA.filter (fun r => r.keep) ∧ regsKept [.SEP_STATE_KEEP] s.blk t.blk) ∧
  (∀ (s : State) (kind : Fin 7) (target idleUs : Nat), s.blk.nim.run = none → bit (s.blk.cfgN .NIM_EN) kind.val = true →
    nimSuspend s.blk kind target = 0 → nimCan s.blk kind target = true → nimIdle s.blk kind target idleUs = true →
    ∃ t, exec (.nimbusRunStart kind target idleUs) s = .next t ∧ t.blk.nim.run = some ⟨kind, target, false⟩ ∧
      t.blk.get .NIM_STATE_KIND 0 = kind.val ∧ t.blk.get .NIM_STATE_SUSP 0 = 0 ∧ (kind.val, target) ∉ t.blk.nim.late) ∧
  (∀ (s : State) (kind : Fin 7) (target idleUs : Nat), s.blk.nim.run = none → bit (s.blk.cfgN .NIM_EN) kind.val = true →
    nimSuspend s.blk kind target ≠ 0 →
    ∃ t, exec (.nimbusRunStart kind target idleUs) s = .next t ∧ t.blk.get .NIM_STATE_SUSP 0 = nimSuspend s.blk kind target ∧
      t.blk.nim = s.blk.nim ∧ regsKept [.NIM_STATE_SUSP] s.blk t.blk) ∧
  (∀ (s : State) (r : NimRun) (val : Nat), s.blk.nim.run = some r → r.repeated = false →
    (r.kind = 6 → patrolInHand s.blk = false) →
    ∃ t, exec (.nimbusRunEnd false val) s = .next t ∧ t.blk.nim.run = some { r with repeated := true } ∧ t.blk.regs = s.blk.regs) ∧
  (∀ (s : State) (r : NimRun) (val : Nat), s.blk.nim.run = some r → (r.kind = 6 → patrolInHand s.blk = false) →
    ∃ t, exec (.nimbusRunEnd true val) s = .next t ∧ t.blk.nim.run = none ∧ t.blk.get .NIM_RES_k_LAST r.kind.val = 1 ∧
      t.blk.get .NIM_RES_k_PASS r.kind.val = min (s.blk.get .NIM_RES_k_PASS r.kind.val + 1) (Field.max .NIM_RES_k_PASS)) ∧
  (∀ (s : State) (kind : Fin 7) (target : Nat),
    ∃ t, exec (.nimbusRunLate kind target) s = .next t ∧ t.blk.get .NIM_RES_k_LAST kind.val = 3 ∧
      (kind.val, target) ∈ t.blk.nim.late ∧ t.blk.nim.run = s.blk.nim.run)

/-- SEPIA_EVENT of a critical code without continuations (R649, R656): it is never suppressed, takes the next sequence number, and
the era advances when the number wraps; before the NAND is readable it is counted, to be numbered then (the model's choice, log
entry 174). -/
def Obligations.SepiaSequence : Prop :=
  ∀ (s : State) (code : Nat) (e : Engine) (pa : Word) (pb : BitVec 64), sepSeverity s.blk code = 3 →
    ∃ t, exec (.sepiaEvent code e pa pb []) s = .next t ∧ t.blk.get .SEP_SUPP_COUNT 0 = s.blk.get .SEP_SUPP_COUNT 0 ∧
      (s.blk.sep.up = true →
        t.blk.get .SEP_SEQ_NEXT 0 = (s.blk.get .SEP_SEQ_NEXT 0 + 1) % 2 ^ 32 ∧ t.blk.get .SEP_STATE_ERA 0 =
          (s.blk.get .SEP_STATE_ERA 0 + (if s.blk.get .SEP_SEQ_NEXT 0 = 2 ^ 32 - 1 then 1 else 0)) % 2 ^ 8) ∧
      (s.blk.sep.up = false →
        t.blk.get .SEP_SEQ_NEXT 0 = s.blk.get .SEP_SEQ_NEXT 0 ∧ t.blk.sep.bootMade = s.blk.sep.bootMade + 1)

/-! ### DMA and the memories -/

/-- DMA_GO, DMA_PAUSE, DMA_RESUME, DMA_STOP, DX_STAT_CLEAR (R696 to R698, R712) by a control core: a channel starts when its checks
pass, and its first read may move the counts of the caches; it drains for a pause or a stop, and goes on. DMA_GO (R697): a
channel with COUNT 0, with a byte of either range outside the address map, or in strict mode with SRC, DST or COUNT inside the
module not a multiple of 32, does not start. DMA_GO, DMA_PAUSE, DMA_RESUME, DMA_STOP and DX_STAT_CLEAR by a host (R40, R696):
without factory unlock on its port, or to DX00 to DX27, the write is discarded and counted, and no channel changes; to DX28 to
DX31 under unlock it acts as a control core's. -/
def Obligations.DmaControlCompletes : Prop :=
  (∀ (s : State) (n : Fin 32), s.blk.get .DX_STAT_n_BUSY n.val ≠ 1 → startError s.blk n.val = 0 →
    ∃ t, exec (.dmaGo .core n) s = .next t ∧ t.blk.get .DX_CTL_n_GO n.val = 1 ∧ t.blk.get .DX_STAT_n_BUSY n.val = 1 ∧
      t.blk.get .DX_STAT_n_ERR n.val = 0 ∧ dxDrains t.blk n.val = decide (s.blk.get .DX_CTL_n_PAUSE n.val = 1) ∧
      regsKept (cacheFields ++ [.DX_CTL_n_GO, .DX_STAT_n_BUSY, .DX_STAT_n_ERR]) s.blk t.blk ∧ t.mem = s.mem) ∧
  (∀ (s : State) (n : Fin 32), s.blk.get .DX_STAT_n_BUSY n.val ≠ 1 → startError s.blk n.val ≠ 0 →
    ∃ t, exec (.dmaGo .core n) s = .next t ∧ t.blk.get .DX_CTL_n_GO n.val = 0 ∧
      t.blk.get .DX_STAT_n_ERR n.val = startError s.blk n.val ∧ regsKept [.DX_CTL_n_GO, .DX_STAT_n_ERR] s.blk t.blk ∧
      t.mem = s.mem) ∧
  (∀ (s : State) (n : Fin 32), s.blk.get .DX_STAT_n_BUSY n.val = 1 → s.blk.get .DX_STAT_n_PAUSED n.val = 0 →
    ∃ t, exec (.dmaPause .core n) s = .next t ∧ t.blk.get .DX_CTL_n_PAUSE n.val = 1 ∧ dxDrains t.blk n.val = true ∧
      regsKept [.DX_CTL_n_PAUSE] s.blk t.blk ∧ t.mem = s.mem) ∧
  (∀ (s : State) (n : Fin 32),
    ∃ t, exec (.dmaResume .core n) s = .next t ∧ t.blk.get .DX_CTL_n_PAUSE n.val = 0 ∧ t.blk.get .DX_STAT_n_PAUSED n.val = 0 ∧
      regsKept [.DX_CTL_n_PAUSE, .DX_STAT_n_PAUSED] s.blk t.blk ∧ t.mem = s.mem) ∧
  (∀ (s : State) (n : Fin 32), s.blk.get .DX_STAT_n_BUSY n.val = 1 →
    ∃ t, exec (.dmaStop .core n) s = .next t ∧ t.blk.get .DX_CTL_n_STOP n.val = 1 ∧ dxDrains t.blk n.val = true ∧
      regsKept [.DX_CTL_n_STOP] s.blk t.blk ∧ t.mem = s.mem) ∧
  (∀ (s : State) (n : Fin 32) (done poison : Bool),
    ∃ t, exec (.dxStatClear .core n done poison) s = .next t ∧
      t.blk.get .DX_STAT_n_DONE n.val = (if done then 0 else s.blk.get .DX_STAT_n_DONE n.val) ∧
      t.blk.get .DX_STAT_n_POISON n.val = (if poison then 0 else s.blk.get .DX_STAT_n_POISON n.val) ∧
      regsKept [.DX_STAT_n_DONE, .DX_STAT_n_POISON] s.blk t.blk ∧ t.mem = s.mem) ∧
  (∀ (b : Block) (n : Fin 32), dxCount b n.val = 0 → startError b n.val ≠ 0) ∧
  (∀ (b : Block) (n : Fin 32) (i : Nat), i < dxCount b n.val → regionOf b (dxSrc b n.val + i) = none → startError b n.val ≠ 0) ∧
  (∀ (b : Block) (n : Fin 32) (i : Nat), i < dxCount b n.val → regionOf b (dxDst b n.val + i) = none → startError b n.val ≠ 0) ∧
  (∀ (b : Block) (n : Fin 32), b.get .DX_MODE_ALIGN 0 = 1 → dxSrc b n.val < 0x010000000000 → dxSrc b n.val % 32 ≠ 0 →
    startError b n.val ≠ 0) ∧
  (∀ (b : Block) (n : Fin 32), b.get .DX_MODE_ALIGN 0 = 1 → dxDst b n.val < 0x010000000000 → dxDst b n.val % 32 ≠ 0 →
    startError b n.val ≠ 0) ∧
  (∀ (b : Block) (n : Fin 32), b.get .DX_MODE_ALIGN 0 = 1 → dxCount b n.val % 32 ≠ 0 → startError b n.val ≠ 0) ∧
  (∀ (s : State) (p : Port) (n : Fin 32) (done poison : Bool), (n.val < 28 ∨ unlocked s.blk p = false) →
    ∃ t, exec (.dmaGo (.port p) n) s = .next t ∧ exec (.dmaPause (.port p) n) s = .next t ∧
      exec (.dmaResume (.port p) n) s = .next t ∧ exec (.dmaStop (.port p) n) s = .next t ∧
      exec (.dxStatClear (.port p) n done poison) s = .next t ∧
      t.blk.get .SYS_DIAG_WDROP_COUNT 0 = min (s.blk.get .SYS_DIAG_WDROP_COUNT 0 + 1) (Field.max .SYS_DIAG_WDROP_COUNT) ∧
      regsKept [.SYS_DIAG_WDROP_COUNT, .SYS_DIAG_WDROP_P0, .SYS_DIAG_WDROP_P1] s.blk t.blk ∧ t.blk.mm = s.blk.mm ∧ t.mem = s.mem) ∧
  (∀ (s : State) (p : Port) (n : Fin 32) (done poison : Bool), 28 ≤ n.val → unlocked s.blk p = true →
    exec (.dmaGo (.port p) n) s = exec (.dmaGo .core n) s ∧ exec (.dmaPause (.port p) n) s = exec (.dmaPause .core n) s ∧
    exec (.dmaResume (.port p) n) s = exec (.dmaResume .core n) s ∧ exec (.dmaStop (.port p) n) s = exec (.dmaStop .core n) s ∧
    exec (.dxStatClear (.port p) n done poison) s = exec (.dxStatClear .core n done poison) s)

/-- DMA_DONE (R694, R697): a copy inside DRAM that runs to its end writes every byte of its destination with the byte that its
source held before, also where the ranges overlap; every other byte of memory is unchanged. DONE is set, BUSY and GO clear, and
COUNT is 0. DMA_DRAINED (R698): a drain inside DRAM that does not move all of COUNT leaves SRC, DST and COUNT naming the next
byte not moved. A channel with STOP set ends with GO clear and DONE unchanged; otherwise PAUSED is set. -/
def Obligations.DmaMoves : Prop :=
  (∀ (s : State) (n : Fin 32) (fromHost : List Byte), s.blk.get .DX_STAT_n_BUSY n.val = 1 → dxDrains s.blk n.val = false →
    s.blk.get .DX_STAT_n_PAUSED n.val = 0 → 0 < dxCount s.blk n.val → 0x400000000 ≤ dxSrc s.blk n.val →
    dxSrc s.blk n.val + dxCount s.blk n.val ≤ 0x800000000 → 0x400000000 ≤ dxDst s.blk n.val →
    dxDst s.blk n.val + dxCount s.blk n.val ≤ 0x800000000 →
    ∃ t, exec (.dmaDone n none fromHost) s = .next t ∧ t.blk.get .DX_STAT_n_DONE n.val = 1 ∧
      t.blk.get .DX_STAT_n_BUSY n.val = 0 ∧ t.blk.get .DX_CTL_n_GO n.val = 0 ∧ t.blk.get .DX_COUNT_COUNT n.val = 0 ∧
      ∀ x, byteOf t x = (if dxDst s.blk n.val ≤ x ∧ x < dxDst s.blk n.val + dxCount s.blk n.val
        then byteOf s (dxSrc s.blk n.val + (x - dxDst s.blk n.val)) else byteOf s x)) ∧
  (∀ (s : State) (n : Fin 32) (moved : Nat) (fromHost : List Byte), s.blk.get .DX_STAT_n_BUSY n.val = 1 →
    dxDrains s.blk n.val = true → moved < dxCount s.blk n.val → 0x400000000 ≤ dxSrc s.blk n.val →
    dxSrc s.blk n.val + dxCount s.blk n.val ≤ 0x800000000 → 0x400000000 ≤ dxDst s.blk n.val →
    dxDst s.blk n.val + dxCount s.blk n.val ≤ 0x800000000 → dxCount s.blk n.val < 2 ^ 32 →
    ∃ t, exec (.dmaDrained n moved fromHost) s = .next t ∧ dxSrc t.blk n.val = dxSrc s.blk n.val + moved ∧
      dxDst t.blk n.val = dxDst s.blk n.val + moved ∧ dxCount t.blk n.val = dxCount s.blk n.val - moved ∧
      t.blk.get .DX_STAT_n_DONE n.val = s.blk.get .DX_STAT_n_DONE n.val ∧
      (s.blk.get .DX_CTL_n_STOP n.val = 1 → t.blk.get .DX_CTL_n_GO n.val = 0 ∧ t.blk.get .DX_STAT_n_BUSY n.val = 0) ∧
      (s.blk.get .DX_CTL_n_STOP n.val ≠ 1 → t.blk.get .DX_STAT_n_PAUSED n.val = 1 ∧ t.blk.get .DX_STAT_n_BUSY n.val = 1))

/-- SRAM_SCRUB, DRAM_SCRUB, SYS_CALCTL_START, ACT_RELEASE, PWR_V12_REFRESH (R78, R142, R682, R685, R688, R692, R709, R723): the
scrubs, a calibration asked for, ACT# and the 12 V record. -/
def Obligations.MemoriesComplete : Prop :=
  (∀ (s : State) (addr : Option Nat) (bank row : Nat) (i : Fin 80) (clean last : Bool), s.blk.pwr.powered = true →
    (∀ x ∈ addr.toList, poisonedAt s.blk x = false) →
    ∃ t, exec (.sramScrub addr bank row (2 ^ i.val) clean last) s = .next t ∧ t.mem = s.mem ∧ t.blk.mm.poison = s.blk.mm.poison ∧
      t.blk.get .MEM_SRAM_CORR 0 = min (s.blk.get .MEM_SRAM_CORR 0 + 1) (Field.max .MEM_SRAM_CORR)) ∧
  (∀ (s : State) (x bank row : Nat) (i j : Fin 80) (last : Bool), s.blk.pwr.powered = true → i ≠ j → poisonedAt s.blk x = false →
    ∃ t, exec (.sramScrub (some x) bank row (2 ^ i.val ^^^ 2 ^ j.val) false last) s = .next t ∧ t.mem = s.mem ∧
      poisonedAt t.blk x = true ∧ t.blk.get .MEM_SRAM_CORR 0 = s.blk.get .MEM_SRAM_CORR 0 ∧
      t.blk.get .MEM_SRAM_UNCORR 0 = min (s.blk.get .MEM_SRAM_UNCORR 0 + 1) (Field.max .MEM_SRAM_UNCORR)) ∧
  (∀ (s : State) (x bank row : Nat) (i j : Fin 80) (last : Bool), s.blk.pwr.powered = true → i ≠ j → poisonedAt s.blk x = false →
    ∃ t, exec (.sramScrub (some x) bank row (2 ^ i.val ^^^ 2 ^ j.val) true last) s = .next t ∧ t.mem = s.mem ∧
      t.blk.mm.poison = s.blk.mm.poison ∧
      t.blk.get .MEM_SRAM_UNCORR 0 = min (s.blk.get .MEM_SRAM_UNCORR 0 + 1) (Field.max .MEM_SRAM_UNCORR) ∧
      regsKept (cacheFields ++ [.MEM_SRAM_UNCORR]) s.blk t.blk) ∧
  (∀ (s : State) (bad : Nat), s.blk.pwr.powered = true → badSymbols bad ≤ 3 → s.blk.mm.scrubLine + 1 ≠ dramLines →
    ∃ t, exec (.dramScrub bad s.blk.mm.scrubLine) s = .next t ∧ t.mem = s.mem ∧ t.blk.mm.scrubLine = s.blk.mm.scrubLine + 1 ∧
      t.blk.get .MEM_DRAM_CORR 0 = min (s.blk.get .MEM_DRAM_CORR 0 + badSymbols bad) (Field.max .MEM_DRAM_CORR) ∧
      t.blk.mm.poison = s.blk.mm.poison ∧ regsKept [.MEM_DRAM_CORR, .MEM_SCRUB_PROG] s.blk t.blk) ∧
  (∀ (s : State) (bad held : Nat), s.blk.pwr.powered = true →
    (badSymbols bad = 4 ∨ (badSymbols bad ≤ 3 ∧ lineTag (dramFirst + held) ≠ lineTag (dramFirst + s.blk.mm.scrubLine))) →
    ∃ t, exec (.dramScrub bad held) s = .next t ∧ t.mem = s.mem ∧ 64 * (dramFirst + s.blk.mm.scrubLine) ∈ t.blk.mm.poison ∧
      t.blk.get .MEM_DRAM_CORR 0 = s.blk.get .MEM_DRAM_CORR 0 ∧
      t.blk.get .MEM_DRAM_UNCORR 0 = min (s.blk.get .MEM_DRAM_UNCORR 0 + 1) (Field.max .MEM_DRAM_UNCORR)) ∧
  (∀ (s : State) (bad held : Nat), s.blk.pwr.powered = true → s.blk.mm.scrubLine + 1 = dramLines →
    ∃ t, exec (.dramScrub bad held) s = .next t ∧ t.blk.mm.scrubLine = 0 ∧ t.blk.get .MEM_SCRUB_PROG 0 = 0 ∧
      t.blk.get .MEM_SCRUB_PASSES 0 = min (s.blk.get .MEM_SCRUB_PASSES 0 + 1) (Field.max .MEM_SCRUB_PASSES)) ∧
  (∀ (s : State) (w : Agent) (p : Port), calUnlock s.blk w = some p → s.blk.get .SYS_CALCTL_BUSY 0 ≠ 1 → s.blk.mode ≠ .park →
    ∃ t, exec (.sysCalctlStart w) s = .next t ∧ t.blk.get .SYS_CALCTL_START 0 = 1 ∧ t.blk.get .SYS_CALCTL_BUSY 0 = 1 ∧
      t.blk.get .SYS_CALCTL_FAIL 0 = 0 ∧ t.blk.fcs.calPort = some p ∧ t.blk.fcs.calItems = s.blk.get .SYS_CALCTL_ITEMS 0 ∧
      regsKept [.SYS_CALCTL_START, .SYS_CALCTL_BUSY, .SYS_CALCTL_FAIL] s.blk t.blk) ∧
  (∀ (s : State), calUnlock s.blk .core = none → exec (.sysCalctlStart .core) s = .next s) ∧
  (∀ (s : State) (since : Nat), s.blk.hea.actLow = some since → s.blk.nvm.cmds = [] → since + 50000 ≤ s.blk.now →
    ∃ t, exec .actRelease s = .next t ∧ t.blk.hea.actLow = none ∧ t.blk.regs = s.blk.regs) ∧
  (∀ (s : State) (mv : Nat), mv < 2 ^ 16 → s.blk.get .PWR_V12_MIN 0 < 2 ^ 16 →
    ∃ t, exec (.pwrV12Refresh mv) s = .next t ∧ t.blk.get .PWR_V12_NOW 0 = mv ∧
      t.blk.get .PWR_V12_MIN 0 = min (s.blk.get .PWR_V12_MIN 0) mv ∧ regsKept [.PWR_V12_NOW, .PWR_V12_MIN] s.blk t.blk)

/-- The L2 slices (R675, R676): a memory access never fills more than sixteen miss registers of a slice, fifteen of them with
requests below the real-time class, never joins more than eight requests to one, and never holds more than eight lines in an
eviction buffer. -/
def Obligations.CacheBounds : Prop :=
  (∀ (b : Block) (q : MemReq), CachesBounded b → CachesBounded (lineAccess b q)) ∧
  (∀ (b : Block) (x len : Nat) (store : Bool) (core : Option (Fin 12 × Bool)), CachesBounded b →
    CachesBounded (rangeAccess b x len store core)) ∧
  (∀ (s : State) (w : Agent) (n : Fin 32), CachesBounded s.blk → ∃ t, exec (.dmaGo w n) s = .next t ∧ CachesBounded t.blk)

/-- The SRAM code (R681): the 16 checks of a stored word, for every data value exactly one value of the row and column bits that
makes them all 0, and the syndrome of each single bad bit. -/
def Obligations.SramEncoding : Prop :=
  (∀ (w : Nat) (r : Fin 8), (sramSyndrome w).getD r.val false =
    ((List.range 8).map (fun c => w.testBit (8 * r.val + c)) ++
      [w.testBit (64 + r.val), w.testBit (72 + (r.val + 6) % 8), w.testBit (72 + (r.val + 5) % 8)]).foldl xor false) ∧
  (∀ (w : Nat) (c : Fin 8), (sramSyndrome w).getD (8 + c.val) false =
    ((List.range 8).map (fun r => w.testBit (8 * r + c.val)) ++
      [w.testBit (72 + c.val), w.testBit (64 + c.val), w.testBit (64 + (c.val + 7) % 8)]).foldl xor false) ∧
  (∀ (d : BitVec 64), ∃ q : BitVec 16, sramSyndrome (d.toNat + 2 ^ 64 * q.toNat) = List.replicate 16 false ∧
    ∀ q' : BitVec 16, sramSyndrome (d.toNat + 2 ^ 64 * q'.toNat) = List.replicate 16 false → q' = q) ∧
  (∀ (r c : Fin 8), sramSyndrome (2 ^ (8 * r.val + c.val)) = (List.range 16).map (fun k => decide (k = r.val ∨ k = 8 + c.val))) ∧
  (∀ (r : Fin 8), sramSyndrome (2 ^ (64 + r.val)) =
    (List.range 16).map (fun k => decide (k = r.val ∨ k = 8 + r.val ∨ k = 8 + (r.val + 1) % 8))) ∧
  (∀ (c : Fin 8), sramSyndrome (2 ^ (72 + c.val)) =
    (List.range 16).map (fun k => decide (k = 8 + c.val ∨ k = (c.val + 2) % 8 ∨ k = (c.val + 3) % 8)))

/-- The SRAM code (R682): of a word whose 16 checks are 0, every single bad bit is corrected, and every pair of bad bits is detected
as uncorrectable and never miscorrected. -/
def Obligations.SramCode : Prop :=
  (∀ (w : Nat) (i : Fin 80), sramSyndrome w = List.replicate 16 false →
    sramDecode (sramSyndrome (w ^^^ 2 ^ i.val)) = .corrected i.val) ∧
  (∀ (w : Nat) (i j : Fin 80), sramSyndrome w = List.replicate 16 false → i ≠ j →
    sramDecode (sramSyndrome (w ^^^ 2 ^ i.val ^^^ 2 ^ j.val)) = .uncorrectable)

/-- The SRAM code (R683): a word whose 16 checks are 0, stored with all 16 parity bits inverted, has all 16 checks at 1 and reads as
poisoned, and no single or double error makes all 16 checks 1. -/
def Obligations.SramPoison : Prop :=
  (∀ (w : Nat), sramSyndrome w = List.replicate 16 false →
    sramSyndrome (w ^^^ (65535 * 2 ^ 64)) = List.replicate 16 true ∧ sramDecode (sramSyndrome (w ^^^ (65535 * 2 ^ 64))) = .poisoned) ∧
  (∀ (w : Nat) (i : Fin 80), sramSyndrome w = List.replicate 16 false →
    sramSyndrome (w ^^^ 2 ^ i.val) ≠ List.replicate 16 true) ∧
  (∀ (w : Nat) (i j : Fin 80), sramSyndrome w = List.replicate 16 false → i ≠ j →
    sramSyndrome (w ^^^ 2 ^ i.val ^^^ 2 ^ j.val) ≠ List.replicate 16 true)

/-! ### The block as a whole -/

/-- A step with a command at the front of the queue is that command's effect on the state with the rest of the queue. -/
def Obligations.StepRunsFront : Prop :=
  ∀ (s : State) (c : Instr) (cs : List Instr), step { s with pending := c :: cs } = exec c { s with pending := cs }

/-- A step on an empty queue is one idle microsecond (the model's choice, log entry 41): the queue stays empty, memory is unchanged,
and Device Time advances while a supply is present. -/
def Obligations.StepIdles : Prop :=
  ∀ (s : State), s.pending = [] →
    ∃ t, step s = .next t ∧ t.pending = [] ∧ t.mem = s.mem ∧ t.blk = idleTick s.blk ∧
      (advanceClocks s.blk).now = s.blk.now + (if s.blk.pwr.v12 || s.blk.pwr.aux || s.blk.pwr.powered then 1 else 0)

/-- Every command answers a next state, and so does every step; a command leaves the queue as it is, and one that is neither a store
to memory nor a reset leaves memory as it is. -/
def Obligations.CommandsGo : Prop :=
  (∀ (c : Instr) (s : State), ∃ t, exec c s = .next t ∧ t.pending = s.pending ∧ (storesMemory c = false → t.mem = s.mem)) ∧
  (∀ (s : State), Goes s)

/-- Commands that write no register field, or only those named, whatever their operands and the state: every other register field of
the window reads as before. The rules give each of them effects on these fields alone. -/
def Obligations.RegisterFrames : Prop :=
  (∀ (s : State), ∃ t, exec .vcoreRestored s = .next t ∧ t.blk.regs = s.blk.regs) ∧
  (∀ (s : State) (bank : Fin 2) (addr len dst : Nat), ∃ t, exec (.fcsRead bank addr len dst) s = .next t ∧
    regsKept cacheFields s.blk t.blk) ∧
  (∀ (s : State), ∃ t, exec .deviceTimeSave s = .next t ∧ t.blk.regs = s.blk.regs) ∧
  (∀ (s : State) (p : Port), ∃ t, exec (.perstDeassert p) s = .next t ∧ t.blk.regs = s.blk.regs) ∧
  (∀ (s : State) (p : Port), ∃ t, exec (.flrComplete p) s = .next t ∧ t.blk.regs = s.blk.regs) ∧
  (∀ (s : State) (a : Act) (bemfMv : Nat), ∃ t, exec (.retractParked a bemfMv) s = .next t ∧ t.blk.regs = s.blk.regs) ∧
  (∀ (s : State) (a : Act), ∃ t, exec (.writeReady a) s = .next t ∧ regsKept [.AST_STATE_LOOP] s.blk t.blk) ∧
  (∀ (s : State) (a : Act), ∃ t, exec (.preampSupplyGood a) s = .next t ∧ t.blk.regs = s.blk.regs) ∧
  (∀ (s : State) (a : Act) (word : Fin 4096) (data : BitVec 128), ∃ t, exec (.controlStoreWrite a word data) s = .next t ∧
    t.blk.regs = s.blk.regs) ∧
  (∀ (s : State), ∃ t, exec .reserveReplenish s = .next t ∧ t.blk.regs = s.blk.regs) ∧
  (∀ (s : State) (p : Port) (page pages : Nat), ∃ t, exec (.invalidationRequest p page pages) s = .next t ∧
    regsKept [.PX_LINK_STATE] s.blk t.blk) ∧
  (∀ (s : State) (rates used : List Nat), ∃ t, exec (.tokenRefill rates used) s = .next t ∧ t.blk.regs = s.blk.regs) ∧
  (∀ (s : State), ∃ t, exec .referenceCorrection s = .next t ∧ t.blk.regs = s.blk.regs) ∧
  (∀ (s : State) (type idx : Nat), ∃ t, exec (.miReadDataStructure type idx) s = .next t ∧ t.blk.regs = s.blk.regs) ∧
  (∀ (s : State) (id : Nat), ∃ t, exec (.miConfigurationGet id) s = .next t ∧ t.blk.regs = s.blk.regs) ∧
  (∀ (s : State) (id v : Nat), ∃ t, exec (.miConfigurationSet id v) s = .next t ∧ t.blk.regs = s.blk.regs) ∧
  (∀ (s : State) (p : Port) (kind : Fin 3), ∃ t, exec (.receiverError p kind) s = .next t ∧ t.blk.regs = s.blk.regs) ∧
  (∀ (s : State) (p : Port) (rollover : Bool), ∃ t, exec (.replayTimerTimeout p rollover) s = .next t ∧ t.blk.regs = s.blk.regs) ∧
  (∀ (s : State), ∃ t, exec .actRelease s = .next t ∧ t.blk.regs = s.blk.regs) ∧
  (∀ (s : State) (p : Port) (write : Bool) (off size hdr : Nat), ∃ t, exec (.diagAccessBadSize p write off size hdr) s = .next t ∧
    regsKept [.PX_LINK_STATE, .PX_RXERR_UR] s.blk t.blk) ∧
  (∀ (s : State) (p : Port) (off : Nat) (vals : List Word), ∃ t, exec (.diagWriteDiscarded p off vals) s = .next t ∧
    regsKept [.PX_LINK_STATE, .PX_RXERR_UR, .SYS_DIAG_WDROP_COUNT, .SYS_DIAG_WDROP_P0, .SYS_DIAG_WDROP_P1] s.blk t.blk) ∧
  (∀ (s : State) (w : Agent), ∃ t, exec (.fabRtwaitClr w) s = .next t ∧
    regsKept [.FAB_RTWAIT_CLR, .FAB_RTWAIT_MAX, .SYS_DIAG_WDROP_COUNT, .SYS_DIAG_WDROP_P0, .SYS_DIAG_WDROP_P1] s.blk t.blk) ∧
  (∀ (s : State) (bank : Fin 2) (addr : Nat) (data : List Byte), ∃ t, exec (.fcsProgram bank addr data) s = .next t ∧
    regsKept [.FCS_STAT_BUSY, .FCS_STAT_LAST, .FCS_STAT_OPBANK] s.blk t.blk) ∧
  (∀ (s : State) (bank : Fin 2) (addr : Nat), ∃ t, exec (.fcsErase bank addr) s = .next t ∧
    regsKept [.FCS_STAT_BUSY, .FCS_STAT_LAST, .FCS_STAT_OPBANK] s.blk t.blk) ∧
  (∀ (s : State), ∃ t, exec .v12Stable s = .next t ∧
    regsKept [.PWR_MODE_CAUSE, .PWR_MODE_MODE, .PWR_MODE_REVERSING, .PWR_MODE_TARGET] s.blk t.blk) ∧
  (∀ (s : State), ∃ t, exec .pendingListProgrammed s = .next t ∧
    regsKept [.PWR_DIRTY_NOW, .PWR_DIRTY_PEAK, .PWR_PENDING_ROWS] s.blk t.blk) ∧
  (∀ (s : State), ∃ t, exec .pwdisDeassert s = .next t ∧
    regsKept [.PWR_MODE_CAUSE, .PWR_MODE_MODE, .PWR_MODE_REVERSING, .PWR_MODE_TARGET] s.blk t.blk) ∧
  (∀ (s : State) (rises : List Nat), ∃ t, exec (.locateDone rises) s = .next t ∧ regsKept [.SPN_STATE_STATE] s.blk t.blk) ∧
  (∀ (s : State), ∃ t, exec .spinupRetryWaitEnd s = .next t ∧ regsKept [.SPN_SPINUP_TRIES, .SPN_STATE_STATE] s.blk t.blk) ∧
  (∀ (s : State) (high : Bool) (busMv : Nat), ∃ t, exec (.clampComparator high busMv) s = .next t ∧
    regsKept [.SPN_BUS_MAX, .SPN_BUS_NOW] s.blk t.blk) ∧
  (∀ (s : State) (w : Agent), ∃ t, exec (.spnBrakeTest w) s = .next t ∧
    regsKept [.SPN_BRAKE_TEST, .SYS_DIAG_WDROP_COUNT, .SYS_DIAG_WDROP_P0, .SYS_DIAG_WDROP_P1] s.blk t.blk) ∧
  (∀ (s : State) (a : Act), ∃ t, exec (.srvCaptureFull a) s = .next t ∧
    regsKept [.SRV_CAP_CTL_DONE, .SRV_CAP_CTL_START] s.blk t.blk) ∧
  (∀ (s : State) (a : Act) (h : Fin 6), ∃ t, exec (.touchdownReapply a h) s = .next t ∧
    regsKept [.AST_CMD_ASSIST, .AST_CMD_HEATER, .AST_HCLR_HTR] s.blk t.blk) ∧
  (∀ (s : State) (a : Act) (h : Fin 6), ∃ t, exec (.preampFaultRetry a h) s = .next t ∧ regsKept [.AST_STATE_LOOP] s.blk t.blk) ∧
  (∀ (s : State) (a : Act), ∃ t, exec (.freezeHoldEnd a) s = .next t ∧ regsKept [.CH_STATE_FROZEN] s.blk t.blk) ∧
  (∀ (s : State) (a : Act), ∃ t, exec (.wedgeTrapRequest a) s = .next t ∧ regsKept [.TS_STATE_PEND] s.blk t.blk) ∧
  (∀ (s : State) (a : Act), ∃ t, exec (.stopRequest a) s = .next t ∧ regsKept [.TS_STATE_PEND, .TS_STATE_STOPREQ] s.blk t.blk) ∧
  (∀ (s : State) (die : Fin 2) (errors : Nat), ∃ t, exec (.gcCopyCommit die errors) s = .next t ∧
    regsKept [.NS_EVT_WLMOVE, .NS_READ_REFRESH, .PWR_DIRTY_NOW, .PWR_DIRTY_PEAK] s.blk t.blk) ∧
  (∀ (s : State) (p : Port), ∃ t, exec (.d3hotEntry p) s = .next t ∧ regsKept [.PX_LINK_DSTATE] s.blk t.blk) ∧
  (∀ (s : State) (p : Port), ∃ t, exec (.pmeRepeat p) s = .next t ∧ regsKept [.PX_PM_PME] s.blk t.blk) ∧
  (∀ (s : State) (p : Port), ∃ t, exec (.pmeTurnOff p) s = .next t ∧ regsKept [.PX_LINK_STATE, .PX_PM_TURNOFF] s.blk t.blk) ∧
  (∀ (s : State) (p : Port) (read : Bool) (hdr : Nat), ∃ t, exec (.memoryRequestRefused p read hdr) s = .next t ∧
    regsKept [.PX_LINK_STATE, .PX_RXERR_UR] s.blk t.blk) ∧
  (∀ (s : State) (p : Port) (kind : Fin 3) (hdr : Nat), ∃ t, exec (.malformedTlp p kind hdr) s = .next t ∧
    regsKept [.PX_RXERR_MALF] s.blk t.blk) ∧
  (∀ (s : State) (p : Port), ∃ t, exec (.invalidateCompletion p) s = .next t ∧ regsKept [.PX_ATS_INV, .PX_LINK_STATE] s.blk t.blk) ∧
  (∀ (s : State) (p : Port), ∃ t, exec (.doeAbort p) s = .next t ∧ regsKept [.PX_DOE_ABORTS, .PX_LINK_STATE] s.blk t.blk) ∧
  (∀ (s : State), ∃ t, exec .resonatorCorrection s = .next t ∧ regsKept [.THM_RES_CORR, .THM_RES_NOCOMP] s.blk t.blk) ∧
  (∀ (s : State), ∃ t, exec .ochreDailySample s = .next t ∧ regsKept [.OCH_STATE_SAMPLES] s.blk t.blk) ∧
  (∀ (s : State), ∃ t, exec .sepiaBufferFlush s = .next t ∧
    regsKept [.SEP_FLUSH2_LASTSTART, .SEP_FLUSH_HALF, .SEP_FLUSH_SEV, .SEP_STATE_KEEP, .SEP_STATE_LAST] s.blk t.blk) ∧
  (∀ (s : State), ∃ t, exec .sepiaFlushComplete s = .next t ∧
    regsKept [.SEP_FLUSH2_LASTSTART, .SEP_FLUSH_FULL, .SEP_STATE_KEEP, .SEP_STATE_LAST, .SEP_STATE_WT] s.blk t.blk) ∧
  (∀ (s : State) (w : Agent) (n : Fin 32), ∃ t, exec (.dmaGo w n) s = .next t ∧ regsKept (cacheFields ++ [.DX_CTL_n_GO,
    .DX_STAT_n_BUSY, .DX_STAT_n_ERR, .SYS_DIAG_WDROP_COUNT, .SYS_DIAG_WDROP_P0, .SYS_DIAG_WDROP_P1]) s.blk t.blk) ∧
  (∀ (s : State) (w : Agent) (n : Fin 32), ∃ t, exec (.dmaPause w n) s = .next t ∧
    regsKept [.DX_CTL_n_PAUSE, .SYS_DIAG_WDROP_COUNT, .SYS_DIAG_WDROP_P0, .SYS_DIAG_WDROP_P1] s.blk t.blk) ∧
  (∀ (s : State) (w : Agent) (n : Fin 32), ∃ t, exec (.dmaResume w n) s = .next t ∧
    regsKept [.DX_CTL_n_PAUSE, .DX_STAT_n_PAUSED, .SYS_DIAG_WDROP_COUNT, .SYS_DIAG_WDROP_P0, .SYS_DIAG_WDROP_P1] s.blk t.blk) ∧
  (∀ (s : State) (w : Agent) (n : Fin 32), ∃ t, exec (.dmaStop w n) s = .next t ∧
    regsKept [.DX_CTL_n_STOP, .SYS_DIAG_WDROP_COUNT, .SYS_DIAG_WDROP_P0, .SYS_DIAG_WDROP_P1] s.blk t.blk) ∧
  (∀ (s : State) (w : Agent) (n : Fin 32) (done poison : Bool), ∃ t, exec (.dxStatClear w n done poison) s = .next t ∧
    regsKept [.DX_STAT_n_DONE, .DX_STAT_n_POISON, .SYS_DIAG_WDROP_COUNT, .SYS_DIAG_WDROP_P0, .SYS_DIAG_WDROP_P1] s.blk t.blk) ∧
  (∀ (s : State) (bad held : Nat), ∃ t, exec (.dramScrub bad held) s = .next t ∧
    regsKept [.MEM_DRAM_CORR, .MEM_DRAM_UNCORR, .MEM_SCRUB_PASSES, .MEM_SCRUB_PROG] s.blk t.blk) ∧
  (∀ (s : State) (p : Port), ∃ t, exec (.aspmL1Exit p) s = .next t ∧ regsKept [.PX_LINK_STATE] s.blk t.blk) ∧
  (∀ (s : State) (p : Port), ∃ t, exec (.linkDown p) s = .next t ∧
    regsKept [.PX_LINKEVT_DOWN, .PX_LINK_DSTATE, .PX_LINK_FLIT, .PX_LINK_RATE, .PX_LINK_STATE, .PX_LINK_WIDTH] s.blk t.blk) ∧
  (∀ (s : State) (p : Port), ∃ t, exec (.linkRecovery p) s = .next t ∧ regsKept [.PX_LINKEVT_RECOV, .PX_LINK_STATE] s.blk t.blk) ∧
  (∀ (s : State) (p : Port) (off : Nat) (data : List Byte) (poison enabled : Bool) (hdr : Nat), ∃ t, exec (.cmbWrite p off data
    poison enabled hdr) s = .next t ∧ regsKept [.PX_LINK_STATE, .PX_RXERR_POISON, .PX_RXERR_UR] s.blk t.blk) ∧
  (∀ (s : State) (mv : Nat), ∃ t, exec (.pwrV12Refresh mv) s = .next t ∧ regsKept [.PWR_V12_MIN, .PWR_V12_NOW] s.blk t.blk)

/-- Every step keeps memory in its canonical form: addresses strictly rising, and no listed byte 0. -/
def Obligations.MemoryInvariant : Prop :=
  ∀ (s t : State), State.wf s → step s = .next t → State.wf t

/-- The commands that store to memory without a reset leave every byte outside what they store to as it was: CMB_WRITE outside the
bytes that it carries, DMA_DONE and DMA_DRAINED outside the channel's destination, FCS_READ outside the bytes that it copies to,
SRAM_SCRUB outside the word that it reads, DRAM_SCRUB outside its line. CMB_WRITE (R504, R550): the bytes written inside the
share, at most 4 KiB of them, read back, and every other byte of memory is unchanged. -/
def Obligations.StoresStayInPlace : Prop :=
  (∀ (s : State) (p : Port) (off : Nat) (data : List Byte) (poison enabled : Bool) (hdr : Nat),
    ∃ t, exec (.cmbWrite p off data poison enabled hdr) s = .next t ∧
      ∀ x, (x < (cmbShare s.blk p).1 + off ∨ (cmbShare s.blk p).1 + off + min data.length 4096 ≤ x) → byteOf t x = byteOf s x) ∧
  (∀ (s : State) (n : Fin 32) (f : Option Nat) (fromHost : List Byte),
    ∃ t, exec (.dmaDone n f fromHost) s = .next t ∧
      ∀ x, (x < dxDst s.blk n.val ∨ dxDst s.blk n.val + dxCount s.blk n.val ≤ x) → byteOf t x = byteOf s x) ∧
  (∀ (s : State) (n : Fin 32) (moved : Nat) (fromHost : List Byte),
    ∃ t, exec (.dmaDrained n moved fromHost) s = .next t ∧
      ∀ x, (x < dxDst s.blk n.val ∨ dxDst s.blk n.val + moved ≤ x) → byteOf t x = byteOf s x) ∧
  (∀ (s : State) (bank : Fin 2) (addr len dst : Nat),
    ∃ t, exec (.fcsRead bank addr len dst) s = .next t ∧ ∀ x, (x < dst ∨ dst + len ≤ x) → byteOf t x = byteOf s x) ∧
  (∀ (s : State) (bad held : Nat),
    ∃ t, exec (.dramScrub bad held) s = .next t ∧
      ∀ x, x / 64 ≠ dramFirst + s.blk.mm.scrubLine → byteOf t x = byteOf s x) ∧
  (∀ (s : State) (a bank row bad : Nat) (clean last : Bool),
    ∃ t, exec (.sramScrub (some a) bank row bad clean last) s = .next t ∧
      ∀ x, (x < a - a % 8 ∨ a - a % 8 + 8 ≤ x) → byteOf t x = byteOf s x) ∧
  (∀ (s t : State) (p : Port) (off : Nat) (data : List Byte) (poison enabled : Bool) (hdr x : Nat),
    exec (.cmbWrite p off data poison enabled hdr) s = .next t →
    byteOf t x = (if s.blk.get .PX_LINK_DSTATE p.val ≠ 3 ∧ enabled = true ∧ (cmbShare s.blk p).1 + off ≤ x ∧
        x < (cmbShare s.blk p).1 + (cmbShare s.blk p).2 ∧ x < (cmbShare s.blk p).1 + off + min data.length 4096
      then data.getD (x - ((cmbShare s.blk p).1 + off)) 0 else byteOf s x))

/-- The state after reset (R10, and each register's Reset entry): no command waits, memory lists nothing and is in canonical form,
and every register field whose Reset entry is a value reads that value. -/
def Obligations.ResetState : Prop :=
  State.reset.pending = [] ∧ State.wf State.reset ∧ (∀ x, byteOf State.reset x = 0) ∧
    (∀ (f : Field) (i v : Nat), f.info.reset = .val v → State.reset.blk.get f i = v) ∧
    State.reset.blk.get .PWR_V12_MIN 0 = 0xFFFF ∧ State.reset.blk.get .SPN_STATE_STATE 0 = 0

/-- REGISTER_WRITE (R10, R36, R38, R40) by a control core, or by a host under factory unlock: each field of the register takes what
its access type makes of its bits: RO keeps its value, RW takes the bits, a 1 clears RW1C and sets RW1S. A field that only
factory unlock opens keeps its value while no port holds one. Fields whose writes are commands of their own, and the addresses
and count of a running channel, are left to those commands. A control core's access past the register space is a bus fault. -/
def Obligations.RegisterWriteAccess : Prop :=
  (∀ (s : State) (off : Nat) (w : Word) (f : Field) (i hdr : Nat), off % 4 = 0 → (f, i) ∈ fieldsAt off → ownCommandField f = false →
    dxHeld s.blk f i = false →
    ∃ t, exec (.registerWrite .core off [w] hdr) s = .next t ∧ t.mem = s.mem ∧
      t.blk.get f i = (if unlockOnly f = true ∧ anyUnlocked s.blk = false then s.blk.get f i
        else accessWrite f.info.access (s.blk.get f i) (w.toNat / 2 ^ f.info.lo % 2 ^ f.width))) ∧
  (∀ (s : State) (p : Port) (off : Nat) (w : Word) (f : Field) (i hdr : Nat), off % 4 = 0 → (f, i) ∈ fieldsAt off →
    ownCommandField f = false → f ≠ .PX_LINK_STATE → dxHeld s.blk f i = false → unlocked s.blk p = true → dxFirmware off = false →
    s.blk.get .PX_LINK_DSTATE p.val ≠ 3 →
    ∃ t, exec (.registerWrite (.port p) off [w] hdr) s = .next t ∧ t.mem = s.mem ∧
      t.blk.get f i = accessWrite f.info.access (s.blk.get f i) (w.toNat / 2 ^ f.info.lo % 2 ^ f.width)) ∧
  (∀ (s : State) (off : Nat) (vals : List Word) (hdr : Nat), off + 4 * vals.length > 0x100000 →
    ∃ t, exec (.registerWrite .core off vals hdr) s = .next t ∧ t.blk.sys.reply = .busFault ∧
      t.blk.sys.busFaults = s.blk.sys.busFaults + 1 ∧ t.blk.regs = s.blk.regs ∧ t.mem = s.mem)

/-- A write to the diagnostic window of an accepted size and alignment, made without an active factory unlock on its port (R40), is
discarded: it is counted in SYS_DIAG_WDROP, makes no AER log entry, and changes nothing else than what any request does to the
link that carries it. In D3hot the function takes no such write (R519). -/
def Obligations.WindowWriteDiscarded : Prop :=
  ∀ (s : State) (p : Port) (off : Nat) (vals : List Word) (hdr : Nat), windowShapeOk off (4 * vals.length) = true →
    unlocked s.blk p = false → s.blk.get .PX_LINK_DSTATE p.val ≠ 3 →
    ∃ t, exec (.registerWrite (.port p) off vals hdr) s = .next t ∧ exec (.diagWriteDiscarded p off vals) s = .next t ∧
      t.blk.get .SYS_DIAG_WDROP_COUNT 0 = min (s.blk.get .SYS_DIAG_WDROP_COUNT 0 + 1) (Field.max .SYS_DIAG_WDROP_COUNT) ∧
      (p = 0 → t.blk.get .SYS_DIAG_WDROP_P0 0 = 1) ∧ (p = 1 → t.blk.get .SYS_DIAG_WDROP_P1 0 = 1) ∧
      regsKept [.SYS_DIAG_WDROP_COUNT, .SYS_DIAG_WDROP_P0, .SYS_DIAG_WDROP_P1] (touchLink s.blk p) t.blk ∧
      t.blk.px = (touchLink s.blk p).px ∧ t.mem = s.mem

/-- The FCS (R66) performs one program or erase at a time: while one is in progress no other starts; a read of the other bank copies
its bytes into DRAM and answers them; a read of the bank in use is a bus fault, and no data is copied. -/
def Obligations.FcsOneOperation : Prop :=
  (∀ (s : State) (o : FcsOp) (bank : Fin 2) (addr : Nat) (data : List Byte), s.blk.fcs.op = some o →
    (∃ t, exec (.fcsProgram bank addr data) s = .next t ∧ t.blk.fcs = s.blk.fcs ∧ t.mem = s.mem) ∧
    (∃ t, exec (.fcsErase bank addr) s = .next t ∧ t.blk.fcs = s.blk.fcs ∧ t.mem = s.mem)) ∧
  (∀ (s : State) (o : FcsOp) (bank : Fin 2) (addr len dst : Nat), s.blk.fcs.op = some o → o.bank ≠ bank → 0x400000000 ≤ dst →
    dst + len ≤ 0x800000000 → addr + len ≤ fcsBankBytes →
    ∃ t, exec (.fcsRead bank addr len dst) s = .next t ∧ t.blk.fcs = s.blk.fcs ∧ regsKept cacheFields s.blk t.blk ∧
      t.blk.sys.reply = .bytes ((List.range len).map (fun i => bankByte bank (vget s.blk.fcs.banks bank) (addr + i))) ∧
      ∀ x, byteOf t x = (if dst ≤ x ∧ x < dst + len
        then BitVec.ofNat 8 (bankByte bank (vget s.blk.fcs.banks bank) (addr + (x - dst))) else byteOf s x)) ∧
  (∀ (s : State) (o : FcsOp) (addr len dst : Nat), s.blk.fcs.op = some o →
    ∃ t, exec (.fcsRead o.bank addr len dst) s = .next t ∧ t.blk.sys.reply = .busFault ∧
      t.blk.sys.busFaults = s.blk.sys.busFaults + 1 ∧ t.blk.fcs = s.blk.fcs ∧ t.blk.regs = s.blk.regs ∧ t.mem = s.mem)
end

