-- ==== Sys2Proof/Laws/Maps.lean ====
section
/-! SUPPORT. The laws of sparse tables: a read after a write, the other keys, and the canonical form. -/

namespace Sys2Proof.Machine

variable {α : Type}

theorem nget_nerase_same (d : α) (m : NMap α) (j : Nat) : nget d (nerase m j) j = d := by
  induction m with
  | nil => rfl
  | cons e m ih =>
    obtain ⟨k, v⟩ := e
    by_cases h : j = k
    · simp [nerase, h]; rw [← h]; exact ih
    · simp [nerase, h, nget, ih]

theorem nget_nerase_other (d : α) (m : NMap α) {j k : Nat} (h : k ≠ j) : nget d (nerase m j) k = nget d m k := by
  induction m with
  | nil => rfl
  | cons e m ih =>
    obtain ⟨i, v⟩ := e
    by_cases hj : j = i
    · subst hj; simp [nerase, nget, h, ih]
    · by_cases hk : k = i <;> simp [nerase, hj, nget, hk, ih]

theorem nget_ninsert_same (d : α) (m : NMap α) (j : Nat) (w : α) (h : ∀ e ∈ m, e.1 ≠ j) :
    nget d (ninsert m j w) j = w := by
  induction m with
  | nil => simp [ninsert, nget]
  | cons e m ih =>
    obtain ⟨i, v⟩ := e
    have hi : j ≠ i := fun x => h (i, v) (by simp) x.symm
    have ht : ∀ e ∈ m, e.1 ≠ j := fun e he => h e (by simp [he])
    by_cases hl : j < i
    · simp [ninsert, hl, nget]
    · simp [ninsert, hl, nget, hi, ih ht]

theorem nget_ninsert_other (d : α) (m : NMap α) {j k : Nat} (w : α) (h : k ≠ j) :
    nget d (ninsert m j w) k = nget d m k := by
  induction m with
  | nil => simp [ninsert, nget, h]
  | cons e m ih =>
    obtain ⟨i, v⟩ := e
    by_cases hl : j < i
    · simp [ninsert, hl, nget, h]
    · by_cases hk : k = i <;> simp [ninsert, hl, nget, hk, ih]

theorem nerase_eq_filter (m : NMap α) (j : Nat) : nerase m j = m.filter (fun e => decide (e.1 ≠ j)) := by
  induction m with
  | nil => rfl
  | cons e m ih =>
    obtain ⟨i, v⟩ := e
    by_cases h : j = i
    · subst h; simp [nerase, ih]
    · simp [nerase, h, ih, Ne.symm h]

theorem nerase_keys (m : NMap α) (j : Nat) : ∀ e ∈ nerase m j, e.1 ≠ j := by
  rw [nerase_eq_filter]; intro e he; simpa using (List.mem_filter.mp he).2

/-- A read after a write of the same key gives the value written. -/
@[simp] theorem nget_nset_same [DecidableEq α] (d : α) (m : NMap α) (j : Nat) (w : α) : nget d (nset d m j w) j = w := by
  unfold nset
  split
  · next h => rw [nget_nerase_same, h]
  · exact nget_ninsert_same d _ j w (nerase_keys m j)

/-- A write leaves every other key alone. -/
theorem nget_nset_other [DecidableEq α] (d e : α) (m : NMap α) {j k : Nat} (w : α) (h : k ≠ j) :
    nget d (nset e m j w) k = nget d m k := by
  unfold nset
  split
  · exact nget_nerase_other d m h
  · rw [nget_ninsert_other _ _ _ h, nget_nerase_other _ _ h]

/-! ### The canonical form -/

/-- The canonical form as a property of the keys and of the entries. -/
theorem nwf_iff [DecidableEq α] (d : Nat → α) (m : NMap α) :
    nwf d m = true ↔ m.Pairwise (fun x y => x.1 < y.1) ∧ ∀ e ∈ m, e.2 ≠ d e.1 := by
  induction m with
  | nil => simp [nwf]
  | cons e m ih =>
    obtain ⟨k, v⟩ := e
    cases m with
    | nil => simp [nwf]
    | cons e' m =>
      obtain ⟨k', v'⟩ := e'
      simp only [nwf, Bool.and_eq_true, Bool.not_eq_true', decide_eq_false_iff_not, decide_eq_true_eq, ih]
      constructor
      · rintro ⟨⟨hv, hk⟩, hp, he⟩
        refine ⟨List.pairwise_cons.mpr ⟨?_, hp⟩, ?_⟩
        · intro y hy
          rcases List.mem_cons.mp hy with rfl | hy
          · exact hk
          · exact Nat.lt_trans hk ((List.pairwise_cons.mp hp).1 y hy)
        · intro y hy
          rcases List.mem_cons.mp hy with rfl | hy
          · exact hv
          · exact he y hy
      · rintro ⟨hp, he⟩
        have hc := List.pairwise_cons.mp hp
        exact ⟨⟨he (k, v) (by simp), hc.1 (k', v') (by simp)⟩, hc.2, fun y hy => he y (by simp [hy])⟩

theorem nwf_filter [DecidableEq α] (d : Nat → α) (m : NMap α) (p : Nat × α → Bool) (h : nwf d m = true) :
    nwf d (m.filter p) = true := by
  rw [nwf_iff] at h ⊢
  exact ⟨h.1.filter p, fun e he => h.2 e (List.mem_filter.mp he).1⟩

theorem ninsert_mem (m : NMap α) (j : Nat) (w : α) : ∀ e ∈ ninsert m j w, e = (j, w) ∨ e ∈ m := by
  induction m with
  | nil => simp [ninsert]
  | cons e m ih =>
    obtain ⟨i, v⟩ := e
    intro y hy
    by_cases hl : j < i
    · simpa [ninsert, hl] using hy
    · simp only [ninsert, hl, if_false, List.mem_cons] at hy
      rcases hy with rfl | hy
      · simp
      · rcases ih y hy with h | h <;> simp [h]

theorem ninsert_sorted (m : NMap α) (j : Nat) (w : α) (hs : m.Pairwise (fun x y => x.1 < y.1))
    (hj : ∀ e ∈ m, e.1 ≠ j) : (ninsert m j w).Pairwise (fun x y => x.1 < y.1) := by
  induction m with
  | nil => simp [ninsert]
  | cons e m ih =>
    obtain ⟨i, v⟩ := e
    have hc := List.pairwise_cons.mp hs
    by_cases hl : j < i
    · simp only [ninsert, hl, if_true]
      refine List.pairwise_cons.mpr ⟨?_, hs⟩
      intro y hy
      rcases List.mem_cons.mp hy with rfl | hy
      · exact hl
      · exact Nat.lt_trans hl (hc.1 y hy)
    · simp only [ninsert, hl, if_false]
      have hij : i < j := by
        have := hj (i, v) (by simp)
        simp at this; omega
      refine List.pairwise_cons.mpr ⟨?_, ih hc.2 (fun e he => hj e (by simp [he]))⟩
      intro y hy
      rcases ninsert_mem m j w y hy with rfl | hy
      · exact hij
      · exact hc.1 y hy

/-- A write keeps the canonical form. -/
theorem nwf_nset [DecidableEq α] (d : Nat → α) (m : NMap α) (j : Nat) (w : α) (h : nwf d m = true) :
    nwf d (nset (d j) m j w) = true := by
  unfold nset
  have he : nwf d (nerase m j) = true := by rw [nerase_eq_filter]; exact nwf_filter d m _ h
  split
  · exact he
  · next hw =>
    rw [nwf_iff] at he ⊢
    refine ⟨ninsert_sorted _ j w he.1 (nerase_keys m j), ?_⟩
    intro e hm
    rcases ninsert_mem _ j w e hm with rfl | hm
    · exact hw
    · exact he.2 e hm

end Sys2Proof.Machine
end

