-- ==== Sys2Proof/Laws/Registers.lean ====
section
/-! SUPPORT. The laws of register fields: a read after a write, and that a write leaves the other fields alone. -/

namespace Sys2Proof.Machine

theorem Field.ctorIdx_inj {f g : Field} (h : f.ctorIdx = g.ctorIdx) : f = g := by
  rw [← Field.ofNat_ctorIdx f, ← Field.ofNat_ctorIdx g, h]

/-- Two instances of fields share a key only when they are the same: instance numbers are below 256. -/
theorem Field.key_inj {f g : Field} {i j : Nat} (hi : i < 256) (hj : j < 256) (h : f.key i = g.key j) :
    f = g ∧ i = j := by
  unfold Field.key at h
  have : f.ctorIdx = g.ctorIdx ∧ i = j := by omega
  exact ⟨Field.ctorIdx_inj this.1, this.2⟩

/-- A field reads the low bits of what was put into it. -/
@[simp] theorem Block.get_put_same (b : Block) (f : Field) (i v : Nat) : (b.put f i v).get f i = v % 2 ^ f.width := by
  simp [Block.get, Block.put]

/-- A write to one instance of a field leaves every other field and instance alone. -/
theorem Block.get_put_other (b : Block) {f g : Field} {i j : Nat} (v : Nat) (hi : i < 256) (hj : j < 256)
    (h : g ≠ f ∨ j ≠ i) : (b.put f i v).get g j = b.get g j := by
  unfold Block.get Block.put
  apply nget_nset_other
  intro hk
  have := Field.key_inj hj hi hk
  rcases h with h | h
  · exact h this.1
  · exact h this.2

/-- The same for a write to another field of the same or any instance. -/
@[simp] theorem Block.get_put_ne (b : Block) {f g : Field} (i j v : Nat) (hi : i < 256) (hj : j < 256) (h : g ≠ f) :
    (b.put f i v).get g j = b.get g j := Block.get_put_other b v hi hj (Or.inl h)

/-- A field that a saturating write reaches reads the value cut to its range. -/
theorem Block.get_putSat_same (b : Block) (f : Field) (i v : Nat) : (b.putSat f i v).get f i = min v f.max % 2 ^ f.width := by
  simp [Block.putSat]

/-- A counter that advances reads one more until its greatest value. -/
theorem Block.get_bump_same (b : Block) (f : Field) (i n : Nat) :
    (b.bump f i n).get f i = min (b.get f i + n) f.max % 2 ^ f.width := by
  simp [Block.bump]

end Sys2Proof.Machine
end

