-- ==== Sys2Proof/Laws/State.lean ====
section
/-! SUPPORT. One lemma for each component of the block and each update: what the update leaves alone. -/

namespace Sys2Proof.Machine

variable (b : Block)

@[simp] theorem Block.put_image (f : Field) (i v : Nat) : (b.put f i v).image = b.image := rfl
@[simp] theorem Block.put_sys (f : Field) (i v : Nat) : (b.put f i v).sys = b.sys := rfl
@[simp] theorem Block.put_sep (f : Field) (i v : Nat) : (b.put f i v).sep = b.sep := rfl
@[simp] theorem Block.put_fcs (f : Field) (i v : Nat) : (b.put f i v).fcs = b.fcs := rfl
@[simp] theorem Block.put_fuses (f : Field) (i v : Nat) : (b.put f i v).fuses = b.fuses := rfl
@[simp] theorem Block.put_boot (f : Field) (i v : Nat) : (b.put f i v).boot = b.boot := rfl
@[simp] theorem Block.put_pwr (f : Field) (i v : Nat) : (b.put f i v).pwr = b.pwr := rfl
@[simp] theorem Block.put_spn (f : Field) (i v : Nat) : (b.put f i v).spn = b.spn := rfl
@[simp] theorem Block.put_srv (f : Field) (i v : Nat) : (b.put f i v).srv = b.srv := rfl
@[simp] theorem Block.put_ast (f : Field) (i v : Nat) : (b.put f i v).ast = b.ast := rfl
@[simp] theorem Block.put_ch (f : Field) (i v : Nat) : (b.put f i v).ch = b.ch := rfl
@[simp] theorem Block.put_deep (f : Field) (i v : Nat) : (b.put f i v).deep = b.deep := rfl
@[simp] theorem Block.put_ts (f : Field) (i v : Nat) : (b.put f i v).ts = b.ts := rfl
@[simp] theorem Block.put_xl (f : Field) (i v : Nat) : (b.put f i v).xl = b.xl := rfl
@[simp] theorem Block.put_ns (f : Field) (i v : Nat) : (b.put f i v).ns = b.ns := rfl
@[simp] theorem Block.put_px (f : Field) (i v : Nat) : (b.put f i v).px = b.px := rfl
@[simp] theorem Block.put_nv (f : Field) (i v : Nat) : (b.put f i v).nv = b.nv := rfl
@[simp] theorem Block.put_nvm (f : Field) (i v : Nat) : (b.put f i v).nvm = b.nvm := rfl
@[simp] theorem Block.put_nim (f : Field) (i v : Nat) : (b.put f i v).nim = b.nim := rfl
@[simp] theorem Block.put_thm (f : Field) (i v : Nat) : (b.put f i v).thm = b.thm := rfl
@[simp] theorem Block.put_och (f : Field) (i v : Nat) : (b.put f i v).och = b.och := rfl
@[simp] theorem Block.put_hea (f : Field) (i v : Nat) : (b.put f i v).hea = b.hea := rfl
@[simp] theorem Block.put_mm (f : Field) (i v : Nat) : (b.put f i v).mm = b.mm := rfl

@[simp] theorem Block.putSat_image (f : Field) (i v : Nat) : (b.putSat f i v).image = b.image := rfl
@[simp] theorem Block.putSat_sys (f : Field) (i v : Nat) : (b.putSat f i v).sys = b.sys := rfl
@[simp] theorem Block.putSat_sep (f : Field) (i v : Nat) : (b.putSat f i v).sep = b.sep := rfl
@[simp] theorem Block.putSat_fcs (f : Field) (i v : Nat) : (b.putSat f i v).fcs = b.fcs := rfl
@[simp] theorem Block.putSat_fuses (f : Field) (i v : Nat) : (b.putSat f i v).fuses = b.fuses := rfl
@[simp] theorem Block.putSat_boot (f : Field) (i v : Nat) : (b.putSat f i v).boot = b.boot := rfl
@[simp] theorem Block.putSat_pwr (f : Field) (i v : Nat) : (b.putSat f i v).pwr = b.pwr := rfl
@[simp] theorem Block.putSat_spn (f : Field) (i v : Nat) : (b.putSat f i v).spn = b.spn := rfl
@[simp] theorem Block.putSat_srv (f : Field) (i v : Nat) : (b.putSat f i v).srv = b.srv := rfl
@[simp] theorem Block.putSat_ast (f : Field) (i v : Nat) : (b.putSat f i v).ast = b.ast := rfl
@[simp] theorem Block.putSat_ch (f : Field) (i v : Nat) : (b.putSat f i v).ch = b.ch := rfl
@[simp] theorem Block.putSat_deep (f : Field) (i v : Nat) : (b.putSat f i v).deep = b.deep := rfl
@[simp] theorem Block.putSat_ts (f : Field) (i v : Nat) : (b.putSat f i v).ts = b.ts := rfl
@[simp] theorem Block.putSat_xl (f : Field) (i v : Nat) : (b.putSat f i v).xl = b.xl := rfl
@[simp] theorem Block.putSat_ns (f : Field) (i v : Nat) : (b.putSat f i v).ns = b.ns := rfl
@[simp] theorem Block.putSat_px (f : Field) (i v : Nat) : (b.putSat f i v).px = b.px := rfl
@[simp] theorem Block.putSat_nv (f : Field) (i v : Nat) : (b.putSat f i v).nv = b.nv := rfl
@[simp] theorem Block.putSat_nvm (f : Field) (i v : Nat) : (b.putSat f i v).nvm = b.nvm := rfl
@[simp] theorem Block.putSat_nim (f : Field) (i v : Nat) : (b.putSat f i v).nim = b.nim := rfl
@[simp] theorem Block.putSat_thm (f : Field) (i v : Nat) : (b.putSat f i v).thm = b.thm := rfl
@[simp] theorem Block.putSat_och (f : Field) (i v : Nat) : (b.putSat f i v).och = b.och := rfl
@[simp] theorem Block.putSat_hea (f : Field) (i v : Nat) : (b.putSat f i v).hea = b.hea := rfl
@[simp] theorem Block.putSat_mm (f : Field) (i v : Nat) : (b.putSat f i v).mm = b.mm := rfl

@[simp] theorem Block.bump_image (f : Field) (i n : Nat) : (b.bump f i n).image = b.image := rfl
@[simp] theorem Block.bump_sys (f : Field) (i n : Nat) : (b.bump f i n).sys = b.sys := rfl
@[simp] theorem Block.bump_sep (f : Field) (i n : Nat) : (b.bump f i n).sep = b.sep := rfl
@[simp] theorem Block.bump_fcs (f : Field) (i n : Nat) : (b.bump f i n).fcs = b.fcs := rfl
@[simp] theorem Block.bump_fuses (f : Field) (i n : Nat) : (b.bump f i n).fuses = b.fuses := rfl
@[simp] theorem Block.bump_boot (f : Field) (i n : Nat) : (b.bump f i n).boot = b.boot := rfl
@[simp] theorem Block.bump_pwr (f : Field) (i n : Nat) : (b.bump f i n).pwr = b.pwr := rfl
@[simp] theorem Block.bump_spn (f : Field) (i n : Nat) : (b.bump f i n).spn = b.spn := rfl
@[simp] theorem Block.bump_srv (f : Field) (i n : Nat) : (b.bump f i n).srv = b.srv := rfl
@[simp] theorem Block.bump_ast (f : Field) (i n : Nat) : (b.bump f i n).ast = b.ast := rfl
@[simp] theorem Block.bump_ch (f : Field) (i n : Nat) : (b.bump f i n).ch = b.ch := rfl
@[simp] theorem Block.bump_deep (f : Field) (i n : Nat) : (b.bump f i n).deep = b.deep := rfl
@[simp] theorem Block.bump_ts (f : Field) (i n : Nat) : (b.bump f i n).ts = b.ts := rfl
@[simp] theorem Block.bump_xl (f : Field) (i n : Nat) : (b.bump f i n).xl = b.xl := rfl
@[simp] theorem Block.bump_ns (f : Field) (i n : Nat) : (b.bump f i n).ns = b.ns := rfl
@[simp] theorem Block.bump_px (f : Field) (i n : Nat) : (b.bump f i n).px = b.px := rfl
@[simp] theorem Block.bump_nv (f : Field) (i n : Nat) : (b.bump f i n).nv = b.nv := rfl
@[simp] theorem Block.bump_nvm (f : Field) (i n : Nat) : (b.bump f i n).nvm = b.nvm := rfl
@[simp] theorem Block.bump_nim (f : Field) (i n : Nat) : (b.bump f i n).nim = b.nim := rfl
@[simp] theorem Block.bump_thm (f : Field) (i n : Nat) : (b.bump f i n).thm = b.thm := rfl
@[simp] theorem Block.bump_och (f : Field) (i n : Nat) : (b.bump f i n).och = b.och := rfl
@[simp] theorem Block.bump_hea (f : Field) (i n : Nat) : (b.bump f i n).hea = b.hea := rfl
@[simp] theorem Block.bump_mm (f : Field) (i n : Nat) : (b.bump f i n).mm = b.mm := rfl

@[simp] theorem Block.putBool_image (f : Field) (i : Nat) (v : Bool) : (b.putBool f i v).image = b.image := rfl
@[simp] theorem Block.putBool_sys (f : Field) (i : Nat) (v : Bool) : (b.putBool f i v).sys = b.sys := rfl
@[simp] theorem Block.putBool_sep (f : Field) (i : Nat) (v : Bool) : (b.putBool f i v).sep = b.sep := rfl
@[simp] theorem Block.putBool_fcs (f : Field) (i : Nat) (v : Bool) : (b.putBool f i v).fcs = b.fcs := rfl
@[simp] theorem Block.putBool_fuses (f : Field) (i : Nat) (v : Bool) : (b.putBool f i v).fuses = b.fuses := rfl
@[simp] theorem Block.putBool_boot (f : Field) (i : Nat) (v : Bool) : (b.putBool f i v).boot = b.boot := rfl
@[simp] theorem Block.putBool_pwr (f : Field) (i : Nat) (v : Bool) : (b.putBool f i v).pwr = b.pwr := rfl
@[simp] theorem Block.putBool_spn (f : Field) (i : Nat) (v : Bool) : (b.putBool f i v).spn = b.spn := rfl
@[simp] theorem Block.putBool_srv (f : Field) (i : Nat) (v : Bool) : (b.putBool f i v).srv = b.srv := rfl
@[simp] theorem Block.putBool_ast (f : Field) (i : Nat) (v : Bool) : (b.putBool f i v).ast = b.ast := rfl
@[simp] theorem Block.putBool_ch (f : Field) (i : Nat) (v : Bool) : (b.putBool f i v).ch = b.ch := rfl
@[simp] theorem Block.putBool_deep (f : Field) (i : Nat) (v : Bool) : (b.putBool f i v).deep = b.deep := rfl
@[simp] theorem Block.putBool_ts (f : Field) (i : Nat) (v : Bool) : (b.putBool f i v).ts = b.ts := rfl
@[simp] theorem Block.putBool_xl (f : Field) (i : Nat) (v : Bool) : (b.putBool f i v).xl = b.xl := rfl
@[simp] theorem Block.putBool_ns (f : Field) (i : Nat) (v : Bool) : (b.putBool f i v).ns = b.ns := rfl
@[simp] theorem Block.putBool_px (f : Field) (i : Nat) (v : Bool) : (b.putBool f i v).px = b.px := rfl
@[simp] theorem Block.putBool_nv (f : Field) (i : Nat) (v : Bool) : (b.putBool f i v).nv = b.nv := rfl
@[simp] theorem Block.putBool_nvm (f : Field) (i : Nat) (v : Bool) : (b.putBool f i v).nvm = b.nvm := rfl
@[simp] theorem Block.putBool_nim (f : Field) (i : Nat) (v : Bool) : (b.putBool f i v).nim = b.nim := rfl
@[simp] theorem Block.putBool_thm (f : Field) (i : Nat) (v : Bool) : (b.putBool f i v).thm = b.thm := rfl
@[simp] theorem Block.putBool_och (f : Field) (i : Nat) (v : Bool) : (b.putBool f i v).och = b.och := rfl
@[simp] theorem Block.putBool_hea (f : Field) (i : Nat) (v : Bool) : (b.putBool f i v).hea = b.hea := rfl
@[simp] theorem Block.putBool_mm (f : Field) (i : Nat) (v : Bool) : (b.putBool f i v).mm = b.mm := rfl

@[simp] theorem Block.putInt_image (f : Field) (i : Nat) (v : Int) : (b.putInt f i v).image = b.image := rfl
@[simp] theorem Block.putInt_sys (f : Field) (i : Nat) (v : Int) : (b.putInt f i v).sys = b.sys := rfl
@[simp] theorem Block.putInt_sep (f : Field) (i : Nat) (v : Int) : (b.putInt f i v).sep = b.sep := rfl
@[simp] theorem Block.putInt_fcs (f : Field) (i : Nat) (v : Int) : (b.putInt f i v).fcs = b.fcs := rfl
@[simp] theorem Block.putInt_fuses (f : Field) (i : Nat) (v : Int) : (b.putInt f i v).fuses = b.fuses := rfl
@[simp] theorem Block.putInt_boot (f : Field) (i : Nat) (v : Int) : (b.putInt f i v).boot = b.boot := rfl
@[simp] theorem Block.putInt_pwr (f : Field) (i : Nat) (v : Int) : (b.putInt f i v).pwr = b.pwr := rfl
@[simp] theorem Block.putInt_spn (f : Field) (i : Nat) (v : Int) : (b.putInt f i v).spn = b.spn := rfl
@[simp] theorem Block.putInt_srv (f : Field) (i : Nat) (v : Int) : (b.putInt f i v).srv = b.srv := rfl
@[simp] theorem Block.putInt_ast (f : Field) (i : Nat) (v : Int) : (b.putInt f i v).ast = b.ast := rfl
@[simp] theorem Block.putInt_ch (f : Field) (i : Nat) (v : Int) : (b.putInt f i v).ch = b.ch := rfl
@[simp] theorem Block.putInt_deep (f : Field) (i : Nat) (v : Int) : (b.putInt f i v).deep = b.deep := rfl
@[simp] theorem Block.putInt_ts (f : Field) (i : Nat) (v : Int) : (b.putInt f i v).ts = b.ts := rfl
@[simp] theorem Block.putInt_xl (f : Field) (i : Nat) (v : Int) : (b.putInt f i v).xl = b.xl := rfl
@[simp] theorem Block.putInt_ns (f : Field) (i : Nat) (v : Int) : (b.putInt f i v).ns = b.ns := rfl
@[simp] theorem Block.putInt_px (f : Field) (i : Nat) (v : Int) : (b.putInt f i v).px = b.px := rfl
@[simp] theorem Block.putInt_nv (f : Field) (i : Nat) (v : Int) : (b.putInt f i v).nv = b.nv := rfl
@[simp] theorem Block.putInt_nvm (f : Field) (i : Nat) (v : Int) : (b.putInt f i v).nvm = b.nvm := rfl
@[simp] theorem Block.putInt_nim (f : Field) (i : Nat) (v : Int) : (b.putInt f i v).nim = b.nim := rfl
@[simp] theorem Block.putInt_thm (f : Field) (i : Nat) (v : Int) : (b.putInt f i v).thm = b.thm := rfl
@[simp] theorem Block.putInt_och (f : Field) (i : Nat) (v : Int) : (b.putInt f i v).och = b.och := rfl
@[simp] theorem Block.putInt_hea (f : Field) (i : Nat) (v : Int) : (b.putInt f i v).hea = b.hea := rfl
@[simp] theorem Block.putInt_mm (f : Field) (i : Nat) (v : Int) : (b.putInt f i v).mm = b.mm := rfl

@[simp] theorem Block.answer_regs (r : Reply) : (b.answer r).regs = b.regs := rfl
@[simp] theorem Block.answer_image (r : Reply) : (b.answer r).image = b.image := rfl
@[simp] theorem Block.answer_sep (r : Reply) : (b.answer r).sep = b.sep := rfl
@[simp] theorem Block.answer_fcs (r : Reply) : (b.answer r).fcs = b.fcs := rfl
@[simp] theorem Block.answer_fuses (r : Reply) : (b.answer r).fuses = b.fuses := rfl
@[simp] theorem Block.answer_boot (r : Reply) : (b.answer r).boot = b.boot := rfl
@[simp] theorem Block.answer_pwr (r : Reply) : (b.answer r).pwr = b.pwr := rfl
@[simp] theorem Block.answer_spn (r : Reply) : (b.answer r).spn = b.spn := rfl
@[simp] theorem Block.answer_srv (r : Reply) : (b.answer r).srv = b.srv := rfl
@[simp] theorem Block.answer_ast (r : Reply) : (b.answer r).ast = b.ast := rfl
@[simp] theorem Block.answer_ch (r : Reply) : (b.answer r).ch = b.ch := rfl
@[simp] theorem Block.answer_deep (r : Reply) : (b.answer r).deep = b.deep := rfl
@[simp] theorem Block.answer_ts (r : Reply) : (b.answer r).ts = b.ts := rfl
@[simp] theorem Block.answer_xl (r : Reply) : (b.answer r).xl = b.xl := rfl
@[simp] theorem Block.answer_ns (r : Reply) : (b.answer r).ns = b.ns := rfl
@[simp] theorem Block.answer_px (r : Reply) : (b.answer r).px = b.px := rfl
@[simp] theorem Block.answer_nv (r : Reply) : (b.answer r).nv = b.nv := rfl
@[simp] theorem Block.answer_nvm (r : Reply) : (b.answer r).nvm = b.nvm := rfl
@[simp] theorem Block.answer_nim (r : Reply) : (b.answer r).nim = b.nim := rfl
@[simp] theorem Block.answer_thm (r : Reply) : (b.answer r).thm = b.thm := rfl
@[simp] theorem Block.answer_och (r : Reply) : (b.answer r).och = b.och := rfl
@[simp] theorem Block.answer_hea (r : Reply) : (b.answer r).hea = b.hea := rfl
@[simp] theorem Block.answer_mm (r : Reply) : (b.answer r).mm = b.mm := rfl

@[simp] theorem Block.onNv_regs (p : Port) (g : Ctrl → Ctrl) : (b.onNv p g).regs = b.regs := rfl
@[simp] theorem Block.onNv_image (p : Port) (g : Ctrl → Ctrl) : (b.onNv p g).image = b.image := rfl
@[simp] theorem Block.onNv_sys (p : Port) (g : Ctrl → Ctrl) : (b.onNv p g).sys = b.sys := rfl
@[simp] theorem Block.onNv_sep (p : Port) (g : Ctrl → Ctrl) : (b.onNv p g).sep = b.sep := rfl
@[simp] theorem Block.onNv_fcs (p : Port) (g : Ctrl → Ctrl) : (b.onNv p g).fcs = b.fcs := rfl
@[simp] theorem Block.onNv_fuses (p : Port) (g : Ctrl → Ctrl) : (b.onNv p g).fuses = b.fuses := rfl
@[simp] theorem Block.onNv_boot (p : Port) (g : Ctrl → Ctrl) : (b.onNv p g).boot = b.boot := rfl
@[simp] theorem Block.onNv_pwr (p : Port) (g : Ctrl → Ctrl) : (b.onNv p g).pwr = b.pwr := rfl
@[simp] theorem Block.onNv_spn (p : Port) (g : Ctrl → Ctrl) : (b.onNv p g).spn = b.spn := rfl
@[simp] theorem Block.onNv_srv (p : Port) (g : Ctrl → Ctrl) : (b.onNv p g).srv = b.srv := rfl
@[simp] theorem Block.onNv_ast (p : Port) (g : Ctrl → Ctrl) : (b.onNv p g).ast = b.ast := rfl
@[simp] theorem Block.onNv_ch (p : Port) (g : Ctrl → Ctrl) : (b.onNv p g).ch = b.ch := rfl
@[simp] theorem Block.onNv_deep (p : Port) (g : Ctrl → Ctrl) : (b.onNv p g).deep = b.deep := rfl
@[simp] theorem Block.onNv_ts (p : Port) (g : Ctrl → Ctrl) : (b.onNv p g).ts = b.ts := rfl
@[simp] theorem Block.onNv_xl (p : Port) (g : Ctrl → Ctrl) : (b.onNv p g).xl = b.xl := rfl
@[simp] theorem Block.onNv_ns (p : Port) (g : Ctrl → Ctrl) : (b.onNv p g).ns = b.ns := rfl
@[simp] theorem Block.onNv_px (p : Port) (g : Ctrl → Ctrl) : (b.onNv p g).px = b.px := rfl
@[simp] theorem Block.onNv_nvm (p : Port) (g : Ctrl → Ctrl) : (b.onNv p g).nvm = b.nvm := rfl
@[simp] theorem Block.onNv_nim (p : Port) (g : Ctrl → Ctrl) : (b.onNv p g).nim = b.nim := rfl
@[simp] theorem Block.onNv_thm (p : Port) (g : Ctrl → Ctrl) : (b.onNv p g).thm = b.thm := rfl
@[simp] theorem Block.onNv_och (p : Port) (g : Ctrl → Ctrl) : (b.onNv p g).och = b.och := rfl
@[simp] theorem Block.onNv_hea (p : Port) (g : Ctrl → Ctrl) : (b.onNv p g).hea = b.hea := rfl
@[simp] theorem Block.onNv_mm (p : Port) (g : Ctrl → Ctrl) : (b.onNv p g).mm = b.mm := rfl

@[simp] theorem Block.onPx_regs (p : Port) (g : PciPort → PciPort) : (b.onPx p g).regs = b.regs := rfl
@[simp] theorem Block.onPx_image (p : Port) (g : PciPort → PciPort) : (b.onPx p g).image = b.image := rfl
@[simp] theorem Block.onPx_sys (p : Port) (g : PciPort → PciPort) : (b.onPx p g).sys = b.sys := rfl
@[simp] theorem Block.onPx_sep (p : Port) (g : PciPort → PciPort) : (b.onPx p g).sep = b.sep := rfl
@[simp] theorem Block.onPx_fcs (p : Port) (g : PciPort → PciPort) : (b.onPx p g).fcs = b.fcs := rfl
@[simp] theorem Block.onPx_fuses (p : Port) (g : PciPort → PciPort) : (b.onPx p g).fuses = b.fuses := rfl
@[simp] theorem Block.onPx_boot (p : Port) (g : PciPort → PciPort) : (b.onPx p g).boot = b.boot := rfl
@[simp] theorem Block.onPx_pwr (p : Port) (g : PciPort → PciPort) : (b.onPx p g).pwr = b.pwr := rfl
@[simp] theorem Block.onPx_spn (p : Port) (g : PciPort → PciPort) : (b.onPx p g).spn = b.spn := rfl
@[simp] theorem Block.onPx_srv (p : Port) (g : PciPort → PciPort) : (b.onPx p g).srv = b.srv := rfl
@[simp] theorem Block.onPx_ast (p : Port) (g : PciPort → PciPort) : (b.onPx p g).ast = b.ast := rfl
@[simp] theorem Block.onPx_ch (p : Port) (g : PciPort → PciPort) : (b.onPx p g).ch = b.ch := rfl
@[simp] theorem Block.onPx_deep (p : Port) (g : PciPort → PciPort) : (b.onPx p g).deep = b.deep := rfl
@[simp] theorem Block.onPx_ts (p : Port) (g : PciPort → PciPort) : (b.onPx p g).ts = b.ts := rfl
@[simp] theorem Block.onPx_xl (p : Port) (g : PciPort → PciPort) : (b.onPx p g).xl = b.xl := rfl
@[simp] theorem Block.onPx_ns (p : Port) (g : PciPort → PciPort) : (b.onPx p g).ns = b.ns := rfl
@[simp] theorem Block.onPx_nv (p : Port) (g : PciPort → PciPort) : (b.onPx p g).nv = b.nv := rfl
@[simp] theorem Block.onPx_nvm (p : Port) (g : PciPort → PciPort) : (b.onPx p g).nvm = b.nvm := rfl
@[simp] theorem Block.onPx_nim (p : Port) (g : PciPort → PciPort) : (b.onPx p g).nim = b.nim := rfl
@[simp] theorem Block.onPx_thm (p : Port) (g : PciPort → PciPort) : (b.onPx p g).thm = b.thm := rfl
@[simp] theorem Block.onPx_och (p : Port) (g : PciPort → PciPort) : (b.onPx p g).och = b.och := rfl
@[simp] theorem Block.onPx_hea (p : Port) (g : PciPort → PciPort) : (b.onPx p g).hea = b.hea := rfl
@[simp] theorem Block.onPx_mm (p : Port) (g : PciPort → PciPort) : (b.onPx p g).mm = b.mm := rfl

@[simp] theorem Block.onXl_regs (g : Xlate → Xlate) : (b.onXl g).regs = b.regs := rfl
@[simp] theorem Block.onXl_image (g : Xlate → Xlate) : (b.onXl g).image = b.image := rfl
@[simp] theorem Block.onXl_sys (g : Xlate → Xlate) : (b.onXl g).sys = b.sys := rfl
@[simp] theorem Block.onXl_sep (g : Xlate → Xlate) : (b.onXl g).sep = b.sep := rfl
@[simp] theorem Block.onXl_fcs (g : Xlate → Xlate) : (b.onXl g).fcs = b.fcs := rfl
@[simp] theorem Block.onXl_fuses (g : Xlate → Xlate) : (b.onXl g).fuses = b.fuses := rfl
@[simp] theorem Block.onXl_boot (g : Xlate → Xlate) : (b.onXl g).boot = b.boot := rfl
@[simp] theorem Block.onXl_pwr (g : Xlate → Xlate) : (b.onXl g).pwr = b.pwr := rfl
@[simp] theorem Block.onXl_spn (g : Xlate → Xlate) : (b.onXl g).spn = b.spn := rfl
@[simp] theorem Block.onXl_srv (g : Xlate → Xlate) : (b.onXl g).srv = b.srv := rfl
@[simp] theorem Block.onXl_ast (g : Xlate → Xlate) : (b.onXl g).ast = b.ast := rfl
@[simp] theorem Block.onXl_ch (g : Xlate → Xlate) : (b.onXl g).ch = b.ch := rfl
@[simp] theorem Block.onXl_deep (g : Xlate → Xlate) : (b.onXl g).deep = b.deep := rfl
@[simp] theorem Block.onXl_ts (g : Xlate → Xlate) : (b.onXl g).ts = b.ts := rfl
@[simp] theorem Block.onXl_ns (g : Xlate → Xlate) : (b.onXl g).ns = b.ns := rfl
@[simp] theorem Block.onXl_px (g : Xlate → Xlate) : (b.onXl g).px = b.px := rfl
@[simp] theorem Block.onXl_nv (g : Xlate → Xlate) : (b.onXl g).nv = b.nv := rfl
@[simp] theorem Block.onXl_nvm (g : Xlate → Xlate) : (b.onXl g).nvm = b.nvm := rfl
@[simp] theorem Block.onXl_nim (g : Xlate → Xlate) : (b.onXl g).nim = b.nim := rfl
@[simp] theorem Block.onXl_thm (g : Xlate → Xlate) : (b.onXl g).thm = b.thm := rfl
@[simp] theorem Block.onXl_och (g : Xlate → Xlate) : (b.onXl g).och = b.och := rfl
@[simp] theorem Block.onXl_hea (g : Xlate → Xlate) : (b.onXl g).hea = b.hea := rfl
@[simp] theorem Block.onXl_mm (g : Xlate → Xlate) : (b.onXl g).mm = b.mm := rfl

@[simp] theorem Block.onNs_regs (g : Nand → Nand) : (b.onNs g).regs = b.regs := rfl
@[simp] theorem Block.onNs_image (g : Nand → Nand) : (b.onNs g).image = b.image := rfl
@[simp] theorem Block.onNs_sys (g : Nand → Nand) : (b.onNs g).sys = b.sys := rfl
@[simp] theorem Block.onNs_sep (g : Nand → Nand) : (b.onNs g).sep = b.sep := rfl
@[simp] theorem Block.onNs_fcs (g : Nand → Nand) : (b.onNs g).fcs = b.fcs := rfl
@[simp] theorem Block.onNs_fuses (g : Nand → Nand) : (b.onNs g).fuses = b.fuses := rfl
@[simp] theorem Block.onNs_boot (g : Nand → Nand) : (b.onNs g).boot = b.boot := rfl
@[simp] theorem Block.onNs_pwr (g : Nand → Nand) : (b.onNs g).pwr = b.pwr := rfl
@[simp] theorem Block.onNs_spn (g : Nand → Nand) : (b.onNs g).spn = b.spn := rfl
@[simp] theorem Block.onNs_srv (g : Nand → Nand) : (b.onNs g).srv = b.srv := rfl
@[simp] theorem Block.onNs_ast (g : Nand → Nand) : (b.onNs g).ast = b.ast := rfl
@[simp] theorem Block.onNs_ch (g : Nand → Nand) : (b.onNs g).ch = b.ch := rfl
@[simp] theorem Block.onNs_deep (g : Nand → Nand) : (b.onNs g).deep = b.deep := rfl
@[simp] theorem Block.onNs_ts (g : Nand → Nand) : (b.onNs g).ts = b.ts := rfl
@[simp] theorem Block.onNs_xl (g : Nand → Nand) : (b.onNs g).xl = b.xl := rfl
@[simp] theorem Block.onNs_px (g : Nand → Nand) : (b.onNs g).px = b.px := rfl
@[simp] theorem Block.onNs_nv (g : Nand → Nand) : (b.onNs g).nv = b.nv := rfl
@[simp] theorem Block.onNs_nvm (g : Nand → Nand) : (b.onNs g).nvm = b.nvm := rfl
@[simp] theorem Block.onNs_nim (g : Nand → Nand) : (b.onNs g).nim = b.nim := rfl
@[simp] theorem Block.onNs_thm (g : Nand → Nand) : (b.onNs g).thm = b.thm := rfl
@[simp] theorem Block.onNs_och (g : Nand → Nand) : (b.onNs g).och = b.och := rfl
@[simp] theorem Block.onNs_hea (g : Nand → Nand) : (b.onNs g).hea = b.hea := rfl
@[simp] theorem Block.onNs_mm (g : Nand → Nand) : (b.onNs g).mm = b.mm := rfl

@[simp] theorem Block.onNvm_regs (g : Nvm → Nvm) : (b.onNvm g).regs = b.regs := rfl
@[simp] theorem Block.onNvm_image (g : Nvm → Nvm) : (b.onNvm g).image = b.image := rfl
@[simp] theorem Block.onNvm_sys (g : Nvm → Nvm) : (b.onNvm g).sys = b.sys := rfl
@[simp] theorem Block.onNvm_sep (g : Nvm → Nvm) : (b.onNvm g).sep = b.sep := rfl
@[simp] theorem Block.onNvm_fcs (g : Nvm → Nvm) : (b.onNvm g).fcs = b.fcs := rfl
@[simp] theorem Block.onNvm_fuses (g : Nvm → Nvm) : (b.onNvm g).fuses = b.fuses := rfl
@[simp] theorem Block.onNvm_boot (g : Nvm → Nvm) : (b.onNvm g).boot = b.boot := rfl
@[simp] theorem Block.onNvm_pwr (g : Nvm → Nvm) : (b.onNvm g).pwr = b.pwr := rfl
@[simp] theorem Block.onNvm_spn (g : Nvm → Nvm) : (b.onNvm g).spn = b.spn := rfl
@[simp] theorem Block.onNvm_srv (g : Nvm → Nvm) : (b.onNvm g).srv = b.srv := rfl
@[simp] theorem Block.onNvm_ast (g : Nvm → Nvm) : (b.onNvm g).ast = b.ast := rfl
@[simp] theorem Block.onNvm_ch (g : Nvm → Nvm) : (b.onNvm g).ch = b.ch := rfl
@[simp] theorem Block.onNvm_deep (g : Nvm → Nvm) : (b.onNvm g).deep = b.deep := rfl
@[simp] theorem Block.onNvm_ts (g : Nvm → Nvm) : (b.onNvm g).ts = b.ts := rfl
@[simp] theorem Block.onNvm_xl (g : Nvm → Nvm) : (b.onNvm g).xl = b.xl := rfl
@[simp] theorem Block.onNvm_ns (g : Nvm → Nvm) : (b.onNvm g).ns = b.ns := rfl
@[simp] theorem Block.onNvm_px (g : Nvm → Nvm) : (b.onNvm g).px = b.px := rfl
@[simp] theorem Block.onNvm_nv (g : Nvm → Nvm) : (b.onNvm g).nv = b.nv := rfl
@[simp] theorem Block.onNvm_nim (g : Nvm → Nvm) : (b.onNvm g).nim = b.nim := rfl
@[simp] theorem Block.onNvm_thm (g : Nvm → Nvm) : (b.onNvm g).thm = b.thm := rfl
@[simp] theorem Block.onNvm_och (g : Nvm → Nvm) : (b.onNvm g).och = b.och := rfl
@[simp] theorem Block.onNvm_hea (g : Nvm → Nvm) : (b.onNvm g).hea = b.hea := rfl
@[simp] theorem Block.onNvm_mm (g : Nvm → Nvm) : (b.onNvm g).mm = b.mm := rfl

@[simp] theorem Block.onHea_regs (g : Health → Health) : (b.onHea g).regs = b.regs := rfl
@[simp] theorem Block.onHea_image (g : Health → Health) : (b.onHea g).image = b.image := rfl
@[simp] theorem Block.onHea_sys (g : Health → Health) : (b.onHea g).sys = b.sys := rfl
@[simp] theorem Block.onHea_sep (g : Health → Health) : (b.onHea g).sep = b.sep := rfl
@[simp] theorem Block.onHea_fcs (g : Health → Health) : (b.onHea g).fcs = b.fcs := rfl
@[simp] theorem Block.onHea_fuses (g : Health → Health) : (b.onHea g).fuses = b.fuses := rfl
@[simp] theorem Block.onHea_boot (g : Health → Health) : (b.onHea g).boot = b.boot := rfl
@[simp] theorem Block.onHea_pwr (g : Health → Health) : (b.onHea g).pwr = b.pwr := rfl
@[simp] theorem Block.onHea_spn (g : Health → Health) : (b.onHea g).spn = b.spn := rfl
@[simp] theorem Block.onHea_srv (g : Health → Health) : (b.onHea g).srv = b.srv := rfl
@[simp] theorem Block.onHea_ast (g : Health → Health) : (b.onHea g).ast = b.ast := rfl
@[simp] theorem Block.onHea_ch (g : Health → Health) : (b.onHea g).ch = b.ch := rfl
@[simp] theorem Block.onHea_deep (g : Health → Health) : (b.onHea g).deep = b.deep := rfl
@[simp] theorem Block.onHea_ts (g : Health → Health) : (b.onHea g).ts = b.ts := rfl
@[simp] theorem Block.onHea_xl (g : Health → Health) : (b.onHea g).xl = b.xl := rfl
@[simp] theorem Block.onHea_ns (g : Health → Health) : (b.onHea g).ns = b.ns := rfl
@[simp] theorem Block.onHea_px (g : Health → Health) : (b.onHea g).px = b.px := rfl
@[simp] theorem Block.onHea_nv (g : Health → Health) : (b.onHea g).nv = b.nv := rfl
@[simp] theorem Block.onHea_nvm (g : Health → Health) : (b.onHea g).nvm = b.nvm := rfl
@[simp] theorem Block.onHea_nim (g : Health → Health) : (b.onHea g).nim = b.nim := rfl
@[simp] theorem Block.onHea_thm (g : Health → Health) : (b.onHea g).thm = b.thm := rfl
@[simp] theorem Block.onHea_och (g : Health → Health) : (b.onHea g).och = b.och := rfl
@[simp] theorem Block.onHea_mm (g : Health → Health) : (b.onHea g).mm = b.mm := rfl

@[simp] theorem Block.onTs_regs (a : Act) (g : Ts → Ts) : (b.onTs a g).regs = b.regs := rfl
@[simp] theorem Block.onTs_image (a : Act) (g : Ts → Ts) : (b.onTs a g).image = b.image := rfl
@[simp] theorem Block.onTs_sys (a : Act) (g : Ts → Ts) : (b.onTs a g).sys = b.sys := rfl
@[simp] theorem Block.onTs_sep (a : Act) (g : Ts → Ts) : (b.onTs a g).sep = b.sep := rfl
@[simp] theorem Block.onTs_fcs (a : Act) (g : Ts → Ts) : (b.onTs a g).fcs = b.fcs := rfl
@[simp] theorem Block.onTs_fuses (a : Act) (g : Ts → Ts) : (b.onTs a g).fuses = b.fuses := rfl
@[simp] theorem Block.onTs_boot (a : Act) (g : Ts → Ts) : (b.onTs a g).boot = b.boot := rfl
@[simp] theorem Block.onTs_pwr (a : Act) (g : Ts → Ts) : (b.onTs a g).pwr = b.pwr := rfl
@[simp] theorem Block.onTs_spn (a : Act) (g : Ts → Ts) : (b.onTs a g).spn = b.spn := rfl
@[simp] theorem Block.onTs_srv (a : Act) (g : Ts → Ts) : (b.onTs a g).srv = b.srv := rfl
@[simp] theorem Block.onTs_ast (a : Act) (g : Ts → Ts) : (b.onTs a g).ast = b.ast := rfl
@[simp] theorem Block.onTs_ch (a : Act) (g : Ts → Ts) : (b.onTs a g).ch = b.ch := rfl
@[simp] theorem Block.onTs_deep (a : Act) (g : Ts → Ts) : (b.onTs a g).deep = b.deep := rfl
@[simp] theorem Block.onTs_xl (a : Act) (g : Ts → Ts) : (b.onTs a g).xl = b.xl := rfl
@[simp] theorem Block.onTs_ns (a : Act) (g : Ts → Ts) : (b.onTs a g).ns = b.ns := rfl
@[simp] theorem Block.onTs_px (a : Act) (g : Ts → Ts) : (b.onTs a g).px = b.px := rfl
@[simp] theorem Block.onTs_nv (a : Act) (g : Ts → Ts) : (b.onTs a g).nv = b.nv := rfl
@[simp] theorem Block.onTs_nvm (a : Act) (g : Ts → Ts) : (b.onTs a g).nvm = b.nvm := rfl
@[simp] theorem Block.onTs_nim (a : Act) (g : Ts → Ts) : (b.onTs a g).nim = b.nim := rfl
@[simp] theorem Block.onTs_thm (a : Act) (g : Ts → Ts) : (b.onTs a g).thm = b.thm := rfl
@[simp] theorem Block.onTs_och (a : Act) (g : Ts → Ts) : (b.onTs a g).och = b.och := rfl
@[simp] theorem Block.onTs_hea (a : Act) (g : Ts → Ts) : (b.onTs a g).hea = b.hea := rfl
@[simp] theorem Block.onTs_mm (a : Act) (g : Ts → Ts) : (b.onTs a g).mm = b.mm := rfl

@[simp] theorem Block.onAst_regs (a : Act) (g : Assist → Assist) : (b.onAst a g).regs = b.regs := rfl
@[simp] theorem Block.onAst_image (a : Act) (g : Assist → Assist) : (b.onAst a g).image = b.image := rfl
@[simp] theorem Block.onAst_sys (a : Act) (g : Assist → Assist) : (b.onAst a g).sys = b.sys := rfl
@[simp] theorem Block.onAst_sep (a : Act) (g : Assist → Assist) : (b.onAst a g).sep = b.sep := rfl
@[simp] theorem Block.onAst_fcs (a : Act) (g : Assist → Assist) : (b.onAst a g).fcs = b.fcs := rfl
@[simp] theorem Block.onAst_fuses (a : Act) (g : Assist → Assist) : (b.onAst a g).fuses = b.fuses := rfl
@[simp] theorem Block.onAst_boot (a : Act) (g : Assist → Assist) : (b.onAst a g).boot = b.boot := rfl
@[simp] theorem Block.onAst_pwr (a : Act) (g : Assist → Assist) : (b.onAst a g).pwr = b.pwr := rfl
@[simp] theorem Block.onAst_spn (a : Act) (g : Assist → Assist) : (b.onAst a g).spn = b.spn := rfl
@[simp] theorem Block.onAst_srv (a : Act) (g : Assist → Assist) : (b.onAst a g).srv = b.srv := rfl
@[simp] theorem Block.onAst_ch (a : Act) (g : Assist → Assist) : (b.onAst a g).ch = b.ch := rfl
@[simp] theorem Block.onAst_deep (a : Act) (g : Assist → Assist) : (b.onAst a g).deep = b.deep := rfl
@[simp] theorem Block.onAst_ts (a : Act) (g : Assist → Assist) : (b.onAst a g).ts = b.ts := rfl
@[simp] theorem Block.onAst_xl (a : Act) (g : Assist → Assist) : (b.onAst a g).xl = b.xl := rfl
@[simp] theorem Block.onAst_ns (a : Act) (g : Assist → Assist) : (b.onAst a g).ns = b.ns := rfl
@[simp] theorem Block.onAst_px (a : Act) (g : Assist → Assist) : (b.onAst a g).px = b.px := rfl
@[simp] theorem Block.onAst_nv (a : Act) (g : Assist → Assist) : (b.onAst a g).nv = b.nv := rfl
@[simp] theorem Block.onAst_nvm (a : Act) (g : Assist → Assist) : (b.onAst a g).nvm = b.nvm := rfl
@[simp] theorem Block.onAst_nim (a : Act) (g : Assist → Assist) : (b.onAst a g).nim = b.nim := rfl
@[simp] theorem Block.onAst_thm (a : Act) (g : Assist → Assist) : (b.onAst a g).thm = b.thm := rfl
@[simp] theorem Block.onAst_och (a : Act) (g : Assist → Assist) : (b.onAst a g).och = b.och := rfl
@[simp] theorem Block.onAst_hea (a : Act) (g : Assist → Assist) : (b.onAst a g).hea = b.hea := rfl
@[simp] theorem Block.onAst_mm (a : Act) (g : Assist → Assist) : (b.onAst a g).mm = b.mm := rfl

@[simp] theorem Block.onCh_regs (a : Act) (g : Channel → Channel) : (b.onCh a g).regs = b.regs := rfl
@[simp] theorem Block.onCh_image (a : Act) (g : Channel → Channel) : (b.onCh a g).image = b.image := rfl
@[simp] theorem Block.onCh_sys (a : Act) (g : Channel → Channel) : (b.onCh a g).sys = b.sys := rfl
@[simp] theorem Block.onCh_sep (a : Act) (g : Channel → Channel) : (b.onCh a g).sep = b.sep := rfl
@[simp] theorem Block.onCh_fcs (a : Act) (g : Channel → Channel) : (b.onCh a g).fcs = b.fcs := rfl
@[simp] theorem Block.onCh_fuses (a : Act) (g : Channel → Channel) : (b.onCh a g).fuses = b.fuses := rfl
@[simp] theorem Block.onCh_boot (a : Act) (g : Channel → Channel) : (b.onCh a g).boot = b.boot := rfl
@[simp] theorem Block.onCh_pwr (a : Act) (g : Channel → Channel) : (b.onCh a g).pwr = b.pwr := rfl
@[simp] theorem Block.onCh_spn (a : Act) (g : Channel → Channel) : (b.onCh a g).spn = b.spn := rfl
@[simp] theorem Block.onCh_srv (a : Act) (g : Channel → Channel) : (b.onCh a g).srv = b.srv := rfl
@[simp] theorem Block.onCh_ast (a : Act) (g : Channel → Channel) : (b.onCh a g).ast = b.ast := rfl
@[simp] theorem Block.onCh_deep (a : Act) (g : Channel → Channel) : (b.onCh a g).deep = b.deep := rfl
@[simp] theorem Block.onCh_ts (a : Act) (g : Channel → Channel) : (b.onCh a g).ts = b.ts := rfl
@[simp] theorem Block.onCh_xl (a : Act) (g : Channel → Channel) : (b.onCh a g).xl = b.xl := rfl
@[simp] theorem Block.onCh_ns (a : Act) (g : Channel → Channel) : (b.onCh a g).ns = b.ns := rfl
@[simp] theorem Block.onCh_px (a : Act) (g : Channel → Channel) : (b.onCh a g).px = b.px := rfl
@[simp] theorem Block.onCh_nv (a : Act) (g : Channel → Channel) : (b.onCh a g).nv = b.nv := rfl
@[simp] theorem Block.onCh_nvm (a : Act) (g : Channel → Channel) : (b.onCh a g).nvm = b.nvm := rfl
@[simp] theorem Block.onCh_nim (a : Act) (g : Channel → Channel) : (b.onCh a g).nim = b.nim := rfl
@[simp] theorem Block.onCh_thm (a : Act) (g : Channel → Channel) : (b.onCh a g).thm = b.thm := rfl
@[simp] theorem Block.onCh_och (a : Act) (g : Channel → Channel) : (b.onCh a g).och = b.och := rfl
@[simp] theorem Block.onCh_hea (a : Act) (g : Channel → Channel) : (b.onCh a g).hea = b.hea := rfl
@[simp] theorem Block.onCh_mm (a : Act) (g : Channel → Channel) : (b.onCh a g).mm = b.mm := rfl

@[simp] theorem Block.onSrv_regs (a : Act) (g : Servo → Servo) : (b.onSrv a g).regs = b.regs := rfl
@[simp] theorem Block.onSrv_image (a : Act) (g : Servo → Servo) : (b.onSrv a g).image = b.image := rfl
@[simp] theorem Block.onSrv_sys (a : Act) (g : Servo → Servo) : (b.onSrv a g).sys = b.sys := rfl
@[simp] theorem Block.onSrv_sep (a : Act) (g : Servo → Servo) : (b.onSrv a g).sep = b.sep := rfl
@[simp] theorem Block.onSrv_fcs (a : Act) (g : Servo → Servo) : (b.onSrv a g).fcs = b.fcs := rfl
@[simp] theorem Block.onSrv_fuses (a : Act) (g : Servo → Servo) : (b.onSrv a g).fuses = b.fuses := rfl
@[simp] theorem Block.onSrv_boot (a : Act) (g : Servo → Servo) : (b.onSrv a g).boot = b.boot := rfl
@[simp] theorem Block.onSrv_pwr (a : Act) (g : Servo → Servo) : (b.onSrv a g).pwr = b.pwr := rfl
@[simp] theorem Block.onSrv_spn (a : Act) (g : Servo → Servo) : (b.onSrv a g).spn = b.spn := rfl
@[simp] theorem Block.onSrv_ast (a : Act) (g : Servo → Servo) : (b.onSrv a g).ast = b.ast := rfl
@[simp] theorem Block.onSrv_ch (a : Act) (g : Servo → Servo) : (b.onSrv a g).ch = b.ch := rfl
@[simp] theorem Block.onSrv_deep (a : Act) (g : Servo → Servo) : (b.onSrv a g).deep = b.deep := rfl
@[simp] theorem Block.onSrv_ts (a : Act) (g : Servo → Servo) : (b.onSrv a g).ts = b.ts := rfl
@[simp] theorem Block.onSrv_xl (a : Act) (g : Servo → Servo) : (b.onSrv a g).xl = b.xl := rfl
@[simp] theorem Block.onSrv_ns (a : Act) (g : Servo → Servo) : (b.onSrv a g).ns = b.ns := rfl
@[simp] theorem Block.onSrv_px (a : Act) (g : Servo → Servo) : (b.onSrv a g).px = b.px := rfl
@[simp] theorem Block.onSrv_nv (a : Act) (g : Servo → Servo) : (b.onSrv a g).nv = b.nv := rfl
@[simp] theorem Block.onSrv_nvm (a : Act) (g : Servo → Servo) : (b.onSrv a g).nvm = b.nvm := rfl
@[simp] theorem Block.onSrv_nim (a : Act) (g : Servo → Servo) : (b.onSrv a g).nim = b.nim := rfl
@[simp] theorem Block.onSrv_thm (a : Act) (g : Servo → Servo) : (b.onSrv a g).thm = b.thm := rfl
@[simp] theorem Block.onSrv_och (a : Act) (g : Servo → Servo) : (b.onSrv a g).och = b.och := rfl
@[simp] theorem Block.onSrv_hea (a : Act) (g : Servo → Servo) : (b.onSrv a g).hea = b.hea := rfl
@[simp] theorem Block.onSrv_mm (a : Act) (g : Servo → Servo) : (b.onSrv a g).mm = b.mm := rfl

/-! ### Registers through the other updates -/

@[simp] theorem Block.get_answer (r : Reply) (f : Field) (i : Nat) : (b.answer r).get f i = b.get f i := rfl
@[simp] theorem Block.get_onNv (p : Port) (g : Ctrl → Ctrl) (f : Field) (i : Nat) : (b.onNv p g).get f i = b.get f i := rfl
@[simp] theorem Block.get_onPx (p : Port) (g : PciPort → PciPort) (f : Field) (i : Nat) : (b.onPx p g).get f i = b.get f i := rfl
@[simp] theorem Block.get_onXl (g : Xlate → Xlate) (f : Field) (i : Nat) : (b.onXl g).get f i = b.get f i := rfl
@[simp] theorem Block.get_onNs (g : Nand → Nand) (f : Field) (i : Nat) : (b.onNs g).get f i = b.get f i := rfl
@[simp] theorem Block.get_onNvm (g : Nvm → Nvm) (f : Field) (i : Nat) : (b.onNvm g).get f i = b.get f i := rfl
@[simp] theorem Block.get_onHea (g : Health → Health) (f : Field) (i : Nat) : (b.onHea g).get f i = b.get f i := rfl
@[simp] theorem Block.get_onTs (a : Act) (g : Ts → Ts) (f : Field) (i : Nat) : (b.onTs a g).get f i = b.get f i := rfl
@[simp] theorem Block.get_onAst (a : Act) (g : Assist → Assist) (f : Field) (i : Nat) : (b.onAst a g).get f i = b.get f i := rfl
@[simp] theorem Block.get_onCh (a : Act) (g : Channel → Channel) (f : Field) (i : Nat) : (b.onCh a g).get f i = b.get f i := rfl
@[simp] theorem Block.get_onSrv (a : Act) (g : Servo → Servo) (f : Field) (i : Nat) : (b.onSrv a g).get f i = b.get f i := rfl

end Sys2Proof.Machine
end

