-- ==== Sys2Proof/Laws/Caches.lean ====
section
/-! SUPPORT. What a memory access can do to the caches: the caches, their counts and the counter of free values change, and nothing
else. -/

namespace Sys2Proof.Machine

/-- The second block differs from the first in the caches alone, beside their counts and the model's counter of free values. -/
def CachesOnly (b b' : Block) : Prop :=
  { b' with regs := b.regs, sys := { b'.sys with free := b.sys.free }, mm := { b'.mm with caches := b.mm.caches } } = b ∧
    ∀ (f : Field) (i : Nat), i < 256 → f ∉ cacheFields → b'.get f i = b.get f i

namespace CachesOnly

theorem refl (b : Block) : CachesOnly b b := ⟨rfl, fun _ _ _ _ => rfl⟩

theorem trans {a b c : Block} (h : CachesOnly a b) (k : CachesOnly b c) : CachesOnly a c := by
  obtain ⟨h1, h2⟩ := h
  obtain ⟨k1, k2⟩ := k
  refine ⟨?_, fun f i hi hf => (k2 f i hi hf).trans (h2 f i hi hf)⟩
  rw [← k1] at h1
  simpa using h1

theorem put (b : Block) (f : Field) (v : Nat) (h : f ∈ cacheFields) : CachesOnly b (b.put f 0 v) := by
  refine ⟨rfl, fun g i hi hg => Block.get_put_ne b 0 i v (by omega) hi ?_⟩
  rintro rfl
  exact hg h

theorem bump (b : Block) (f : Field) (h : f ∈ cacheFields) : CachesOnly b (b.bump f 0) := put b f _ h

theorem fresh (b : Block) (n : Nat) : CachesOnly b (b.fresh n).2 := ⟨rfl, fun _ _ _ _ => rfl⟩

theorem onSlice (b : Block) (i : Fin 4) (f : L2Slice → L2Slice) : CachesOnly b (onSlice b i f) := ⟨rfl, fun _ _ _ _ => rfl⟩

theorem onL1 (b : Block) (c : Fin 12) (f : CoreL1 → CoreL1) : CachesOnly b (onL1 b c f) := ⟨rfl, fun _ _ _ _ => rfl⟩

/-- A fold of steps each of which keeps to the caches keeps to them. -/
theorem foldl {α : Type} (f : Block → α → Block) (h : ∀ b x, CachesOnly b (f b x)) :
    ∀ (l : List α) (b : Block), CachesOnly b (l.foldl f b)
  | [], b => refl b
  | x :: l, b => (h b x).trans (foldl f h l (f b x))

/-- The components that an access leaves alone. -/
theorem rest {b b' : Block} (h : CachesOnly b b') :
    b'.image = b.image ∧ b'.pwr = b.pwr ∧ b'.xl = b.xl ∧ b'.nvm = b.nvm ∧ b'.nv = b.nv ∧ b'.fcs = b.fcs ∧ b'.sep = b.sep ∧
      b'.mm.poison = b.mm.poison ∧ b'.mm.draining = b.mm.draining ∧ b'.mm.owed = b.mm.owed ∧ b'.mm.scrubLine = b.mm.scrubLine := by
  obtain ⟨h1, -⟩ := h
  rw [← h1]
  exact ⟨rfl, rfl, rfl, rfl, rfl, rfl, rfl, rfl, rfl, rfl, rfl⟩

end CachesOnly

theorem dropL1_only (b : Block) (c : Option (Fin 12)) (p : Nat → Bool) : CachesOnly b (dropL1 b c p) := by
  refine CachesOnly.foldl _ (fun b x => ?_) _ b
  split
  · exact CachesOnly.refl b
  · exact CachesOnly.onL1 b _ _

theorem l1Fill_only (b : Block) (c : Fin 12) (x : Bool) (line : Nat) : CachesOnly b (l1Fill b c x line) := by
  unfold l1Fill
  split
  · exact CachesOnly.refl b
  · exact (CachesOnly.fresh b 4).trans (CachesOnly.onL1 _ _ _)

theorem evictLine_only (b : Block) (i : Fin 4) (line : Nat) : CachesOnly b (evictLine b i line) := CachesOnly.onSlice b _ _

theorem l2Fill_only (b : Block) (i : Fin 4) (line : Nat) (d : Bool) : CachesOnly b (l2Fill b i line d) := by
  unfold l2Fill
  dsimp only
  split
  · exact CachesOnly.onSlice b _ _
  · refine CachesOnly.trans ?_ (CachesOnly.onSlice _ _ _)
    split
    · split
      · exact (CachesOnly.fresh b _).trans ((dropL1_only _ _ _).trans (evictLine_only _ _ _))
      · exact (CachesOnly.fresh b _).trans (dropL1_only _ _ _)
    · exact CachesOnly.fresh b _

theorem l1Fills_only (b : Block) (l : List (Fin 12 × Bool)) (line : Nat) :
    CachesOnly b (l.foldl (fun b c => l1Fill b c.1 c.2 line) b) := CachesOnly.foldl _ (fun b c => l1Fill_only b c.1 c.2 line) l b

theorem l2Hit_only (b : Block) (i : Fin 4) (q : MemReq) : CachesOnly b (l2Hit b i q) := by
  unfold l2Hit
  dsimp only
  refine CachesOnly.trans ?_ (l1Fills_only _ _ _)
  split
  · exact CachesOnly.onSlice b _ _
  · exact CachesOnly.refl b

theorem missAnswered_only (b : Block) (i : Fin 4) (m : MissReg) : CachesOnly b (missAnswered b i m) :=
  ((CachesOnly.onSlice b _ _).trans (l2Fill_only _ _ _ _)).trans (l1Fills_only _ _ _)

theorem missesAnswered_only (b : Block) (i : Fin 4) (n : Nat) : CachesOnly b (missesAnswered b i n) :=
  CachesOnly.foldl _ (fun b m => missAnswered_only b i m) _ b

theorem allAnswered_only (b : Block) : CachesOnly b (allAnswered b) :=
  CachesOnly.foldl _ (fun b i => missesAnswered_only b i _) _ b

theorem takeMiss_only (b : Block) (i : Fin 4) (q : MemReq) : CachesOnly b (takeMiss b i q) :=
  (CachesOnly.onSlice b _ _).trans (CachesOnly.put _ _ _ (by decide))

theorem l2Miss_only (b : Block) (i : Fin 4) (q : MemReq) : CachesOnly b (l2Miss b i q) := by
  unfold l2Miss
  split
  · split
    · exact (CachesOnly.onSlice b _ _).trans (CachesOnly.bump _ _ (by decide))
    · exact ((CachesOnly.bump b _ (by decide)).trans (missAnswered_only _ _ _)).trans (l2Hit_only _ _ _)
  · split
    · exact takeMiss_only b i q
    · exact ((CachesOnly.bump b _ (by decide)).trans (missesAnswered_only _ _ _)).trans (takeMiss_only _ _ _)

theorem dramProgress_only (b : Block) (i : Fin 4) : CachesOnly b (dramProgress b i) := by
  unfold dramProgress
  dsimp only
  split
  · exact CachesOnly.refl b
  · exact ((((CachesOnly.fresh b _).trans (CachesOnly.fresh _ _)).trans (CachesOnly.fresh _ _)).trans (CachesOnly.onSlice _ _ _)).trans
      (missesAnswered_only _ _ _)

theorem l2Request_only (b : Block) (q : MemReq) : CachesOnly b (l2Request b q) := by
  unfold l2Request
  dsimp only
  refine (dramProgress_only b (sliceOf q.line)).trans ?_
  generalize dramProgress b (sliceOf q.line) = c
  split
  · exact l2Hit_only _ _ _
  · split
    · split
      · exact ((CachesOnly.onSlice c _ _).trans (CachesOnly.bump _ _ (by decide))).trans (l2Miss_only _ _ _)
      · exact (((CachesOnly.onSlice c _ _).trans (CachesOnly.bump _ _ (by decide))).trans (l2Fill_only _ _ _ _)).trans
          (l2Hit_only _ _ _)
    · exact l2Miss_only _ _ _

/-- One access changes the caches alone. -/
theorem lineAccess_only (b : Block) (q : MemReq) : CachesOnly b (lineAccess b q) := by
  unfold lineAccess
  split
  · exact CachesOnly.refl b
  · split
    · exact CachesOnly.refl b
    · dsimp only
      refine CachesOnly.trans ?_ (l2Request_only _ _)
      split
      · exact dropL1_only b _ _
      · exact CachesOnly.refl b

/-- An access to a range changes the caches alone. -/
theorem rangeAccess_only (b : Block) (x len : Nat) (store : Bool) (core : Option (Fin 12 × Bool)) :
    CachesOnly b (rangeAccess b x len store core) := by
  unfold rangeAccess
  split
  · exact CachesOnly.refl b
  · exact (CachesOnly.foldl _ (fun b k => lineAccess_only b _) _ b).trans (allAnswered_only _)

/-- After a write-back of all dirty lines no slice holds one, and its eviction buffer is empty (R678). -/
theorem writeBackAll_clean (b : Block) (i : Fin 4) :
    (sliceAt (writeBackAll b) i).evict = [] ∧ ∀ x ∈ (sliceAt (writeBackAll b) i).lines, x.dirty = false := by
  simp only [sliceAt, writeBackAll, vget, Vector.getElem_map]
  refine ⟨trivial, fun x hx => ?_⟩
  simp only [List.mem_map] at hx
  obtain ⟨y, -, rfl⟩ := hx
  rfl

end Sys2Proof.Machine
end

