-- ==== Sys2Proof/Laws/Memory.lean ====
section
/-! SUPPORT. Every operation on memory keeps its canonical form. -/

namespace Sys2Proof.Machine

/-- Setting a byte keeps the canonical form. -/
theorem nset_memory_wf (m : NMap Byte) (x : Nat) (d : Byte) (h : Memory.wf m = true) : Memory.wf (nset 0 m x d) = true :=
  nwf_nset (fun _ => 0) m x d h

/-- Storing bytes keeps the canonical form. -/
theorem storeBytes_wf (m : NMap Byte) (addr : Nat) (ds : List Byte) (h : Memory.wf m = true) :
    Memory.wf (storeBytes m addr ds) = true := by
  unfold storeBytes
  generalize ds.zip (List.range ds.length) = l
  induction l generalizing m with
  | nil => exact h
  | cons e l ih => exact ih _ (nset_memory_wf m _ _ h)

/-- A write of the Controller Memory Buffer keeps the canonical form. -/
theorem cmbWrite_wf (p : Port) (off : Nat) (ds : List Byte) (x e : Bool) (hdr : Nat) (m : NMap Byte) (b : Block)
    (h : Memory.wf m = true) : Memory.wf (cmbWrite p off ds x e hdr m b).1 = true := by
  unfold cmbWrite
  dsimp only
  split
  · exact h
  · split
    · exact h
    · exact storeBytes_wf _ _ _ h

/-- Storing one byte of the map keeps the canonical form. -/
theorem storeByte_wf (r : NMap Byte × Block) (x : Nat) (d : Byte) (h : Memory.wf r.1 = true) :
    Memory.wf (storeByte r x d).1 = true := by
  unfold storeByte
  split
  · exact nset_memory_wf _ _ _ h
  · exact nset_memory_wf _ _ _ h
  · exact nset_memory_wf _ _ _ h
  · split
    · exact h
    · exact h
  · exact h

end Sys2Proof.Machine
end

