-- ==== Sys2Proof/Laws/Outcomes.lean ====
section
/-! SUPPORT. What the three shapes of a meaning can do: each answers a next state, and none touches the queue. -/

namespace Sys2Proof.Machine

/-- A meaning on the block alone answers a next state whose queue and memory are as before. -/
theorem State.onBlock_next (s t : State) (f : Block → Block) (h : s.onBlock f = .next t) :
    t.pending = s.pending ∧ t.mem = s.mem ∧ t.blk = f s.blk := by
  cases h; exact ⟨rfl, rfl, rfl⟩

/-- A meaning that reaches memory answers a next state whose queue is as before. -/
theorem State.onMem_next (s t : State) (f : NMap Byte → Block → NMap Byte × Block) (h : s.onMem f = .next t) :
    t.pending = s.pending ∧ t.mem = (f s.mem s.blk).1 ∧ t.blk = (f s.mem s.blk).2 := by
  cases h; exact ⟨rfl, rfl, rfl⟩

/-- A meaning that may reset answers a next state whose queue is as before, and whose memory is what the reset leaves. -/
theorem State.onReset_next (s t : State) (f : Block → Block) (h : s.onReset f = .next t) :
    t.pending = s.pending ∧ t.mem = memAfter s.mem s.blk (f s.blk) ∧ t.blk = f s.blk := by
  cases h; exact ⟨rfl, rfl, rfl⟩

/-- A guarded effect takes place where its condition holds. -/
@[simp] theorem Block.guard_true (b : Block) (f : Block → Block) : b.guard true f = f b := rfl

/-- A guarded effect changes nothing where its condition does not hold. -/
@[simp] theorem Block.guard_false (b : Block) (f : Block → Block) : b.guard false f = b := rfl

/-- A guarded effect either takes place or changes nothing. -/
theorem Block.guard_cases (b : Block) (c : Bool) (f : Block → Block) :
    (c = true ∧ b.guard c f = f b) ∨ (c = false ∧ b.guard c f = b) := by
  cases c <;> simp

/-- What a reset leaves of memory is in canonical form. -/
theorem memAfter_wf (m : NMap Byte) (o n : Block) (h : Memory.wf m = true) : Memory.wf (memAfter m o n) = true := by
  unfold memAfter
  split
  · rfl
  · have step : ∀ (l : List Port) (m : NMap Byte), Memory.wf m = true →
        Memory.wf (l.foldl (fun (m : NMap Byte) (p : Port) =>
          if vget o.mm.cmbEpoch p = vget n.mm.cmbEpoch p then m
          else m.filter (fun e => !decide ((cmbShare o p).1 ≤ e.1 ∧ e.1 < (cmbShare o p).1 + (cmbShare o p).2))) m) = true := by
      intro l
      induction l with
      | nil => intro m hm; exact hm
      | cons p l ih =>
        intro m hm
        apply ih
        dsimp only
        split
        · exact hm
        · exact nwf_filter _ _ _ hm
    exact step _ m h

end Sys2Proof.Machine
end

