-- ==== Sys2Proof/Laws/Sepia.lean ====
section
/-! SUPPORT. What recording an event can do: the recorder's own state and registers change, and nothing else. -/

namespace Sys2Proof.Machine

/-- The register fields that recording an event writes. -/
def recorderFields : List Field :=
  [.SEP_SEQ_NEXT, .SEP_STATE_ERA, .SEP_STATE_KEEP, .SEP_STATE_LAST, .SEP_FLUSH2_LASTSTART, .SEP_FLUSH_FULL,
    .SEP_SUPP_COUNT]

/-- The second block differs from the first in the recorder alone. -/
def RecorderOnly (b b' : Block) : Prop :=
  { b' with regs := b.regs, sep := b.sep } = b ∧
    ∀ (f : Field) (i : Nat), i < 256 → f ∉ recorderFields → b'.get f i = b.get f i

namespace RecorderOnly

theorem refl (b : Block) : RecorderOnly b b := ⟨rfl, fun _ _ _ _ => rfl⟩

theorem trans {a b c : Block} (h : RecorderOnly a b) (k : RecorderOnly b c) : RecorderOnly a c := by
  obtain ⟨h1, h2⟩ := h
  obtain ⟨k1, k2⟩ := k
  refine ⟨?_, fun f i hi hf => (k2 f i hi hf).trans (h2 f i hi hf)⟩
  rw [← k1] at h1
  simpa using h1

theorem put (b : Block) (f : Field) (v : Nat) (h : f ∈ recorderFields) : RecorderOnly b (b.put f 0 v) := by
  refine ⟨rfl, fun g i hi hg => Block.get_put_ne b 0 i v (by omega) hi ?_⟩
  rintro rfl
  exact hg h

theorem bump (b : Block) (f : Field) (h : f ∈ recorderFields) : RecorderOnly b (b.bump f 0) := put b f _ h

theorem sep (b : Block) (s : Sepia) : RecorderOnly b { b with sep := s } := ⟨rfl, fun _ _ _ _ => rfl⟩

end RecorderOnly

theorem sepTakeSeq_only (b : Block) : RecorderOnly b (sepTakeSeq b).2.2 := by
  unfold sepTakeSeq
  exact (RecorderOnly.put b _ _ (by decide)).trans (RecorderOnly.put _ _ _ (by decide))

theorem sepNumber_only (b : Block) (r : SepRec) : RecorderOnly b (sepNumber b r).2 := by
  unfold sepNumber
  split
  · exact sepTakeSeq_only b
  · exact RecorderOnly.sep b _

theorem sepAppend_only (b : Block) (x : Bool) (r : SepRec) : RecorderOnly b (sepAppend b x r) := by
  unfold sepAppend
  split <;> exact RecorderOnly.sep b _

theorem either_some {α : Type} {x y : Bool} {p q r : α} (h : (if x then some p else if y then some q else none) = some r) :
    r = p ∨ r = q := by
  cases x <;> cases y <;> simp_all

theorem sepEnterHalf_only (b b' : Block) (r : SepRec) (h : sepEnterHalf b r = some b') : RecorderOnly b b' := by
  unfold sepEnterHalf at h
  rcases either_some h with rfl | rfl <;> exact sepAppend_only b _ r

theorem sepEnterCritical_only (b : Block) (r : SepRec) : RecorderOnly b (sepEnterCritical b r) := by
  unfold sepEnterCritical
  dsimp only
  split
  · exact RecorderOnly.sep b _
  · split
    · exact (RecorderOnly.sep b _).trans (RecorderOnly.bump _ _ (by decide))
    · exact (RecorderOnly.sep b _).trans (RecorderOnly.bump _ _ (by decide))
    · exact (RecorderOnly.sep b _).trans (RecorderOnly.bump _ _ (by decide))
    · split
      · exact RecorderOnly.sep b _
      · exact RecorderOnly.bump b _ (by decide)

theorem askFlush_only (b : Block) (c : Prop) [Decidable c] :
    RecorderOnly b (if c then { b with sep := { b.sep with flushDue := true } } else b) := by
  split
  · exact RecorderOnly.sep b _
  · exact RecorderOnly.refl b

theorem sepBuffer_only (b : Block) (r : SepRec) : RecorderOnly b (sepBuffer b r) := by
  unfold sepBuffer
  split
  · unfold sepToPool
    exact (((RecorderOnly.sep b _).trans (RecorderOnly.put _ _ _ (by decide))).trans
      (RecorderOnly.put _ _ _ (by decide))).trans (RecorderOnly.put _ _ _ (by decide))
  · dsimp only
    refine (askFlush_only b (b.cfgN .REC_FLUSH_SEV ≤ r.severity)).trans ?_
    generalize (if b.cfgN .REC_FLUSH_SEV ≤ r.severity then
      { b with sep := { b.sep with flushDue := true } } else b) = c
    cases h : sepEnterHalf c r with
    | some b' => exact sepEnterHalf_only _ _ _ h
    | none => exact sepEnterCritical_only _ _

theorem sepMake_only (b : Block) (code src conts supp pa pb : Nat) (cont : Bool) (payload : List Nat) :
    RecorderOnly b (sepMake b code src conts supp pa pb cont payload) := by
  unfold sepMake
  exact (sepNumber_only b _).trans (sepBuffer_only _ _)

theorem sepPutBucket_only (b : Block) (k : SepBucket) : RecorderOnly b (sepPutBucket b k) := RecorderOnly.sep b _

theorem sepSuppress_only (b : Block) (k : SepBucket) : RecorderOnly b (sepSuppress b k) := by
  unfold sepSuppress sepPutBucket
  exact (RecorderOnly.sep b _).trans (RecorderOnly.bump _ _ (by decide))

/-- Recording an event changes the recorder alone. -/
theorem sepiaCont_only (b : Block) (code src pa pb : Nat) (conts : List (List Nat)) :
    RecorderOnly b (b.sepiaCont code src pa pb conts) := by
  unfold Block.sepiaCont
  dsimp only
  split
  · exact sepSuppress_only b _
  · split
    · exact (sepSuppress_only b _).trans (RecorderOnly.bump _ _ (by decide))
    · have fold : ∀ (l : List (List Nat)) (b : Block),
          RecorderOnly b (l.foldl (fun b c => sepMake b code src 0 0 pa pb true c) b) := by
        intro l
        induction l with
        | nil => exact RecorderOnly.refl
        | cons c l ih => exact fun b => (sepMake_only b _ _ _ _ _ _ _ _).trans (ih _)
      exact ((sepPutBucket_only b _).trans (sepMake_only _ _ _ _ _ _ _ _ _)).trans (fold _ _)

/-- Recording an event without continuation records changes the recorder alone. -/
theorem sepia_only (b : Block) (code src pa pb : Nat) : RecorderOnly b (b.sepia code src pa pb) :=
  sepiaCont_only b code src pa pb []

/-- A register field outside the recorder reads as before. -/
theorem get_sepia (b : Block) (code src pa pb : Nat) (f : Field) (i : Nat) (hi : i < 256) (hf : f ∉ recorderFields) :
    (b.sepia code src pa pb).get f i = b.get f i := (sepia_only b code src pa pb).2 f i hi hf

@[simp] theorem sepia_image (b : Block) (code src pa pb : Nat) : (b.sepia code src pa pb).image = b.image := by
  have h := congrArg Block.image (sepia_only b code src pa pb).1; exact h
@[simp] theorem sepia_sys (b : Block) (code src pa pb : Nat) : (b.sepia code src pa pb).sys = b.sys := by
  have h := congrArg Block.sys (sepia_only b code src pa pb).1; exact h
@[simp] theorem sepia_fcs (b : Block) (code src pa pb : Nat) : (b.sepia code src pa pb).fcs = b.fcs := by
  have h := congrArg Block.fcs (sepia_only b code src pa pb).1; exact h
@[simp] theorem sepia_fuses (b : Block) (code src pa pb : Nat) : (b.sepia code src pa pb).fuses = b.fuses := by
  have h := congrArg Block.fuses (sepia_only b code src pa pb).1; exact h
@[simp] theorem sepia_boot (b : Block) (code src pa pb : Nat) : (b.sepia code src pa pb).boot = b.boot := by
  have h := congrArg Block.boot (sepia_only b code src pa pb).1; exact h
@[simp] theorem sepia_pwr (b : Block) (code src pa pb : Nat) : (b.sepia code src pa pb).pwr = b.pwr := by
  have h := congrArg Block.pwr (sepia_only b code src pa pb).1; exact h
@[simp] theorem sepia_spn (b : Block) (code src pa pb : Nat) : (b.sepia code src pa pb).spn = b.spn := by
  have h := congrArg Block.spn (sepia_only b code src pa pb).1; exact h
@[simp] theorem sepia_srv (b : Block) (code src pa pb : Nat) : (b.sepia code src pa pb).srv = b.srv := by
  have h := congrArg Block.srv (sepia_only b code src pa pb).1; exact h
@[simp] theorem sepia_ast (b : Block) (code src pa pb : Nat) : (b.sepia code src pa pb).ast = b.ast := by
  have h := congrArg Block.ast (sepia_only b code src pa pb).1; exact h
@[simp] theorem sepia_ch (b : Block) (code src pa pb : Nat) : (b.sepia code src pa pb).ch = b.ch := by
  have h := congrArg Block.ch (sepia_only b code src pa pb).1; exact h
@[simp] theorem sepia_deep (b : Block) (code src pa pb : Nat) : (b.sepia code src pa pb).deep = b.deep := by
  have h := congrArg Block.deep (sepia_only b code src pa pb).1; exact h
@[simp] theorem sepia_ts (b : Block) (code src pa pb : Nat) : (b.sepia code src pa pb).ts = b.ts := by
  have h := congrArg Block.ts (sepia_only b code src pa pb).1; exact h
@[simp] theorem sepia_xl (b : Block) (code src pa pb : Nat) : (b.sepia code src pa pb).xl = b.xl := by
  have h := congrArg Block.xl (sepia_only b code src pa pb).1; exact h
@[simp] theorem sepia_ns (b : Block) (code src pa pb : Nat) : (b.sepia code src pa pb).ns = b.ns := by
  have h := congrArg Block.ns (sepia_only b code src pa pb).1; exact h
@[simp] theorem sepia_px (b : Block) (code src pa pb : Nat) : (b.sepia code src pa pb).px = b.px := by
  have h := congrArg Block.px (sepia_only b code src pa pb).1; exact h
@[simp] theorem sepia_nv (b : Block) (code src pa pb : Nat) : (b.sepia code src pa pb).nv = b.nv := by
  have h := congrArg Block.nv (sepia_only b code src pa pb).1; exact h
@[simp] theorem sepia_nvm (b : Block) (code src pa pb : Nat) : (b.sepia code src pa pb).nvm = b.nvm := by
  have h := congrArg Block.nvm (sepia_only b code src pa pb).1; exact h
@[simp] theorem sepia_nim (b : Block) (code src pa pb : Nat) : (b.sepia code src pa pb).nim = b.nim := by
  have h := congrArg Block.nim (sepia_only b code src pa pb).1; exact h
@[simp] theorem sepia_thm (b : Block) (code src pa pb : Nat) : (b.sepia code src pa pb).thm = b.thm := by
  have h := congrArg Block.thm (sepia_only b code src pa pb).1; exact h
@[simp] theorem sepia_och (b : Block) (code src pa pb : Nat) : (b.sepia code src pa pb).och = b.och := by
  have h := congrArg Block.och (sepia_only b code src pa pb).1; exact h
@[simp] theorem sepia_hea (b : Block) (code src pa pb : Nat) : (b.sepia code src pa pb).hea = b.hea := by
  have h := congrArg Block.hea (sepia_only b code src pa pb).1; exact h
@[simp] theorem sepia_mm (b : Block) (code src pa pb : Nat) : (b.sepia code src pa pb).mm = b.mm := by
  have h := congrArg Block.mm (sepia_only b code src pa pb).1; exact h

end Sys2Proof.Machine
end

