-- ==== Sys2Proof/Machine/Operands.lean ====
section
/-! DEFINITION. The forms that operands take: the widths of the numbers a host or a control core sends with a command. A meaning
takes every value; these say which of them a sender can form. -/

namespace Sys2Proof.Machine

/-- A number fits in n bits. -/
def fits (n v : Nat) : Bool := decide (v < 2 ^ n)

/-- Identifiers of an I/O command: its submission queue and its command identifier, 16 bits each, never the admin queue. -/
def ioIds (sq cid : Nat) : Bool := fits 16 sq && decide (0 < sq) && fits 16 cid

/-- The range of a command that names blocks: a 64-bit first block and 1 to 65,536 blocks. -/
def blockRange (slba nlb : Nat) : Bool := fits 64 slba && decide (1 ≤ nlb ∧ nlb ≤ 65536)

/-- An offset in the 1 MiB register space (R36). -/
def windowOffset (off : Nat) : Bool := fits 20 off

end Sys2Proof.Machine
end

