-- ==== Sys2Proof/WellFormed.lean ====
section
/-! DEFINITION. Which commands a sender can form: numbers that fit the fields that carry them. The machine gives every command its
effect whether or not it is well formed. -/

namespace Sys2Proof

open Machine

/-- A command's operands fit the fields that carry them. Operands that are outcomes of the physics are not bounded here. -/
def Instr.wf : Instr → Bool
  | .registerWrite _ off vals _ => windowOffset off && decide (vals.length = 1 ∨ vals.length = 2)
  | .diagAccessBadSize _ _ off _ _ => windowOffset off
  | .diagWriteDiscarded _ off vals => windowOffset off && decide (vals.length = 1 ∨ vals.length = 2)
  | .counterLowRead _ off | .counterHighRead _ off => windowOffset off
  | .sqTailDoorbell _ sq v => fits 16 sq && fits 32 v
  | .cqHeadDoorbell _ cq v => fits 16 cq && fits 32 v
  | .configRead _ off => fits 12 off && decide (off % 4 = 0)
  | .configWrite _ off _ _ => fits 12 off && decide (off % 4 = 0)
  | .completionReceived _ tag _ _ _ | .completionTimeout _ tag _ | .tagQuarantineEnd _ tag => fits 10 tag
  | .deleteIoSubmissionQueue _ cid qid _ => fits 16 cid && fits 16 qid
  | .deleteIoCompletionQueue _ cid qid => fits 16 cid && fits 16 qid
  | .createIoSubmissionQueue _ cid qid size cqid _ _ _ => fits 16 cid && fits 16 qid && fits 17 size && fits 16 cqid
  | .createIoCompletionQueue _ cid qid size vector _ _ => fits 16 cid && fits 16 qid && fits 17 size && fits 16 vector
  | .getLogPage _ cid nsid lid _ _ _ => fits 16 cid && fits 32 nsid && fits 8 lid
  | .identify _ cid cns nsid csi cntid => fits 16 cid && fits 8 cns && fits 32 nsid && fits 8 csi && fits 16 cntid
  | .abort _ cid sq target => fits 16 cid && fits 16 sq && fits 16 target
  | .getFeatures _ cid fid _ _ => fits 16 cid && fits 8 fid
  | .namespaceDelete _ cid nsid => fits 16 cid && fits 32 nsid
  | .namespaceAttach _ cid nsid ids | .namespaceDetach _ cid nsid ids => fits 16 cid && fits 32 nsid && ids.all (fits 16)
  | .firmwareImageDownload _ cid off len _ => fits 16 cid && fits 34 off && fits 34 len
  | .firmwareCommitReplace _ cid slot | .firmwareCommitReplaceActivate _ cid slot | .firmwareCommitActivate _ cid slot
  | .firmwareCommitImmediate _ cid slot => fits 16 cid && fits 3 slot
  | .formatNvm _ cid nsid lbaf ses dps => fits 16 cid && fits 32 nsid && fits 6 lbaf && fits 3 ses && fits 4 dps
  | .startJobMediaPatrol _ cid nsid x y z _ | .startJobSurfaceRetire _ cid nsid x y z _
  | .startJobParityRebuild _ cid nsid x y z _ | .startJobActuatorRecalibration _ cid nsid x y z _
  | .startJobAssistRecharacterise _ cid nsid x y z _ | .startJobConventionalCompact _ cid nsid x y z _
  | .startJobSepiaExtract _ cid nsid x y z _ | .startJobExtendedSelfTest _ cid nsid x y z _ =>
    fits 16 cid && fits 32 nsid && fits 32 x && fits 32 y && fits 32 z
  | .queryJob _ cid handle _ | .cancelJob _ cid handle _ => fits 16 cid && fits 32 handle
  | .queueRecovery _ cid mask _ => fits 16 cid && fits 32 mask
  | .flush _ sq cid nsid => ioIds sq cid && fits 32 nsid
  | .write _ sq cid nsid slba nlb _ | .zoneAppend _ sq cid nsid slba nlb _ _ | .writeZeroes _ sq cid nsid slba nlb =>
    ioIds sq cid && fits 32 nsid && blockRange slba nlb
  | .read _ sq cid nsid slba nlb _ | .verify _ sq cid nsid slba nlb _ => ioIds sq cid && fits 32 nsid && blockRange slba nlb
  | .datasetManagementDeallocate _ sq cid nsid ranges _ =>
    ioIds sq cid && fits 32 nsid && decide (1 ≤ ranges.length ∧ ranges.length ≤ 256)
  | .copy _ sq cid nsid slba ranges => ioIds sq cid && fits 32 nsid && fits 64 slba && decide (1 ≤ ranges.length)
  | .zoneOpen _ sq cid nsid slba _ | .zoneClose _ sq cid nsid slba _ | .zoneFinish _ sq cid nsid slba _
  | .zoneReset _ sq cid nsid slba _ | .zoneOffline _ sq cid nsid slba _ => ioIds sq cid && fits 32 nsid && fits 64 slba
  | .orderingFence _ sq cid nsid _ => ioIds sq cid && fits 32 nsid
  | .dmaDrained _ moved host => fits 32 moved && decide (host.length = 0 ∨ host.length = moved)
  | .sramScrub _ _ _ bad _ _ => fits 80 bad
  | .dramScrub bad held => fits 576 bad && fits 28 held
  | _ => true

end Sys2Proof
end

