-- ==== Sys2Proof/Tests/Slice0.lean ====
section
/-! SUPPORT. For every statement with hypotheses, states and operands that meet them, and tests of a few commands against the spec's
own figures. -/

namespace Sys2Proof.Tests

open Sys2Proof Sys2Proof.Machine

set_option linter.unusedVariables false
set_option Elab.async false

/-! ### States -/

/-- A state built from reset. -/
def W (f : Block → Block) : State := { State.reset with blk := f Block.reset }
/-- Register fields of instance 0 set. -/
def R (l : List (Field × Nat)) (b : Block) : Block := l.foldl (fun b x => b.put x.1 0 x.2) b
/-- A mode entered at reset, powered. -/
def M (m : Mode) (b : Block) : Block := enterMode { b with pwr := { b.pwr with powered := true, v12 := true } } m 0
/-- A HOLDUP in progress. -/
def H (h : Holdup) (b : Block) : Block := M .holdup { b with pwr := { b.pwr with holdup := some h } }
/-- An image of some settings of instance 0. -/
def imageOf (l : List (Setting × Nat × Int)) : Image :=
  ⟨[], l.foldl (fun m x => nset (settingDefault x.1 x.2.1) m (settingKey x.1 0 x.2.1) x.2.2) []⟩
/-- Values of a small image: every surface and actuator, two recording zones and a conventional one. -/
def smallImage : Image := imageOf
  [(.PLT_SURFACES, 0, 0xFFFFFF), (.PLT_ACTUATORS, 0, 15), (.PLT_PLATTERS, 0, 12), (.PLT_NATIVE_GB, 0, 32000), (.FMT_RPM, 0, 7200),
    (.FMT_ZONES, 0, 3), (.FMT_TRACKS, 0, 4000), (.FMT_Z_TRACK, 1, 2000), (.FMT_Z_TRACK, 2, 3900), (.FMT_Z_SPT, 0, 500),
    (.FMT_Z_SPT, 1, 400), (.FMT_Z_SPT, 2, 400), (.FMT_Z_KIND, 2, 1), (.SRV_STROKE_TRK, 0, 4000)]
/-- A module in RUN: the image, the journal and the engines up, the spindle locked and every actuator following. -/
def running (b : Block) : Block :=
  let b := applyImage b smallImage
  let b := M .run { b with
    boot := { b.boot with enginesUp := true, journalUp := true, verified := true }
    fcs := { b.fcs with cal := some ⟨0, 1, 0, [], []⟩ }
    sep := { b.sep with up := true } }
  let b := ((b.put .SPN_STATE_LOCK 0 1).put .PWR_MODE_ACT_LIMIT 0 4)
  (List.finRange 4).foldl (fun b a => b.put .SRV_STATE_MODE a.val 4) b

/-- A state of a witness. -/
def st1 : State := W (fun b => b.onPx 1 (fun x => { x with unlockAt := some 0 }))
/-- A state of a witness. -/
def st2 : State := W (fun b => b.put .PX_LINK_DSTATE 0 3)
/-- A state of a witness. -/
def st3 : State := W (fun b => { b with sys := { b.sys with devTime := 0x123456789AB } })
/-- A state of a witness. -/
def st4 : State :=
  W (fun b => { b with sys := { b.sys with devTime := 0x123456789AB, shadow := vupd b.sys.shadow 0 (fun _ => some (0x70, 77)) } })
/-- A state of a witness. -/
def st5 : State := W (fun b => (R [(.FAB_RTWAIT_MAX, 9)] b).onPx 1 (fun x => { x with unlockAt := some 0 }))
/-- A state of a witness. -/
def st6 : State := W (fun b => { b with fcs := { b.fcs with op := some ⟨1, false, 0x100, [1, 2], none⟩ } })
/-- A state of a witness. -/
def st7 : State := W (fun b => { b with fcs := { b.fcs with op := some ⟨1, true, 0x10000, [], none⟩ } })
/-- A state of a witness. -/
def st8 : State := W (fun b => { b with fcs := { b.fcs with op := some ⟨1, true, 0, [], none⟩ } })
/-- A state of a witness. -/
def st9 : State :=
  W (fun b => { b with fcs := { b.fcs with banks := b.fcs.banks.map (fun (k : FcsBank) => { k with bytes := [(0x10101, 3)] }) } })
/-- A state of a witness. -/
def st10 : State := W (fun b => { b with pwr := { b.pwr with powered := true, v12 := true } })
/-- A state of a witness. -/
def st11 : State := W (fun b => ({ b with boot := { b.boot with active := true } }).put .SYS_BOOT_STAGE 0 3)
/-- A state of a witness. -/
def st12 : State :=
  W (fun b => ({ b with boot := { b.boot with active := true }, fcs := { b.fcs with banks := b.fcs.banks.map (fun (k : FcsBank) => { k with desc := .intact, revoke := 0xFF, seq := some 1 }) } }).put .SYS_BOOT_STAGE 0 4)
/-- A state of a witness. -/
def st13 : State :=
  W (fun b => ({ b with boot := { b.boot with active := true, current := some 0, candidates := [1] } }).put .SYS_BOOT_STAGE 0 5)
/-- A state of a witness. -/
def st14 : State := W (fun b => ({ b with boot := { b.boot with active := true, verified := true } }).put .SYS_BOOT_STAGE 0 8)
/-- A state of a witness. -/
def st15 : State := W (fun b => { b with boot := { b.boot with active := true, recovery := true } })
/-- A state of a witness. -/
def st16 : State :=
  W (fun b => ({ b with boot := { b.boot with active := true }, fcs := { b.fcs with cal := some ⟨0, 1, 0, [], []⟩ } }).put .SYS_BOOT_STAGE 0 9)
/-- A state of a witness. -/
def st17 : State := W (fun b => { b with boot := { b.boot with enginesUp := true } })
/-- A state of a witness. -/
def st18 : State := W (fun b => { b with pwr := { b.pwr with afterHoldup := true, powered := false } })
/-- A state of a witness. -/
def st19 : State := W (fun b => { b with pwr := { b.pwr with v12 := false, powered := false, savedTime := 5 } })
/-- A state of a witness. -/
def st20 : State :=
  W (fun b => ({ b with sys := { b.sys with devTime := 9000000 } }).onNv 0 (fun c => { c with feats := [(0x0C * 65536, 1), (0x0C * 65536 + 1, 256 + 24)] }))
/-- A state of a witness. -/
def st21 : State := W (fun b => M .run { b with pwr := { b.pwr with pending := [⟨.mcache 1, 4, 0, 0⟩] } })
/-- A state of a witness. -/
def st22 : State := W (M .run)
/-- A state of a witness. -/
def st23 : State := W (M .boot)
/-- A state of a witness. -/
def st24 : State := W (M .idle)
/-- A state of a witness. -/
def st25 : State := W (M .park)
/-- A state of a witness. -/
def st26 : State := W (M .spinup)
/-- A state of a witness. -/
def st27 : State := W (fun b => { b with pwr := { b.pwr with powered := false, aux := true } })
/-- A state of a witness. -/
def st28 : State := W (H ⟨.run, 5, true, 7, 0, 0, false, false⟩)
/-- A state of a witness. -/
def st29 : State := W (fun b => H ⟨.run, 5, true, 7, 0, 0, false, false⟩ (running b))
/-- A state of a witness. -/
def st30 : State :=
  W (fun b => H ⟨.run, 5, true, 7, 0, 0, false, false⟩ ((running b).onXl (fun x => { x with dirty := [⟨5, 0⟩, ⟨6, 0⟩] })))
/-- A state of a witness. -/
def st31 : State := W (fun b => H ⟨.run, 5, true, 7, 0, 0, true, false⟩ { b with pwr := { b.pwr with v12Held := false } })
/-- A state of a witness. -/
def st32 : State := W (fun b => H ⟨.run, 5, true, 7, 0, 0, true, false⟩ { b with pwr := { b.pwr with v12Held := true, pwdis := true } })
/-- A state of a witness. -/
def st33 : State := W (fun b => H ⟨.run, 5, true, 7, 0, 0, true, false⟩ { b with pwr := { b.pwr with v12Held := true } })
/-- A state of a witness. -/
def st34 : State := W (fun b => { b with pwr := { b.pwr with powered := true, braking := true, afterHoldup := true } })
/-- A state of a witness. -/
def st35 : State :=
  W (fun b => { b with pwr := { b.pwr with powered := true, braking := true, afterHoldup := true, v12Held := true, pwdis := true } })
/-- A state of a witness. -/
def st36 : State :=
  W (fun b => { b with pwr := { b.pwr with powered := true, braking := true, afterHoldup := false, v12Held := true } })
/-- A state of a witness. -/
def st37 : State :=
  W (fun b => { b with pwr := { b.pwr with powered := true, braking := true, afterHoldup := true, v12Held := true, v12 := true } })
/-- A state of a witness. -/
def st38 : State := W (fun b => { M .boot b with boot := { b.boot with active := true } })
/-- A state of a witness. -/
def st39 : State := W (fun b => (M .run b).put .PWR_MODE_TARGET 0 4)
/-- A state of a witness. -/
def st40 : State := W (M .holdup)
/-- A state of a witness. -/
def st41 : State := W (fun b => { b with pwr := { b.pwr with powered := false } })
/-- A state of a witness. -/
def st42 : State := W (fun b => let b := M .run b; { b with pwr := { b.pwr with pwdisDown := true } })
/-- A state of a witness. -/
def st43 : State := W (fun b => let b := M .run b; { b with pwr := { b.pwr with pwdis := true } })
/-- A state of a witness. -/
def st44 : State := W (fun b => { b with pwr := { b.pwr with pwdis := true, powered := false, v12 := false } })
/-- A state of a witness. -/
def st45 : State :=
  W (fun b => { b with pwr := { b.pwr with pwdis := true, powered := false, v12 := true, v12Held := false, afterHoldup := true } })
/-- A state of a witness. -/
def st46 : State := W (fun b => { b with pwr := { b.pwr with pwdis := true, powered := false, v12 := true } })
/-- A state of a witness. -/
def st47 : State := W (fun b => let b := (M .run b).put .PWR_MODE_TARGET 0 4; { b with pwr := { b.pwr with pwdis := true } })
/-- A state of a witness. -/
def st48 : State :=
  W (fun b => ((M .run { b with boot := { b.boot with enginesUp := true } }).onPx 0 (fun x => { x with present := true })).put .PX_LINK_STATE 0 3)
/-- A state of a witness. -/
def st49 : State := W (fun b => { b with fcs := { b.fcs with activation := some ⟨1, 0, 1, 0, none⟩ } })
/-- A state of a witness. -/
def st50 : State := W (fun b => b.onPx 0 (fun x => { x with flr := true }))
/-- A state of a witness. -/
def st51 : State :=
  W (fun b => ((M .run { b with boot := { b.boot with enginesUp := true } }).onPx 0 (fun x => { x with present := true })).put .NV_CTL_EN 0 1)
/-- A state of a witness. -/
def st52 : State := W (fun b => ({ b with fcs := { b.fcs with activation := some ⟨1, 0, 1, 0, none⟩ } }).put .NV_CTL_EN 0 1)
/-- A state of a witness. -/
def st53 : State := W (fun b => ({ b with nvm := { b.nvm with waits := [⟨0, 5, 1, 1, .detach⟩] } }).put .NV_CTL_EN 0 1)
/-- A state of a witness. -/
def st54 : State := W (fun b => b.onNv 0 (fun c => { c with shutAt := some (0, true) }))
/-- A state of a witness. -/
def st55 : State := W (fun b => R [(.SPN_STATE_STATE, 5)] (M .spinup { b with spn := { b.spn with goal := .run } }))
/-- A state of a witness. -/
def st56 : State := W (fun b => R [(.SPN_STATE_STATE, 8)] { b with spn := { b.spn with goal := .restart } })
/-- A state of a witness. -/
def st57 : State := W (fun b => R [(.SPN_STATE_STATE, 8)] { b with spn := { b.spn with goal := .retry } })
/-- A state of a witness. -/
def st58 : State := W (fun b => R [(.SPN_STATE_STATE, 1)] b)
/-- A state of a witness. -/
def st59 : State :=
  W (fun b => let b := applyImage b (imageOf [(.SPD_KE, 0, 500), (.SPD_POLE_PAIRS, 0, 4)]); R [(.SPN_STATE_STATE, 2)] { b with spn := { b.spn with zcRun := 5, forcedRate := 130899693899575000 } })
/-- A state of a witness. -/
def st60 : State := W (fun b => R [(.SPN_STATE_STATE, 3)] { b with spn := { b.spn with lost := false } })
/-- A state of a witness. -/
def st61 : State := W (fun b => R [(.SPN_STATE_STATE, 3)] b)
/-- A state of a witness. -/
def st62 : State := W (fun b => R [(.SPN_STATE_STATE, 3)] { b with spn := { b.spn with zcLoss := 100 } })
/-- A state of a witness. -/
def st63 : State := W (fun b => R [(.SPN_STATE_STATE, 6)] (M .run b))
/-- A state of a witness. -/
def st64 : State := W (fun b => R [(.SPN_STATE_STATE, 6)] (M .holdup b))
/-- A state of a witness. -/
def st65 : State :=
  W (fun b => R [(.SPN_STATE_STATE, 2)] { b with sys := { b.sys with devTime := 3000000 }, spn := { b.spn with goal := .run, fails := 1, inAttempt := true } })
/-- A state of a witness. -/
def st66 : State :=
  W (fun b => R [(.SPN_STATE_STATE, 3)] { b with sys := { b.sys with devTime := 300000000 }, spn := { b.spn with goal := .run, fails := 2, inAttempt := true } })
/-- A state of a witness. -/
def st67 : State := W (fun b => R [(.SPN_STATE_STATE, 8)] { b with spn := { b.spn with goal := .giveUp } })
/-- A state of a witness. -/
def st68 : State := W (fun b => R [(.SPN_STATE_STATE, 0)] { b with spn := { b.spn with goal := .retry } })
/-- A state of a witness. -/
def st69 : State := W (fun b => let b := running b; { b with spn := { b.spn with errSteps := 3200 } })
/-- A state of a witness. -/
def st70 : State := W (fun b => let b := M .run b; { b with spn := { b.spn with trips := [0, 0] } })
/-- A state of a witness. -/
def st71 : State := W (fun b => R [(.SPN_STATE_STATE, 7)] { b with spn := { b.spn with clampClosed := true } })
/-- A state of a witness. -/
def st72 : State := W (R [(.SPN_BRAKE_TEST, 1)])
/-- A state of a witness. -/
def st73 : State := W (fun b => R [(.SPN_STATE_STATE, 7)] { b with spn := { b.spn with clampDue := true } })
/-- A state of a witness. -/
def st74 : State := W (fun b => R [(.SPN_STATE_STATE, 9)] b)
/-- A state of a witness. -/
def st75 : State := W (fun b => R [(.SPN_STATE_STATE, 9)] { b with spn := { b.spn with ovBraking := true } })
/-- A state of a witness. -/
def st76 : State := W (fun b => R [(.SPN_STATE_STATE, 9)] { b with spn := { b.spn with ovBraking := false, goal := .run } })
/-- A state of a witness. -/
def st77 : State := W (fun b => (M .run (b)).put .SRV_STATE_MODE 1 0)
/-- A state of a witness. -/
def st78 : State := W (fun b => (M .run (b)).put .SRV_STATE_MODE 1 6)
/-- A state of a witness. -/
def st79 : State := W (fun b => (M .run (b.onSrv 1 (fun v => { v with maLimited := false }))).put .SRV_STATE_MODE 1 4)
/-- A state of a witness. -/
def st80 : State := W (fun b => (M .run (b.onSrv 1 (fun v => { v with settleRun := 1000, forWrite := true }))).put .SRV_STATE_MODE 1 3)
/-- A state of a witness. -/
def st81 : State := W (fun b => (M .run (b.onSrv 1 (fun v => { v with readRun := 1000, forWrite := false }))).put .SRV_STATE_MODE 1 4)
/-- A state of a witness. -/
def st82 : State := W (fun b => (b.onSrv 1 (fun v => { v with goodRun := 100000 })).put .SRV_WU_CAUSE 1 0)
/-- A state of a witness. -/
def st83 : State :=
  W (fun b => let b := { b with sys := { b.sys with devTime := 20000 } }; (M .run (b.onSrv 1 (fun v => { v with reacquired := false, reloads := some 0 }))).put .SRV_STATE_MODE 1 7)
/-- A state of a witness. -/
def st84 : State :=
  W (fun b => let b := { b with sys := { b.sys with devTime := 20000 } }; (M .run (b.onSrv 1 (fun v => { v with reacquired := false, reloads := some 3 }))).put .SRV_STATE_MODE 1 7)
/-- A state of a witness. -/
def st85 : State :=
  W (fun b => let b := { b with sys := { b.sys with devTime := 20000 } }; (M .run (b.onSrv 1 (fun v => { v with reacquired := false, reloads := none }))).put .SRV_STATE_MODE 1 7)
/-- A state of a witness. -/
def st86 : State := W (fun b => let b := (running b).put .SRV_STATE_MODE 1 0; b)
/-- A state of a witness. -/
def st87 : State :=
  W (fun b => let b := (running b).put .SRV_STATE_MODE 1 8; b.onNvm (fun n => { n with jobs := [⟨1, 0, 4, 2, 0, 0, 0, 0, 0, [0, 0, 0, 2], 0, 0, 0, false⟩] }))
/-- A state of a witness. -/
def st88 : State := W (fun b => (M .run (b.onSrv 1 (fun v => { v with loadFails := 1, loadWedges := 64 }))).put .SRV_STATE_MODE 1 1)
/-- A state of a witness. -/
def st89 : State :=
  W (fun b => (M .run (b.onSrv 1 (fun v => { v with loadFails := 2, loadWedges := 70, reloads := some 1 }))).put .SRV_STATE_MODE 1 1)
/-- A state of a witness. -/
def st90 : State := W (fun b => (M .run (b.onSrv 1 (fun v => { v with loadFails := 1, loadDue := true }))).put .SRV_STATE_MODE 1 0)
/-- A state of a witness. -/
def st91 : State :=
  W (fun b => (M .run (b.onSrv 1 (fun v => { v with loadFails := 1, loadDue := true, reloads := some 2 }))).put .SRV_STATE_MODE 1 0)
/-- A state of a witness. -/
def st92 : State := W (fun b => (M .run (b)).put .SRV_STATE_MODE 1 4)
/-- A state of a witness. -/
def st93 : State := W (fun b => (M .run (b)).put .SRV_STATE_MODE 1 10)
/-- A state of a witness. -/
def st94 : State := W (fun b => (M .run (b)).put .SRV_STATE_MODE 1 5)
/-- A state of a witness. -/
def st95 : State :=
  W (fun b => let b := (running b).put .SRV_STATE_MODE 1 5; b.onSrv 1 (fun v => { v with reloads := some 2, loadDue := true }))
/-- A state of a witness. -/
def st96 : State :=
  W (fun b => (M .run (b.onSrv 1 (fun v => { v with retract := .driving, coil := some (500, 900) }))).put .SRV_STATE_MODE 1 6)
/-- A state of a witness. -/
def st97 : State := W (fun b => (M .run (b.onSrv 1 (fun v => { v with retract := .latching }))).put .SRV_STATE_MODE 1 6)
/-- A state of a witness. -/
def st98 : State :=
  W (fun b => (running b).onXl (fun x => { x with queues := vupd x.queues 1 (fun _ => [⟨3, .host 0 1 5 0, 1, 6, 0, 10, 0, 5, false, false, 0, 5, 0, false, false⟩]) }))
/-- A state of a witness. -/
def st99 : State := W running
/-- A state of a witness. -/
def st100 : State := W (fun b => (M .run (b.onPx 1 (fun x => { x with unlockAt := some 0 }))).put .SRV_STATE_MODE 1 4)
/-- A state of a witness. -/
def st101 : State := W (fun b => (M .run (b.onPx 1 (fun x => { x with unlockAt := some 0 }))).put .SRV_STATE_MODE 1 10)
/-- A state of a witness. -/
def st102 : State :=
  W (fun b => (M .run (b.onSrv 1 (fun v => { v with capRun := true, capture := List.replicate 40000 0 }))).put .SRV_STATE_MODE 1 4)
/-- A state of a witness. -/
def st103 : State := W (fun b => (M .run (b.onSrv 1 (fun v => { v with capRun := true, capture := [5] }))).put .SRV_STATE_MODE 1 4)
/-- A state of a witness. -/
def st104 : State := W (fun b => b.onAst 1 (fun v => { v with metrics := [(3, 63, 7), (2, 1, -5)] }))
/-- A state of a witness. -/
def st105 : State := W (fun b => b.onAst 1 (fun v => { v with preheat := true }))
/-- A state of a witness. -/
def st106 : State := W (fun b => b.onAst 1 (fun v => { v with suspended := 8 }))
/-- A state of a witness. -/
def st107 : State := W (fun b => b.onAst 1 (fun v => { v with touchWait := 8 }))
/-- A state of a witness. -/
def st108 : State := W (fun b => b.onAst 1 (fun v => { v with faultWait := 8 }))
/-- A state of a witness. -/
def st109 : State := W (fun b => b.onAst 1 (fun v => { v with pslFault := true, reinitFails := 2 }))
/-- A state of a witness. -/
def st110 : State := W (fun b => b.onAst 1 (fun v => { v with pslFault := true, reinitFails := 1 }))
/-- A state of a witness. -/
def st111 : State := W (fun b => b.put .CH_STATE_MODE 1 4)
/-- A state of a witness. -/
def st112 : State := W (fun b => b.onTs 1 (fun v => { v with frame := some ⟨false, false, false, false, 4, 0, none⟩ }))
/-- A state of a witness. -/
def st113 : State :=
  W (fun b => b.onCh 1 (fun c => { c with sectors := [{ index := 4, head := 2, zone := 0, track := 7, tag := 3, gen := 0, scan := ⟨0, 0, 64, 0, 0, 0, 0⟩, phase := .onTheFly, slot := some 1, decoded := [], found := some 2, source := 0, rung := 5, rereads := 0, revs := 0, ofs := 0, short := false, dropped := false }] }))
/-- A state of a witness. -/
def st114 : State :=
  W (fun b => b.onCh 1 (fun c => { c with sectors := [{ index := 4, head := 2, zone := 0, track := 7, tag := 3, gen := 0, scan := ⟨0, 0, 64, 0, 0, 0, 0⟩, phase := .replay 3 7, slot := some 1, decoded := [], found := some 2, source := 0, rung := 5, rereads := 0, revs := 0, ofs := 0, short := false, dropped := false }] }))
/-- A state of a witness. -/
def st115 : State := W (fun b => { b with deep := { b.deep with running := vupd b.deep.running 1 (fun _ => some ⟨1, 4, 0⟩) } })
/-- A state of a witness. -/
def st116 : State :=
  W (fun b => b.onCh 1 (fun c => { c with sectors := [{ index := 4, head := 2, zone := 0, track := 7, tag := 3, gen := 0, scan := ⟨0, 0, 64, 0, 0, 0, 0⟩, phase := .reread, slot := some 1, decoded := [], found := some 2, source := 0, rung := 5, rereads := 0, revs := 0, ofs := 0, short := false, dropped := false }] }))
/-- A state of a witness. -/
def st117 : State :=
  W (fun b => b.onTs 1 (fun v => { v with frame := some ⟨true, false, false, false, 4, 0, some ⟨2, 1, 0, 5, 0, 10, 0, 0, 0, 7⟩⟩ }))
/-- A state of a witness. -/
def st118 : State := W (fun b => b.onTs 1 (fun v => { v with frame := some ⟨true, false, false, false, 4, 0, none⟩ }))
/-- A state of a witness. -/
def st119 : State := W (fun b => b.onTs 1 (fun v => { v with frame := some ⟨true, false, false, true, 4, 0, none⟩ }))
/-- A state of a witness. -/
def st120 : State := W (fun b => b.onTs 1 (fun v => { v with unverified := [⟨4, 0, 0, 0, ⟨2, 1, 0, 5, 0, 10, 0, 0, 0, 7⟩⟩] }))
/-- A state of a witness. -/
def st121 : State := W (fun b => b.put .TS_STATE_STATE 1 1)
/-- A state of a witness. -/
def st122 : State := W (fun b => b.onTs 1 (fun v => { v with expAt := some 9 }))
/-- A state of a witness. -/
def st123 : State := W (fun b => b.onTs 1 (fun v => { v with expAt := some 9, armed := some ⟨2, 2, 0, false, 0⟩ }))
/-- A state of a witness. -/
def st124 : State := W (fun b => b.onTs 1 (fun v => { v with rg := true }))
/-- A state of a witness. -/
def st125 : State := W (fun b => b.onTs 1 (fun v => { v with wg := true }))
/-- A state of a witness. -/
def st126 : State := W (fun b => b.put .SRV_STATE_MODE 1 4)
/-- A state of a witness. -/
def st127 : State := W (fun b => ((b.put .TS_STATE_STATE 1 2).put .TS_STATE_PEND 1 4).put .TS_STATE_UPC 1 77)
/-- A state of a witness. -/
def st128 : State := W (fun b => b.put .TS_STATE_STATE 1 2)
/-- A state of a witness. -/
def st129 : State := W (fun b => b.put .TS_STATE_STOPREQ 1 1)
/-- A state of a witness. -/
def st130 : State := W (fun b => b.put .TS_STATE_STATE 1 6)
/-- A state of a witness. -/
def st131 : State := W (fun b => b.put .TS_STATE_STATE 1 5)
/-- A state of a witness. -/
def st132 : State :=
  W (fun b => (((running b).onNvm (fun n => { n with cmds := [⟨0, 1, 5, 0, .write, 1, 0, 8, [], none, false, [], false, .receiving, none, 0, .success, 0, 0⟩] })).put .PX_BME_BME 0 1).put .PX_LINK_STATE 0 3)
/-- A state of a witness. -/
def st133 : State :=
  W (fun b => (running b).onXl (fun x => { x with zones := [⟨1, 0, ⟨0, none, [0, 6, 12, 18], 1, 500, 0, 0, 0, []⟩, .full, 0, 1000, false⟩], due := [(bandOf (running b) 0 6 * 32 + 6, 1)] }))
/-- A state of a witness. -/
def st134 : State := W (fun b => (running b).onXl (fun x => { x with copies := [⟨0, 6, 900, 1, 0⟩] }))
/-- A state of a witness. -/
def st135 : State :=
  W (fun b => ((running b).onXl (fun x => { x with cached := [(blockKey 1 0, 0)] })).onNs (fun s => { s with factory := some 0, map := [(blockKey 1 0, 1)] }))
/-- A state of a witness. -/
def st136 : State :=
  W (fun b => (running b).onXl (fun x => { x with namespaces := [⟨1, false, 0, 1000000, false, 0, true, 1, 0, [], none, 0, false⟩], pool := [0, 1], cached := [(blockKey 1 0, 0)] }))
/-- A state of a witness. -/
def st137 : State :=
  W (fun b => (running b).onXl (fun x => { x with namespaces := [⟨1, false, 0, 1000000, false, 0, true, 1, 0, [], none, 0, false⟩], groups := [⟨0, 1, ⟨0, none, [0, 6, 12, 18], 1, 500, 0, 0, 0, []⟩, true, 0⟩] }))
/-- A state of a witness. -/
def st138 : State := W (fun b => (running b).onXl (fun x => { x with belowReserve := true }))
/-- A state of a witness. -/
def st139 : State :=
  W (fun b => (running b).onXl (fun x => { x with zones := [⟨1, 0, ⟨0, none, [0, 6, 12, 18], 2, 500, 0, 0, 1, []⟩, .full, 0, 1000, false⟩], recons := [⟨7, .host 0 1 5 0, 12, 0, 3, .zone 1 0, 0, 0, [], false, 9⟩] }))
/-- A state of a witness. -/
def st140 : State :=
  W (fun b => (running b).onXl (fun x => { x with zones := [⟨1, 0, ⟨0, none, [0, 6, 12, 18], 2, 500, 0, 0, 1, []⟩, .full, 0, 1000, false⟩], recons := [⟨7, .host 0 1 5 0, 12, 0, 3, .zone 1 0, 0, 0, [0, 6, 18], false, 9⟩] }))
/-- A state of a witness. -/
def st141 : State := W (fun b => b.onXl (fun x => { x with changed := [(1, 2)] }))
/-- A state of a witness. -/
def st142 : State :=
  W (fun b => ((running b).onXl (fun x => { x with zones := [⟨1, 0, ⟨0, none, [0, 6, 12, 18], 1, 5000, 0, 0, 0, []⟩, .full, 0, 1000, false⟩] })).onNvm (fun n => { n with jobs := [⟨0, 1, 2, 2, 0, 0, 0, 0, 1, [64], 0, 0, 0, false⟩] }))
/-- A state of a witness. -/
def st143 : State :=
  W (fun b => ((running b).onXl (fun x => { x with zones := [⟨1, 0, ⟨0, none, [0, 6, 12, 18], 1, 100, 0, 0, 0, []⟩, .full, 0, 1000, false⟩] })).onNvm (fun n => { n with jobs := [⟨0, 1, 2, 2, 0, 0, 0, 0, 1, [64], 0, 0, 0, false⟩] }))
/-- A state of a witness. -/
def st144 : State := W (fun b => b.onNs (fun s => { s with blocks := [(9, { nandDefault with ptr := 2048 })] }))
/-- A state of a witness. -/
def st145 : State := W (fun b => b.onNs (fun s => { s with erases := vupd s.erases 0 (fun _ => some ⟨[9], false⟩) }))
/-- A state of a witness. -/
def st146 : State := W (fun b => b.onNs (fun s => { s with blocks := [(9, { nandDefault with scan := true })] }))
/-- A state of a witness. -/
def st147 : State := W (fun b => (running b).onNs (fun s => { s with copies := [⟨.wear, 0, [9], [10], []⟩] }))
/-- A state of a witness. -/
def st148 : State := W (fun b => b.onNs (fun s => { s with copies := [⟨.wear, 0, [9], [10], []⟩] }))
/-- A state of a witness. -/
def st149 : State :=
  W (fun b => { (b.onNs (fun s => { s with blocks := [(9, { nandDefault with slots := [(0, ⟨1, .stage, 0, 0, true⟩)] }), (10, { nandDefault with ec := 50000 })] })) with sys := { b.sys with devTime := 108000000000 } })
/-- A state of a witness. -/
def st150 : State := W (fun b => b.onNs (fun s => { s with blocks := [(9, { nandDefault with due := true })] }))
/-- A state of a witness. -/
def st151 : State := W (fun b => b.onNs (fun s => { s with jrnlPages := 10000000 }))
/-- A state of a witness. -/
def st152 : State := W (fun b => { running b with sys := { (running b).sys with devTime := 3600000000 } })
/-- A state of a witness. -/
def st153 : State :=
  W (fun b => let b := (M .run b).onPx 0 (fun x => { x with present := true, perst := false }); let b := { b with boot := { b.boot with enginesUp := true, phy := true } }; b)
/-- A state of a witness. -/
def st154 : State :=
  W (fun b => let b := (M .run b).onPx 0 (fun x => { x with present := true }); let b := { b with boot := { b.boot with enginesUp := true, phy := true } }; R [(.PX_LINK_STATE, 3), (.PX_BME_BME, 1)] b)
/-- A state of a witness. -/
def st155 : State :=
  W (fun b => let b := (M .run b).onPx 0 (fun x => { x with present := true, config := [(0x20, 2)] }); let b := { b with boot := { b.boot with enginesUp := true, phy := true } }; { R [(.PX_LINK_STATE, 3)] b with sys := { b.sys with devTime := 100000 } })
/-- A state of a witness. -/
def st156 : State :=
  W (fun b => let b := (M .run b).onPx 0 (fun x => { x with present := true, config := [(0x20, 2), (0x62, 8)] }); let b := { b with boot := { b.boot with enginesUp := true, phy := true } }; { R [(.PX_LINK_STATE, 3)] b with sys := { b.sys with devTime := 100000 } })
/-- A state of a witness. -/
def st157 : State := W (fun b => b.put .PX_LINK_STATE 0 6)
/-- A state of a witness. -/
def st158 : State := W (fun b => R [(.PX_LINK_STATE, 3)] ((M .run b).onPx 0 (fun x => { x with present := true })))
/-- A state of a witness. -/
def st159 : State := W (fun b => b.onPx 0 (fun x => { x with pmeStatus := true }))
/-- A state of a witness. -/
def st160 : State := W (fun b => b.onPx 0 (fun x => { x with out := [⟨3, .gone, 50, 0⟩] }))
/-- A state of a witness. -/
def st161 : State :=
  W (fun b => { b.onPx 0 (fun x => { x with out := [⟨3, .gone, 50, 0⟩] }) with sys := { b.sys with devTime := 900000 } })
/-- A state of a witness. -/
def st162 : State := W (fun b => b.onPx 0 (fun x => { x with quarantine := [(3, 0), (4, 9)], discard := [3] }))
/-- A state of a witness. -/
def st163 : State :=
  W (fun b => let b := (M .run { b with sys := { b.sys with devTime := 5000 } }).onPx 0 (fun x => { x with present := true }); let b := { b with boot := { b.boot with enginesUp := true, phy := true } }; R [(.NV_CTL_AMS, 0), (.PX_LINK_STATE, 3), (.PX_BME_BME, 1), (.NV_CTL_RDY, 1)] (b.onNv 0 (fun c => { c with sqs := [{ qid := 1, cq := 1, size := 8, prio := 1, cmb := false, tail := 3, head := 1, waiting := [(5, 2)], fetched := [], tokens := 9000000, tokenAt := 0, throttled := false, readFails := 1, failN := 2, failAt := 0 }], cqs := [⟨1, 8, 2, true, [], 0, 0, 0⟩] })))
/-- A state of a witness. -/
def st164 : State :=
  W (fun b => let b := (M .run b).onPx 0 (fun x => { x with present := true }); let b := { b with boot := { b.boot with enginesUp := true, phy := true } }; R [(.PX_LINK_STATE, 3), (.PX_BME_BME, 1), (.NV_CTL_RDY, 1)] (b.onNv 0 (fun c => { c with sqs := [{ qid := 1, cq := 1, size := 8, prio := 1, cmb := false, tail := 3, head := 1, waiting := [(5, 2)], fetched := [], tokens := 9000000, tokenAt := 0, throttled := false, readFails := 0, failN := 0, failAt := 0 }], cqs := [⟨1, 8, 2, true, [], 0, 0, 0⟩] })))
/-- A state of a witness. -/
def st165 : State :=
  W (fun b => let b := (M .run b).onPx 0 (fun x => { x with present := true }); let b := { b with boot := { b.boot with enginesUp := true, phy := true } }; R [(.PX_LINK_STATE, 3), (.PX_BME_BME, 1), (.NV_CTL_RDY, 1)] (b.onNv 0 (fun c => { c with sqs := [], cqs := [⟨1, 8, 2, true, [⟨1, 5, .success, 0, 0⟩, ⟨1, 5, .success, 0, 0⟩], 1, 3, 2⟩] })))
/-- A state of a witness. -/
def st166 : State :=
  W (fun b => let b := (M .run b).onPx 0 (fun x => { x with present := true, config := [(0x57, 0x80000000)] }); let b := { b with boot := { b.boot with enginesUp := true, phy := true } }; b)
/-- A state of a witness. -/
def st167 : State := W (fun b => b.onPx 0 (fun x => { x with ats := [⟨3, true, true⟩, ⟨9, true, true⟩], out := [⟨3, .gone, 50, 0⟩] }))
/-- A state of a witness. -/
def st168 : State := W (fun b => b.onPx 0 (fun x => { x with invalidations := [[4], []] }))
/-- A state of a witness. -/
def st169 : State := W (fun b => b.onPx 0 (fun x => { x with unlockAt := some 0 }))
/-- A state of a witness. -/
def st170 : State := W (fun b => R [(.MEM_L2_CMB, 8)] (b.onPx 0 (fun x => { x with present := true })))
/-- A state of a witness. -/
def st171 : State :=
  W (fun b => let b := (M .run b).onNv 0 (fun c => { c with sqs := [{ qid := 0, cq := 0, size := 8, prio := 0, cmb := false, tail := 3, head := 1, waiting := [(5, 2)], fetched := [7], tokens := 9000000, tokenAt := 0, throttled := false, readFails := 0, failN := 0, failAt := 0 }, { qid := 1, cq := 1, size := 8, prio := 0, cmb := false, tail := 3, head := 1, waiting := [(5, 2)], fetched := [7], tokens := 9000000, tokenAt := 0, throttled := false, readFails := 0, failN := 0, failAt := 0 }], cqs := [⟨0, 8, 0, true, [], 0, 0, 0⟩, ⟨1, 8, 2, true, [], 0, 0, 0⟩], granted := some (4, 4) }); let b := R [(.NV_CTL_RDY, 1)] b; b)
/-- A state of a witness. -/
def st172 : State :=
  W (fun b => let b := (M .run b).onNv 0 (fun c => { c with sqs := [{ qid := 0, cq := 0, size := 8, prio := 0, cmb := false, tail := 3, head := 1, waiting := [(5, 2)], fetched := [7], tokens := 9000000, tokenAt := 0, throttled := false, readFails := 0, failN := 0, failAt := 0 }, { qid := 1, cq := 1, size := 8, prio := 0, cmb := false, tail := 3, head := 1, waiting := [(5, 2)], fetched := [7], tokens := 9000000, tokenAt := 0, throttled := false, readFails := 0, failN := 0, failAt := 0 }], cqs := [⟨0, 8, 0, true, [], 0, 0, 0⟩, ⟨1, 8, 2, true, [], 0, 0, 0⟩, ⟨2, 8, 2, true, [], 0, 0, 0⟩], granted := some (4, 4) }); let b := R [(.NV_CTL_RDY, 1)] b; b)
/-- A state of a witness. -/
def st173 : State :=
  W (fun b => let b := (M .run b).onNv 0 (fun c => { c with sqs := [{ qid := 0, cq := 0, size := 8, prio := 0, cmb := false, tail := 3, head := 1, waiting := [(5, 2)], fetched := [7], tokens := 9000000, tokenAt := 0, throttled := false, readFails := 0, failN := 0, failAt := 0 }, { qid := 1, cq := 1, size := 8, prio := 0, cmb := false, tail := 3, head := 1, waiting := [(5, 2)], fetched := [7], tokens := 9000000, tokenAt := 0, throttled := false, readFails := 0, failN := 0, failAt := 0 }], cqs := [⟨0, 8, 0, true, [], 0, 0, 0⟩, ⟨1, 8, 2, true, [], 0, 0, 0⟩], granted := some (4, 4) }); let b := R [(.NV_CTL_RDY, 1)] b; b.onNvm (fun n => { n with cmds := [⟨0, 1, 5, 0, .read, 1, 0, 8, [], none, false, [], false, .waiting, none, 0, .success, 0, 0⟩] }))
/-- A state of a witness. -/
def st174 : State :=
  W (fun b => let b := (M .run b).onNv 0 (fun c => { c with sqs := [{ qid := 0, cq := 0, size := 8, prio := 0, cmb := false, tail := 3, head := 1, waiting := [(5, 2)], fetched := [7], tokens := 9000000, tokenAt := 0, throttled := false, readFails := 0, failN := 0, failAt := 0 }, { qid := 1, cq := 1, size := 8, prio := 0, cmb := false, tail := 3, head := 1, waiting := [(5, 2)], fetched := [7], tokens := 9000000, tokenAt := 0, throttled := false, readFails := 0, failN := 0, failAt := 0 }], cqs := [⟨0, 8, 0, true, [], 0, 0, 0⟩, ⟨1, 8, 2, true, [], 0, 0, 0⟩], granted := some (4, 4), aers := [1, 2, 3, 4, 5, 6, 7] }); let b := R [(.NV_CTL_RDY, 1)] b; b)
/-- A state of a witness. -/
def st175 : State :=
  W (fun b => let b := (M .run b).onNv 0 (fun c => { c with sqs := [{ qid := 0, cq := 0, size := 8, prio := 0, cmb := false, tail := 3, head := 1, waiting := [(5, 2)], fetched := [7], tokens := 9000000, tokenAt := 0, throttled := false, readFails := 0, failN := 0, failAt := 0 }, { qid := 1, cq := 1, size := 8, prio := 0, cmb := false, tail := 3, head := 1, waiting := [(5, 2)], fetched := [7], tokens := 9000000, tokenAt := 0, throttled := false, readFails := 0, failN := 0, failAt := 0 }], cqs := [⟨0, 8, 0, true, [], 0, 0, 0⟩, ⟨1, 8, 2, true, [], 0, 0, 0⟩], granted := some (4, 4), aers := [1, 2, 3, 4, 5, 6, 7, 8] }); let b := R [(.NV_CTL_RDY, 1)] b; b)
/-- A state of a witness. -/
def st176 : State :=
  W (fun b => let b := (M .run b).onNv 0 (fun c => { c with sqs := [{ qid := 0, cq := 0, size := 8, prio := 0, cmb := false, tail := 3, head := 1, waiting := [(5, 2)], fetched := [7], tokens := 9000000, tokenAt := 0, throttled := false, readFails := 0, failN := 0, failAt := 0 }, { qid := 1, cq := 1, size := 8, prio := 0, cmb := false, tail := 3, head := 1, waiting := [(5, 2)], fetched := [7], tokens := 9000000, tokenAt := 0, throttled := false, readFails := 0, failN := 0, failAt := 0 }], cqs := [⟨0, 8, 0, true, [], 0, 0, 0⟩, ⟨1, 8, 2, true, [], 0, 0, 0⟩], granted := some (4, 4) }); let b := R [(.NV_CTL_RDY, 1)] b; running b)
/-- A state of a witness. -/
def st177 : State :=
  W (fun b => let b := (M .run b).onNv 0 (fun c => { c with sqs := [{ qid := 0, cq := 0, size := 8, prio := 0, cmb := false, tail := 3, head := 1, waiting := [(5, 2)], fetched := [7], tokens := 9000000, tokenAt := 0, throttled := false, readFails := 0, failN := 0, failAt := 0 }, { qid := 1, cq := 1, size := 8, prio := 0, cmb := false, tail := 3, head := 1, waiting := [(5, 2)], fetched := [7], tokens := 9000000, tokenAt := 0, throttled := false, readFails := 0, failN := 0, failAt := 0 }], cqs := [⟨0, 8, 0, true, [], 0, 0, 0⟩, ⟨1, 8, 2, true, [], 0, 0, 0⟩], granted := none }); let b := R [(.NV_CTL_RDY, 1)] b; b)
/-- A state of a witness. -/
def st178 : State :=
  W (fun b => let b := (M .run b).onNv 0 (fun c => { c with sqs := [{ qid := 0, cq := 0, size := 8, prio := 0, cmb := false, tail := 3, head := 1, waiting := [(5, 2)], fetched := [7], tokens := 9000000, tokenAt := 0, throttled := false, readFails := 0, failN := 0, failAt := 0 }, { qid := 1, cq := 1, size := 8, prio := 0, cmb := false, tail := 3, head := 1, waiting := [(5, 2)], fetched := [7], tokens := 9000000, tokenAt := 0, throttled := false, readFails := 0, failN := 0, failAt := 0 }], cqs := [⟨0, 8, 0, true, [], 0, 0, 0⟩, ⟨1, 8, 2, true, [], 0, 0, 0⟩], granted := some (4, 4) }); let b := R [(.NV_CTL_RDY, 1)] b; let b := b.onXl (fun x => { x with namespaces := [⟨1, false, 0, 1000000, false, 0, true, 1, 0, [], none, 0, false⟩] }); b)
/-- A state of a witness. -/
def st179 : State :=
  W (fun b => let b := (M .run b).onNv 0 (fun c => { c with sqs := [{ qid := 0, cq := 0, size := 8, prio := 0, cmb := false, tail := 3, head := 1, waiting := [(5, 2)], fetched := [7], tokens := 9000000, tokenAt := 0, throttled := false, readFails := 0, failN := 0, failAt := 0 }, { qid := 1, cq := 1, size := 8, prio := 0, cmb := false, tail := 3, head := 1, waiting := [(5, 2)], fetched := [7], tokens := 9000000, tokenAt := 0, throttled := false, readFails := 0, failN := 0, failAt := 0 }], cqs := [⟨0, 8, 0, true, [], 0, 0, 0⟩, ⟨1, 8, 2, true, [], 0, 0, 0⟩], granted := some (4, 4) }); let b := R [(.NV_CTL_RDY, 1)] b; let b := b.onXl (fun x => { x with namespaces := [⟨1, false, 0, 1000000, false, 0, true, 0, 0, [], none, 0, false⟩] }); b)
/-- A state of a witness. -/
def st180 : State :=
  W (fun b => let b := (M .run b).onNv 0 (fun c => { c with sqs := [{ qid := 0, cq := 0, size := 8, prio := 0, cmb := false, tail := 3, head := 1, waiting := [(5, 2)], fetched := [7], tokens := 9000000, tokenAt := 0, throttled := false, readFails := 0, failN := 0, failAt := 0 }, { qid := 1, cq := 1, size := 8, prio := 0, cmb := false, tail := 3, head := 1, waiting := [(5, 2)], fetched := [7], tokens := 9000000, tokenAt := 0, throttled := false, readFails := 0, failN := 0, failAt := 0 }], cqs := [⟨0, 8, 0, true, [], 0, 0, 0⟩, ⟨1, 8, 2, true, [], 0, 0, 0⟩], granted := some (4, 4) }); let b := R [(.NV_CTL_RDY, 1)] b; { b with fcs := { b.fcs with staged := ⟨some ⟨1, 0, 0, 1, [], 4096, 0, 0⟩, some smallImage⟩, stagedNext := 8192 } })
/-- A state of a witness. -/
def st181 : State :=
  W (fun b => let b := (M .run b).onNv 0 (fun c => { c with sqs := [{ qid := 0, cq := 0, size := 8, prio := 0, cmb := false, tail := 3, head := 1, waiting := [(5, 2)], fetched := [7], tokens := 9000000, tokenAt := 0, throttled := false, readFails := 0, failN := 0, failAt := 0 }, { qid := 1, cq := 1, size := 8, prio := 0, cmb := false, tail := 3, head := 1, waiting := [(5, 2)], fetched := [7], tokens := 9000000, tokenAt := 0, throttled := false, readFails := 0, failN := 0, failAt := 0 }], cqs := [⟨0, 8, 0, true, [], 0, 0, 0⟩, ⟨1, 8, 2, true, [], 0, 0, 0⟩], granted := some (4, 4) }); let b := R [(.NV_CTL_RDY, 1)] b; { b with fcs := { b.fcs with banks := vupd b.fcs.banks 1 (fun (k : FcsBank) => { k with desc := .intact, seq := some 4, revoke := 255, fw := some ⟨1, 0, 0, 1, [], 4096, 0, 0⟩, img := some smallImage }) } })
/-- A state of a witness. -/
def st182 : State := W (fun b => let b := running b; { b with fcs := { b.fcs with activation := some ⟨1, 0, 1, 0, some (0, 0, 9)⟩ } })
/-- A state of a witness. -/
def st183 : State := W (fun b => let b := running b; { b with fcs := { b.fcs with activation := some ⟨4, 0, 1, 0, some (0, 0, 9)⟩ } })
/-- A state of a witness. -/
def st184 : State := W (fun b => let b := running b; { b with fcs := { b.fcs with activation := some ⟨3, 0, 1, 0, some (0, 0, 9)⟩ } })
/-- A state of a witness. -/
def st185 : State :=
  W (fun b => let b := (M .run b).onNv 0 (fun c => { c with sqs := [{ qid := 0, cq := 0, size := 8, prio := 0, cmb := false, tail := 3, head := 1, waiting := [(5, 2)], fetched := [7], tokens := 9000000, tokenAt := 0, throttled := false, readFails := 0, failN := 0, failAt := 0 }, { qid := 1, cq := 1, size := 8, prio := 0, cmb := false, tail := 3, head := 1, waiting := [(5, 2)], fetched := [7], tokens := 9000000, tokenAt := 0, throttled := false, readFails := 0, failN := 0, failAt := 0 }], cqs := [⟨0, 8, 0, true, [], 0, 0, 0⟩, ⟨1, 8, 2, true, [], 0, 0, 0⟩], granted := some (4, 4) }); let b := R [(.NV_CTL_RDY, 1)] b; let b := running b; b.onXl (fun x => { x with namespaces := [⟨1, false, 0, 1000000, false, 0, true, 1, 0, [], none, 0, false⟩] }))
/-- A state of a witness. -/
def st186 : State :=
  W (fun b => let b := (M .run b).onNv 0 (fun c => { c with sqs := [{ qid := 0, cq := 0, size := 8, prio := 0, cmb := false, tail := 3, head := 1, waiting := [(5, 2)], fetched := [7], tokens := 9000000, tokenAt := 0, throttled := false, readFails := 0, failN := 0, failAt := 0 }, { qid := 1, cq := 1, size := 8, prio := 0, cmb := false, tail := 3, head := 1, waiting := [(5, 2)], fetched := [7], tokens := 9000000, tokenAt := 0, throttled := false, readFails := 0, failN := 0, failAt := 0 }], cqs := [⟨0, 8, 0, true, [], 0, 0, 0⟩, ⟨1, 8, 2, true, [], 0, 0, 0⟩], granted := some (4, 4) }); let b := R [(.NV_CTL_RDY, 1)] b; let b := running b; b.onNvm (fun n => { n with jobs := [⟨0, 1, 1, 4, 0, 0, 0, 0, 0, [0, 0, 0], 0, 0, 0, false⟩] }))
/-- A state of a witness. -/
def st187 : State :=
  W (fun b => let b := (M .run b).onNv 0 (fun c => { c with sqs := [{ qid := 0, cq := 0, size := 8, prio := 0, cmb := false, tail := 3, head := 1, waiting := [(5, 2)], fetched := [7], tokens := 9000000, tokenAt := 0, throttled := false, readFails := 0, failN := 0, failAt := 0 }, { qid := 1, cq := 1, size := 8, prio := 0, cmb := false, tail := 3, head := 1, waiting := [(5, 2)], fetched := [7], tokens := 9000000, tokenAt := 0, throttled := false, readFails := 0, failN := 0, failAt := 0 }], cqs := [⟨0, 8, 0, true, [], 0, 0, 0⟩, ⟨1, 8, 2, true, [], 0, 0, 0⟩], granted := some (4, 4) }); let b := R [(.NV_CTL_RDY, 1)] b; let b := running b; b.onNvm (fun n => { n with jobs := [⟨0, 1, 1, 2, 0, 0, 0, 0, 0, [0, 0, 0], 0, 0, 0, false⟩] }))
/-- A state of a witness. -/
def st188 : State :=
  W (fun b => let b := (M .run b).onNv 0 (fun c => { c with sqs := [{ qid := 0, cq := 0, size := 8, prio := 0, cmb := false, tail := 3, head := 1, waiting := [(5, 2)], fetched := [7], tokens := 9000000, tokenAt := 0, throttled := false, readFails := 0, failN := 0, failAt := 0 }, { qid := 1, cq := 1, size := 8, prio := 0, cmb := false, tail := 3, head := 1, waiting := [(5, 2)], fetched := [7], tokens := 9000000, tokenAt := 0, throttled := false, readFails := 0, failN := 0, failAt := 0 }], cqs := [⟨0, 8, 0, true, [], 0, 0, 0⟩, ⟨1, 8, 2, true, [], 0, 0, 0⟩], granted := some (4, 4) }); let b := R [(.NV_CTL_RDY, 1)] b; let b := running b; b.onNvm (fun n => { n with jobs := [⟨0, 1, 1, 1, 0, 0, 0, 0, 0, [0, 0, 0], 0, 0, 0, false⟩] }))
/-- A state of a witness. -/
def st189 : State :=
  W (fun b => (running b).onNvm (fun n => { n with jobs := [⟨0, 1, 1, 1, 0, 0, 0, 0, 0, [0, 0, 0], 0, 0, 0, false⟩] }))
/-- A state of a witness. -/
def st190 : State :=
  W (fun b => (running b).onNvm (fun n => { n with jobs := [⟨0, 1, 4, 1, 0, 0, 0, 0, 0, [1, 0, 0], 0, 0, 0, false⟩] }))
/-- A state of a witness. -/
def st191 : State :=
  W (fun b => (running b).onNvm (fun n => { n with jobs := [⟨0, 1, 3, 3, 0, 0, 0, 0, 0, [0, 0, 0], 0, 0, 0, false⟩] }))
/-- A state of a witness. -/
def st192 : State :=
  W (fun b => (running b).onNvm (fun n => { n with jobs := [⟨0, 1, 1, 2, 0, 0, 0, 0, 0, [0, 0, 0], 0, 0, 0, false⟩] }))
/-- A state of a witness. -/
def st193 : State :=
  W (fun b => (running b).onNvm (fun n => { n with jobs := [⟨0, 1, 3, 2, 0, 0, 0, 0, 0, [0, 0, 0], 0, 0, 0, false⟩] }))
/-- A state of a witness. -/
def st194 : State := W (fun b => R [(.SYS_CALCTL_BUSY, 1)] b)
/-- A state of a witness. -/
def st195 : State :=
  W (fun b => let b := (M .run b).onNv 0 (fun c => { c with sqs := [{ qid := 0, cq := 0, size := 8, prio := 0, cmb := false, tail := 3, head := 1, waiting := [(5, 2)], fetched := [7], tokens := 9000000, tokenAt := 0, throttled := false, readFails := 0, failN := 0, failAt := 0 }, { qid := 1, cq := 1, size := 8, prio := 0, cmb := false, tail := 3, head := 1, waiting := [(5, 2)], fetched := [7], tokens := 9000000, tokenAt := 0, throttled := false, readFails := 0, failN := 0, failAt := 0 }], cqs := [⟨0, 8, 0, true, [], 0, 0, 0⟩, ⟨1, 8, 2, true, [], 0, 0, 0⟩], granted := some (4, 4) }); let b := R [(.NV_CTL_RDY, 1)] b; let b := running b; enterMode b .idle 0)
/-- A state of a witness. -/
def st196 : State :=
  W (fun b => let b := (M .run b).onNv 0 (fun c => { c with sqs := [{ qid := 0, cq := 0, size := 8, prio := 0, cmb := false, tail := 3, head := 1, waiting := [(5, 2)], fetched := [7], tokens := 9000000, tokenAt := 0, throttled := false, readFails := 0, failN := 0, failAt := 0 }, { qid := 1, cq := 1, size := 8, prio := 0, cmb := false, tail := 3, head := 1, waiting := [(5, 2)], fetched := [7], tokens := 9000000, tokenAt := 0, throttled := false, readFails := 0, failN := 0, failAt := 0 }], cqs := [⟨0, 8, 0, true, [], 0, 0, 0⟩, ⟨1, 8, 2, true, [], 0, 0, 0⟩], granted := some (4, 4) }); let b := R [(.NV_CTL_RDY, 1)] b; let b := running b; b.onXl (fun x => { x with namespaces := [⟨1, false, 0, 1000000, false, 0, true, 1, 0, [], none, 0, false⟩], pool := [0, 1] }))
/-- A state of a witness. -/
def st197 : State :=
  W (fun b => let b := (M .run b).onNv 0 (fun c => { c with sqs := [{ qid := 0, cq := 0, size := 8, prio := 0, cmb := false, tail := 3, head := 1, waiting := [(5, 2)], fetched := [7], tokens := 9000000, tokenAt := 0, throttled := false, readFails := 0, failN := 0, failAt := 0 }, { qid := 1, cq := 1, size := 8, prio := 0, cmb := false, tail := 3, head := 1, waiting := [(5, 2)], fetched := [7], tokens := 9000000, tokenAt := 0, throttled := false, readFails := 0, failN := 0, failAt := 0 }], cqs := [⟨0, 8, 0, true, [], 0, 0, 0⟩, ⟨1, 8, 2, true, [], 0, 0, 0⟩], granted := some (4, 4) }); let b := R [(.NV_CTL_RDY, 1)] b; let b := (running b).onNvm (fun n => { n with cmds := [⟨0, 1, 3, 0, .zone 2, 1, 0, 1, [], none, false, [], false, .waiting, none, 0, .success, 0, 0⟩] }); b.onXl (fun x => { x with namespaces := [⟨1, true, 0, 2 * zoneSize, false, 0, true, 1, 0, [], none, 0, false⟩], pool := [0, 1], zones := [⟨1, 0, ⟨0, none, [0, 6, 12, 18], 1, 500, 0, 0, 0, []⟩, .empty, 0, 1000, false⟩] }))
/-- A state of a witness. -/
def st198 : State :=
  W (fun b => let b := (M .run b).onNv 0 (fun c => { c with sqs := [{ qid := 0, cq := 0, size := 8, prio := 0, cmb := false, tail := 3, head := 1, waiting := [(5, 2)], fetched := [7], tokens := 9000000, tokenAt := 0, throttled := false, readFails := 0, failN := 0, failAt := 0 }, { qid := 1, cq := 1, size := 8, prio := 0, cmb := false, tail := 3, head := 1, waiting := [(5, 2)], fetched := [7], tokens := 9000000, tokenAt := 0, throttled := false, readFails := 0, failN := 0, failAt := 0 }], cqs := [⟨0, 8, 0, true, [], 0, 0, 0⟩, ⟨1, 8, 2, true, [], 0, 0, 0⟩], granted := some (4, 4) }); let b := R [(.NV_CTL_RDY, 1)] b; let b := running b; b.onXl (fun x => { x with namespaces := [⟨1, true, 0, 2 * zoneSize, false, 0, true, 1, 0, [], none, 0, false⟩], pool := [0, 1], zones := [⟨1, 0, ⟨0, none, [0, 6, 12, 18], 1, 500, 0, 0, 0, []⟩, .empty, 0, 1000, false⟩] }))
/-- A state of a witness. -/
def st199 : State :=
  W (fun b => (running b).onNvm (fun n => { n with cmds := [⟨0, 1, 9, 7, .fence, 1, 0, 0, [], none, false, [], false, .waiting, none, 0, .success, 0, 3⟩] }))
/-- A state of a witness. -/
def st200 : State :=
  W (fun b => (running b).onNvm (fun n => { n with cmds := [⟨0, 1, 5, 0, .read, 1, 0, 8, [], none, false, [], false, .waiting, none, 0, .success, 0, 0⟩, ⟨0, 1, 9, 7, .fence, 1, 0, 0, [], none, false, [], false, .waiting, none, 0, .success, 0, 3⟩] }))
/-- A state of a witness. -/
def st201 : State :=
  W (fun b => let b := R [(.THM_STAGE_STAGE, 1)] (running b); { b with thm := { b.thm with belowSince := #v[none, some 0, none, none, none] }, sys := { b.sys with devTime := 5000000 } })
/-- A state of a witness. -/
def st202 : State :=
  W (fun b => let b := running b; { b with thm := { b.thm with stopAt := some 0 }, sys := { b.sys with devTime := 2000000 } })
/-- A state of a witness. -/
def st203 : State :=
  W (fun b => let b := running b; { b with thm := { b.thm with limitBelow := [(19, 1)], dramHot := 2 }, sys := { b.sys with devTime := 1000000 } })
/-- A state of a witness. -/
def st204 : State := W (fun b => R [(.THM_SENS_n_NOW, 300)] { b with fcs := { b.fcs with cal := some ⟨0, 1, 0, [(4, 0)], []⟩ } })
/-- A state of a witness. -/
def st205 : State := W (fun b => { b with fcs := { b.fcs with cal := some ⟨0, 1, 0, [(1, 0)], []⟩ } })
/-- A state of a witness. -/
def st206 : State := W (fun b => let b := running b; { b with och := { b.och with dramLast := 5, sramLast := 6 } })
/-- A state of a witness. -/
def st207 : State := W (fun b => let b := running b; { b with och := { b.och with hours := 25 } })
/-- A state of a witness. -/
def st208 : State :=
  W (fun b => let b := applyImage b ⟨[], nset 0 [] (settingKey .HST_WAKE_EN 0 0) 1⟩; let b := b.onPx 0 (fun x => { x with present := true, pmeEn := true }); { b with pwr := { b.pwr with aux := true, powered := false, v12 := false } })
/-- A state of a witness. -/
def st209 : State := W (fun b => { b with pwr := { b.pwr with aux := true, powered := false, v12 := false } })
/-- A state of a witness. -/
def st210 : State :=
  W (fun b => let b := running b; { b with sep := { b.sep with buckets := [⟨0x0D01, 0, 0, 4, 0⟩] }, sys := { b.sys with devTime := 60000000 } })
/-- A state of a witness. -/
def st211 : State :=
  W (fun b => let b := running b; { b with sep := { b.sep with flushDue := true, halfA := [⟨7, 0, false, false, false, 1, 0x0101, 0, 0, 0, 0, 0, 0, [], []⟩] } })
/-- A state of a witness. -/
def st212 : State :=
  W (fun b => let b := running b; { b with sep := { b.sep with halfA := List.replicate 256 ⟨7, 0, false, false, false, 1, 0x0101, 0, 0, 0, 0, 0, 0, [], []⟩ } })
/-- A state of a witness. -/
def st213 : State :=
  W (fun b => let b := running b; { b with sep := { b.sep with halfA := [⟨7, 0, false, false, false, 1, 0x0101, 0, 0, 0, 0, 0, 0, [], []⟩], flushA := true } })
/-- A state of a witness. -/
def st214 : State := W (fun b => let b := running b; { b with nim := { b.nim with run := some ⟨4, 7, false⟩ } })
/-- A state of a witness. -/
def st215 : State :=
  W (fun b => let b := R [(.DX_SRC_LO_ADDR, 64), (.DX_SRC_HI_ADDR, 4), (.DX_DST_LO_ADDR, 66), (.DX_DST_HI_ADDR, 4), (.DX_COUNT_COUNT, 8)] b; b)
/-- A state of a witness. -/
def st216 : State :=
  W (fun b => let b := R [(.DX_SRC_LO_ADDR, 64), (.DX_SRC_HI_ADDR, 4), (.DX_DST_LO_ADDR, 66), (.DX_DST_HI_ADDR, 4), (.DX_COUNT_COUNT, 8), (.DX_STAT_n_BUSY, 1), (.DX_CTL_n_GO, 1)] b; b)
/-- A state of a witness. -/
def st217 : State :=
  { (W (fun b => let b := R [(.DX_SRC_LO_ADDR, 64), (.DX_SRC_HI_ADDR, 4), (.DX_DST_LO_ADDR, 66), (.DX_DST_HI_ADDR, 4), (.DX_COUNT_COUNT, 8), (.DX_STAT_n_BUSY, 1), (.DX_CTL_n_GO, 1)] b; b)) with mem := [(0x400000040, 1), (0x400000041, 2), (0x400000042, 3), (0x400000044, 5)] }
/-- A state of a witness. -/
def st218 : State :=
  W (fun b => let b := R [(.DX_SRC_LO_ADDR, 64), (.DX_SRC_HI_ADDR, 4), (.DX_DST_LO_ADDR, 66), (.DX_DST_HI_ADDR, 4), (.DX_COUNT_COUNT, 8), (.DX_STAT_n_BUSY, 1), (.DX_CTL_n_GO, 1)] b; { b with mm := { b.mm with draining := 1 } })
/-- A state of a witness. -/
def st219 : State :=
  W (fun b => let b := R [(.DX_SRC_LO_ADDR, 64), (.DX_SRC_HI_ADDR, 4), (.DX_DST_LO_ADDR, 66), (.DX_DST_HI_ADDR, 4), (.DX_COUNT_COUNT, 8), (.DX_STAT_n_BUSY, 1), (.DX_CTL_n_GO, 1), (.DX_CTL_n_STOP, 1)] b; { b with mm := { b.mm with draining := 1 } })
/-- A state of a witness. -/
def st220 : State := W (fun b => let b := running b; { b with mm := { b.mm with scrubLine := 2 ^ 28 - 1 } })
/-- A state of a witness. -/
def st221 : State := W (fun b => R [(.SYS_CALCTL_ITEMS, 3)] (b.onPx 1 (fun x => { x with unlockAt := some 0 })))
/-- A state of a witness. -/
def st222 : State := W (fun b => { b.onHea (fun h => { h with actLow := some 0 }) with sys := { b.sys with devTime := 50000 } })

theorem le_foldl_max (x : Nat) : ∀ (l : List Nat) (a : Nat), x ≤ a ∨ x ∈ l → x ≤ l.foldl max a
  | [], a, h => by simpa using h
  | y :: l, a, h => le_foldl_max x l (max a y) (by
      rcases h with h | h
      · exact Or.inl (by omega)
      · rcases List.mem_cons.1 h with h | h
        · exact Or.inl (by omega)
        · exact Or.inr h)

theorem foldl_min_le (x : Nat) : ∀ (l : List Nat) (a : Nat), a ≤ x ∨ x ∈ l → l.foldl min a ≤ x
  | [], a, h => by simpa using h
  | y :: l, a, h => foldl_min_le x l (min a y) (by
      rcases h with h | h
      · exact Or.inl (by omega)
      · rcases List.mem_cons.1 h with h | h
        · exact Or.inl (by omega)
        · exact Or.inr h)

theorem le_most (p : Nat → Bool) (f : Nat → Nat) (k n : Nat) (h : n < k) (g : p n = true) :
    f n ≤ (((List.range k).filter p).map f).foldl max 0 :=
  le_foldl_max _ _ _ (Or.inr (List.mem_map.2 ⟨n, List.mem_filter.2 ⟨List.mem_range.2 h, g⟩, rfl⟩))

theorem least_le (p : Nat → Bool) (f : Nat → Nat) (k n : Nat) (h : n < k) (g : p n = true) (a : Nat) :
    (((List.range k).filter p).map f).foldl min a ≤ f n :=
  foldl_min_le _ _ _ (Or.inr (List.mem_map.2 ⟨n, List.mem_filter.2 ⟨List.mem_range.2 h, g⟩, rfl⟩))

theorem most_erased (b : Block) (n : Nat) (h : n < 2784) (g : blkGood b n = true) : (nandBlock b n).ec ≤ (ecRange b).1 := by
  simp only [ecRange]; exact le_most (blkGood b) (fun n => (nandBlock b n).ec) 2784 n h g

theorem least_erased (b : Block) (n : Nat) (h : n < 2784) (g : blkGood b n = true) : (ecRange b).2 ≤ (nandBlock b n).ec := by
  simp only [ecRange]; exact least_le (blkGood b) (fun n => (nandBlock b n).ec) 2784 n h g _

/-! ### What meets the hypotheses of each statement -/

/-- What meets the hypotheses of clauses 1, 2, 3, 4 of RegisterAccessCompletes. -/
theorem witness_RegisterAccessCompletes_1 :
  (∃ (s : State) (off hdr : Nat) (vals : List Word), windowShapeOk off (4 * vals.length) = true ∧ off + 4 * vals.length ≤ 0x100000) ∧
  (∃ (s : State) (off hdr : Nat) (vals : List Word), 0x100000 < off + 4 * vals.length) ∧
  (∃ (s : State) (off hdr : Nat) (vals : List Word), 0x100000 < off + 4 * vals.length) ∧
  (∃ (s : State) (p : Port) (off hdr : Nat) (vals : List Word), windowShapeOk off (4 * vals.length) = true ∧ s.blk.get
    .PX_LINK_DSTATE p.val ≠ 3 ∧ unlocked s.blk p = true ∧ dxFirmware off = false) ∧
  (∃ (s : State) (p : Port) (off hdr : Nat) (vals : List Word), windowShapeOk off (4 * vals.length) = true ∧ s.blk.get
    .PX_LINK_DSTATE p.val ≠ 3 ∧ (unlocked s.blk p = false ∨ dxFirmware off = true)) ∧
  (∃ (s : State) (p : Port) (off hdr : Nat) (vals : List Word), windowShapeOk off (4 * vals.length) = true ∧ s.blk.get
    .PX_LINK_DSTATE p.val ≠ 3 ∧ (unlocked s.blk p = false ∨ dxFirmware off = true)) := ⟨
  ⟨State.reset, 0x2008, 0, ([5, 7] : List Word), by decide +kernel⟩,
  ⟨State.reset, 0x100000, 0, ([5] : List Word), by decide +kernel⟩,
  ⟨State.reset, 0xFFFFD, 0, ([5] : List Word), by decide +kernel⟩,
  ⟨st1, 1, 0x2008, 9, ([5] : List Word), by decide +kernel⟩,
  ⟨State.reset, 0, 0x2008, 9, ([5] : List Word), by decide +kernel⟩,
  ⟨st1, 1, 0x98000, 9, ([5] : List Word), by decide +kernel⟩⟩

/-- What meets the hypotheses of clauses 5, 6, 7, 8, 9 of RegisterAccessCompletes. -/
theorem witness_RegisterAccessCompletes_2 :
  (∃ (s : State) (p : Port) (off hdr : Nat) (vals : List Word), (windowShapeOk off (4 * vals.length) = false ∨ s.blk.get
    .PX_LINK_DSTATE p.val = 3)) ∧
  (∃ (s : State) (p : Port) (off hdr : Nat) (vals : List Word), (windowShapeOk off (4 * vals.length) = false ∨ s.blk.get
    .PX_LINK_DSTATE p.val = 3)) ∧
  (∃ (s : State) (p : Port) (off size hdr : Nat), windowShapeOk off size = false) ∧
  (∃ (s : State) (p q : Port) (off : Nat) (b : Block), b = touchLink s.blk p ∧ s.blk.get .PX_LINK_DSTATE p.val ≠ 3 ∧ isWideLow off =
    true) ∧
  (∃ (s : State) (p q : Port) (off h : Nat) (b : Block), b = touchLink s.blk p ∧ s.blk.get .PX_LINK_DSTATE p.val ≠ 3 ∧ isWideLow off
    = true ∧ vget s.blk.sys.shadow p = some (off, h)) ∧
  (∃ (s : State) (p q : Port) (off : Nat) (b : Block), b = touchLink s.blk p ∧ s.blk.get .PX_LINK_DSTATE p.val ≠ 3 ∧ isWideLow off =
    true ∧ (∀ h, vget s.blk.sys.shadow p ≠ some (off, h))) := ⟨
  ⟨State.reset, 0, 0x2006, 9, ([5] : List Word), by decide +kernel⟩,
  ⟨st2, 0, 0x2008, 9, ([5] : List Word), by decide +kernel⟩,
  ⟨State.reset, 0, 6, 4, 77, by decide +kernel⟩,
  ⟨st3, 0, 1, 0x70, (touchLink (W (fun b => { b with sys := { b.sys with devTime := 0x123456789AB } })).blk 0 : Block), by decide +kernel⟩,
  ⟨st4, 0, 1, 0x70, 77, (touchLink (W (fun b => { b with sys := { b.sys with devTime := 0x123456789AB, shadow := vupd b.sys.shadow 0 (fun _ => some (0x70, 77)) } })).blk 0 : Block), by decide +kernel⟩,
  ⟨st4, 1, 0, 0x70, (touchLink (W (fun b => { b with sys := { b.sys with devTime := 0x123456789AB, shadow := vupd b.sys.shadow 0 (fun _ => some (0x70, 77)) } })).blk 1 : Block), ⟨rfl, by decide +kernel, by decide +kernel, fun h e => by cases (show (none : Option (Nat × Nat)) = some (112, h) from e)⟩⟩⟩

/-- What meets the hypotheses of clauses 10 of RegisterAccessCompletes. -/
theorem witness_RegisterAccessCompletes_3 :
  (∃ (s : State) (p : Port) (off : Nat), s.blk.get .PX_LINK_DSTATE p.val = 3 ∧ isWideLow off = true) := 
  ⟨st2, 0, 0x70, by decide +kernel⟩

/-- What meets the hypotheses of clauses 1, 2, 5, 8 of SystemEventsComplete. -/
theorem witness_SystemEventsComplete :
  (∃ (s : State), anyUnlocked s.blk = true) ∧
  (∃ (s : State) (p : Port), unlocked s.blk p = true) ∧
  (∃ (s : State) (o : Obligation) (k n : Nat), k = obligationKey o ∧ n = nget 0 s.blk.sys.missRuns k + 1) ∧
  (∃ (s : State), anyUnlocked s.blk = true) := ⟨
  ⟨st5, by decide +kernel⟩,
  ⟨st1, 1, by decide +kernel⟩,
  ⟨State.reset, .spindleStep, 24, 1, by decide +kernel⟩,
  ⟨st1, by decide +kernel⟩⟩

/-- What meets the hypotheses of clauses 1, 2, 3, 4, 6 of FcsCompletes. -/
theorem witness_FcsCompletes_1 :
  (∃ (s : State) (bank : Fin 2) (addr len dst : Nat), s.blk.fcs.op = none ∧ addr + len ≤ fcsBankBytes ∧ 1 ≤ len ∧ 0x400000000 ≤ dst
    ∧ dst + len ≤ 0x800000000) ∧
  (∃ (s : State) (bank : Fin 2) (addr len dst : Nat) (o : FcsOp), s.blk.fcs.op = some o ∧ o.bank = bank) ∧
  (∃ (s : State) (bank : Fin 2) (addr : Nat) (data : List Byte), s.blk.fcs.op = none ∧ bank ≠ s.blk.fcs.running ∧ 1 ≤ data.length ∧
    data.length ≤ 256 ∧ addr + data.length ≤ fcsBankBytes ∧ addr / 256 = (addr + data.length - 1) / 256 ∧ (∀ i, i < data.length →
    bankByte bank (vget s.blk.fcs.banks bank) (addr + i) = 0xFF)) ∧
  (∃ (s : State) (bank : Fin 2) (addr : Nat), s.blk.fcs.op = none ∧ bank ≠ s.blk.fcs.running ∧ addr < fcsBankBytes ∧ addr % 65536 = 0) ∧
  (∃ (s : State) (o : FcsOp) (sector : Nat), s.blk.fcs.op = some o ∧ o.job = none ∧ s.blk.fcs.jobs = []) ∧
  (∃ (s : State) (o : FcsOp) (sector : Nat), s.blk.fcs.op = some o ∧ o.job = none ∧ s.blk.fcs.jobs = []) := ⟨
  ⟨State.reset, 1, 5, 3, 0x400000010, by decide +kernel⟩,
  ⟨st6, 1, 5, 3, 0x400000010, (⟨1, false, 0x100, [1, 2], none⟩ : FcsOp), by decide +kernel⟩,
  ⟨State.reset, 1, 0x10000, ([1,2] : List Byte), by decide +kernel⟩,
  ⟨State.reset, 1, 0x10000, by decide +kernel⟩,
  ⟨st6, (⟨1, false, 0x100, [1, 2], none⟩ : FcsOp), 0, by decide +kernel⟩,
  ⟨st7, (⟨1, true, 0x10000, [], none⟩ : FcsOp), 0, by decide +kernel⟩⟩

/-- What meets the hypotheses of clauses 7, 8, 9, 10 of FcsCompletes. -/
theorem witness_FcsCompletes_2 :
  (∃ (s : State) (o : FcsOp) (sector : Nat), s.blk.fcs.op = some o ∧ o.job = none ∧ s.blk.fcs.jobs = [] ∧ 1 ≤ o.addr / 65536 ∧ (vget
    s.blk.fcs.banks o.bank).bad.length < 32) ∧
  (∃ (s : State) (bank : Fin 2) (addr : Nat) (data : List Byte), s.blk.fcs.op = none ∧ bank ≠ s.blk.fcs.running ∧ (data.length = 0 ∨
    256 < data.length ∨ fcsBankBytes < addr + data.length ∨ addr / 256 ≠ (addr + data.length - 1) / 256)) ∧
  (∃ (s : State) (bank : Fin 2) (addr : Nat) (data : List Byte), s.blk.fcs.op = none ∧ bank ≠ s.blk.fcs.running ∧ (data.length = 0 ∨
    256 < data.length ∨ fcsBankBytes < addr + data.length ∨ addr / 256 ≠ (addr + data.length - 1) / 256)) ∧
  (∃ (s : State) (bank : Fin 2) (addr : Nat) (data : List Byte), s.blk.fcs.op = none ∧ bank ≠ s.blk.fcs.running ∧ (data.length = 0 ∨
    256 < data.length ∨ fcsBankBytes < addr + data.length ∨ addr / 256 ≠ (addr + data.length - 1) / 256)) ∧
  (∃ (s : State) (addr : Nat) (data : List Byte), s.blk.fcs.op = none ∧ s.blk.boot.recovery = false ∧ 1 ≤ data.length ∧ data.length
    ≤ 256 ∧ addr + data.length ≤ fcsBankBytes ∧ addr / 256 = (addr + data.length - 1) / 256) ∧
  (∃ (s : State) (bank : Fin 2) (addr : Nat) (data : List Byte), s.blk.fcs.op.isSome = true ∧ bank ≠ s.blk.fcs.running ∧ 1 ≤
    data.length ∧ data.length ≤ 256 ∧ addr + data.length ≤ fcsBankBytes ∧ addr / 256 = (addr + data.length - 1) / 256) := ⟨
  ⟨st7, (⟨1, true, 0x10000, [], none⟩ : FcsOp), 0, by decide +kernel⟩,
  ⟨State.reset, 1, 0x1FF, ([1,2] : List Byte), by decide +kernel⟩,
  ⟨State.reset, 1, 0, ([] : List Byte), by decide +kernel⟩,
  ⟨State.reset, 1, fcsBankBytes, ([1] : List Byte), by decide +kernel⟩,
  ⟨State.reset, 0xFF, ([1] : List Byte), by decide +kernel⟩,
  ⟨st8, 1, (fcsBankBytes - 1 : Nat), ([1] : List Byte), by decide +kernel⟩⟩

/-- What meets the hypotheses of clauses 11 of FcsCompletes. -/
theorem witness_FcsCompletes_3 :
  (∃ (s : State) (bank : Fin 2) (addr i : Nat) (data : List Byte), s.blk.fcs.op = none ∧ bank ≠ s.blk.fcs.running ∧ 1 ≤ data.length
    ∧ data.length ≤ 256 ∧ addr + data.length ≤ fcsBankBytes ∧ addr / 256 = (addr + data.length - 1) / 256 ∧ i < data.length ∧
    bankByte bank (vget s.blk.fcs.banks bank) (addr + i) ≠ 0xFF) := 
  ⟨st9, 1, 0x10100, 1, ([1,2] : List Byte), by decide +kernel⟩

/-- What meets the hypotheses of clauses 1, 2, 3, 4, 5 of BootCompletes. -/
theorem witness_BootCompletes_1 :
  (∃ (s : State) (dual : Bool), bootEnabled s.blk = true) ∧
  (∃ (s : State) (fusesOk memOk dual : Bool), bootEnabled s.blk = true ∧ (fusesOk = false ∨ memOk = false)) ∧
  (∃ (s : State) (fusesOk memOk dual : Bool), bootEnabled s.blk = true ∧ (fusesOk = false ∨ memOk = false)) ∧
  (∃ (s : State), s.blk.boot.active = true ∧ s.blk.get .SYS_BOOT_STAGE 0 = 3) ∧
  (∃ (s : State) (c : Fin 2) (cs : List (Fin 2)), s.blk.boot.active = true ∧ s.blk.get .SYS_BOOT_STAGE 0 = 4 ∧ s.blk.boot.recovery =
    false ∧ bootOrder (vget s.blk.fcs.banks 0) (vget s.blk.fcs.banks 1) = c :: cs) ∧
  (∃ (s : State) (ok : Bool) (c d : Fin 2) (ds : List (Fin 2)), s.blk.boot.active = true ∧ s.blk.boot.recovery = false ∧
    s.blk.boot.verified = false ∧ 5 ≤ s.blk.get .SYS_BOOT_STAGE 0 ∧ s.blk.boot.current = some c ∧ s.blk.boot.candidates = d :: ds) := ⟨
  ⟨st10, true, by decide +kernel⟩,
  ⟨st10, true, false, true, by decide +kernel⟩,
  ⟨st10, false, true, true, by decide +kernel⟩,
  ⟨st11, by decide +kernel⟩,
  ⟨st12, 0, ([1] : List (Fin 2)), by decide +kernel⟩,
  ⟨st13, true, 0, 1, ([] : List (Fin 2)), by decide +kernel⟩⟩

/-- What meets the hypotheses of clauses 6, 7, 8, 9 of BootCompletes. -/
theorem witness_BootCompletes_2 :
  (∃ (s : State), s.blk.boot.active = true ∧ s.blk.boot.verified = true ∧ s.blk.get .SYS_BOOT_STAGE 0 = 8) ∧
  (∃ (s : State), s.blk.boot.active = true ∧ s.blk.boot.recovery = true) ∧
  (∃ (s : State), s.blk.boot.active = true ∧ s.blk.boot.recovery = false ∧ s.blk.get .SYS_BOOT_STAGE 0 = 9 ∧ s.blk.fcs.cal.isSome =
    true ∧ s.blk.pwr.pwdis = false ∧ s.blk.pwr.pwdisDown = false ∧ s.blk.get .THM_STAGE_STAGE 0 < 3) ∧
  (∃ (s : State) (ms : Nat), s.blk.boot.enginesUp = true ∧ s.blk.boot.recovery = false ∧ s.blk.boot.journalUp = false ∧
    s.blk.boot.active = false ∧ s.blk.mode ≠ .spinup) := ⟨
  ⟨st14, by decide +kernel⟩,
  ⟨st15, by decide +kernel⟩,
  ⟨st16, by decide +kernel⟩,
  ⟨st17, 70000, by decide +kernel⟩⟩

/-- What meets the hypotheses of clauses 1, 2, 3, 4, 6, 7 of SuppliesComplete. -/
theorem witness_SuppliesComplete :
  (∃ (s : State), (s.blk.pwr.afterHoldup = false ∨ s.blk.pwr.pwdis = true ∨ s.blk.pwr.powered = true)) ∧
  (∃ (s : State), s.blk.pwr.afterHoldup = true ∧ s.blk.pwr.pwdis = false ∧ s.blk.pwr.powered = false) ∧
  (∃ (s : State) (valid : Bool), (valid = true ∨ s.blk.pwr.v12 = true ∨ s.blk.pwr.powered = true)) ∧
  (∃ (s : State), s.blk.pwr.v12 = false ∧ s.blk.pwr.powered = false) ∧
  (∃ (s : State) (p : Port) (ps : Nat), apstTarget s.blk p = some ps) ∧
  (∃ (s : State) (o : RowOwner) (row : Nat) (lost : List Nat), s.blk.mode = .run ∧ s.blk.pwr.pending.any (fun r => r.owner = o ∧
    r.row = row) = true) := ⟨
  ⟨State.reset, by decide +kernel⟩,
  ⟨st18, by decide +kernel⟩,
  ⟨State.reset, true, by decide +kernel⟩,
  ⟨st19, by decide +kernel⟩,
  ⟨st20, 0, 3, by decide +kernel⟩,
  ⟨st21, (.mcache 1 : RowOwner), 4, ([] : List Nat), by decide +kernel⟩⟩

/-- What meets the hypotheses of clauses 1, 2 of HoldupCompletes. -/
theorem witness_HoldupCompletes_1 :
  (∃ (s : State), s.blk.pwr.powered = true ∧ s.blk.mode ≠ .holdup) ∧
  (∃ (s : State), s.blk.pwr.powered = true ∧ s.blk.mode ≠ .holdup) ∧
  (∃ (s : State), s.blk.pwr.powered = true ∧ s.blk.mode ≠ .holdup) ∧
  (∃ (s : State), s.blk.pwr.powered = true ∧ s.blk.mode ≠ .holdup) ∧
  (∃ (s : State), s.blk.pwr.powered = true ∧ s.blk.mode ≠ .holdup) ∧
  (∃ (s : State), s.blk.pwr.powered = false ∧ s.blk.pwr.aux = true) := ⟨
  ⟨st22, by decide +kernel⟩,
  ⟨st23, by decide +kernel⟩,
  ⟨st24, by decide +kernel⟩,
  ⟨st25, by decide +kernel⟩,
  ⟨st26, by decide +kernel⟩,
  ⟨st27, by decide +kernel⟩⟩

/-- What meets the hypotheses of clauses 3, 4, 5, 6, 7 of HoldupCompletes. -/
theorem witness_HoldupCompletes_2 :
  (∃ (s : State) (h : Holdup), s.blk.pwr.holdup = some h) ∧
  (∃ (s : State) (h : Holdup) (energy : Nat), s.blk.pwr.holdup = some h ∧ h.listed = true ∧ h.flushDone = false ∧ h.short = false) ∧
  (∃ (s : State) (h : Holdup) (energy : Nat), s.blk.pwr.holdup = some h ∧ h.listed = true ∧ h.flushDone = false ∧ h.short = false) ∧
  (∃ (s : State) (h : Holdup) (energy : Nat) (poisoned : List Nat), s.blk.pwr.holdup = some h ∧ h.listed = true ∧ h.flushDone =
    false ∧ h.short = false) ∧
  (∃ (s : State) (h : Holdup) (n energy : Nat), s.blk.pwr.holdup = some h ∧ h.flushDone = false ∧ h.short = false) ∧
  (∃ (s : State) (h : Holdup) (energy : Nat), s.blk.pwr.holdup = some h ∧ h.flushDone = true ∧ (s.blk.pwr.v12Held = false ∨
    s.blk.pwr.pwdis = true)) := ⟨
  ⟨st28, (⟨.run, 5, true, 7, 0, 0, false, false⟩ : Holdup), by decide +kernel⟩,
  ⟨st28, (⟨.run, 5, true, 7, 0, 0, false, false⟩ : Holdup), 4, by decide +kernel⟩,
  ⟨st29, (⟨.run, 5, true, 7, 0, 0, false, false⟩ : Holdup), 4, by decide +kernel⟩,
  ⟨st30, (⟨.run, 5, true, 7, 0, 0, false, false⟩ : Holdup), 4, ([1, 7] : List Nat), by decide +kernel⟩,
  ⟨st30, (⟨.run, 5, true, 7, 0, 0, false, false⟩ : Holdup), 1, 4, by decide +kernel⟩,
  ⟨st31, (⟨.run, 5, true, 7, 0, 0, true, false⟩ : Holdup), 4, by decide +kernel⟩⟩

/-- What meets the hypotheses of clauses 7, 8, 9, 10 of HoldupCompletes. -/
theorem witness_HoldupCompletes_3 :
  (∃ (s : State) (h : Holdup) (energy : Nat), s.blk.pwr.holdup = some h ∧ h.flushDone = true ∧ (s.blk.pwr.v12Held = false ∨
    s.blk.pwr.pwdis = true)) ∧
  (∃ (s : State) (h : Holdup) (energy : Nat), s.blk.pwr.holdup = some h ∧ h.flushDone = true ∧ s.blk.pwr.v12Held = true ∧
    s.blk.pwr.pwdis = false) ∧
  (∃ (s : State), s.blk.pwr.braking = true ∧ (s.blk.pwr.afterHoldup = false ∨ s.blk.pwr.v12Held = false ∨ s.blk.pwr.pwdis = true)) ∧
  (∃ (s : State), s.blk.pwr.braking = true ∧ (s.blk.pwr.afterHoldup = false ∨ s.blk.pwr.v12Held = false ∨ s.blk.pwr.pwdis = true)) ∧
  (∃ (s : State), s.blk.pwr.braking = true ∧ (s.blk.pwr.afterHoldup = false ∨ s.blk.pwr.v12Held = false ∨ s.blk.pwr.pwdis = true)) ∧
  (∃ (s : State), s.blk.pwr.braking = true ∧ s.blk.pwr.afterHoldup = true ∧ s.blk.pwr.v12Held = true ∧ s.blk.pwr.v12 = true ∧
    s.blk.pwr.pwdis = false) := ⟨
  ⟨st32, (⟨.run, 5, true, 7, 0, 0, true, false⟩ : Holdup), 4, by decide +kernel⟩,
  ⟨st33, (⟨.run, 5, true, 7, 0, 0, true, false⟩ : Holdup), 4, by decide +kernel⟩,
  ⟨st34, by decide +kernel⟩,
  ⟨st35, by decide +kernel⟩,
  ⟨st36, by decide +kernel⟩,
  ⟨st37, by decide +kernel⟩⟩

/-- What meets the hypotheses of clauses 1, 2, 3 of PowerDownCompletes. -/
theorem witness_PowerDownCompletes_1 :
  (∃ (s : State), s.blk.pwr.powered = true ∧ s.blk.mode = .park ∧ s.blk.pwr.pwdisDown = false) ∧
  (∃ (s : State), s.blk.pwr.powered = true ∧ s.blk.mode = .boot ∧ s.blk.boot.active = true ∧ s.blk.pwr.pwdisDown = false) ∧
  (∃ (s : State), s.blk.pwr.powered = true ∧ s.blk.mode ∈ [Mode.spinup, Mode.run, Mode.idle] ∧ s.blk.pwr.pwdisDown = false) ∧
  (∃ (s : State), s.blk.pwr.powered = true ∧ s.blk.mode ∈ [Mode.spinup, Mode.run, Mode.idle] ∧ s.blk.pwr.pwdisDown = false) ∧
  (∃ (s : State), s.blk.pwr.powered = true ∧ s.blk.mode ∈ [Mode.spinup, Mode.run, Mode.idle] ∧ s.blk.pwr.pwdisDown = false) ∧
  (∃ (s : State), s.blk.pwr.powered = true ∧ s.blk.mode ∈ [Mode.spinup, Mode.run, Mode.idle] ∧ s.blk.pwr.pwdisDown = false) := ⟨
  ⟨st25, by decide +kernel⟩,
  ⟨st38, by decide +kernel⟩,
  ⟨st22, by decide +kernel⟩,
  ⟨st26, by decide +kernel⟩,
  ⟨st24, by decide +kernel⟩,
  ⟨st39, by decide +kernel⟩⟩

/-- What meets the hypotheses of clauses 4, 5 of PowerDownCompletes. -/
theorem witness_PowerDownCompletes_2 :
  (∃ (s : State), (s.blk.pwr.powered = false ∨ s.blk.mode = .holdup ∨ s.blk.pwr.pwdisDown = true ∨ (s.blk.mode = .boot ∧
    s.blk.boot.active = false))) ∧
  (∃ (s : State), (s.blk.pwr.powered = false ∨ s.blk.mode = .holdup ∨ s.blk.pwr.pwdisDown = true ∨ (s.blk.mode = .boot ∧
    s.blk.boot.active = false))) ∧
  (∃ (s : State), (s.blk.pwr.powered = false ∨ s.blk.mode = .holdup ∨ s.blk.pwr.pwdisDown = true ∨ (s.blk.mode = .boot ∧
    s.blk.boot.active = false))) ∧
  (∃ (s : State), (s.blk.pwr.powered = false ∨ s.blk.mode = .holdup ∨ s.blk.pwr.pwdisDown = true ∨ (s.blk.mode = .boot ∧
    s.blk.boot.active = false))) ∧
  (∃ (s : State), (s.blk.pwr.powered = true ∨ s.blk.pwr.braking = true ∨ s.blk.pwr.v12 = false ∨ (s.blk.pwr.afterHoldup = true ∧
    s.blk.pwr.v12Held = false))) ∧
  (∃ (s : State), (s.blk.pwr.powered = true ∨ s.blk.pwr.braking = true ∨ s.blk.pwr.v12 = false ∨ (s.blk.pwr.afterHoldup = true ∧
    s.blk.pwr.v12Held = false))) := ⟨
  ⟨st40, by decide +kernel⟩,
  ⟨st41, by decide +kernel⟩,
  ⟨st23, by decide +kernel⟩,
  ⟨st42, by decide +kernel⟩,
  ⟨st43, by decide +kernel⟩,
  ⟨st44, by decide +kernel⟩⟩

/-- What meets the hypotheses of clauses 5, 6, 7, 8 of PowerDownCompletes. -/
theorem witness_PowerDownCompletes_3 :
  (∃ (s : State), (s.blk.pwr.powered = true ∨ s.blk.pwr.braking = true ∨ s.blk.pwr.v12 = false ∨ (s.blk.pwr.afterHoldup = true ∧
    s.blk.pwr.v12Held = false))) ∧
  (∃ (s : State), s.blk.pwr.powered = false ∧ s.blk.pwr.braking = false ∧ s.blk.pwr.v12 = true ∧ (s.blk.pwr.afterHoldup = false ∨
    s.blk.pwr.v12Held = true)) ∧
  (∃ (s : State), s.blk.pwr.powered = true ∧ s.blk.get .PWR_MODE_TARGET 0 = Mode.park.code ∧ s.blk.mode ∈ [Mode.spinup, Mode.run,
    Mode.idle] ∧ s.blk.pwr.pwdis = false ∧ s.blk.pwr.pwdisDown = false) ∧
  (∃ (s : State), s.blk.pwr.powered = true ∧ s.blk.get .PWR_MODE_TARGET 0 = Mode.park.code ∧ s.blk.mode ∈ [Mode.spinup, Mode.run,
    Mode.idle] ∧ s.blk.pwr.pwdis = true) := ⟨
  ⟨st45, by decide +kernel⟩,
  ⟨st46, by decide +kernel⟩,
  ⟨st39, by decide +kernel⟩,
  ⟨st47, by decide +kernel⟩⟩

/-- What meets the hypotheses of clauses 1, 2, 4, 5, 6, 7 of PortResetsComplete. -/
theorem witness_PortResetsComplete :
  (∃ (s : State) (p : Port), s.blk.fcs.activation = none ∧ s.blk.fcs.armed = none) ∧
  (∃ (s : State) (p : Port), s.blk.fcs.activation.isSome = true) ∧
  (∃ (s : State) (p : Port), onBus s.blk p = true) ∧
  (∃ (s : State) (p : Port), onBus s.blk p = true) ∧
  (∃ (s : State) (p : Port), onBus s.blk p = true ∧ s.blk.boot.enginesUp = true ∧ (vget s.blk.px p).flr = false) ∧
  (∃ (s : State) (p : Port), DeferredReset.flr p ∉ s.blk.fcs.deferred) := ⟨
  ⟨st48, 0, by decide +kernel⟩,
  ⟨st49, 1, by decide +kernel⟩,
  ⟨st48, 0, by decide +kernel⟩,
  ⟨st48, 0, by decide +kernel⟩,
  ⟨st48, 0, by decide +kernel⟩,
  ⟨st50, 0, by decide +kernel⟩⟩

/-- What meets the hypotheses of clauses 1, 2, 3, 4, 5, 6 of ControllerCompletes. -/
theorem witness_ControllerCompletes_1 :
  (∃ (s : State) (p : Port) (ams : Fin 8) (asq acq : Nat), s.blk.get .PX_LINK_DSTATE p.val ≠ 3 ∧ (vget s.blk.px p).present = true ∧
    s.blk.boot.enginesUp = true ∧ s.blk.get .NV_CTL_EN p.val = 0 ∧ queueSizeOk asq = true ∧ queueSizeOk acq = true) ∧
  (∃ (s : State) (p : Port), s.blk.get .PX_LINK_DSTATE p.val ≠ 3 ∧ s.blk.get .NV_CTL_EN p.val = 1 ∧ s.blk.fcs.activation = none ∧
    s.blk.fcs.armed = none) ∧
  (∃ (s : State) (p : Port), s.blk.get .PX_LINK_DSTATE p.val ≠ 3 ∧ s.blk.get .NV_CTL_EN p.val = 1 ∧ s.blk.fcs.activation.isSome = true) ∧
  (∃ (s : State) (p : Port) (abrupt : Bool), s.blk.get .PX_LINK_DSTATE p.val ≠ 3 ∧ s.blk.get .NV_CTL_EN p.val = 1 ∧ s.blk.get
    .NV_CTL_SHST p.val = 0 ∧ ctrlBusy s.blk p = true) ∧
  (∃ (s : State) (p : Port) (abrupt : Bool), s.blk.get .PX_LINK_DSTATE p.val ≠ 3 ∧ s.blk.get .NV_CTL_EN p.val = 1 ∧ s.blk.get
    .NV_CTL_SHST p.val = 0 ∧ ctrlBusy s.blk p = false) ∧
  (∃ (s : State) (p : Port) (at_ : Nat) (abrupt : Bool), (vget s.blk.nv p).shutAt = some (at_, abrupt) ∧ (ctrlBusy s.blk p = false ∨
    at_ + 1000000 ≤ s.blk.now)) := ⟨
  ⟨st48, 0, 1, 2, 4096, by decide +kernel⟩,
  ⟨st51, 0, by decide +kernel⟩,
  ⟨st52, 0, by decide +kernel⟩,
  ⟨st53, 0, true, by decide +kernel⟩,
  ⟨st51, 0, false, by decide +kernel⟩,
  ⟨st54, 0, 0, true, by decide +kernel⟩⟩

/-- What meets the hypotheses of clauses 7, 8, 9 of ControllerCompletes. -/
theorem witness_ControllerCompletes_2 :
  (∃ (s : State) (p : Port), s.blk.get .PX_LINK_DSTATE p.val ≠ 3 ∧ (vget s.blk.px p).present = true ∧ s.blk.boot.enginesUp = true ∧
    s.blk.fcs.activation = none ∧ s.blk.fcs.armed = none) ∧
  (∃ (s : State) (p : Port) (ams : Fin 8) (asq acq : Nat) (abrupt : Bool) (key : Word), s.blk.get .PX_LINK_DSTATE p.val = 3) ∧
  (∃ (s : State) (p : Port) (key : Word), s.blk.get .PX_LINK_DSTATE p.val ≠ 3 ∧ key ≠ 0x4E564D65) := ⟨
  ⟨st51, 0, by decide +kernel⟩,
  ⟨st2, 0, 1, 2, 4096, false, 0x4E564D65, by decide +kernel⟩,
  ⟨st51, 0, 5, by decide +kernel⟩⟩

/-- What meets the hypotheses of clauses 1, 2, 3, 4, 5, 6 of SpindleCompletes. -/
theorem witness_SpindleCompletes_1 :
  (∃ (s : State) (speed : Nat) (crossing : Bool), s.blk.mode = .spinup ∧ s.blk.spnMode = .float ∧ s.blk.spn.goal = .run ∧ s.blk.cfgN
    .SPD_CATCH_MIN * setSpeed s.blk ≤ 100 * speed) ∧
  (∃ (s : State) (speed : Nat), s.blk.mode = .spinup ∧ s.blk.spnMode = .float ∧ s.blk.spn.goal = .run ∧ 100 * speed < s.blk.cfgN
    .SPD_CATCH_MIN * setSpeed s.blk) ∧
  (∃ (s : State), s.blk.spnMode = .short ∧ s.blk.spn.goal = .restart) ∧
  (∃ (s : State), s.blk.spnMode = .short ∧ s.blk.spn.goal = .retry) ∧
  (∃ (s : State) (rises : List Nat), s.blk.spnMode = .locate) ∧
  (∃ (s : State) (ns floatMv busMv v : Nat), s.blk.spnMode = .forced ∧ s.blk.spn.zcRun = 5 ∧ crossed s.blk floatMv busMv = true ∧ v
    = sectorSpeed s.blk ns ∧ 4000000 ≤ s.blk.cfgN .SPD_KE * v ∧ within2 v (s.blk.spn.forcedRate * 240 / 3141592653589793) = true) := ⟨
  ⟨st55, 57600, true, by decide +kernel⟩,
  ⟨st55, 3, by decide +kernel⟩,
  ⟨st56, by decide +kernel⟩,
  ⟨st57, by decide +kernel⟩,
  ⟨st58, ([3, 9, 1, 0, 2, 9] : List Nat), by decide +kernel⟩,
  ⟨st59, 2000000, 5900, 12000, 10000, by decide +kernel⟩⟩

/-- What meets the hypotheses of clauses 7, 8, 9, 10, 11, 12 of SpindleCompletes. -/
theorem witness_SpindleCompletes_2 :
  (∃ (s : State) (ns floatMv busMv : Nat), s.blk.spnMode = .sixstep ∧ crossed s.blk floatMv busMv = true ∧ s.blk.cfgN .SPD_FALLBACK
    ≠ 1 ∧ s.blk.spn.zeroSteps = 0 ∧ s.blk.spn.lost = false ∧ s.blk.cfgN .SPD_HANDOVER * setSpeed s.blk ≤ 100 * sectorSpeed s.blk ns) ∧
  (∃ (s : State) (ns floatMv busMv : Nat), crossed s.blk floatMv busMv = false) ∧
  (∃ (s : State), s.blk.spnMode = .sixstep ∧ s.blk.spn.zcLoss + 1 < s.blk.cfgN .SPD_ZC_LOSS) ∧
  (∃ (s : State), s.blk.spnMode = .sixstep ∧ s.blk.cfgN .SPD_ZC_LOSS ≤ s.blk.spn.zcLoss + 1) ∧
  (∃ (s : State) (intervals : List Nat), s.blk.spnMode = .catching ∧ s.blk.spn.zeroSteps = 0 ∧ s.blk.mode ≠ .holdup ∧
    catchConsistent s.blk intervals = true ∧ s.blk.cfgN .SPD_CATCH_MIN * setSpeed s.blk ≤ 100 * catchSpeed s.blk intervals) ∧
  (∃ (s : State) (intervals : List Nat), s.blk.spnMode = .catching ∧ s.blk.spn.zeroSteps = 0 ∧ s.blk.mode = .holdup ∧
    catchConsistent s.blk intervals = true) := ⟨
  ⟨st60, 350000, 6000, 12000, by decide +kernel⟩,
  ⟨st61, 350000, 6001, 12000, by decide +kernel⟩,
  ⟨st61, by decide +kernel⟩,
  ⟨st62, by decide +kernel⟩,
  ⟨st63, (List.replicate 12 350000 : List Nat), by decide +kernel⟩,
  ⟨st64, ([350000, 350000, 355000, 350000, 350000, 350000] : List Nat), by decide +kernel⟩⟩

/-- What meets the hypotheses of clauses 14, 15, 16, 17, 18, 19 of SpindleCompletes. -/
theorem witness_SpindleCompletes_3 :
  (∃ (s : State) (cause : Nat), attemptFailure s.blk = some cause ∧ s.blk.spn.fails < 2) ∧
  (∃ (s : State) (cause : Nat), attemptFailure s.blk = some cause ∧ 2 ≤ s.blk.spn.fails) ∧
  (∃ (s : State), s.blk.spnMode = .short ∧ s.blk.spn.goal = .giveUp) ∧
  (∃ (s : State), s.blk.spn.goal = .retry ∧ s.blk.spnMode = .stopped ∧ s.blk.spn.inAttempt = false) ∧
  (∃ (s : State) (a : Act), 3200 ≤ s.blk.spn.errSteps ∧ loaded s.blk a = true ∧ (vget s.blk.srv a).retract = .idle ∧ s.blk.srvMode a
    ≠ .unloading) ∧
  (∃ (s : State), (s.blk.spn.trips.filter (fun t => s.blk.now ≤ t + 10000000)).length < 2) := ⟨
  ⟨st65, 1, by decide +kernel⟩,
  ⟨st66, 2, by decide +kernel⟩,
  ⟨st67, by decide +kernel⟩,
  ⟨st68, by decide +kernel⟩,
  ⟨st69, 2, by decide +kernel⟩,
  ⟨State.reset, by decide +kernel⟩⟩

/-- What meets the hypotheses of clauses 20 of SpindleCompletes. -/
theorem witness_SpindleCompletes_4 :
  (∃ (s : State), 2 ≤ (s.blk.spn.trips.filter (fun t => s.blk.now ≤ t + 10000000)).length) := 
  ⟨st70, by decide +kernel⟩

/-- What meets the hypotheses of clauses 1, 2, 3, 4, 5 of BrakesComplete. -/
theorem witness_BrakesComplete_1 :
  (∃ (s : State) (mv : Nat), 13600 < mv) ∧
  (∃ (s : State) (mv : Nat), mv < 13200) ∧
  (∃ (s : State) (mv : Nat), s.blk.spn.clampClosed = true ∧ s.blk.spnMode = .regen) ∧
  (∃ (s : State) (ma mv : Nat), (s.blk.spn.clampDue = true ∨ s.blk.get .SPN_BRAKE_TEST 0 = 1)) ∧
  (∃ (s : State) (ma mv : Nat), (s.blk.spn.clampDue = true ∨ s.blk.get .SPN_BRAKE_TEST 0 = 1)) ∧
  (∃ (s : State) (mv : Nat), 15000 < mv ∧ s.blk.spnMode ≠ .coast) := ⟨
  ⟨State.reset, 13601, by decide +kernel⟩,
  ⟨State.reset, 13199, by decide +kernel⟩,
  ⟨st71, 14000, by decide +kernel⟩,
  ⟨st72, 2553, 12000, by decide +kernel⟩,
  ⟨st73, 1000, 12000, by decide +kernel⟩,
  ⟨State.reset, 15001, by decide +kernel⟩⟩

/-- What meets the hypotheses of clauses 6, 7, 8 of BrakesComplete. -/
theorem witness_BrakesComplete_2 :
  (∃ (s : State) (mv : Nat), 15000 < mv ∧ s.blk.spnMode = .coast) ∧
  (∃ (s : State) (mv : Nat), s.blk.spnMode = .coast ∧ mv < 14000 ∧ s.blk.spn.ovBraking = true) ∧
  (∃ (s : State) (mv : Nat), s.blk.spnMode = .coast ∧ mv < 14000 ∧ s.blk.spn.ovBraking = false ∧ s.blk.spn.goal ∉ [SpnGoal.rest,
    SpnGoal.retry]) := ⟨
  ⟨st74, 15001, by decide +kernel⟩,
  ⟨st75, 13999, by decide +kernel⟩,
  ⟨st76, 13999, by decide +kernel⟩⟩

/-- What meets the hypotheses of clauses 2, 3, 4, 5, 6 of ServoStepsComplete. -/
theorem witness_ServoStepsComplete_1 :
  (∃ (s : State) (a : Act) (x : ServoSample), s.blk.srvMode a ∈ [SrvMode.unloaded, SrvMode.failed, SrvMode.retract]) ∧
  (∃ (s : State) (a : Act) (x : ServoSample), s.blk.srvMode a ∈ [SrvMode.unloaded, SrvMode.failed, SrvMode.retract]) ∧
  (∃ (s : State) (a : Act), tracking s.blk a = true ∧ (vget s.blk.srv a).maLimited = false) ∧
  (∃ (s : State) (a : Act), s.blk.srvMode a ∈ [SrvMode.settle, SrvMode.follow] ∧ s.blk.cfgN .SRV_SETTLE_N a.val ≤ (vget s.blk.srv
    a).settleRun ∧ (vget s.blk.srv a).forWrite = true) ∧
  (∃ (s : State) (a : Act), s.blk.srvMode a ∈ [SrvMode.settle, SrvMode.follow] ∧ s.blk.cfgN .SRV_RDSETTLE_N a.val ≤ (vget s.blk.srv
    a).readRun ∧ (vget s.blk.srv a).forWrite = false) ∧
  (∃ (s : State) (a : Act), s.blk.cfgN .SRV_WU_CLEAR a.val ≤ (vget s.blk.srv a).goodRun ∧ s.blk.get .SRV_WU_CAUSE a.val = 0) := ⟨
  ⟨st77, 1, (⟨true, 3, 5, 0, 100, 100, 200, 0, 50000, 10, 0, [0, 0, 0, 0], 0⟩ : ServoSample), by decide +kernel⟩,
  ⟨st78, 1, (⟨true, 3, 5, 0, 100, 100, 200, 0, 50000, 10, 0, [0, 0, 0, 0], 0⟩ : ServoSample), by decide +kernel⟩,
  ⟨st79, 1, by decide +kernel⟩,
  ⟨st80, 1, by decide +kernel⟩,
  ⟨st81, 1, by decide +kernel⟩,
  ⟨st82, 1, by decide +kernel⟩⟩

/-- What meets the hypotheses of clauses 7, 8 of ServoStepsComplete. -/
theorem witness_ServoStepsComplete_2 :
  (∃ (s : State) (a : Act), s.blk.srvMode a = .safe ∧ (vget s.blk.srv a).reacquired = false ∧ (vget s.blk.srv a).safeAt + 20000 ≤
    s.blk.now ∧ (vget s.blk.srv a).unloadWanted = false ∧ (vget s.blk.srv a).reloads = some 0) ∧
  (∃ (s : State) (a : Act) (n : Nat), s.blk.srvMode a = .safe ∧ (vget s.blk.srv a).reacquired = false ∧ (vget s.blk.srv a).safeAt +
    20000 ≤ s.blk.now ∧ (vget s.blk.srv a).unloadWanted = false ∧ ((vget s.blk.srv a).reloads).getD 3 = n + 1) ∧
  (∃ (s : State) (a : Act) (n : Nat), s.blk.srvMode a = .safe ∧ (vget s.blk.srv a).reacquired = false ∧ (vget s.blk.srv a).safeAt +
    20000 ≤ s.blk.now ∧ (vget s.blk.srv a).unloadWanted = false ∧ ((vget s.blk.srv a).reloads).getD 3 = n + 1) := ⟨
  ⟨st83, 1, by decide +kernel⟩,
  ⟨st84, 1, 2, by decide +kernel⟩,
  ⟨st85, 1, 2, by decide +kernel⟩⟩

/-- What meets the hypotheses of clauses 1, 2, 3, 4, 5, 6 of LoadsComplete. -/
theorem witness_LoadsComplete_1 :
  (∃ (s : State) (a : Act), s.blk.populated a = true ∧ (vget s.blk.srv a).retract = .idle ∧ s.blk.get .SPN_STATE_LOCK 0 = 1 ∧
    s.blk.srvMode a = .unloaded) ∧
  (∃ (s : State) (a : Act), s.blk.populated a = true ∧ (vget s.blk.srv a).retract = .idle ∧ s.blk.get .SPN_STATE_LOCK 0 = 1 ∧
    s.blk.srvMode a = .failed ∧ recalRuns s.blk a = true) ∧
  (∃ (s : State) (a : Act), s.blk.srvMode a = .loading ∧ 64 ≤ (vget s.blk.srv a).loadWedges ∧ (vget s.blk.srv a).markSeen = false ∧
    (vget s.blk.srv a).reloads ≠ some 0 ∧ (vget s.blk.srv a).loadFails < 2) ∧
  (∃ (s : State) (a : Act), s.blk.srvMode a = .loading ∧ 64 ≤ (vget s.blk.srv a).loadWedges ∧ (vget s.blk.srv a).markSeen = false ∧
    (vget s.blk.srv a).reloads ≠ some 0 ∧ 2 ≤ (vget s.blk.srv a).loadFails) ∧
  (∃ (s : State) (a : Act), s.blk.srvMode a = .unloaded ∧ (vget s.blk.srv a).loadDue = true ∧ 0 < (vget s.blk.srv a).loadFails ∧
    (vget s.blk.srv a).reloads = none) ∧
  (∃ (s : State) (a : Act) (n : Nat), s.blk.srvMode a = .unloaded ∧ (vget s.blk.srv a).loadDue = true ∧ 0 < (vget s.blk.srv
    a).loadFails ∧ (vget s.blk.srv a).reloads = some (n + 1)) := ⟨
  ⟨st86, 1, by decide +kernel⟩,
  ⟨st87, 1, by decide +kernel⟩,
  ⟨st88, 1, by decide +kernel⟩,
  ⟨st89, 1, by decide +kernel⟩,
  ⟨st90, 1, by decide +kernel⟩,
  ⟨st91, 1, 1, by decide +kernel⟩⟩

/-- What meets the hypotheses of clauses 7, 8, 9, 10, 11 of LoadsComplete. -/
theorem witness_LoadsComplete_2 :
  (∃ (s : State) (a : Act), loaded s.blk a = true) ∧
  (∃ (s : State) (a : Act), loaded s.blk a = true ∧ (vget s.blk.srv a).retract = .idle) ∧
  (∃ (s : State) (a : Act) (b : Block), s.blk.srvMode a = .unloading ∧ b = brakeIfReady (onRamp (s.blk.put .SRV_STATE_LOCK a.val 0) a)) ∧
  (∃ (s : State) (a : Act) (b : Block), s.blk.srvMode a = .unloading ∧ b = brakeIfReady (onRamp (s.blk.put .SRV_STATE_LOCK a.val 0) a)) ∧
  (∃ (s : State) (a : Act) (mv target limit : Nat), (vget s.blk.srv a).retract = .driving ∧ (vget s.blk.srv a).coil = some (target,
    limit) ∧ 5 * mv < target) ∧
  (∃ (s : State) (a : Act), (vget s.blk.srv a).retract = .latching) := ⟨
  ⟨st92, 1, by decide +kernel⟩,
  ⟨st93, 1, by decide +kernel⟩,
  ⟨st94, 1, (brakeIfReady (onRamp ((W (fun b => (M .run (b)).put .SRV_STATE_MODE 1 5)).blk.put .SRV_STATE_LOCK 1 0) 1) : Block), by decide +kernel⟩,
  ⟨st95, 1, (brakeIfReady (onRamp ((W (fun b => let b := (running b).put .SRV_STATE_MODE 1 5; b.onSrv 1 (fun v => { v with reloads := some 2, loadDue := true }))).blk.put .SRV_STATE_LOCK 1 0) 1) : Block), by decide +kernel⟩,
  ⟨st96, 1, 99, 500, 900, by decide +kernel⟩,
  ⟨st97, 1, by decide +kernel⟩⟩

/-- What meets the hypotheses of clauses 1, 2, 3, 4, 5, 6 of ServoAidsComplete. -/
theorem witness_ServoAidsComplete_1 :
  (∃ (s : State) (a : Act) (r : MediaReq), s.blk.mode = .run ∧ s.blk.srvMode a ∈ [SrvMode.follow, SrvMode.settle] ∧ (vget s.blk.ts
    a).jobs = [] ∧ (vget s.blk.ts a).cur = none ∧ jobHolds s.blk a = false ∧ swapHolds s.blk a = false ∧ ladderHolds s.blk a = false
    ∧ actGrant s.blk a = true ∧ nextReq s.blk a = some r) ∧
  (∃ (s : State) (a : Act), nextReq s.blk a = none ∧ patrolRuns s.blk = false) ∧
  (∃ (s : State) (a : Act) (val : Word), anyUnlocked s.blk = true ∧ s.blk.srvMode a = .follow ∧ 2 ^ 31 ≤ val.toNat) ∧
  (∃ (s : State) (a : Act) (val : Word), anyUnlocked s.blk = true ∧ val.toNat < 2 ^ 31 ∧ s.blk.srvMode a = .inject) ∧
  (∃ (s : State) (a : Act) (p : Port) (val : Word), unlocked s.blk p = false) ∧
  (∃ (s : State) (a : Act) (val : Word), anyUnlocked s.blk = false) := ⟨
  ⟨st98, 1, (⟨3, .host 0 1 5 0, 1, 6, 0, 10, 0, 5, false, false, 0, 5, 0, false, false⟩ : MediaReq), by decide +kernel⟩,
  ⟨st99, 1, by decide +kernel⟩,
  ⟨st100, 1, 0x80000005, by decide +kernel⟩,
  ⟨st101, 1, 5, by decide +kernel⟩,
  ⟨State.reset, 1, 1, 0x80000000, by decide +kernel⟩,
  ⟨st92, 1, 0x80000005, by decide +kernel⟩⟩

/-- What meets the hypotheses of clauses 7, 8, 9 of ServoAidsComplete. -/
theorem witness_ServoAidsComplete_2 :
  (∃ (s : State) (a : Act) (p : Port) (val : Word), unlocked s.blk p = true ∧ 2 ^ 31 ≤ val.toNat) ∧
  (∃ (s : State) (a : Act), (vget s.blk.srv a).capRun = true ∧ captureDepth s.blk a ≤ (vget s.blk.srv a).capture.length) ∧
  (∃ (s : State) (a : Act), ((vget s.blk.srv a).capRun = false ∨ (vget s.blk.srv a).capture.length < captureDepth s.blk a)) ∧
  (∃ (s : State) (a : Act), ((vget s.blk.srv a).capRun = false ∨ (vget s.blk.srv a).capture.length < captureDepth s.blk a)) := ⟨
  ⟨st1, 1, 1, 0x80000005, by decide +kernel⟩,
  ⟨st102, 1, by decide +kernel⟩,
  ⟨State.reset, 1, by decide +kernel⟩,
  ⟨st103, 1, by decide +kernel⟩⟩

/-- What meets the hypotheses of clauses 1, 2, 4, 5, 6, 8 of HeadsComplete. -/
theorem witness_HeadsComplete_1 :
  (∃ (s : State) (a : Act) (h : Fin 6) (z : Nat) (m : Int) (rest : List (Fin 6 × Nat × Int)) (k1 k2 : Fin 4), (vget s.blk.ast
    a).metrics = (h, z, m) :: rest) ∧
  (∃ (s : State) (a : Act) (k1 k2 : Fin 4), (vget s.blk.ast a).metrics = []) ∧
  (∃ (s : State) (a : Act) (l u : Nat) (x : Int) (k1 k2 : Fin 4), s.blk.get .AST_STATE_LOOP a.val ∉ [1, 3]) ∧
  (∃ (s : State) (a : Act), (vget s.blk.ast a).preheat = true) ∧
  (∃ (s : State) (a : Act) (h : Fin 6) (z : Nat) (rest : List Nat), bit (vget s.blk.ast a).suspended h.val = true) ∧
  (∃ (s : State) (a : Act) (h : Fin 6), bit (vget s.blk.ast a).touchWait h.val = true) := ⟨
  ⟨st104, 1, 3, 63, 7, ([(2, 1, -5)] : List (Fin 6 × Nat × Int)), 2, 2, by decide +kernel⟩,
  ⟨State.reset, 1, 2, 2, by decide +kernel⟩,
  ⟨State.reset, 1, 5, 9, 300, 2, 2, by decide +kernel⟩,
  ⟨st105, 1, by decide +kernel⟩,
  ⟨st106, 1, 3, 0, ([4] : List Nat), by decide +kernel⟩,
  ⟨st107, 1, 3, by decide +kernel⟩⟩

/-- What meets the hypotheses of clauses 9, 10, 13, 14, 15, 16 of HeadsComplete. -/
theorem witness_HeadsComplete_2 :
  (∃ (s : State) (a : Act) (h : Fin 6) (st : Fin 256) (r : Fin 4), st.val ≠ 0) ∧
  (∃ (s : State) (a : Act) (h : Fin 6), bit (vget s.blk.ast a).faultWait h.val = true) ∧
  (∃ (s : State) (a : Act) (head addr data : Nat) (k2 : Fin 4), (vget s.blk.ts a).wg = false ∧ head ≤ 5) ∧
  (∃ (s : State) (a : Act) (head addr : Nat) (r1 r2 : Word), (vget s.blk.ts a).wg = false ∧ head ≤ 5 ∧ rspOk r1 = true) ∧
  (∃ (s : State) (a : Act) (head assist heater : Nat) (k1 k2 : Fin 4), head ≤ 5 ∧ mayCommand s.blk a head = true) ∧
  (∃ (s : State) (a : Act), (vget s.blk.ast a).pslFault = true) := ⟨
  ⟨State.reset, 1, 3, 255, 0, by decide +kernel⟩,
  ⟨st108, 1, 3, by decide +kernel⟩,
  ⟨State.reset, 1, 2, 0, 0, 0, by decide +kernel⟩,
  ⟨State.reset, 1, 2, 7, 0, 5, by decide +kernel⟩,
  ⟨State.reset, 1, 5, 5000, 3, 0, 2, by decide +kernel⟩,
  ⟨st109, 1, by decide +kernel⟩⟩

/-- What meets the hypotheses of clauses 17 of HeadsComplete. -/
theorem witness_HeadsComplete_3 :
  (∃ (s : State) (a : Act), (vget s.blk.ast a).pslFault = true ∧ (vget s.blk.ast a).reinitFails < 2) := 
  ⟨st110, 1, by decide +kernel⟩

/-- What meets the hypotheses of clauses 1, 2, 4, 5, 6, 7 of ReadsComplete. -/
theorem witness_ReadsComplete :
  (∃ (s : State) (a : Act), s.blk.get .CH_STATE_MODE a.val = 4) ∧
  (∃ (s : State) (a : Act) (f : TsFrame) (x : MarkScan), (vget s.blk.ts a).frame = some f ∧ f.write = false) ∧
  (∃ (s : State) (a : Act) (r : SectorRead) (unsat info : Nat), sectorAt s.blk a r.index = some r ∧ r.phase = .onTheFly ∧ r.dropped
    = false) ∧
  (∃ (s : State) (a : Act) (r : SectorRead) (n unsat info : Nat) (p : Int), sectorAt s.blk a r.index = some r ∧ r.phase = .replay n
    p ∧ r.dropped = false) ∧
  (∃ (s : State) (d : Fin 2) (unsat info : Nat) (q : DeepReq), vget s.blk.deep.running d = some q) ∧
  (∃ (s : State) (a : Act) (r : SectorRead) (x : MarkScan), sectorAt s.blk a r.index = some r ∧ r.phase = .reread ∧ r.dropped =
    false ∧ r.rung ≠ 7) := ⟨
  ⟨st111, 1, by decide +kernel⟩,
  ⟨st112, 1, (⟨false, false, false, false, 4, 0, none⟩ : TsFrame), (⟨0, 0, 64, 0, 0, 0, 0⟩ : MarkScan), by decide +kernel⟩,
  ⟨st113, 1, ({ index := 4, head := 2, zone := 0, track := 7, tag := 3, gen := 0, scan := ⟨0, 0, 64, 0, 0, 0, 0⟩, phase := .onTheFly, slot := some 1, decoded := [], found := some 2, source := 0, rung := 5, rereads := 0, revs := 0, ofs := 0, short := false, dropped := false } : SectorRead), 3, 0, by decide +kernel⟩,
  ⟨st114, 1, ({ index := 4, head := 2, zone := 0, track := 7, tag := 3, gen := 0, scan := ⟨0, 0, 64, 0, 0, 0, 0⟩, phase := .replay 3 7, slot := some 1, decoded := [], found := some 2, source := 0, rung := 5, rereads := 0, revs := 0, ofs := 0, short := false, dropped := false } : SectorRead), 3, 3, 0, 7, by decide +kernel⟩,
  ⟨st115, 1, 0, 0, (⟨1, 4, 0⟩ : DeepReq), by decide +kernel⟩,
  ⟨st116, 1, ({ index := 4, head := 2, zone := 0, track := 7, tag := 3, gen := 0, scan := ⟨0, 0, 64, 0, 0, 0, 0⟩, phase := .reread, slot := some 1, decoded := [], found := some 2, source := 0, rung := 5, rereads := 0, revs := 0, ofs := 0, short := false, dropped := false } : SectorRead), (⟨0, 0, 64, 0, 0, 0, 0⟩ : MarkScan), by decide +kernel⟩⟩

/-- What meets the hypotheses of clauses 1, 2, 3, 4, 5, 6 of WritesComplete. -/
theorem witness_WritesComplete :
  (∃ (s : State) (a : Act) (f : TsFrame) (j : TsJob), (vget s.blk.ts a).frame = some f ∧ f.write = true ∧ f.silent = false ∧ f.job =
    some j) ∧
  (∃ (s : State) (a : Act) (f : TsFrame), (vget s.blk.ts a).frame = some f ∧ f.write = true ∧ f.silent = false ∧ f.job = none) ∧
  (∃ (s : State) (a : Act) (f : TsFrame), (vget s.blk.ts a).frame = some f ∧ f.write = true ∧ f.silent = true) ∧
  (∃ (s : State) (a : Act) (e : RwEntry) (index : Nat) (x : MarkScan) (power err : Nat) (d : Option (Nat × Nat)), (vget s.blk.ts
    a).unverified.find? (fun e => e.index = index) = some e) ∧
  (∃ (s : State) (a : Act) (val : Word) (p : Port), unlocked s.blk p = true) ∧
  (∃ (s : State) (o : PoisonOwner) (consumer : Fin 8) (addr : Nat), (∀ e, o = .code e → s.blk.fcs.op = none)) := ⟨
  ⟨st117, 1, (⟨true, false, false, false, 4, 0, some ⟨2, 1, 0, 5, 0, 10, 0, 0, 0, 7⟩⟩ : TsFrame), (⟨2, 1, 0, 5, 0, 10, 0, 0, 0, 7⟩ : TsJob), by decide +kernel⟩,
  ⟨st118, 1, (⟨true, false, false, false, 4, 0, none⟩ : TsFrame), by decide +kernel⟩,
  ⟨st119, 1, (⟨true, false, false, true, 4, 0, none⟩ : TsFrame), by decide +kernel⟩,
  ⟨st120, 1, (⟨4, 0, 0, 0, ⟨2, 1, 0, 5, 0, 10, 0, 0, 0, 7⟩⟩ : RwEntry), 4, (⟨0, 0, 64, 0, 0, 0, 0⟩ : MarkScan), 5, 3, (some (0, 0) : Option (Nat × Nat)), by decide +kernel⟩,
  ⟨st1, 1, 0xD0000007, 1, by decide +kernel⟩,
  ⟨State.reset, .tables, 3, 64, fun e h => nomatch h⟩⟩

/-- What meets the hypotheses of clauses 1, 2, 3, 4, 5, 6 of SequencerCompletes. -/
theorem witness_SequencerCompletes_1 :
  (∃ (s : State) (a : Act) (dt : Nat) (buf : Fin 8) (lo hi : Nat), tsRunning s.blk a = true) ∧
  (∃ (s : State) (a : Act) (e : Nat), (vget s.blk.ts a).expAt = some e ∧ (vget s.blk.ts a).armed = none) ∧
  (∃ (s : State) (a : Act) (e : Nat) (x : ArmedSet), (vget s.blk.ts a).expAt = some e ∧ (vget s.blk.ts a).armed = some x) ∧
  (∃ (s : State) (a : Act) (f : TsFrame), (vget s.blk.ts a).frame = some f ∧ f.paused = false) ∧
  (∃ (s : State) (a : Act), (vget s.blk.ts a).rg = false ∧ (vget s.blk.ts a).wg = false ∧ (vget s.blk.ts a).sg = false) ∧
  (∃ (s : State) (a : Act), ((vget s.blk.ts a).rg = true ∨ (vget s.blk.ts a).wg = true)) := ⟨
  ⟨st121, 1, 8, 1, 0, 0, by decide +kernel⟩,
  ⟨st122, 1, 9, by decide +kernel⟩,
  ⟨st123, 1, 9, (⟨2, 2, 0, false, 0⟩ : ArmedSet), by decide +kernel⟩,
  ⟨st117, 1, (⟨true, false, false, false, 4, 0, some ⟨2, 1, 0, 5, 0, 10, 0, 0, 0, 7⟩⟩ : TsFrame), by decide +kernel⟩,
  ⟨State.reset, 1, by decide +kernel⟩,
  ⟨st124, 1, by decide +kernel⟩⟩

/-- What meets the hypotheses of clauses 6, 7, 8, 9, 10, 11 of SequencerCompletes. -/
theorem witness_SequencerCompletes_2 :
  (∃ (s : State) (a : Act), ((vget s.blk.ts a).rg = true ∨ (vget s.blk.ts a).wg = true)) ∧
  (∃ (s : State) (a : Act), loaded s.blk a = true) ∧
  (∃ (s : State) (a : Act) (n : Nat), tsRunning s.blk a = true ∧ s.blk.get .TS_STATE_TRAP a.val = 0 ∧ nextTrap s.blk a = some n ∧ n ≤ 3) ∧
  (∃ (s : State) (a : Act), tsRunning s.blk a = true) ∧
  (∃ (s : State) (a : Act), s.blk.get .TS_STATE_STOPREQ a.val = 1) ∧
  (∃ (s : State) (a : Act), s.blk.get .TS_STATE_STATE a.val ∈ [0, 5, 6]) := ⟨
  ⟨st125, 1, by decide +kernel⟩,
  ⟨st126, 1, by decide +kernel⟩,
  ⟨st127, 1, 2, by decide +kernel⟩,
  ⟨st128, 1, by decide +kernel⟩,
  ⟨st129, 1, by decide +kernel⟩,
  ⟨st130, 1, by decide +kernel⟩⟩

/-- What meets the hypotheses of clauses 12, 13 of SequencerCompletes. -/
theorem witness_SequencerCompletes_3 :
  (∃ (s : State) (a : Act) (word : Fin 4096) (data : BitVec 128), s.blk.get .TS_STATE_STATE a.val ∈ [0, 5, 6]) ∧
  (∃ (s : State) (a : Act) (word : Fin 4096) (data : BitVec 128), s.blk.get .TS_STATE_STATE a.val ∈ [0, 5, 6]) ∧
  (∃ (s : State) (a : Act) (word : Fin 4096) (data : BitVec 128), s.blk.get .TS_STATE_STATE a.val ∉ [0, 5, 6]) := ⟨
  ⟨st131, 1, 0x801, 7, by decide +kernel⟩,
  ⟨st131, 1, 0x800, 340282366920938463463374607431768211455, by decide +kernel⟩,
  ⟨st128, 1, 0x801, 7, by decide +kernel⟩⟩

/-- What meets the hypotheses of clauses 1, 2, 3, 4, 5, 6 of TranslationAndCleaningComplete. -/
theorem witness_TranslationAndCleaningComplete_1 :
  (∃ (s : State) (p : Port) (sq cid : Nat) (data : List Nat) (poison : Bool) (pi : PiCheck) (c : Cmd), cmdFind (releaseFenced s.blk)
    p sq cid = some c ∧ mayReceive (releaseFenced s.blk) c = true) ∧
  (∃ (s : State) (o : RowOwner), s.blk.mode = .run) ∧
  (∃ (s : State) (a : Act) (d : Nat × Nat) (g x : Nat), s.blk.mode = .run ∧ s.blk.srvMode a ≠ .failed ∧ nextDue s.blk a s.blk.xl.due
    = some (d, g) ∧ replacement s.blk (d.1 / 32 / 2 ^ 20) (d.1 % 32) = some x) ∧
  (∃ (s : State) (a : Act) (c : BandCopy), runningCopy s.blk a = some c) ∧
  (∃ (s : State) (a : Act) (c : BandCopy), runningCopy s.blk a = some c) ∧
  (∃ (s : State), s.blk.mode = .run ∧ s.blk.cfgN .XLT_MC_HIGH < nandShare s.blk (cachedInNand s.blk).length) := ⟨
  ⟨st132, 0, 1, 5, ([1] : List Nat), false, .ok, (⟨0, 1, 5, 0, .write, 1, 0, 8, [], none, false, [], false, .receiving, none, 0, .success, 0, 0⟩ : Cmd), by decide +kernel⟩,
  ⟨st99, (.mcache 3 : RowOwner), by decide +kernel⟩,
  ⟨st133, 1, ((bandOf st133.blk 0 6 * 32 + 6, 1) : Nat × Nat), 0, ((replacement st133.blk ((bandOf st133.blk 0 6 * 32 + 6) / 32 / 2 ^ 20) 6).getD 0 : Nat), by decide +kernel⟩,
  ⟨st134, 1, (⟨0, 6, 900, 1, 0⟩ : BandCopy), by decide +kernel⟩,
  ⟨st134, 1, (⟨0, 6, 900, 1, 0⟩ : BandCopy), by decide +kernel⟩,
  ⟨st135, by decide +kernel⟩⟩

/-- What meets the hypotheses of clauses 7, 8, 9, 10 of TranslationAndCleaningComplete. -/
theorem witness_TranslationAndCleaningComplete_2 :
  (∃ (s : State) (nsid ext : Nat) (n : Namespace), s.blk.mode = .run ∧ (cachedOf s.blk nsid ext).isEmpty = false ∧ nsFind s.blk nsid
    = some n ∧ n.zoned = false ∧ (rewriteExtent s.blk n ext).isSome = true) ∧
  (∃ (s : State) (g : Group) (n : Namespace), s.blk.mode = .run ∧ compactionVictim s.blk = some g ∧ nsFind s.blk g.nsid = some n) ∧
  (∃ (s : State), s.blk.boot.journalUp = true) ∧
  (∃ (s : State), s.blk.xl.belowReserve = true ∧ finalReserve s.blk + s.blk.cfgN .XLT_RO_HYST ≤ freeBands s.blk) := ⟨
  ⟨st136, 1, 0, (⟨1, false, 0, 1000000, false, 0, true, 1, 0, [], none, 0, false⟩ : Namespace), by decide +kernel⟩,
  ⟨st137, (⟨0, 1, ⟨0, none, [0, 6, 12, 18], 1, 500, 0, 0, 0, []⟩, true, 0⟩ : Group), (⟨1, false, 0, 1000000, false, 0, true, 1, 0, [], none, 0, false⟩ : Namespace), by decide +kernel⟩,
  ⟨st99, by decide +kernel⟩,
  ⟨st138, by decide +kernel⟩⟩

/-- What meets the hypotheses of clauses 1, 2, 3, 4, 5 of ParityCompletes. -/
theorem witness_ParityCompletes :
  (∃ (s : State) (id j : Nat) (read : List (Nat × Nat)) (x : Recon) (l : RowLog) (sol : List (Nat × Nat)) (ok : Option Bool),
    reconFind s.blk id = some x ∧ ownerLog s.blk x.owner = some l ∧ x.sourcesLeft = 0 ∧ dataTrackOf l x.row x.surf = some j ∧
    solveRow s.blk l x read = some (sol, ok)) ∧
  (∃ (s : State) (id : Nat) (read : List (Nat × Nat)) (x : Recon) (l : RowLog), reconFind s.blk id = some x ∧ ownerLog s.blk x.owner
    = some l ∧ x.sourcesLeft = 0 ∧ solveRow s.blk l x read = none) ∧
  (∃ (s : State) (zs : List (Nat × Nat)), zs = s.blk.xl.changed ++ ((recommendChanges s.blk).map (fun e => e.1)).filter (fun z =>
    !decide (z ∈ s.blk.xl.changed)) ∧ zs ≠ []) ∧
  (∃ (s : State) (z : Zone) (j : Job), s.blk.nvm.jobs.find? (fun j => j.type = 2 ∧ j.state = 2) = some j ∧ lowestZone (rebuildZones
    s.blk) = some z ∧ wideSets s.blk z.log.t = []) ∧
  (∃ (s : State) (z : Zone) (j : Job) (base : Nat) (more : List Nat), s.blk.nvm.jobs.find? (fun j => j.type = 2 ∧ j.state = 2) =
    some j ∧ lowestZone (rebuildZones s.blk) = some z ∧ wideSets s.blk z.log.t = base :: more ∧ rebuiltRows z (retireSurfs s.blk
    (retireMask s.blk)).length ≤ s.blk.cfgN .FMT_BAND_TRK) := ⟨
  ⟨st139, 7, 0, ([] : List (Nat × Nat)), (⟨7, .host 0 1 5 0, 12, 0, 3, .zone 1 0, 0, 0, [], false, 9⟩ : Recon), (⟨0, none, [0, 6, 12, 18], 2, 500, 0, 0, 1, []⟩ : RowLog), ([(0, 0)] : List (Nat × Nat)), (some true : Option Bool), by decide +kernel⟩,
  ⟨st140, 7, ([] : List (Nat × Nat)), (⟨7, .host 0 1 5 0, 12, 0, 3, .zone 1 0, 0, 0, [0, 6, 18], false, 9⟩ : Recon), (⟨0, none, [0, 6, 12, 18], 2, 500, 0, 0, 1, []⟩ : RowLog), by decide +kernel⟩,
  ⟨st141, ([(1, 2)] : List (Nat × Nat)), by decide +kernel⟩,
  ⟨st142, (⟨1, 0, ⟨0, none, [0, 6, 12, 18], 1, 5000, 0, 0, 0, []⟩, .full, 0, 1000, false⟩ : Zone), (⟨0, 1, 2, 2, 0, 0, 0, 0, 1, [64], 0, 0, 0, false⟩ : Job), by decide +kernel⟩,
  ⟨st143, (⟨1, 0, ⟨0, none, [0, 6, 12, 18], 1, 100, 0, 0, 0, []⟩, .full, 0, 1000, false⟩ : Zone), (⟨0, 1, 2, 2, 0, 0, 0, 0, 1, [64], 0, 0, 0, false⟩ : Job), ((wideSets st143.blk 100).headD 0 : Nat), ((wideSets st143.blk 100).drop 1 : List Nat), by decide +kernel⟩⟩

/-- What meets the hypotheses of clauses 1, 2, 3, 4, 5, 6 of NandCompletes. -/
theorem witness_NandCompletes_1 :
  (∃ (s : State) (role : Fin 7) (blk page scan : Nat) (fails : Fin 16), mayProgram s.blk blk (poolOf role) = true ∧ knownErased
    (nandBlock s.blk blk) page = true) ∧
  (∃ (s : State) (role : Fin 7) (blk page scan poison : Nat) (fails : Fin 16), mayProgram s.blk blk (poolOf role) = true) ∧
  (∃ (s : State) (blk slot errors : Nat) (more : List (Nat × Nat)) (die : Fin 2), die.val = blkDie blk ∧ vget s.blk.ns.erases die =
    none ∧ blkGood s.blk blk = true ∧ slot < 8192 ∧ errors < s.blk.cfgN .NND_REFRESH_BE) ∧
  (∃ (s : State) (die : Fin 2) (i0 i1 i2 i3 : Nat) (ns : List Nat), vget s.blk.ns.erases die = none ∧ ns = (([i0, i1, i2,
    i3].zipIdx.filter (fun e => decide (e.1 < 348))).map (fun e => 1392 * die.val + 348 * e.2 + e.1)).filter (erasable s.blk) ∧ ns ≠
    []) ∧
  (∃ (s : State) (die : Fin 2) (e : NErase), vget s.blk.ns.erases die = some e) ∧
  (∃ (s : State) (die : Fin 2) (n : Nat) (ns : List Nat), mayCopy s.blk die = true ∧ dieBlocks s.blk die (fun x => x.scan) = n :: ns) := ⟨
  ⟨st99, 4, 9, 0, 0, 0, by decide +kernel⟩,
  ⟨st99, 4, 9, 0, 0, 64, 0, by decide +kernel⟩,
  ⟨st99, 9, 8191, 0, ([] : List (Nat × Nat)), 0, by decide +kernel⟩,
  ⟨st144, 0, 9, 400, 9, 9, ([9] : List Nat), by decide +kernel⟩,
  ⟨st145, 0, (⟨[9], false⟩ : NErase), by decide +kernel⟩,
  ⟨st146, 0, 9, ([] : List Nat), by decide +kernel⟩⟩

/-- What meets the hypotheses of clauses 7, 8, 9, 10, 11 of NandCompletes. -/
theorem witness_NandCompletes_2 :
  (∃ (s : State) (die : Fin 2) (errors : Nat) (c : NCopy), dieCopy s.blk die = some c ∧ c.kind = .wear ∧ errors < s.blk.cfgN
    .NND_REFRESH_BE) ∧
  (∃ (s : State) (die : Fin 2) (plane : Fin 4) (c : NCopy) (x : Nat) (pf : Bool), dieCopy s.blk die = some c ∧ c.target.find? (fun n
    => decide (blkPlane n = plane.val)) = some x) ∧
  (∃ (s : State) (die : Fin 2) (n m : Nat), mayCopy s.blk die = true ∧ s.blk.cfgN .NND_WL_SPREAD < (ecRange s.blk).1 - (ecRange
    s.blk).2 ∧ leastBlk (fun n => (nandBlock s.blk n).ec) (dieBlocks s.blk die (fun x => decide (x.wrote + 24 ≤ s.blk.now /
    3600000000) && x.slots.any (fun e => e.2.valid))) = some n ∧ leastBlk (fun m => 100000 - (nandBlock s.blk m).ec) ((List.range
    2784).filter (blkFree s.blk)) = some m) ∧
  (∃ (s : State) (die : Fin 2) (n : Nat) (ns : List Nat), mayCopy s.blk die = true ∧ dieBlocks s.blk die (refreshDue s.blk) = n :: ns) ∧
  (∃ (s : State), (64 * s.blk.cfgN .NND_CKPT_MIB ≤ s.blk.ns.jrnlPages ∨ (s.blk.mode = .run ∧ s.blk.ns.ckptAt + 3600000000 ≤ s.blk.now))) ∧
  (∃ (s : State), (64 * s.blk.cfgN .NND_CKPT_MIB ≤ s.blk.ns.jrnlPages ∨ (s.blk.mode = .run ∧ s.blk.ns.ckptAt + 3600000000 ≤ s.blk.now))) := ⟨
  ⟨st147, 0, 0, (⟨.wear, 0, [9], [10], []⟩ : NCopy), by decide +kernel⟩,
  ⟨st148, 0, 0, (⟨.wear, 0, [9], [10], []⟩ : NCopy), 10, true, by decide +kernel⟩,
  ⟨st149, 0, 9, 10, by decide +kernel, by
      have h1 := most_erased st149.blk 10 (by decide) (by decide +kernel)
      have h2 := least_erased st149.blk 0 (by decide) (by decide +kernel)
      rw [show (nandBlock st149.blk 10).ec = 50000 by decide +kernel] at h1
      rw [show (nandBlock st149.blk 0).ec = 0 by decide +kernel] at h2
      have h3 : st149.blk.cfgN .NND_WL_SPREAD ≤ 40000 := by decide +kernel
      omega, by decide +kernel, by decide +kernel⟩,
  ⟨st150, 0, 9, ([] : List Nat), by decide +kernel⟩,
  ⟨st151, by decide +kernel⟩,
  ⟨st152, by decide +kernel⟩⟩

/-- What meets the hypotheses of clauses 12 of NandCompletes. -/
theorem witness_NandCompletes_3 :
  (∃ (s : State), s.blk.mode = .run) := 
  ⟨st99, by decide +kernel⟩

/-- What meets the hypotheses of clauses 1, 2, 3, 4, 5 of LinkCompletes. -/
theorem witness_LinkCompletes_1 :
  (∃ (s : State) (p : Port) (rate : Fin 7) (width : Fin 3) (flit rev : Bool), (vget s.blk.px p).present = true ∧ (vget s.blk.px
    p).perst = false ∧ s.blk.pwr.powered = true ∧ s.blk.mode ≠ .holdup ∧ s.blk.pwr.pwdisDown = false ∧ s.blk.boot.phy = true ∧ rate
    ≠ 0 ∧ width ≠ 0) ∧
  (∃ (s : State) (p : Port) (rate : Fin 7) (width : Fin 3) (flit : Bool), s.blk.get .PX_LINK_STATE p.val ∈ [3, 4] ∧ rate ≠ 0 ∧ width
    ≠ 0) ∧
  (∃ (s : State) (p : Port), onBus s.blk p = true) ∧
  (∃ (s : State) (p : Port), s.blk.get .PX_LINK_STATE p.val = 3) ∧
  (∃ (s : State) (p : Port) (sub : Fin 3), s.blk.get .PX_LINK_STATE p.val = 3 ∧ bit (configReg (vget s.blk.px p) 0x80 0) 1 = true ∧
    portIdle s.blk p = true ∧ (vget s.blk.px p).tlpAt + s.blk.cfgN .HST_L1_IDLE_US ≤ s.blk.now) ∧
  (∃ (s : State) (p : Port) (sub : Fin 3), s.blk.get .PX_LINK_STATE p.val = 3 ∧ bit (configReg (vget s.blk.px p) 0x80 0) 1 = true ∧
    portIdle s.blk p = true ∧ (vget s.blk.px p).tlpAt + s.blk.cfgN .HST_L1_IDLE_US ≤ s.blk.now) := ⟨
  ⟨st153, 0, 4, 1, true, true, by decide +kernel⟩,
  ⟨st154, 0, 6, 2, false, by decide +kernel⟩,
  ⟨st154, 0, by decide +kernel⟩,
  ⟨st154, 0, by decide +kernel⟩,
  ⟨st155, 0, 0, by decide +kernel⟩,
  ⟨st156, 0, 1, by decide +kernel⟩⟩

/-- What meets the hypotheses of clauses 6, 7, 8 of LinkCompletes. -/
theorem witness_LinkCompletes_2 :
  (∃ (s : State) (p : Port), s.blk.get .PX_LINK_STATE p.val ∈ [5, 6, 7]) ∧
  (∃ (s : State) (p : Port), onBus s.blk p = true) ∧
  (∃ (s : State) (p : Port), s.blk.get .PX_LINK_DSTATE p.val = 3) := ⟨
  ⟨st157, 0, by decide +kernel⟩,
  ⟨st154, 0, by decide +kernel⟩,
  ⟨st2, 0, by decide +kernel⟩⟩

/-- What meets the hypotheses of clauses 1, 2, 3, 4 of ConfigurationCompletes. -/
theorem witness_ConfigurationCompletes_1 :
  (∃ (s : State) (p : Port) (off : Nat), onBus s.blk p = true) ∧
  (∃ (s : State) (p : Port) (off : Nat), onBus s.blk p = true) ∧
  (∃ (s : State) (p : Port) (off : Nat) (v : Word) (enables : Fin 16), onBus s.blk p = true ∧ answersCrs s.blk p = true) ∧
  (∃ (s : State) (p : Port) (off : Nat) (v : Word) (enables : Fin 16), onBus s.blk p = true ∧ answersCrs s.blk p = false) ∧
  (∃ (s : State) (p : Port) (off : Nat) (v : Word) (enables : Fin 16), onBus s.blk p = true ∧ answersCrs s.blk p = false) ∧
  (∃ (s : State) (p : Port), s.blk.get .PX_BME_BME p.val = 1) := ⟨
  ⟨st154, 0, 7, by decide +kernel⟩,
  ⟨st158, 0, 7, by decide +kernel⟩,
  ⟨st158, 0, 7, 5, 15, by decide +kernel⟩,
  ⟨st154, 0, 0x98, 0xFFFFFFFF, 3, by decide +kernel⟩,
  ⟨st154, 0, 0x3C, 0xFFFFFFFF, 1, by decide +kernel⟩,
  ⟨st154, 0, by decide +kernel⟩⟩

/-- What meets the hypotheses of clauses 6, 7 of ConfigurationCompletes. -/
theorem witness_ConfigurationCompletes_2 :
  (∃ (s : State) (p : Port), (vget s.blk.px p).pmeStatus = true) ∧
  (∃ (s : State) (p : Port), onBus s.blk p = true) := ⟨
  ⟨st159, 0, by decide +kernel⟩,
  ⟨st154, 0, by decide +kernel⟩⟩

/-- What meets the hypotheses of clauses 5, 6, 7, 8 of TransactionsComplete. -/
theorem witness_TransactionsComplete :
  (∃ (s : State) (p : Port) (tag hdr : Nat) (o : OutRead), (vget s.blk.px p).out.find? (fun o => o.tag = tag) = some o) ∧
  (∃ (s : State) (p : Port) (tag hdr : Nat) (status : Fin 3) (poison : Bool) (o : OutRead), (vget s.blk.px p).out.find? (fun o =>
    o.tag = tag) = some o ∧ status ≠ 0) ∧
  (∃ (s : State) (p : Port) (tag hdr : Nat) (o : OutRead), (vget s.blk.px p).out.find? (fun o => o.tag = tag) = some o ∧ o.at_ +
    1000 * o.tms ≤ s.blk.now) ∧
  (∃ (s : State) (p : Port) (tag at_ : Nat), (tag, at_) ∈ (vget s.blk.px p).quarantine ∧ at_ ≤ s.blk.now) := ⟨
  ⟨st160, 0, 3, 7, (⟨3, .gone, 50, 0⟩ : OutRead), by decide +kernel⟩,
  ⟨st160, 0, 3, 7, 2, false, (⟨3, .gone, 50, 0⟩ : OutRead), by decide +kernel⟩,
  ⟨st161, 0, 3, 7, (⟨3, .gone, 50, 0⟩ : OutRead), by decide +kernel⟩,
  ⟨st162, 0, 3, 0, by decide +kernel⟩⟩

/-- What meets the hypotheses of clauses 1, 2, 3, 4, 5, 6 of QueuesComplete. -/
theorem witness_QueuesComplete_1 :
  (∃ (s : State) (p : Port) (sq : Nat) (q : SubQueue), sqFind (vget s.blk.nv p) sq = some q ∧ 0 < q.readFails ∧ q.readFails < 3 ∧
    q.failAt + 1000 ≤ s.blk.now ∧ sqReady s.blk p { q with readFails := 0 } = true ∧ fetchHalted s.blk p = false) ∧
  (∃ (s : State) (p : Port) (q : SubQueue) (cs : NMap Nat), s.blk.get .NV_CTL_RDY p.val = 1 ∧ fetchHalted s.blk p = false ∧
    arbitrate (markThrottled s.blk p) p ((vget (markThrottled s.blk p).nv p).sqs.filter (fun q => sqReady (markThrottled s.blk p) p
    q && decide (0 < fetchSize (markThrottled s.blk p) p q) && (q.cmb || (freeTag (markThrottled s.blk p) p).isSome))) = some (q,
    cs)) ∧
  (∃ (s : State) (p : Port) (sq value : Nat) (q : SubQueue), s.blk.get .PX_LINK_DSTATE p.val ≠ 3 ∧ sqFind (vget s.blk.nv p) sq =
    some q ∧ tailValid q value = true) ∧
  (∃ (s : State) (p : Port) (cq value : Nat) (q : CompQueue), s.blk.get .PX_LINK_DSTATE p.val ≠ 3 ∧ cqFind (vget s.blk.nv p) cq =
    some q ∧ value < q.size ∧ (value + q.size - q.head) % q.size ≤ q.entries.length) ∧
  (∃ (s : State) (p : Port) (cq : Nat) (q : CompQueue), cqFind (vget s.blk.nv p) cq = some q ∧ 0 < q.aggregated ∧ hostReachable
    s.blk p = true) ∧
  (∃ (s : State) (p : Port) (sq value : Nat), s.blk.get .PX_LINK_DSTATE p.val ≠ 3 ∧ sqFind (vget s.blk.nv p) sq = none ∧ s.blk.get
    .NV_CTL_RDY p.val ≠ 1) := ⟨
  ⟨st163, 0, 1, ({ qid := 1, cq := 1, size := 8, prio := 1, cmb := false, tail := 3, head := 1, waiting := [(5, 2)], fetched := [], tokens := 9000000, tokenAt := 0, throttled := false, readFails := 1, failN := 2, failAt := 0 } : SubQueue), by decide +kernel⟩,
  ⟨st164, 0, ({ qid := 1, cq := 1, size := 8, prio := 1, cmb := false, tail := 3, head := 1, waiting := [(5, 2)], fetched := [], tokens := 9000000, tokenAt := 0, throttled := false, readFails := 0, failN := 0, failAt := 0 } : SubQueue), (((arbitrate (markThrottled st164.blk 0) 0 [{ qid := 1, cq := 1, size := 8, prio := 1, cmb := false, tail := 3, head := 1, waiting := [(5, 2)], fetched := [], tokens := 9000000, tokenAt := 0, throttled := false, readFails := 0, failN := 0, failAt := 0 }]).map (fun x => x.2)).getD [] : NMap Nat), by decide +kernel⟩,
  ⟨st164, 0, 1, 6, ({ qid := 1, cq := 1, size := 8, prio := 1, cmb := false, tail := 3, head := 1, waiting := [(5, 2)], fetched := [], tokens := 9000000, tokenAt := 0, throttled := false, readFails := 0, failN := 0, failAt := 0 } : SubQueue), by decide +kernel⟩,
  ⟨st165, 0, 1, 2, (⟨1, 8, 2, true, [⟨1, 5, .success, 0, 0⟩, ⟨1, 5, .success, 0, 0⟩], 1, 3, 2⟩ : CompQueue), by decide +kernel⟩,
  ⟨st165, 0, 1, (⟨1, 8, 2, true, [⟨1, 5, .success, 0, 0⟩, ⟨1, 5, .success, 0, 0⟩], 1, 3, 2⟩ : CompQueue), by decide +kernel⟩,
  ⟨State.reset, 0, 3, 1, by decide +kernel⟩⟩

/-- What meets the hypotheses of clauses 7 of QueuesComplete. -/
theorem witness_QueuesComplete_2 :
  (∃ (s : State) (p : Port) (cq value : Nat), s.blk.get .PX_LINK_DSTATE p.val ≠ 3 ∧ cqFind (vget s.blk.nv p) cq = none ∧ s.blk.get
    .NV_CTL_RDY p.val ≠ 1) := 
  ⟨State.reset, 0, 3, 1, by decide +kernel⟩

/-- What meets the hypotheses of clauses 1, 2, 3, 4, 5, 6 of PortServicesComplete. -/
theorem witness_PortServicesComplete_1 :
  (∃ (s : State) (p : Port) (page : Nat) (read write needWrite : Bool) (sq cid : Nat), atsOn s.blk p = true ∧ (if needWrite then
    write else read) = true) ∧
  (∃ (s : State) (p : Port) (page pages : Nat), (vget s.blk.px p).invalidations.length < 32) ∧
  (∃ (s : State) (p : Port), [] ∈ (vget s.blk.px p).invalidations) ∧
  (∃ (s : State) (p : Port) (protocol : Fin 4) (length : Nat) (op : SpdmOp), onBus s.blk p = true ∧ (16384 < length ∨ protocol = 3)) ∧
  (∃ (s : State) (p : Port) (protocol : Fin 4) (length : Nat) (op : SpdmOp), onBus s.blk p = true ∧ length ≤ 16384 ∧ protocol ≠ 3) ∧
  (∃ (s : State) (p : Port), onBus s.blk p = true) := ⟨
  ⟨st166, 0, 9, true, false, false, 1, 2, by decide +kernel⟩,
  ⟨st167, 0, 2, 4, by decide +kernel⟩,
  ⟨st168, 0, by decide +kernel⟩,
  ⟨st154, 0, 3, 8, .other, by decide +kernel⟩,
  ⟨st154, 0, 1, 8, (.openSession 4 : SpdmOp), by decide +kernel⟩,
  ⟨st154, 0, by decide +kernel⟩⟩

/-- What meets the hypotheses of clauses 7, 8 of PortServicesComplete. -/
theorem witness_PortServicesComplete_2 :
  (∃ (s : State) (p : Port) (e : Nat), (vget s.blk.px p).unlockAt = some e ∧ e ≤ s.blk.now) ∧
  (∃ (s : State) (p : Port) (off : Nat) (data : List Byte) (hdr : Nat), s.blk.get .PX_LINK_DSTATE p.val ≠ 3) := ⟨
  ⟨st169, 0, 0, by decide +kernel⟩,
  ⟨st170, 0, 2, ([1, 2, 3] : List Byte), 0, by decide +kernel⟩⟩

/-- What meets the hypotheses of clauses 1, 2, 3, 4 of QueueAdminCompletes. -/
theorem witness_QueueAdminCompletes :
  (∃ (s : State) (p : Port) (cid qid : Nat) (unfetched : List Nat) (q : SubQueue), AdminTaken s.blk p ∧ qid ≠ 0 ∧ sqFind (vget
    (adminBlock s.blk p).nv p) qid = some q) ∧
  (∃ (s : State) (p : Port) (cid qid : Nat) (q : CompQueue), AdminTaken s.blk p ∧ qid ≠ 0 ∧ cqFind (vget (adminBlock s.blk p).nv p)
    qid = some q ∧ (vget (adminBlock s.blk p).nv p).sqs.any (fun q => q.cq = qid) = false) ∧
  (∃ (s : State) (p : Port) (cid qid size cqid : Nat) (prio : Fin 4) (q : CompQueue), AdminTaken s.blk p ∧ 0 < qid ∧ qid ≤
    (grantedQueues s.blk p).1 ∧ sqFind (vget s.blk.nv p) qid = none ∧ 2 ≤ size ∧ size ≤ 4096 ∧ cqid ≠ 0 ∧ cqFind (vget s.blk.nv p)
    cqid = some q) ∧
  (∃ (s : State) (p : Port) (cid qid size vector : Nat) (ien : Bool), AdminTaken s.blk p ∧ 0 < qid ∧ qid ≤ (grantedQueues s.blk p).2
    ∧ cqFind (vget s.blk.nv p) qid = none ∧ 2 ≤ size ∧ size ≤ 4096 ∧ vector ≤ 129) := ⟨
  ⟨st171, 0, 9, 1, ([4] : List Nat), ({ 1 := 1, cq := 1, size := 8, prio := 0, cmb := false, tail := 3, head := 1, waiting := [(5, 2)], fetched := [7], tokens := 9000000, tokenAt := 0, throttled := false, readFails := 0, failN := 0, failAt := 0 } : SubQueue), by decide +kernel⟩,
  ⟨st172, 0, 9, 2, (⟨2, 8, 2, true, [], 0, 0, 0⟩ : CompQueue), by decide +kernel⟩,
  ⟨st171, 0, 9, 4, 2, 1, 2, (⟨1, 8, 2, true, [], 0, 0, 0⟩ : CompQueue), by decide +kernel⟩,
  ⟨st171, 0, 9, 4, 4096, 129, true, by decide +kernel⟩⟩

/-- What meets the hypotheses of clauses 1, 2, 3, 4, 5 of ControllerCommandsComplete. -/
theorem witness_ControllerCommandsComplete_1 :
  (∃ (s : State) (p : Port) (cid nsid lid off len : Nat) (rae : Bool), AdminTaken s.blk p ∧ (lid ∈ standardPages ∨ lid ∈
    vendorPages) ∧ off % 4 = 0) ∧
  (∃ (s : State) (p : Port) (cid nsid lid off len : Nat) (rae : Bool), AdminTaken s.blk p ∧ (lid ∈ standardPages ∨ lid ∈
    vendorPages) ∧ off % 4 = 0) ∧
  (∃ (s : State) (p : Port) (cid cns nsid csi cntid : Nat), AdminTaken s.blk p ∧ (identifyData (adminBlock s.blk p) p cns nsid csi
    cntid).1 = .success) ∧
  (∃ (s : State) (p : Port) (cid sq target : Nat) (c : Cmd), AdminTaken s.blk p ∧ sq ≠ 0 ∧ cmdFind (adminBlock s.blk p) p sq target
    = some c ∧ fullyReceived c = false ∧ c.cid < noCompletion) ∧
  (∃ (s : State) (p : Port) (cid sq target : Nat), AdminTaken s.blk p ∧ sq ≠ 0 ∧ cmdFind (adminBlock s.blk p) p sq target = none) ∧
  (∃ (s : State) (p : Port) (cid fid sel : Nat), AdminTaken s.blk p ∧ supportedFeature fid = true ∧ fid ≠ 0x04 ∧ namespaceFeature
    fid = false) := ⟨
  ⟨st171, 0, 9, 0, 2, 4, 16, false, by decide +kernel⟩,
  ⟨st171, 0, 9, 0, 0xC0, 0, 16, true, by decide +kernel⟩,
  ⟨st171, 0, 9, 1, 0, 0, 0, by decide +kernel⟩,
  ⟨st173, 0, 9, 1, 5, (⟨0, 1, 5, 0, .read, 1, 0, 8, [], none, false, [], false, .waiting, none, 0, .success, 0, 0⟩ : Cmd), by decide +kernel⟩,
  ⟨st171, 0, 9, 1, 5, by decide +kernel⟩,
  ⟨st171, 0, 9, 2, 0, by decide +kernel⟩⟩

/-- What meets the hypotheses of clauses 5, 6, 7, 8, 9 of ControllerCommandsComplete. -/
theorem witness_ControllerCommandsComplete_2 :
  (∃ (s : State) (p : Port) (cid fid sel : Nat), AdminTaken s.blk p ∧ supportedFeature fid = true ∧ fid ≠ 0x04 ∧ namespaceFeature
    fid = false) ∧
  (∃ (s : State) (p : Port) (cid : Nat), AdminTaken s.blk p ∧ (vget s.blk.nv p).aers.length < 8 ∧ (vget s.blk.nv p).events = []) ∧
  (∃ (s : State) (p : Port) (cid : Nat), AdminTaken s.blk p ∧ 8 ≤ (vget s.blk.nv p).aers.length) ∧
  (∃ (s : State) (p : Port) (cid mask : Nat) (unfetched : List (Nat × Nat)), AdminTaken s.blk p ∧ maskOk (adminBlock s.blk p) p mask
    = true) ∧
  (∃ (s : State) (p : Port) (cid mask : Nat) (unfetched : List (Nat × Nat)), AdminTaken s.blk p ∧ (mask % 2 ^ 128 = 0 ∨ mask.testBit
    0 = true ∨ ∃ q ∈ List.range 128, mask.testBit q = true ∧ sqFind (vget s.blk.nv p) q = none)) ∧
  (∃ (s : State) (p : Port) (cid mask : Nat) (unfetched : List (Nat × Nat)), AdminTaken s.blk p ∧ (mask % 2 ^ 128 = 0 ∨ mask.testBit
    0 = true ∨ ∃ q ∈ List.range 128, mask.testBit q = true ∧ sqFind (vget s.blk.nv p) q = none)) := ⟨
  ⟨st171, 0, 9, 0x0E, 0, by decide +kernel⟩,
  ⟨st174, 0, 9, by decide +kernel⟩,
  ⟨st175, 0, 9, by decide +kernel⟩,
  ⟨st171, 0, 9, 2, ([] : List (Nat × Nat)), by decide +kernel⟩,
  ⟨st171, 0, 9, 0, ([] : List (Nat × Nat)), by decide +kernel⟩,
  ⟨st171, 0, 9, 3, ([] : List (Nat × Nat)), by decide +kernel⟩⟩

/-- What meets the hypotheses of clauses 9 of ControllerCommandsComplete. -/
theorem witness_ControllerCommandsComplete_3 :
  (∃ (s : State) (p : Port) (cid mask : Nat) (unfetched : List (Nat × Nat)), AdminTaken s.blk p ∧ (mask % 2 ^ 128 = 0 ∨ mask.testBit
    0 = true ∨ ∃ q ∈ List.range 128, mask.testBit q = true ∧ sqFind (vget s.blk.nv p) q = none)) := 
  ⟨st171, 0, 9, 4, ([] : List (Nat × Nat)), by decide +kernel⟩

/-- What meets the hypotheses of clauses 1, 2, 3, 4, 5, 6 of FeaturesComplete. -/
theorem witness_FeaturesComplete_1 :
  (∃ (s : State) (p : Port) (cid : Nat) (v : Word) (save : Bool), AdminTaken s.blk p) ∧
  (∃ (s : State) (p : Port) (cid ps hint : Nat) (save : Bool), AdminTaken s.blk p ∧ ps ≤ 4) ∧
  (∃ (s : State) (p : Port) (cid sensor : Nat) (under : Bool) (v : Nat) (save : Bool), AdminTaken s.blk p ∧ sensor ≤ 8) ∧
  (∃ (s : State) (p : Port) (cid : Nat), AdminTaken s.blk p) ∧
  (∃ (s : State) (p : Port) (cid nsq ncq : Nat), AdminTaken s.blk p ∧ nsq < 65535 ∧ ncq < 65535 ∧ (vget s.blk.nv p).granted = none) ∧
  (∃ (s : State) (p : Port) (cid time threshold : Nat) (save : Bool), AdminTaken s.blk p) := ⟨
  ⟨st171, 0, 9, 0x01020304, true, by decide +kernel⟩,
  ⟨st176, 0, 9, 4, 0, false, by decide +kernel⟩,
  ⟨st171, 0, 9, 8, true, 300, false, by decide +kernel⟩,
  ⟨st171, 0, 9, by decide +kernel⟩,
  ⟨st177, 0, 9, 65534, 3, by decide +kernel⟩,
  ⟨st171, 0, 9, 5, 3, true, by decide +kernel⟩⟩

/-- What meets the hypotheses of clauses 7, 8, 9, 10, 11, 12 of FeaturesComplete. -/
theorem witness_FeaturesComplete_2 :
  (∃ (s : State) (p : Port) (cid vector : Nat) (disable : Bool), AdminTaken s.blk p ∧ 1 ≤ vector ∧ vector ≤ 129) ∧
  (∃ (s : State) (p : Port) (cid : Nat) (v : Word) (save : Bool), AdminTaken s.blk p) ∧
  (∃ (s : State) (p : Port) (cid : Nat) (enable : Bool) (table : List (Nat × Nat)) (save : Bool), AdminTaken s.blk p ∧ table.length
    ≤ 5 ∧ table.all apstEntryOk = true) ∧
  (∃ (s : State) (p : Port) (cid ms : Nat), AdminTaken s.blk p ∧ (hostTimestamp s.blk).getD 0 ≤ ms % 2 ^ 48) ∧
  (∃ (s : State) (p : Port) (cid id : Nat), AdminTaken s.blk p ∧ ((vget s.blk.nv p).hostId = 0 ∨ (vget s.blk.nv p).hostId = id % 2 ^
    128)) ∧
  (∃ (s : State) (p : Port) (cid nsid mask : Nat) (save : Bool), AdminTaken s.blk p ∧ featureNamespaces (adminBlock s.blk p) p nsid
    ≠ []) := ⟨
  ⟨st171, 0, 9, 129, true, by decide +kernel⟩,
  ⟨st171, 0, 9, 0x7, false, by decide +kernel⟩,
  ⟨st171, 0, 9, true, ([(100, 3), (5, 4), (9, 3)] : List (Nat × Nat)), true, by decide +kernel⟩,
  ⟨st171, 0, 9, 5, by decide +kernel⟩,
  ⟨st171, 0, 9, 7, by decide +kernel⟩,
  ⟨st178, 0, 9, 1, 5, false, by decide +kernel⟩⟩

/-- What meets the hypotheses of clauses 13, 14, 15, 16 of FeaturesComplete. -/
theorem witness_FeaturesComplete_3 :
  (∃ (s : State) (p : Port) (cid nsid : Nat) (ptpl save : Bool) (n : Namespace), AdminTaken s.blk p ∧ nsid ≠ 0xFFFFFFFF ∧ nsAttached
    s.blk p nsid = some n) ∧
  (∃ (s : State) (p : Port) (cid : Nat), AdminTaken s.blk p) ∧
  (∃ (s : State) (p : Port) (cid v : Nat) (save : Bool), AdminTaken s.blk p ∧ v ≤ 1) ∧
  (∃ (s : State) (p : Port) (cid v : Nat) (save : Bool), AdminTaken s.blk p ∧ 50 ≤ v ∧ v ≤ 100) ∧
  (∃ (s : State) (p : Port) (cid v : Nat) (save : Bool), AdminTaken s.blk p ∧ 50 ≤ v ∧ v ≤ 100) := ⟨
  ⟨st178, 0, 9, 1, true, false, (⟨1, false, 0, 1000000, false, 0, true, 1, 0, [], none, 0, false⟩ : Namespace), by decide +kernel⟩,
  ⟨st171, 0, 9, by decide +kernel⟩,
  ⟨st171, 0, 9, 1, false, by decide +kernel⟩,
  ⟨st171, 0, 9, 50, false, by decide +kernel⟩,
  ⟨st171, 0, 9, 100, true, by decide +kernel⟩⟩

/-- What meets the hypotheses of clauses 1, 2, 3, 4, 5, 6 of NamespacesComplete. -/
theorem witness_NamespacesComplete_1 :
  (∃ (s : State) (p : Port) (cid csi nsze flbas dps nmic profile nsid : Nat) (c : Block), AdminTaken s.blk p ∧ freeNsid (adminBlock
    s.blk p) = some nsid ∧ createFieldsOk csi nsze nsze flbas dps profile = true ∧ flbas % 16 ≤ 1 ∧ profile + 2 ≤ (activeSurfs
    (adminBlock s.blk p)).length ∧ (csi = 0 → profile + 2 ≤ s.blk.cfgN .XLT_CONV_WIDTH) ∧ withNamespace (adminBlock s.blk p) ⟨nsid,
    decide (csi = 2), profile, nsze, decide (flbas % 16 = 1), dps, bit nmic 0, 0, 0, [], none, 0, false⟩ = some c ∧ finalReserve c +
    c.cfgN .XLT_RO_HYST ≤ freeBands c) ∧
  (∃ (s : State) (p : Port) (cid nsid : Nat) (n : Namespace), AdminTaken s.blk p ∧ nsid ≠ 0xFFFFFFFF ∧ nsFind (adminBlock s.blk p)
    nsid = some n) ∧
  (∃ (s : State) (p : Port) (cid nsid mask : Nat) (ids : List Nat) (n : Namespace), AdminTaken s.blk p ∧ nsFind s.blk nsid = some n
    ∧ ctrlMask (adminBlock s.blk p) ids = some mask ∧ n.attached &&& mask = 0 ∧ (n.shared = true ∨ n.attached ||| mask ≠ 3)) ∧
  (∃ (s : State) (p : Port) (cid nsid mask : Nat) (ids : List Nat) (n : Namespace), AdminTaken s.blk p ∧ nsFind (adminBlock s.blk p)
    nsid = some n ∧ ctrlMask (adminBlock s.blk p) ids = some mask ∧ n.attached &&& mask = mask) ∧
  (∃ (s : State) (p : Port) (cid nsid lbaf ses dps : Nat) (n : Namespace), AdminTaken s.blk p ∧ nsid ≠ 0xFFFFFFFF ∧ nsFind
    (adminBlock s.blk p) nsid = some n ∧ ses ≤ 2 ∧ lbaf ≤ 1 ∧ dpsOk lbaf dps = true ∧ reservationConflict (adminBlock s.blk p) p n
    true = false) ∧
  (∃ (s : State) (p : Port) (cid protocol len : Nat), AdminTaken s.blk p) := ⟨
  ⟨st176, 0, 9, 2, zoneSize, 1, 1, 1, 0, 1, ((withNamespace (adminBlock st176.blk 0) ⟨1, true, 0, zoneSize, true, 1, true, 0, 0, [], none, 0, false⟩).getD st176.blk : Block), by decide +kernel⟩,
  ⟨st178, 0, 9, 1, (⟨1, false, 0, 1000000, false, 0, true, 1, 0, [], none, 0, false⟩ : Namespace), by decide +kernel⟩,
  ⟨st179, 0, 9, 1, 1, ([1] : List Nat), (⟨1, false, 0, 1000000, false, 0, true, 0, 0, [], none, 0, false⟩ : Namespace), by decide +kernel⟩,
  ⟨st178, 0, 9, 1, 1, ([1] : List Nat), (⟨1, false, 0, 1000000, false, 0, true, 1, 0, [], none, 0, false⟩ : Namespace), by decide +kernel⟩,
  ⟨st178, 0, 9, 1, 1, 2, 9, (⟨1, false, 0, 1000000, false, 0, true, 1, 0, [], none, 0, false⟩ : Namespace), by decide +kernel⟩,
  ⟨st171, 0, 9, 0, 8, by decide +kernel⟩⟩

/-- What meets the hypotheses of clauses 7, 8 of NamespacesComplete. -/
theorem witness_NamespacesComplete_2 :
  (∃ (s : State) (p : Port) (cid protocol len : Nat), AdminTaken s.blk p) ∧
  (∃ (s : State) (p : Port) (cid : Nat), AdminTaken s.blk p) := ⟨
  ⟨st171, 0, 9, 0, 8, by decide +kernel⟩,
  ⟨st171, 0, 9, by decide +kernel⟩⟩

/-- What meets the hypotheses of clauses 1, 2, 3, 4, 5, 6 of FirmwareCompletes. -/
theorem witness_FirmwareCompletes_1 :
  (∃ (s : State) (p : Port) (cid off len : Nat) (parts : Package), AdminTaken s.blk p ∧ off = s.blk.fcs.stagedNext ∧ 0 < len ∧ len %
    4096 = 0 ∧ off + len ≤ 28 * 1048576) ∧
  (∃ (s : State) (p : Port) (cid slot : Nat) (k : Fin 2) (fw : FwPart) (m : Image), AdminTaken s.blk p ∧ packageStaged s.blk = true
    ∧ slotBank (adminBlock s.blk p) slot = some k ∧ slotRefused (adminBlock s.blk p) k = false ∧ s.blk.fcs.activation = none ∧
    commitRuns (adminBlock s.blk p) = false ∧ commitParts (adminBlock s.blk p) k true = some (fw, m)) ∧
  (∃ (s : State) (p : Port) (cid slot : Nat) (k : Fin 2) (fw : FwPart) (m : Image), AdminTaken s.blk p ∧ slotBank (adminBlock s.blk
    p) slot = some k ∧ slotRefused (adminBlock s.blk p) k = false ∧ s.blk.fcs.activation = none ∧ commitRuns (adminBlock s.blk p) =
    false ∧ commitParts (adminBlock s.blk p) k false = some (fw, m)) ∧
  (∃ (s : State) (p : Port) (cid slot : Nat) (k : Fin 2) (fw : FwPart) (m : Image), AdminTaken s.blk p ∧ slotBank (adminBlock s.blk
    p) slot = some k ∧ slotRefused (adminBlock s.blk p) k = false ∧ s.blk.fcs.activation = none ∧ commitRuns (adminBlock s.blk p) =
    false ∧ packageStaged s.blk = false ∧ commitParts (adminBlock s.blk p) k false = some (fw, m)) ∧
  (∃ (s : State) (v : Activation), s.blk.fcs.activation = some v ∧ v.phase = 1 ∧ s.blk.fcs.op = none) ∧
  (∃ (s : State) (v : Activation), s.blk.fcs.activation = some v ∧ v.phase = 4) := ⟨
  ⟨st180, 0, 9, 8192, 4096, (⟨none, none⟩ : Package), by decide +kernel⟩,
  ⟨st180, 0, 9, 2, 1, (⟨1, 0, 0, 1, [], 4096, 0, 0⟩ : FwPart), smallImage, by decide +kernel⟩,
  ⟨st181, 0, 9, 2, 1, (⟨1, 0, 0, 1, [], 4096, 0, 0⟩ : FwPart), smallImage, by decide +kernel⟩,
  ⟨st181, 0, 9, 2, 1, (⟨1, 0, 0, 1, [], 4096, 0, 0⟩ : FwPart), smallImage, by decide +kernel⟩,
  ⟨st182, (⟨1, 0, 1, 0, some (0, 0, 9)⟩ : Activation), by decide +kernel⟩,
  ⟨st183, (⟨4, 0, 1, 0, some (0, 0, 9)⟩ : Activation), by decide +kernel⟩⟩

/-- What meets the hypotheses of clauses 7 of FirmwareCompletes. -/
theorem witness_FirmwareCompletes_2 :
  (∃ (s : State) (v : Activation), s.blk.fcs.activation = some v ∧ s.blk.fcs.op = none) := 
  ⟨st184, (⟨3, 0, 1, 0, some (0, 0, 9)⟩ : Activation), by decide +kernel⟩

/-- What meets the hypotheses of clauses 1, 2, 3, 4, 5, 6 of StartJobsComplete. -/
theorem witness_StartJobsComplete_1 :
  (∃ (s : State) (p : Port) (cid nsid d12 d13 d14 slot gen : Nat), AdminTaken s.blk p ∧ jobFieldsOk 1 nsid d12 d13 d14 = true ∧
    jobTargetOk (adminBlock s.blk p) 1 nsid d12 = true ∧ jobConflicts (adminBlock s.blk p) 1 nsid = false ∧ takeSlot (adminBlock
    s.blk p) = some (slot, gen)) ∧
  (∃ (s : State) (p : Port) (cid nsid d12 d13 d14 slot gen : Nat), AdminTaken s.blk p ∧ jobFieldsOk 2 nsid d12 d13 d14 = true ∧
    jobTargetOk (adminBlock s.blk p) 2 nsid d12 = true ∧ jobConflicts (adminBlock s.blk p) 2 nsid = false ∧ takeSlot (adminBlock
    s.blk p) = some (slot, gen)) ∧
  (∃ (s : State) (p : Port) (cid nsid d12 d13 d14 slot gen : Nat), AdminTaken s.blk p ∧ jobFieldsOk 3 nsid d12 d13 d14 = true ∧
    jobTargetOk (adminBlock s.blk p) 3 nsid d12 = true ∧ jobConflicts (adminBlock s.blk p) 3 nsid = false ∧ takeSlot (adminBlock
    s.blk p) = some (slot, gen)) ∧
  (∃ (s : State) (p : Port) (cid nsid d12 d13 d14 slot gen : Nat), AdminTaken s.blk p ∧ jobFieldsOk 4 nsid d12 d13 d14 = true ∧
    jobTargetOk (adminBlock s.blk p) 4 nsid d12 = true ∧ jobConflicts (adminBlock s.blk p) 4 nsid = false ∧ takeSlot (adminBlock
    s.blk p) = some (slot, gen)) ∧
  (∃ (s : State) (p : Port) (cid nsid d12 d13 d14 slot gen : Nat), AdminTaken s.blk p ∧ jobFieldsOk 5 nsid d12 d13 d14 = true ∧
    jobTargetOk (adminBlock s.blk p) 5 nsid d12 = true ∧ jobConflicts (adminBlock s.blk p) 5 nsid = false ∧ takeSlot (adminBlock
    s.blk p) = some (slot, gen)) ∧
  (∃ (s : State) (p : Port) (cid nsid d12 d13 d14 slot gen : Nat), AdminTaken s.blk p ∧ jobFieldsOk 6 nsid d12 d13 d14 = true ∧
    jobTargetOk (adminBlock s.blk p) 6 nsid d12 = true ∧ jobConflicts (adminBlock s.blk p) 6 nsid = false ∧ takeSlot (adminBlock
    s.blk p) = some (slot, gen)) := ⟨
  ⟨st176, 0, 9, 0, 50, 0, 0, 0, 1, by decide +kernel⟩,
  ⟨st176, 0, 9, 0, 64, 0, 0, 0, 1, by decide +kernel⟩,
  ⟨st176, 0, 9, 0, 0, 0, 0, 0, 1, by decide +kernel⟩,
  ⟨st176, 0, 9, 0, 3, 0, 0, 0, 1, by decide +kernel⟩,
  ⟨st176, 0, 9, 0, 64, 0, 0, 0, 1, by decide +kernel⟩,
  ⟨st185, 0, 9, 1, 0, 0, 0, 0, 1, by decide +kernel⟩⟩

/-- What meets the hypotheses of clauses 7, 8, 9 of StartJobsComplete. -/
theorem witness_StartJobsComplete_2 :
  (∃ (s : State) (p : Port) (cid nsid d12 d13 d14 slot gen : Nat), AdminTaken s.blk p ∧ jobFieldsOk 7 nsid d12 d13 d14 = true ∧
    jobTargetOk (adminBlock s.blk p) 7 nsid d12 = true ∧ jobConflicts (adminBlock s.blk p) 7 nsid = false ∧ takeSlot (adminBlock
    s.blk p) = some (slot, gen)) ∧
  (∃ (s : State) (p : Port) (cid nsid d12 d13 d14 slot gen : Nat), AdminTaken s.blk p ∧ jobFieldsOk 8 nsid d12 d13 d14 = true ∧
    jobTargetOk (adminBlock s.blk p) 8 nsid d12 = true ∧ jobConflicts (adminBlock s.blk p) 8 nsid = false ∧ takeSlot (adminBlock
    s.blk p) = some (slot, gen)) ∧
  (∃ (s : State) (p : Port) (cid nsid d12 d13 d14 rsvd : Nat), AdminTaken s.blk p ∧ rsvd ≠ 0) := ⟨
  ⟨st176, 0, 9, 0, 5, 0, 0, 0, 1, by decide +kernel⟩,
  ⟨st176, 0, 9, 0, 0, 0, 0, 0, 1, by decide +kernel⟩,
  ⟨st176, 0, 9, 0, 0, 0, 0, 1, by decide +kernel⟩⟩

/-- What meets the hypotheses of clauses 1 of JobSlots. -/
theorem witness_JobSlots :
  (∃ (b : Block) (p : Port) (type nsid : Nat) (params : List Nat) (slot gen : Nat), (∀ j ∈ b.nvm.jobs, j.slot < 64) ∧ takeSlot b =
    some (slot, gen)) := 
  ⟨(((running Block.reset).onNvm (fun n => { n with jobs := [⟨0, 1, 1, 4, 0, 0, 0, 0, 0, [0, 0, 0], 0, 0, 0, false⟩] })) : Block), 0, 3, 0, ([] : List Nat), 1, 1, by decide +kernel⟩

/-- What meets the hypotheses of clauses 1, 2, 3, 4, 5 of JobsComplete. -/
theorem witness_JobsComplete_1 :
  (∃ (s : State) (p : Port) (cid handle : Nat) (j : Job), AdminTaken s.blk p ∧ jobFind (adminBlock s.blk p) handle = some j ∧
    j.state = 4) ∧
  (∃ (s : State) (p : Port) (cid handle : Nat) (j : Job), AdminTaken s.blk p ∧ jobFind (adminBlock s.blk p) handle = some j ∧
    j.state = 2) ∧
  (∃ (s : State) (p : Port) (cid handle : Nat), AdminTaken s.blk p ∧ jobFind (adminBlock s.blk p) handle = none) ∧
  (∃ (s : State) (p : Port) (cid handle : Nat) (j : Job), AdminTaken s.blk p ∧ jobFind (adminBlock s.blk p) handle = some j) ∧
  (∃ (s : State) (p : Port) (cid handle : Nat) (j : Job), AdminTaken s.blk p ∧ jobFind (adminBlock s.blk p) handle = some j) ∧
  (∃ (s : State) (slot : Nat) (j : Job), slotJob s.blk slot = some j ∧ j.state = 1 ∧ j.type = 1 ∧ s.blk.fcs.activation = none ∧ (∀ k
    ∈ s.blk.nvm.jobs, k.state ≠ 2 ∧ k.state ≠ 3)) := ⟨
  ⟨st186, 0, 9, 65536, (⟨0, 1, 1, 4, 0, 0, 0, 0, 0, [0, 0, 0], 0, 0, 0, false⟩ : Job), by decide +kernel⟩,
  ⟨st187, 0, 9, 65536, (⟨0, 1, 1, 2, 0, 0, 0, 0, 0, [0, 0, 0], 0, 0, 0, false⟩ : Job), by decide +kernel⟩,
  ⟨st186, 0, 9, 0, by decide +kernel⟩,
  ⟨st186, 0, 9, 65536, (⟨0, 1, 1, 4, 0, 0, 0, 0, 0, [0, 0, 0], 0, 0, 0, false⟩ : Job), by decide +kernel⟩,
  ⟨st188, 0, 9, 65536, (⟨0, 1, 1, 1, 0, 0, 0, 0, 0, [0, 0, 0], 0, 0, 0, false⟩ : Job), by decide +kernel⟩,
  ⟨st189, 0, (⟨0, 1, 1, 1, 0, 0, 0, 0, 0, [0, 0, 0], 0, 0, 0, false⟩ : Job), by decide +kernel⟩⟩

/-- What meets the hypotheses of clauses 6, 7, 8, 9, 10, 11 of JobsComplete. -/
theorem witness_JobsComplete_2 :
  (∃ (s : State) (slot : Nat) (j : Job), slotJob s.blk slot = some j ∧ j.state = 1 ∧ j.type = 4 ∧ s.blk.fcs.activation = none ∧ (∀ k
    ∈ s.blk.nvm.jobs, k.state ≠ 2 ∧ k.state ≠ 3)) ∧
  (∃ (s : State) (slot : Nat) (j : Job), slotJob s.blk slot = some j ∧ j.state = 3 ∧ j.type = 3 ∧ jobAct j = none) ∧
  (∃ (s : State) (slot : Nat) (j : Job) (rs : List CalResult), slotJob s.blk slot = some j ∧ j.state = 2 ∧ j.type = 1 ∧ patrolInHand
    s.blk = false ∧ s.blk.nvm.patrol = []) ∧
  (∃ (s : State) (slot : Nat) (j : Job) (rs : List CalResult), slotJob s.blk slot = some j ∧ j.state = 2 ∧ j.type = 3 ∧ rebuildRows
    s.blk j.nsid false = []) ∧
  (∃ (s : State) (rs : List CalResult), s.blk.mode ≠ .run ∧ s.blk.get .SYS_CALCTL_BUSY 0 = 1) ∧
  (∃ (s : State) (p : Port) (cid : Nat), AdminTaken s.blk p ∧ selfTesting (adminBlock s.blk p) = false ∧ (adminBlock s.blk p).mode =
    .run ∧ (∀ a ∈ List.finRange 4, (adminBlock s.blk p).populated a = true → nimSuspend (adminBlock s.blk p) 2 a.val = 0 ∧ loaded
    (adminBlock s.blk p) a = true)) := ⟨
  ⟨st190, 0, (⟨0, 1, 4, 1, 0, 0, 0, 0, 0, [1, 0, 0], 0, 0, 0, false⟩ : Job), by decide +kernel⟩,
  ⟨st191, 0, (⟨0, 1, 3, 3, 0, 0, 0, 0, 0, [0, 0, 0], 0, 0, 0, false⟩ : Job), by decide +kernel⟩,
  ⟨st192, 0, (⟨0, 1, 1, 2, 0, 0, 0, 0, 0, [0, 0, 0], 0, 0, 0, false⟩ : Job), ([] : List CalResult), by decide +kernel⟩,
  ⟨st193, 0, (⟨0, 1, 3, 2, 0, 0, 0, 0, 0, [0, 0, 0], 0, 0, 0, false⟩ : Job), ([] : List CalResult), by decide +kernel⟩,
  ⟨st194, ([] : List CalResult), by decide +kernel⟩,
  ⟨st176, 0, 9, by decide +kernel⟩⟩

/-- What meets the hypotheses of clauses 12, 13 of JobsComplete. -/
theorem witness_JobsComplete_3 :
  (∃ (s : State) (p : Port) (cid : Nat) (loopFail clearFail : Fin 16), AdminTaken s.blk p ∧ selfTesting (adminBlock s.blk p) = false
    ∧ (adminBlock s.blk p).mode ≠ .run ∧ (∃ a ∈ List.finRange 4, (adminBlock s.blk p).populated a = true)) ∧
  (∃ (s : State) (p : Port) (cid slot gen : Nat), AdminTaken s.blk p ∧ selfTesting (adminBlock s.blk p) = false ∧ takeSlot
    (adminBlock s.blk p) = some (slot, gen)) := ⟨
  ⟨st195, 0, 9, 0, 0, by decide +kernel⟩,
  ⟨st176, 0, 9, 0, 1, by decide +kernel⟩⟩

/-- What meets the hypotheses of clauses 1, 2, 3, 4, 5, 6 of IoCommandsComplete. -/
theorem witness_IoCommandsComplete_1 :
  (∃ (s : State) (p : Port) (sq cid nsid : Nat) (n : Namespace), IoTaken s.blk p sq cid nsid n) ∧
  (∃ (s : State) (p : Port) (sq cid nsid : Nat) (n : Namespace) (slba nlb : Nat) (cmb : Option Nat), IoTaken s.blk p sq cid nsid n ∧
    (ioBlock s.blk p sq).pwr.spinupFailed = false ∧ 1 ≤ nlb ∧ nlb ≤ 512 ∧ cmbFits (ioBlock s.blk p sq) p n nlb cmb = true ∧ (n.zoned
    = true → checkedLater (ioBlock s.blk p sq) (ioBlock s.blk p sq).nvm.cmds { newCmd (ioBlock s.blk p sq) p sq cid (ioStamp s.blk p sq) .write nsid slba nlb with
      cmb := cmb } = false) ∧ writeCheck (ioBlock s.blk p sq) n slba nlb false = .success) ∧
  (∃ (s : State) (p : Port) (sq cid nsid : Nat) (n : Namespace) (slba nlb : Nat) (cmb : Option Nat), IoTaken s.blk p sq cid nsid n ∧
    (ioBlock s.blk p sq).pwr.spinupFailed = false ∧ 1 ≤ nlb ∧ nlb ≤ 512 ∧ cmbFits (ioBlock s.blk p sq) p n nlb cmb = true ∧ n.zoned
    = true ∧ checkedLater (ioBlock s.blk p sq) (ioBlock s.blk p sq).nvm.cmds { newCmd (ioBlock s.blk p sq) p sq cid (ioStamp s.blk p sq) .write nsid slba nlb with
      cmb := cmb } = true) ∧
  (∃ (s : State) (p : Port) (sq cid nsid : Nat) (n : Namespace) (slba nlb : Nat) (pi : PiCheck), IoTaken s.blk p sq cid nsid n ∧
    (ioBlock s.blk p sq).pwr.spinupFailed = false ∧ readCheck (ioBlock s.blk p sq) n slba nlb = .success) ∧
  (∃ (s : State) (p : Port) (sq cid nsid : Nat) (n : Namespace) (slba nlb : Nat) (pi : PiCheck), IoTaken s.blk p sq cid nsid n ∧
    (ioBlock s.blk p sq).pwr.spinupFailed = false ∧ readCheck (ioBlock s.blk p sq) n slba nlb = .success) ∧
  (∃ (s : State) (p : Port) (sq cid nsid : Nat) (n : Namespace) (slba nlb : Nat), IoTaken s.blk p sq cid nsid n ∧ (ioBlock s.blk p
    sq).pwr.spinupFailed = false ∧ 1 ≤ nlb ∧ nlb ≤ 65536 ∧ (n.zoned = true → checkedLater (ioBlock s.blk p sq) (ioBlock s.blk p
    sq).nvm.cmds (newCmd (ioBlock s.blk p sq) p sq cid (ioStamp s.blk p sq) .zeroes nsid slba nlb) = false) ∧ writeCheck (ioBlock
    s.blk p sq) n slba nlb false = .success) := ⟨
  ⟨st196, 0, 1, 9, 1, (⟨1, false, 0, 1000000, false, 0, true, 1, 0, [], none, 0, false⟩ : Namespace), by decide +kernel⟩,
  ⟨st196, 0, 1, 9, 1, (⟨1, false, 0, 1000000, false, 0, true, 1, 0, [], none, 0, false⟩ : Namespace), 0, 512, none, by decide +kernel⟩,
  ⟨st197, 0, 1, 9, 1, (⟨1, true, 0, 2 * zoneSize, false, 0, true, 1, 0, [], none, 0, false⟩ : Namespace), 0, 1, none, by decide +kernel⟩,
  ⟨st196, 0, 1, 9, 1, (⟨1, false, 0, 1000000, false, 0, true, 1, 0, [], none, 0, false⟩ : Namespace), 0, 512, .ok, by decide +kernel⟩,
  ⟨st196, 0, 1, 9, 1, (⟨1, false, 0, 1000000, false, 0, true, 1, 0, [], none, 0, false⟩ : Namespace), 5, 1, .guard, by decide +kernel⟩,
  ⟨st196, 0, 1, 9, 1, (⟨1, false, 0, 1000000, false, 0, true, 1, 0, [], none, 0, false⟩ : Namespace), 0, 1, by decide +kernel⟩⟩

/-- What meets the hypotheses of clauses 7, 8, 9 of IoCommandsComplete. -/
theorem witness_IoCommandsComplete_2 :
  (∃ (s : State) (p : Port) (sq cid nsid : Nat) (n : Namespace) (slba : Nat) (ranges : List (Nat × Nat)) (src : List Nat), IoTaken
    s.blk p sq cid nsid n ∧ (ioBlock s.blk p sq).pwr.spinupFailed = false ∧ src = ranges.flatMap (fun r => (List.range r.2).map (fun
    i => r.1 + i)) ∧ src ≠ [] ∧ src.length ≤ 65536 ∧ ranges.length ≤ 128 ∧ (∀ r ∈ ranges, r.1 + r.2 ≤ n.size) ∧ (n.zoned = true →
    checkedLater (ioBlock s.blk p sq) (ioBlock s.blk p sq).nvm.cmds { newCmd (ioBlock s.blk p sq) p sq cid (ioStamp s.blk p sq) .copy nsid slba src.length with
      src := src } = false) ∧ writeCheck (ioBlock s.blk p sq) n slba src.length false = .success) ∧
  (∃ (s : State) (p : Port) (sq cid nsid : Nat) (n : Namespace) (ranges : List (Nat × Nat)), IoTaken s.blk p sq cid nsid n ∧ ranges
    ≠ [] ∧ ranges.length ≤ 256 ∧ (∀ r ∈ ranges, r.1 + r.2 ≤ n.size ∧ r.2 < 2 ^ 32)) ∧
  (∃ (s : State) (p : Port) (sq cid nsid : Nat) (n : Namespace) (slba nlb : Nat) (cmb : Option Nat) (remap : Bool), IoTaken s.blk p
    sq cid nsid n ∧ (ioBlock s.blk p sq).pwr.spinupFailed = false ∧ n.zoned = true ∧ slba % zoneSize = 0 ∧ 1 ≤ nlb ∧ nlb ≤ 512 ∧
    cmbFits (ioBlock s.blk p sq) p n nlb cmb = true ∧ (n.zoned = true → checkedLater (ioBlock s.blk p sq) (ioBlock s.blk p
    sq).nvm.cmds { newCmd (ioBlock s.blk p sq) p sq cid (ioStamp s.blk p sq) .append nsid slba nlb with cmb := cmb, remap := remap }
    = false) ∧ writeCheck (ioBlock s.blk p sq) n slba nlb true = .success) := ⟨
  ⟨st196, 0, 1, 9, 1, (⟨1, false, 0, 1000000, false, 0, true, 1, 0, [], none, 0, false⟩ : Namespace), 0, ([(5, 2), (9, 1)] : List (Nat × Nat)), ([5, 6, 9] : List Nat), by decide +kernel⟩,
  ⟨st196, 0, 1, 9, 1, (⟨1, false, 0, 1000000, false, 0, true, 1, 0, [], none, 0, false⟩ : Namespace), ([(5, 2), (9, 1)] : List (Nat × Nat)), by decide +kernel⟩,
  ⟨st198, 0, 1, 9, 1, (⟨1, true, 0, 2 * zoneSize, false, 0, true, 1, 0, [], none, 0, false⟩ : Namespace), 0, 1, none, true, by decide +kernel⟩⟩

/-- What meets the hypotheses of clauses 1, 2, 3, 4, 5, 6 of ReservationsAndZonesComplete. -/
theorem witness_ReservationsAndZonesComplete_1 :
  (∃ (s : State) (p : Port) (sq cid nsid : Nat) (n : Namespace) (action : Nat) (ignore : Bool) (cur new change : Nat), IoTaken s.blk
    p sq cid nsid n) ∧
  (∃ (s : State) (p : Port) (sq cid nsid : Nat) (n : Namespace), IoTaken s.blk p sq cid nsid n) ∧
  (∃ (s : State) (p : Port) (sq cid nsid : Nat) (n : Namespace) (preempt ignore : Bool) (cur prKey kind : Nat), IoTaken s.blk p sq
    cid nsid n) ∧
  (∃ (s : State) (p : Port) (sq cid nsid : Nat) (n : Namespace) (ignore : Bool) (cur prKey kind : Nat), IoTaken s.blk p sq cid nsid n) ∧
  (∃ (s : State) (p : Port) (sq cid nsid : Nat) (n : Namespace) (action : Nat) (ignore : Bool) (cur kind : Nat), IoTaken s.blk p sq
    cid nsid n) ∧
  (∃ (s : State) (p : Port) (sq cid nsid : Nat) (n : Namespace) (slba : Nat) (all : Bool), IoTaken s.blk p sq cid nsid n ∧ n.zoned =
    true ∧ (all = true ∨ slba < n.size ∧ slba % zoneSize = 0)) := ⟨
  ⟨st196, 0, 1, 9, 1, (⟨1, false, 0, 1000000, false, 0, true, 1, 0, [], none, 0, false⟩ : Namespace), 0, false, 0, 5, 0, by decide +kernel⟩,
  ⟨st196, 0, 1, 9, 1, (⟨1, false, 0, 1000000, false, 0, true, 1, 0, [], none, 0, false⟩ : Namespace), by decide +kernel⟩,
  ⟨st196, 0, 1, 9, 1, (⟨1, false, 0, 1000000, false, 0, true, 1, 0, [], none, 0, false⟩ : Namespace), false, false, 0, 0, 1, by decide +kernel⟩,
  ⟨st196, 0, 1, 9, 1, (⟨1, false, 0, 1000000, false, 0, true, 1, 0, [], none, 0, false⟩ : Namespace), false, 0, 0, 1, by decide +kernel⟩,
  ⟨st196, 0, 1, 9, 1, (⟨1, false, 0, 1000000, false, 0, true, 1, 0, [], none, 0, false⟩ : Namespace), 0, true, 0, 1, by decide +kernel⟩,
  ⟨st198, 0, 1, 9, 1, (⟨1, true, 0, 2 * zoneSize, false, 0, true, 1, 0, [], none, 0, false⟩ : Namespace), 0, false, by decide +kernel⟩⟩

/-- What meets the hypotheses of clauses 6, 7, 8, 9, 10, 11 of ReservationsAndZonesComplete. -/
theorem witness_ReservationsAndZonesComplete_2 :
  (∃ (s : State) (p : Port) (sq cid nsid : Nat) (n : Namespace) (slba : Nat) (all : Bool), IoTaken s.blk p sq cid nsid n ∧ n.zoned =
    true ∧ (all = true ∨ slba < n.size ∧ slba % zoneSize = 0)) ∧
  (∃ (s : State) (p : Port) (sq cid nsid : Nat) (n : Namespace) (slba : Nat) (all : Bool), IoTaken s.blk p sq cid nsid n ∧ n.zoned =
    true ∧ (all = true ∨ slba < n.size ∧ slba % zoneSize = 0)) ∧
  (∃ (s : State) (p : Port) (sq cid nsid : Nat) (n : Namespace) (slba : Nat) (all : Bool), IoTaken s.blk p sq cid nsid n ∧ n.zoned =
    true ∧ (all = true ∨ slba < n.size ∧ slba % zoneSize = 0)) ∧
  (∃ (s : State) (p : Port) (sq cid nsid : Nat) (n : Namespace) (slba : Nat) (all : Bool), IoTaken s.blk p sq cid nsid n ∧ n.zoned =
    true ∧ (all = true ∨ slba < n.size ∧ slba % zoneSize = 0)) ∧
  (∃ (s : State) (p : Port) (sq cid nsid : Nat) (n : Namespace) (slba : Nat) (all : Bool), IoTaken s.blk p sq cid nsid n ∧ n.zoned =
    true ∧ (all = true ∨ slba < n.size ∧ slba % zoneSize = 0)) ∧
  (∃ (s : State) (p : Port) (sq cid nsid : Nat) (n : Namespace), IoTaken s.blk p sq cid nsid n) := ⟨
  ⟨st198, 0, 1, 9, 1, (⟨1, true, 0, 2 * zoneSize, false, 0, true, 1, 0, [], none, 0, false⟩ : Namespace), 7, true, by decide +kernel⟩,
  ⟨st198, 0, 1, 9, 1, (⟨1, true, 0, 2 * zoneSize, false, 0, true, 1, 0, [], none, 0, false⟩ : Namespace), zoneSize, false, by decide +kernel⟩,
  ⟨st198, 0, 1, 9, 1, (⟨1, true, 0, 2 * zoneSize, false, 0, true, 1, 0, [], none, 0, false⟩ : Namespace), zoneSize, false, by decide +kernel⟩,
  ⟨st198, 0, 1, 9, 1, (⟨1, true, 0, 2 * zoneSize, false, 0, true, 1, 0, [], none, 0, false⟩ : Namespace), zoneSize, false, by decide +kernel⟩,
  ⟨st198, 0, 1, 9, 1, (⟨1, true, 0, 2 * zoneSize, false, 0, true, 1, 0, [], none, 0, false⟩ : Namespace), zoneSize, false, by decide +kernel⟩,
  ⟨st196, 0, 1, 9, 1, (⟨1, false, 0, 1000000, false, 0, true, 1, 0, [], none, 0, false⟩ : Namespace), by decide +kernel⟩⟩

/-- What meets the hypotheses of clauses 12, 13 of ReservationsAndZonesComplete. -/
theorem witness_ReservationsAndZonesComplete_3 :
  (∃ (s : State) (p : Port) (sq cid nsid : Nat) (n : Namespace), IoTaken s.blk p sq cid nsid n) ∧
  (∃ (s : State) (p : Port) (sq cid nsid : Nat) (n : Namespace) (slba option room : Nat) (part : Bool), IoTaken s.blk p sq cid nsid
    n ∧ n.zoned = true ∧ slba < n.size ∧ option ≤ 7) := ⟨
  ⟨st196, 0, 1, 9, 1, (⟨1, false, 0, 1000000, false, 0, true, 1, 0, [], none, 0, false⟩ : Namespace), by decide +kernel⟩,
  ⟨st198, 0, 1, 9, 1, (⟨1, true, 0, 2 * zoneSize, false, 0, true, 1, 0, [], none, 0, false⟩ : Namespace), (2 * zoneSize - 1 : Nat), 7, 9, true, by decide +kernel⟩⟩

/-- What meets the hypotheses of clauses 1, 2, 3, 4 of FencesComplete. -/
theorem witness_FencesComplete :
  (∃ (s : State) (p : Port) (sq cid nsid : Nat), sq ≠ 0 ∧ queueLive s.blk p sq = true ∧ linkEnginesStopped s.blk = false ∧ mayTake
    s.blk p sq = true ∧ (s.blk.nvm.cmds.filter (fun c => c.kind = .fence)).length < 64 ∧ cmdFind (ioBlock s.blk p sq) p sq cid =
    none ∧ (ioBlock s.blk p sq).boot.recovery = false ∧ (nsid = 0xFFFFFFFF ∨ (nsAttached (ioBlock s.blk p sq) p nsid).isSome =
    true)) ∧
  (∃ (s : State) (p : Port) (sq cid nsid : Nat), sq ≠ 0 ∧ queueLive s.blk p sq = true ∧ linkEnginesStopped s.blk = false ∧ mayTake
    s.blk p sq = true ∧ (s.blk.nvm.cmds.filter (fun c => c.kind = .fence)).length < 64 ∧ cmdFind (ioBlock s.blk p sq) p sq cid =
    none ∧ (ioBlock s.blk p sq).boot.recovery = false ∧ (nsid = 0xFFFFFFFF ∨ (nsAttached (ioBlock s.blk p sq) p nsid).isSome =
    true)) ∧
  (∃ (s : State) (p : Port) (sq cid nsid reserved : Nat), sq ≠ 0 ∧ queueLive s.blk p sq = true ∧ linkEnginesStopped s.blk = false ∧
    mayTake s.blk p sq = true ∧ (s.blk.nvm.cmds.filter (fun c => c.kind = .fence)).length < 64 ∧ cmdFind (ioBlock s.blk p sq) p sq
    cid = none ∧ (ioBlock s.blk p sq).boot.recovery = false ∧ reserved ≠ 0) ∧
  (∃ (s : State) (p : Port) (sq cid : Nat) (f : Cmd), cmdFind s.blk p sq cid = some f ∧ f.kind = .fence ∧ f.phase = .waiting ∧
    fenceReady s.blk f = true) ∧
  (∃ (s : State) (p : Port) (sq cid : Nat) (f c : Cmd), cmdFind s.blk p sq cid = some f ∧ c ∈ s.blk.nvm.cmds ∧ sameCmd c f = false ∧
    c.stamp < f.stamp ∧ c.nsid = f.nsid) := ⟨
  ⟨st196, 0, 1, 9, 1, by decide +kernel⟩,
  ⟨st196, 0, 1, 9, 0xFFFFFFFF, by decide +kernel⟩,
  ⟨st196, 0, 1, 9, 1, 1, by decide +kernel⟩,
  ⟨st199, 0, 1, 9, (⟨0, 1, 9, 7, .fence, 1, 0, 0, [], none, false, [], false, .waiting, none, 0, .success, 0, 3⟩ : Cmd), by decide +kernel⟩,
  ⟨st200, 0, 1, 9, (⟨0, 1, 9, 7, .fence, 1, 0, 0, [], none, false, [], false, .waiting, none, 0, .success, 0, 3⟩ : Cmd), (⟨0, 1, 5, 0, .read, 1, 0, 8, [], none, false, [], false, .waiting, none, 0, .success, 0, 0⟩ : Cmd), by decide +kernel⟩⟩

/-- What meets the hypotheses of clauses 1, 2, 3, 4, 5 of ThermalCompletes. -/
theorem witness_ThermalCompletes_1 :
  (∃ (s : State) (n : Fin 26) (reading : Int) (stopped : Bool), n.val < 18 ∧ s.blk.thm.trip = false) ∧
  (∃ (s : State) (n : Fin 26) (reading : Int) (stopped : Bool), 18 ≤ n.val ∧ s.blk.thm.trip = false ∧ (n.val < 22 ∨ bit ((countHeat
    s.blk).cfgN .PLT_ACTUATORS) (n.val - 22) = true)) ∧
  (∃ (s : State) (n : Fin 26) (reading : Int) (stopped : Bool), 18 ≤ n.val ∧ s.blk.thm.trip = false ∧ (n.val < 22 ∨ bit ((countHeat
    s.blk).cfgN .PLT_ACTUATORS) (n.val - 22) = true)) ∧
  (∃ (s : State) (since : Nat), s.blk.thm.belowSince.toList.getD (s.blk.get .THM_STAGE_STAGE 0) none = some since ∧ 1 ≤ s.blk.get
    .THM_STAGE_STAGE 0 ∧ since + stageTime s.blk (s.blk.get .THM_STAGE_STAGE 0) ≤ s.blk.now ∧ s.blk.thm.trip = false ∧ stageMet
    s.blk (s.blk.get .THM_STAGE_STAGE 0 - 1) < s.blk.get .THM_STAGE_STAGE 0) ∧
  (∃ (s : State) (a : Act) (since : Nat), s.blk.thm.stopAt = some since ∧ since + 2000000 ≤ s.blk.now ∧ loaded s.blk a = true ∧
    (vget s.blk.srv a).retract = .idle) ∧
  (∃ (s : State) (n : Fin 26), 18 ≤ n.val ∧ limitOn s.blk n.val = true ∧ nget 0 s.blk.thm.limitBelow n.val ≠ 0 ∧ nget 0
    s.blk.thm.limitBelow n.val + 999999 ≤ s.blk.now) := ⟨
  ⟨st99, 3, 450, false, by decide +kernel⟩,
  ⟨st99, 19, 450, false, by decide +kernel⟩,
  ⟨st99, 25, 2000, false, by decide +kernel⟩,
  ⟨st201, 0, by decide +kernel⟩,
  ⟨st202, 1, 0, by decide +kernel⟩,
  ⟨st203, 19, by decide +kernel⟩⟩

/-- What meets the hypotheses of clauses 7, 8, 9 of ThermalCompletes. -/
theorem witness_ThermalCompletes_2 :
  (∃ (s : State), calHasItem s.blk 4 = true ∧ s.blk.get .THM_SENS_n_NOW 0 ≠ 0x8000 ∧ s.blk.get .THM_RES_CORR 0 < 2 ^ 16) ∧
  (∃ (s : State), calHasItem s.blk 4 = false) ∧
  (∃ (s : State), calHasItem s.blk 1 = true) := ⟨
  ⟨st204, by decide +kernel⟩,
  ⟨State.reset, by decide +kernel⟩,
  ⟨st205, by decide +kernel⟩⟩

/-- What meets the hypotheses of clauses 1 of SensorLimits. -/
theorem witness_SensorLimits :
  (∃ (s : State) (n : Fin 26) (reading : Int), 18 ≤ n.val ∧ s.blk.thm.trip = false ∧ (n.val < 22 ∨ bit (s.blk.cfgN .PLT_ACTUATORS)
    (n.val - 22) = true) ∧ sensorLimit s.blk n.val ≤ reading) ∧
  (∃ (s : State) (n : Fin 26) (reading : Int), 18 ≤ n.val ∧ s.blk.thm.trip = false ∧ (n.val < 22 ∨ bit (s.blk.cfgN .PLT_ACTUATORS)
    (n.val - 22) = true) ∧ sensorLimit s.blk n.val ≤ reading) := ⟨
  ⟨st99, 19, 2000, by decide +kernel⟩,
  ⟨st99, 25, 2000, by decide +kernel⟩⟩

/-- What meets the hypotheses of clauses 1, 2 of OchreCompletes. -/
theorem witness_OchreCompletes :
  (∃ (s : State) (meas : List (Nat × Nat)), s.blk.boot.journalUp = true) ∧
  (∃ (s : State), s.blk.boot.journalUp = true ∧ 24 ≤ s.blk.och.hours) := ⟨
  ⟨st206, ([(120, 9000)] : List (Nat × Nat)), by decide +kernel⟩,
  ⟨st207, by decide +kernel⟩⟩

/-- What meets the hypotheses of clauses 1, 2, 3, 4, 5 of ManagementCompletes. -/
theorem witness_ManagementCompletes_1 :
  (∃ (s : State) (type idx : Nat), miPowered s.blk = true ∧ miHalted s.blk = false ∧ miDown s.blk = false ∧ type = 0) ∧
  (∃ (s : State), miPowered s.blk = true ∧ miHalted s.blk = false) ∧
  (∃ (s : State), miPowered s.blk = true ∧ miHalted s.blk = false) ∧
  (∃ (s : State) (id : Nat), miPowered s.blk = true ∧ miHalted s.blk = false ∧ miDown s.blk = false ∧ 1 ≤ id ∧ id ≤ 3) ∧
  (∃ (s : State) (id : Nat), miPowered s.blk = true ∧ miHalted s.blk = false ∧ miDown s.blk = false ∧ 1 ≤ id ∧ id ≤ 3) ∧
  (∃ (s : State) (id v : Nat), miPowered s.blk = true ∧ miHalted s.blk = false ∧ miDown s.blk = false ∧ 1 ≤ id ∧ id ≤ 3) := ⟨
  ⟨st154, 0, 0, by decide +kernel⟩,
  ⟨st154, by decide +kernel⟩,
  ⟨st154, by decide +kernel⟩,
  ⟨st154, 1, by decide +kernel⟩,
  ⟨st154, 3, by decide +kernel⟩,
  ⟨st154, 3, 7, by decide +kernel⟩⟩

/-- What meets the hypotheses of clauses 6, 7, 8, 9, 10, 11 of ManagementCompletes. -/
theorem witness_ManagementCompletes_2 :
  (∃ (s : State), s.blk.pwr.powered = false ∧ s.blk.pwr.v12 = false ∧ s.blk.pwr.aux = true ∧ s.blk.cfgN .HST_WAKE_EN = 1 ∧ (vget
    s.blk.px 0).present = true ∧ (vget s.blk.px 0).pmeEn = true) ∧
  (∃ (s : State), miPowered s.blk = true ∧ miHalted s.blk = false ∧ miDown s.blk = false) ∧
  (∃ (s : State) (p : Port) (nsid x off len : Nat), miPowered s.blk = true ∧ miHalted s.blk = false ∧ miDown s.blk = true ∧ x = 0x02) ∧
  (∃ (s : State) (p : Port) (nsid x off len : Nat), miPowered s.blk = true ∧ miHalted s.blk = false ∧ miDown s.blk = false ∧
    (identifyData s.blk p x nsid off len).1 = .success) ∧
  (∃ (s : State), miPowered s.blk = true) ∧
  (∃ (s : State), s.blk.pwr.powered = true ∧ s.blk.boot.halted = none) := ⟨
  ⟨st208, by decide +kernel⟩,
  ⟨st154, by decide +kernel⟩,
  ⟨st209, 0, 0, 2, 0, 0, by decide +kernel⟩,
  ⟨st154, 0, 0, 1, 0, 0, by decide +kernel⟩,
  ⟨st154, by decide +kernel⟩,
  ⟨st154, by decide +kernel⟩⟩

/-- What meets the hypotheses of clauses 2, 3, 4, 5, 6, 7 of RecorderAndTestsComplete. -/
theorem witness_RecorderAndTestsComplete_1 :
  (∃ (s : State) (code : Nat), summaryDue s.blk code = true) ∧
  (∃ (s : State), s.blk.sep.up = true ∧ s.blk.sep.flushDue = true) ∧
  (∃ (s : State), s.blk.sep.up = true ∧ s.blk.sep.flushDue = false ∧ s.blk.sep.halfA.length = 256 ∧ s.blk.sep.flushA = false) ∧
  (∃ (s : State), s.blk.sep.flushA = true ∧ s.blk.sep.held = []) ∧
  (∃ (s : State) (kind : Fin 7) (target idleUs : Nat), s.blk.nim.run = none ∧ bit (s.blk.cfgN .NIM_EN) kind.val = true ∧ nimSuspend
    s.blk kind target = 0 ∧ nimCan s.blk kind target = true ∧ nimIdle s.blk kind target idleUs = true) ∧
  (∃ (s : State) (kind : Fin 7) (target idleUs : Nat), s.blk.nim.run = none ∧ bit (s.blk.cfgN .NIM_EN) kind.val = true ∧ nimSuspend
    s.blk kind target ≠ 0) := ⟨
  ⟨st210, 0x0D01, by decide +kernel⟩,
  ⟨st211, by decide +kernel⟩,
  ⟨st212, by decide +kernel⟩,
  ⟨st213, by decide +kernel⟩,
  ⟨st99, 4, 7, 100000000, by decide +kernel⟩,
  ⟨State.reset, 4, 7, 0, by decide +kernel⟩⟩

/-- What meets the hypotheses of clauses 8, 9 of RecorderAndTestsComplete. -/
theorem witness_RecorderAndTestsComplete_2 :
  (∃ (s : State) (r : NimRun) (val : Nat), s.blk.nim.run = some r ∧ r.repeated = false ∧ (r.kind = 6 → patrolInHand s.blk = false)) ∧
  (∃ (s : State) (r : NimRun) (val : Nat), s.blk.nim.run = some r ∧ (r.kind = 6 → patrolInHand s.blk = false)) := ⟨
  ⟨st214, (⟨4, 7, false⟩ : NimRun), 0, by decide +kernel⟩,
  ⟨st214, (⟨4, 7, false⟩ : NimRun), 0, by decide +kernel⟩⟩

/-- What meets the hypotheses of clauses 1 of SepiaSequence. -/
theorem witness_SepiaSequence :
  (∃ (s : State) (code : Nat) (e : Engine) (pa : Word) (pb : BitVec 64), sepSeverity s.blk code = 3) ∧
  (∃ (s : State) (code : Nat) (e : Engine) (pa : Word) (pb : BitVec 64), sepSeverity s.blk code = 3) := ⟨
  ⟨st99, 0x0201, .spe, 7, 9, by decide +kernel⟩,
  ⟨State.reset, 0x0201, .spe, 7, 9, by decide +kernel⟩⟩

/-- What meets the hypotheses of clauses 1, 2, 3, 5, 7, 8 of DmaControlCompletes. -/
theorem witness_DmaControlCompletes_1 :
  (∃ (s : State) (n : Fin 32), s.blk.get .DX_STAT_n_BUSY n.val ≠ 1 ∧ startError s.blk n.val = 0) ∧
  (∃ (s : State) (n : Fin 32), s.blk.get .DX_STAT_n_BUSY n.val ≠ 1 ∧ startError s.blk n.val ≠ 0) ∧
  (∃ (s : State) (n : Fin 32), s.blk.get .DX_STAT_n_BUSY n.val = 1 ∧ s.blk.get .DX_STAT_n_PAUSED n.val = 0) ∧
  (∃ (s : State) (n : Fin 32), s.blk.get .DX_STAT_n_BUSY n.val = 1) ∧
  (∃ (b : Block) (n : Fin 32), dxCount b n.val = 0) ∧
  (∃ (b : Block) (n : Fin 32) (i : Nat), i < dxCount b n.val ∧ regionOf b (dxSrc b n.val + i) = none) := ⟨
  ⟨st215, 0, by decide +kernel⟩,
  ⟨State.reset, 0, by decide +kernel⟩,
  ⟨st216, 0, by decide +kernel⟩,
  ⟨st216, 0, by decide +kernel⟩,
  ⟨((W id).blk : Block), 0, by decide +kernel⟩,
  ⟨((W (fun b => R [(.DX_SRC_LO_ADDR, 0x3FFF8), (.DX_DST_HI_ADDR, 4), (.DX_COUNT_COUNT, 16)] b)).blk : Block), 0, 8, by decide +kernel⟩⟩

/-- What meets the hypotheses of clauses 9, 10, 11, 12, 13 of DmaControlCompletes. -/
theorem witness_DmaControlCompletes_2 :
  (∃ (b : Block) (n : Fin 32) (i : Nat), i < dxCount b n.val ∧ regionOf b (dxDst b n.val + i) = none) ∧
  (∃ (b : Block) (n : Fin 32), b.get .DX_MODE_ALIGN 0 = 1 ∧ dxSrc b n.val < 0x010000000000 ∧ dxSrc b n.val % 32 ≠ 0) ∧
  (∃ (b : Block) (n : Fin 32), b.get .DX_MODE_ALIGN 0 = 1 ∧ dxDst b n.val < 0x010000000000 ∧ dxDst b n.val % 32 ≠ 0) ∧
  (∃ (b : Block) (n : Fin 32), b.get .DX_MODE_ALIGN 0 = 1 ∧ dxCount b n.val % 32 ≠ 0) ∧
  (∃ (s : State) (p : Port) (n : Fin 32) (done poison : Bool), (n.val < 28 ∨ unlocked s.blk p = false)) ∧
  (∃ (s : State) (p : Port) (n : Fin 32) (done poison : Bool), (n.val < 28 ∨ unlocked s.blk p = false)) := ⟨
  ⟨((W (fun b => R [(.DX_DST_LO_ADDR, 0x3FFF8), (.DX_SRC_HI_ADDR, 4), (.DX_COUNT_COUNT, 16)] b)).blk : Block), 0, 8, by decide +kernel⟩,
  ⟨((W (fun b => let b := R [(.DX_SRC_LO_ADDR, 64), (.DX_SRC_HI_ADDR, 4), (.DX_DST_LO_ADDR, 66), (.DX_DST_HI_ADDR, 4), (.DX_COUNT_COUNT, 8), (.DX_SRC_LO_ADDR, 65), (.DX_MODE_ALIGN, 1)] b; b)).blk : Block), 0, by decide +kernel⟩,
  ⟨((W (fun b => let b := R [(.DX_SRC_LO_ADDR, 64), (.DX_SRC_HI_ADDR, 4), (.DX_DST_LO_ADDR, 66), (.DX_DST_HI_ADDR, 4), (.DX_COUNT_COUNT, 8), (.DX_MODE_ALIGN, 1)] b; b)).blk : Block), 0, by decide +kernel⟩,
  ⟨((W (fun b => let b := R [(.DX_SRC_LO_ADDR, 64), (.DX_SRC_HI_ADDR, 4), (.DX_DST_LO_ADDR, 66), (.DX_DST_HI_ADDR, 4), (.DX_COUNT_COUNT, 8), (.DX_MODE_ALIGN, 1)] b; b)).blk : Block), 0, by decide +kernel⟩,
  ⟨st216, 1, 27, true, true, by decide +kernel⟩,
  ⟨st216, 1, 31, true, true, by decide +kernel⟩⟩

/-- What meets the hypotheses of clauses 14 of DmaControlCompletes. -/
theorem witness_DmaControlCompletes_3 :
  (∃ (s : State) (p : Port) (n : Fin 32) (done poison : Bool), 28 ≤ n.val ∧ unlocked s.blk p = true) := 
  ⟨st1, 1, 28, true, false, by decide +kernel⟩

/-- What meets the hypotheses of clauses 1, 2 of DmaMoves. -/
theorem witness_DmaMoves :
  (∃ (s : State) (n : Fin 32) (fromHost : List Byte), s.blk.get .DX_STAT_n_BUSY n.val = 1 ∧ dxDrains s.blk n.val = false ∧ s.blk.get
    .DX_STAT_n_PAUSED n.val = 0 ∧ 0 < dxCount s.blk n.val ∧ 0x400000000 ≤ dxSrc s.blk n.val ∧ dxSrc s.blk n.val + dxCount s.blk
    n.val ≤ 0x800000000 ∧ 0x400000000 ≤ dxDst s.blk n.val ∧ dxDst s.blk n.val + dxCount s.blk n.val ≤ 0x800000000) ∧
  (∃ (s : State) (n : Fin 32) (moved : Nat) (fromHost : List Byte), s.blk.get .DX_STAT_n_BUSY n.val = 1 ∧ dxDrains s.blk n.val =
    true ∧ moved < dxCount s.blk n.val ∧ 0x400000000 ≤ dxSrc s.blk n.val ∧ dxSrc s.blk n.val + dxCount s.blk n.val ≤ 0x800000000 ∧
    0x400000000 ≤ dxDst s.blk n.val ∧ dxDst s.blk n.val + dxCount s.blk n.val ≤ 0x800000000 ∧ dxCount s.blk n.val < 2 ^ 32) ∧
  (∃ (s : State) (n : Fin 32) (moved : Nat) (fromHost : List Byte), s.blk.get .DX_STAT_n_BUSY n.val = 1 ∧ dxDrains s.blk n.val =
    true ∧ moved < dxCount s.blk n.val ∧ 0x400000000 ≤ dxSrc s.blk n.val ∧ dxSrc s.blk n.val + dxCount s.blk n.val ≤ 0x800000000 ∧
    0x400000000 ≤ dxDst s.blk n.val ∧ dxDst s.blk n.val + dxCount s.blk n.val ≤ 0x800000000 ∧ dxCount s.blk n.val < 2 ^ 32) ∧
  (∃ (s : State) (n : Fin 32) (moved : Nat) (fromHost : List Byte), s.blk.get .DX_STAT_n_BUSY n.val = 1 ∧ dxDrains s.blk n.val =
    true ∧ moved < dxCount s.blk n.val ∧ 0x400000000 ≤ dxSrc s.blk n.val ∧ dxSrc s.blk n.val + dxCount s.blk n.val ≤ 0x800000000 ∧
    0x400000000 ≤ dxDst s.blk n.val ∧ dxDst s.blk n.val + dxCount s.blk n.val ≤ 0x800000000 ∧ dxCount s.blk n.val < 2 ^ 32) := ⟨
  ⟨st217, 0, ([] : List Byte), by decide +kernel⟩,
  ⟨st218, 0, 3, ([] : List Byte), by decide +kernel⟩,
  ⟨st219, 0, 0, ([] : List Byte), by decide +kernel⟩,
  ⟨st218, 0, 7, ([] : List Byte), by decide +kernel⟩⟩

/-- What meets the hypotheses of clauses 1, 2, 3, 4 of MemoriesComplete. -/
theorem witness_MemoriesComplete_1 :
  (∃ (s : State) (addr : Option Nat) (bank row : Nat) (i : Fin 80) (clean last : Bool), s.blk.pwr.powered = true ∧ (∀ x ∈
    addr.toList, poisonedAt s.blk x = false)) ∧
  (∃ (s : State) (addr : Option Nat) (bank row : Nat) (i : Fin 80) (clean last : Bool), s.blk.pwr.powered = true ∧ (∀ x ∈
    addr.toList, poisonedAt s.blk x = false)) ∧
  (∃ (s : State) (x bank row : Nat) (i j : Fin 80) (last : Bool), s.blk.pwr.powered = true ∧ i ≠ j ∧ poisonedAt s.blk x = false) ∧
  (∃ (s : State) (x bank row : Nat) (i j : Fin 80) (last : Bool), s.blk.pwr.powered = true ∧ i ≠ j ∧ poisonedAt s.blk x = false) ∧
  (∃ (s : State) (x bank row : Nat) (i j : Fin 80) (last : Bool), s.blk.pwr.powered = true ∧ i ≠ j ∧ poisonedAt s.blk x = false) ∧
  (∃ (s : State) (bad : Nat), s.blk.pwr.powered = true ∧ badSymbols bad ≤ 3 ∧ s.blk.mm.scrubLine + 1 ≠ dramLines) := ⟨
  ⟨st99, (some 0x03000000 : Option Nat), 3, 4, 5, false, true, by decide +kernel⟩,
  ⟨st99, none, 3, 4, 79, false, true, by decide +kernel⟩,
  ⟨st99, 0x03000004, 3, 4, 27, 67, false, by decide +kernel⟩,
  ⟨st99, 0x03000004, 3, 4, 0, 1, true, by decide +kernel⟩,
  ⟨st99, 0x400000040, 3, 4, 0, 1, true, by decide +kernel⟩,
  ⟨st99, (1 + 2 ^ 9 + 2 ^ 575 : Nat), by decide +kernel⟩⟩

/-- What meets the hypotheses of clauses 4, 5, 6, 7 of MemoriesComplete. -/
theorem witness_MemoriesComplete_2 :
  (∃ (s : State) (bad : Nat), s.blk.pwr.powered = true ∧ badSymbols bad ≤ 3 ∧ s.blk.mm.scrubLine + 1 ≠ dramLines) ∧
  (∃ (s : State) (bad held : Nat), s.blk.pwr.powered = true ∧ (badSymbols bad = 4 ∨ (badSymbols bad ≤ 3 ∧ lineTag (dramFirst + held)
    ≠ lineTag (dramFirst + s.blk.mm.scrubLine)))) ∧
  (∃ (s : State) (bad held : Nat), s.blk.pwr.powered = true ∧ (badSymbols bad = 4 ∨ (badSymbols bad ≤ 3 ∧ lineTag (dramFirst + held)
    ≠ lineTag (dramFirst + s.blk.mm.scrubLine)))) ∧
  (∃ (s : State) (bad held : Nat), s.blk.pwr.powered = true ∧ s.blk.mm.scrubLine + 1 = dramLines) ∧
  (∃ (s : State) (w : Agent) (p : Port), calUnlock s.blk w = some p ∧ s.blk.get .SYS_CALCTL_BUSY 0 ≠ 1 ∧ s.blk.mode ≠ .park) ∧
  (∃ (s : State) (w : Agent) (p : Port), calUnlock s.blk w = some p ∧ s.blk.get .SYS_CALCTL_BUSY 0 ≠ 1 ∧ s.blk.mode ≠ .park) := ⟨
  ⟨st99, 0, by decide +kernel⟩,
  ⟨st99, (1 + 2 ^ 9 + 2 ^ 17 + 2 ^ 575 : Nat), 0, by decide +kernel⟩,
  ⟨st99, 1, 1, by decide +kernel⟩,
  ⟨st220, 0, 5, by decide +kernel⟩,
  ⟨st221, Agent.core, 1, by decide +kernel⟩,
  ⟨st1, (Agent.port 1 : Agent), 1, by decide +kernel⟩⟩

/-- What meets the hypotheses of clauses 8, 9, 10 of MemoriesComplete. -/
theorem witness_MemoriesComplete_3 :
  (∃ (s : State), calUnlock s.blk .core = none) ∧
  (∃ (s : State) (since : Nat), s.blk.hea.actLow = some since ∧ s.blk.nvm.cmds = [] ∧ since + 50000 ≤ s.blk.now) ∧
  (∃ (s : State) (mv : Nat), mv < 2 ^ 16 ∧ s.blk.get .PWR_V12_MIN 0 < 2 ^ 16) := ⟨
  ⟨State.reset, by decide +kernel⟩,
  ⟨st222, 0, by decide +kernel⟩,
  ⟨State.reset, 11900, by decide +kernel⟩⟩

/-- What meets the hypotheses of clauses 1, 2, 3 of CacheBounds. -/
theorem witness_CacheBounds :
  (∃ (b : Block) (q : MemReq), CachesBounded b) ∧
  (∃ (b : Block) (x len : Nat) (store : Bool) (core : Option (Fin 12 × Bool)), CachesBounded b) ∧
  (∃ (s : State) (w : Agent) (n : Fin 32), CachesBounded s.blk) := ⟨
  ⟨((W (fun b => { b with mm := { b.mm with caches := { b.mm.caches with l2 := vupd b.mm.caches.l2 0 (fun x => { x with miss := (List.range 15).map (fun k => ⟨0x10000000 + 4 * k, 8, false, false, []⟩), evict := [⟨0x10000400, true⟩] }) } } })).blk : Block), (⟨0x10000100, true, none, false⟩ : MemReq), by decide +kernel⟩,
  ⟨((W (fun b => { b with mm := { b.mm with caches := { b.mm.caches with l2 := vupd b.mm.caches.l2 0 (fun x => { x with miss := (List.range 15).map (fun k => ⟨0x10000000 + 4 * k, 8, false, false, []⟩), evict := [⟨0x10000400, true⟩] }) } } })).blk : Block), 0x400000000, 64, true, none, by decide +kernel⟩,
  ⟨State.reset, Agent.core, 0, by decide +kernel⟩⟩

/-- What meets the hypotheses of clauses 1, 2 of SramCode. -/
theorem witness_SramCode :
  (∃ (w : Nat) (i : Fin 80), sramSyndrome w = List.replicate 16 false) ∧
  (∃ (w : Nat) (i : Fin 80), sramSyndrome w = List.replicate 16 false) ∧
  (∃ (w : Nat) (i j : Fin 80), sramSyndrome w = List.replicate 16 false ∧ i ≠ j) ∧
  (∃ (w : Nat) (i j : Fin 80), sramSyndrome w = List.replicate 16 false ∧ i ≠ j) := ⟨
  ⟨0, 79, by decide +kernel⟩,
  ⟨0, 5, by decide +kernel⟩,
  ⟨0, 27, 67, by decide +kernel⟩,
  ⟨0, 72, 79, by decide +kernel⟩⟩

/-- What meets the hypotheses of clauses 1, 2, 3 of SramPoison. -/
theorem witness_SramPoison :
  (∃ (w : Nat), sramSyndrome w = List.replicate 16 false) ∧
  (∃ (w : Nat) (i : Fin 80), sramSyndrome w = List.replicate 16 false) ∧
  (∃ (w : Nat) (i j : Fin 80), sramSyndrome w = List.replicate 16 false ∧ i ≠ j) := ⟨
  ⟨0, by decide +kernel⟩,
  ⟨0, 5, by decide +kernel⟩,
  ⟨0, 5, 79, by decide +kernel⟩⟩

/-- What meets the hypotheses of clauses 1 of StepIdles. -/
theorem witness_StepIdles :
  (∃ (s : State), s.pending = []) := 
  ⟨State.reset, by decide +kernel⟩

/-- What meets the hypotheses of clauses 1 of MemoryInvariant. -/
theorem witness_MemoryInvariant :
  (∃ (s t : State), State.wf s ∧ step s = .next t) := 
  ⟨State.reset, _, rfl, rfl⟩

/-- What meets the hypotheses of clauses 1, 2, 3 of RegisterWriteAccess. -/
theorem witness_RegisterWriteAccess :
  (∃ (s : State) (off : Nat) (w : Word) (f : Field) (i hdr : Nat), off % 4 = 0 ∧ (f, i) ∈ fieldsAt off ∧ ownCommandField f = false ∧
    dxHeld s.blk f i = false) ∧
  (∃ (s : State) (p : Port) (off : Nat) (w : Word) (f : Field) (i hdr : Nat), off % 4 = 0 ∧ (f, i) ∈ fieldsAt off ∧ ownCommandField
    f = false ∧ f ≠ .PX_LINK_STATE ∧ dxHeld s.blk f i = false ∧ unlocked s.blk p = true ∧ dxFirmware off = false ∧ s.blk.get
    .PX_LINK_DSTATE p.val ≠ 3) ∧
  (∃ (s : State) (off : Nat) (vals : List Word) (hdr : Nat), off + 4 * vals.length > 0x100000) := ⟨
  ⟨State.reset, 0x10, 0xFFFFFFFF, (((fieldsAt 0x10).headD (.PWR_V12_MIN, 0)).1 : Field), (((fieldsAt 0x10).headD (.PWR_V12_MIN, 0)).2 : Nat), 0, by decide +kernel⟩,
  ⟨st1, 1, 0x10, 0xFFFFFFFF, (((fieldsAt 0x10).headD (.PWR_V12_MIN, 0)).1 : Field), (((fieldsAt 0x10).headD (.PWR_V12_MIN, 0)).2 : Nat), 0, by decide +kernel⟩,
  ⟨State.reset, 0x100000, ([5] : List Word), 0, by decide +kernel⟩⟩

/-- What meets the hypotheses of clauses 1 of WindowWriteDiscarded. -/
theorem witness_WindowWriteDiscarded :
  (∃ (s : State) (p : Port) (off : Nat) (vals : List Word) (hdr : Nat), windowShapeOk off (4 * vals.length) = true ∧ unlocked s.blk
    p = false ∧ s.blk.get .PX_LINK_DSTATE p.val ≠ 3) ∧
  (∃ (s : State) (p : Port) (off : Nat) (vals : List Word) (hdr : Nat), windowShapeOk off (4 * vals.length) = true ∧ unlocked s.blk
    p = false ∧ s.blk.get .PX_LINK_DSTATE p.val ≠ 3) := ⟨
  ⟨State.reset, 0, 0x2008, ([5] : List Word), 0, by decide +kernel⟩,
  ⟨State.reset, 1, 0x2008, ([5, 6] : List Word), 1, by decide +kernel⟩⟩

/-- What meets the hypotheses of clauses 1, 2, 3 of FcsOneOperation. -/
theorem witness_FcsOneOperation :
  (∃ (s : State) (o : FcsOp) (bank : Fin 2) (addr : Nat) (data : List Byte), s.blk.fcs.op = some o) ∧
  (∃ (s : State) (o : FcsOp) (bank : Fin 2) (addr len dst : Nat), s.blk.fcs.op = some o ∧ o.bank ≠ bank ∧ 0x400000000 ≤ dst ∧ dst +
    len ≤ 0x800000000 ∧ addr + len ≤ fcsBankBytes) ∧
  (∃ (s : State) (o : FcsOp) (addr len dst : Nat), s.blk.fcs.op = some o) := ⟨
  ⟨st8, (⟨1, true, 0, [], none⟩ : FcsOp), 1, 0, ([1] : List Byte), by decide +kernel⟩,
  ⟨st8, (⟨1, true, 0, [], none⟩ : FcsOp), 0, 0, 4, 0x400000000, by decide +kernel⟩,
  ⟨st8, (⟨1, true, 0, [], none⟩ : FcsOp), 0, 4, 0x400000000, by decide +kernel⟩⟩


/-! ### Well-formedness refuses what does not fit -/

/-- Ill-formed commands, one for each check. -/
theorem test_ill_formed_refused_1 : ([
      .registerWrite .core 0x100000 [1] 0, .registerWrite .core 0 [] 0, .registerWrite .core 0 [1, 2, 3] 0,
      .diagAccessBadSize 0 false 0x100000 0 0, .diagWriteDiscarded 0 0x100000 [1], .diagWriteDiscarded 0 0 [],
      .diagWriteDiscarded 0 0 [1, 2, 3], .counterLowRead 0 0x100000, .counterHighRead 0 0x100000, .sqTailDoorbell 0 (2 ^ 16) 0,
      .sqTailDoorbell 0 0 (2 ^ 32), .cqHeadDoorbell 0 (2 ^ 16) 0, .cqHeadDoorbell 0 0 (2 ^ 32), .configRead 0 (2 ^ 12),
      .configRead 0 2, .configWrite 0 (2 ^ 12) 0 0, .configWrite 0 2 0 0, .completionReceived 0 (2 ^ 10) 0 false 0,
      .completionTimeout 0 (2 ^ 10) 0, .tagQuarantineEnd 0 (2 ^ 10), .deleteIoSubmissionQueue 0 (2 ^ 16) 0 [1],
      .deleteIoSubmissionQueue 0 0 (2 ^ 16) [1], .deleteIoCompletionQueue 0 (2 ^ 16) 0, .deleteIoCompletionQueue 0 0 (2 ^ 16)] : List Instr).all (fun i => !i.wf) = true := by decide +kernel

/-- Ill-formed commands, one for each check. -/
theorem test_ill_formed_refused_2 : ([
      .createIoSubmissionQueue 0 (2 ^ 16) 0 0 0 0 false false, .createIoSubmissionQueue 0 0 (2 ^ 16) 0 0 0 false false,
      .createIoSubmissionQueue 0 0 0 (2 ^ 17) 0 0 false false, .createIoSubmissionQueue 0 0 0 0 (2 ^ 16) 0 false false,
      .createIoCompletionQueue 0 (2 ^ 16) 0 0 0 false false, .createIoCompletionQueue 0 0 (2 ^ 16) 0 0 false false,
      .createIoCompletionQueue 0 0 0 (2 ^ 17) 0 false false, .createIoCompletionQueue 0 0 0 0 (2 ^ 16) false false,
      .getLogPage 0 (2 ^ 16) 0 0 0 1 false, .getLogPage 0 0 (2 ^ 32) 0 0 1 false, .getLogPage 0 0 0 (2 ^ 8) 0 1 false,
      .identify 0 (2 ^ 16) 0 0 0 0, .identify 0 0 (2 ^ 8) 0 0 0, .identify 0 0 0 (2 ^ 32) 0 0, .identify 0 0 0 0 (2 ^ 8) 0,
      .identify 0 0 0 0 0 (2 ^ 16), .abort 0 (2 ^ 16) 0 0, .abort 0 0 (2 ^ 16) 0, .abort 0 0 0 (2 ^ 16),
      .getFeatures 0 (2 ^ 16) 0 0 0, .getFeatures 0 0 (2 ^ 8) 0 0, .namespaceDelete 0 (2 ^ 16) 0, .namespaceDelete 0 0 (2 ^ 32),
      .namespaceAttach 0 (2 ^ 16) 0 [1]] : List Instr).all (fun i => !i.wf) = true := by decide +kernel

/-- Ill-formed commands, one for each check. -/
theorem test_ill_formed_refused_3 : ([
      .namespaceAttach 0 0 (2 ^ 32) [1], .namespaceAttach 0 0 0 [2 ^ 16], .namespaceDetach 0 (2 ^ 16) 0 [1],
      .namespaceDetach 0 0 (2 ^ 32) [1], .namespaceDetach 0 0 0 [2 ^ 16], .firmwareImageDownload 0 (2 ^ 16) 0 1 ⟨none, none⟩,
      .firmwareImageDownload 0 0 (2 ^ 34) 1 ⟨none, none⟩, .firmwareImageDownload 0 0 0 (2 ^ 34) ⟨none, none⟩,
      .firmwareCommitReplace 0 (2 ^ 16) 0, .firmwareCommitReplace 0 0 (2 ^ 3), .firmwareCommitReplaceActivate 0 (2 ^ 16) 0,
      .firmwareCommitReplaceActivate 0 0 (2 ^ 3), .firmwareCommitActivate 0 (2 ^ 16) 0, .firmwareCommitActivate 0 0 (2 ^ 3),
      .firmwareCommitImmediate 0 (2 ^ 16) 0, .firmwareCommitImmediate 0 0 (2 ^ 3), .formatNvm 0 (2 ^ 16) 0 0 0 0,
      .formatNvm 0 0 (2 ^ 32) 0 0 0, .formatNvm 0 0 0 (2 ^ 6) 0 0, .formatNvm 0 0 0 0 (2 ^ 3) 0, .formatNvm 0 0 0 0 0 (2 ^ 4),
      .startJobMediaPatrol 0 (2 ^ 16) 0 0 0 0 0, .startJobMediaPatrol 0 0 (2 ^ 32) 0 0 0 0,
      .startJobMediaPatrol 0 0 0 (2 ^ 32) 0 0 0] : List Instr).all (fun i => !i.wf) = true := by decide +kernel

/-- Ill-formed commands, one for each check. -/
theorem test_ill_formed_refused_4 : ([
      .startJobMediaPatrol 0 0 0 0 (2 ^ 32) 0 0, .startJobMediaPatrol 0 0 0 0 0 (2 ^ 32) 0,
      .startJobSurfaceRetire 0 (2 ^ 16) 0 0 0 0 0, .startJobSurfaceRetire 0 0 (2 ^ 32) 0 0 0 0,
      .startJobSurfaceRetire 0 0 0 (2 ^ 32) 0 0 0, .startJobSurfaceRetire 0 0 0 0 (2 ^ 32) 0 0,
      .startJobSurfaceRetire 0 0 0 0 0 (2 ^ 32) 0, .startJobParityRebuild 0 (2 ^ 16) 0 0 0 0 0,
      .startJobParityRebuild 0 0 (2 ^ 32) 0 0 0 0, .startJobParityRebuild 0 0 0 (2 ^ 32) 0 0 0,
      .startJobParityRebuild 0 0 0 0 (2 ^ 32) 0 0, .startJobParityRebuild 0 0 0 0 0 (2 ^ 32) 0,
      .startJobActuatorRecalibration 0 (2 ^ 16) 0 0 0 0 0, .startJobActuatorRecalibration 0 0 (2 ^ 32) 0 0 0 0,
      .startJobActuatorRecalibration 0 0 0 (2 ^ 32) 0 0 0, .startJobActuatorRecalibration 0 0 0 0 (2 ^ 32) 0 0,
      .startJobActuatorRecalibration 0 0 0 0 0 (2 ^ 32) 0, .startJobAssistRecharacterise 0 (2 ^ 16) 0 0 0 0 0,
      .startJobAssistRecharacterise 0 0 (2 ^ 32) 0 0 0 0, .startJobAssistRecharacterise 0 0 0 (2 ^ 32) 0 0 0,
      .startJobAssistRecharacterise 0 0 0 0 (2 ^ 32) 0 0, .startJobAssistRecharacterise 0 0 0 0 0 (2 ^ 32) 0,
      .startJobConventionalCompact 0 (2 ^ 16) 0 0 0 0 0, .startJobConventionalCompact 0 0 (2 ^ 32) 0 0 0 0] : List Instr).all (fun i => !i.wf) = true := by decide +kernel

/-- Ill-formed commands, one for each check. -/
theorem test_ill_formed_refused_5 : ([
      .startJobConventionalCompact 0 0 0 (2 ^ 32) 0 0 0, .startJobConventionalCompact 0 0 0 0 (2 ^ 32) 0 0,
      .startJobConventionalCompact 0 0 0 0 0 (2 ^ 32) 0, .startJobSepiaExtract 0 (2 ^ 16) 0 0 0 0 0,
      .startJobSepiaExtract 0 0 (2 ^ 32) 0 0 0 0, .startJobSepiaExtract 0 0 0 (2 ^ 32) 0 0 0,
      .startJobSepiaExtract 0 0 0 0 (2 ^ 32) 0 0, .startJobSepiaExtract 0 0 0 0 0 (2 ^ 32) 0,
      .startJobExtendedSelfTest 0 (2 ^ 16) 0 0 0 0 0, .startJobExtendedSelfTest 0 0 (2 ^ 32) 0 0 0 0,
      .startJobExtendedSelfTest 0 0 0 (2 ^ 32) 0 0 0, .startJobExtendedSelfTest 0 0 0 0 (2 ^ 32) 0 0,
      .startJobExtendedSelfTest 0 0 0 0 0 (2 ^ 32) 0, .queryJob 0 (2 ^ 16) 0 0, .queryJob 0 0 (2 ^ 32) 0,
      .cancelJob 0 (2 ^ 16) 0 0, .cancelJob 0 0 (2 ^ 32) 0, .queueRecovery 0 (2 ^ 16) 0 [(0, 1)],
      .queueRecovery 0 0 (2 ^ 32) [(0, 1)], .flush 0 0 0 (2 ^ 32), .flush 0 (2 ^ 16) 0 0, .flush 0 0 (2 ^ 16) 0,
      .write 0 0 0 (2 ^ 32) 0 1 none, .write 0 (2 ^ 16) 0 0 0 1 none] : List Instr).all (fun i => !i.wf) = true := by decide +kernel

/-- Ill-formed commands, one for each check. -/
theorem test_ill_formed_refused_6 : ([
      .write 0 0 (2 ^ 16) 0 0 1 none, .write 0 0 0 0 (2 ^ 64) 1 none, .write 0 0 0 0 0 (2 ^ 17) none,
      .writeZeroes 0 0 0 (2 ^ 32) 0 1, .writeZeroes 0 (2 ^ 16) 0 0 0 1, .writeZeroes 0 0 (2 ^ 16) 0 0 1,
      .writeZeroes 0 0 0 0 (2 ^ 64) 1, .writeZeroes 0 0 0 0 0 (2 ^ 17), .read 0 0 0 (2 ^ 32) 0 1 .ok, .read 0 (2 ^ 16) 0 0 0 1 .ok,
      .read 0 0 (2 ^ 16) 0 0 1 .ok, .read 0 0 0 0 (2 ^ 64) 1 .ok, .read 0 0 0 0 0 (2 ^ 17) .ok, .verify 0 0 0 (2 ^ 32) 0 1 .ok,
      .verify 0 (2 ^ 16) 0 0 0 1 .ok, .verify 0 0 (2 ^ 16) 0 0 1 .ok, .verify 0 0 0 0 (2 ^ 64) 1 .ok,
      .verify 0 0 0 0 0 (2 ^ 17) .ok, .datasetManagementDeallocate 0 0 0 (2 ^ 32) [(0, 1)] false,
      .datasetManagementDeallocate 0 (2 ^ 16) 0 0 [(0, 1)] false, .datasetManagementDeallocate 0 0 (2 ^ 16) 0 [(0, 1)] false,
      .datasetManagementDeallocate 0 0 0 0 [] false, .datasetManagementDeallocate 0 0 0 0 (List.replicate 257 (0, 1)) false,
      .copy 0 0 0 (2 ^ 32) 0 [(0, 1)]] : List Instr).all (fun i => !i.wf) = true := by decide +kernel

/-- Ill-formed commands, one for each check. -/
theorem test_ill_formed_refused_7 : ([
      .copy 0 0 0 0 (2 ^ 64) [(0, 1)], .copy 0 (2 ^ 16) 0 0 0 [(0, 1)], .copy 0 0 (2 ^ 16) 0 0 [(0, 1)], .copy 0 0 0 0 0 [],
      .zoneOpen 0 0 0 (2 ^ 32) 0 false, .zoneOpen 0 0 0 0 (2 ^ 64) false, .zoneOpen 0 (2 ^ 16) 0 0 0 false,
      .zoneOpen 0 0 (2 ^ 16) 0 0 false, .zoneClose 0 0 0 (2 ^ 32) 0 false, .zoneClose 0 0 0 0 (2 ^ 64) false,
      .zoneClose 0 (2 ^ 16) 0 0 0 false, .zoneClose 0 0 (2 ^ 16) 0 0 false, .zoneFinish 0 0 0 (2 ^ 32) 0 false,
      .zoneFinish 0 0 0 0 (2 ^ 64) false, .zoneFinish 0 (2 ^ 16) 0 0 0 false, .zoneFinish 0 0 (2 ^ 16) 0 0 false,
      .zoneReset 0 0 0 (2 ^ 32) 0 false, .zoneReset 0 0 0 0 (2 ^ 64) false, .zoneReset 0 (2 ^ 16) 0 0 0 false,
      .zoneReset 0 0 (2 ^ 16) 0 0 false, .zoneOffline 0 0 0 (2 ^ 32) 0 false, .zoneOffline 0 0 0 0 (2 ^ 64) false,
      .zoneOffline 0 (2 ^ 16) 0 0 0 false, .zoneOffline 0 0 (2 ^ 16) 0 0 false] : List Instr).all (fun i => !i.wf) = true := by decide +kernel

/-- Ill-formed commands of the last rows. -/
theorem test_ill_formed_refused_8 : ([
      .zoneAppend 0 0 0 (2 ^ 32) 0 1 none false, .zoneAppend 0 (2 ^ 16) 0 0 0 1 none false,
      .zoneAppend 0 0 (2 ^ 16) 0 0 1 none false, .zoneAppend 0 0 0 0 (2 ^ 64) 1 none false,
      .zoneAppend 0 0 0 0 0 (2 ^ 17) none false, .orderingFence 0 0 0 (2 ^ 32) 0, .orderingFence 0 (2 ^ 16) 0 0 0,
      .orderingFence 0 0 (2 ^ 16) 0 0, .dmaDrained 0 (2 ^ 32) [], .dmaDrained 0 0 [1], .sramScrub none 0 0 (2 ^ 80) false false,
      .dramScrub (2 ^ 576) 0, .dramScrub 0 (2 ^ 28)] : List Instr).all (fun i => !i.wf) = true := by decide +kernel

/-- The same commands with operands that fit. -/
theorem test_well_formed_accepted : ([
      .registerWrite .core 0 [1] 0, .diagAccessBadSize 0 false 0 0 0, .diagWriteDiscarded 0 0 [1], .counterLowRead 0 0,
      .counterHighRead 0 0, .sqTailDoorbell 0 0 0, .cqHeadDoorbell 0 0 0, .configRead 0 0, .configWrite 0 0 0 0,
      .completionReceived 0 0 0 false 0, .completionTimeout 0 0 0, .tagQuarantineEnd 0 0, .deleteIoSubmissionQueue 0 0 0 [1],
      .deleteIoCompletionQueue 0 0 0, .createIoSubmissionQueue 0 0 0 0 0 0 false false,
      .createIoCompletionQueue 0 0 0 0 0 false false, .getLogPage 0 0 0 0 0 1 false, .identify 0 0 0 0 0 0, .abort 0 0 0 0,
      .getFeatures 0 0 0 0 0, .namespaceDelete 0 0 0, .namespaceAttach 0 0 0 [1], .namespaceDetach 0 0 0 [1],
      .firmwareImageDownload 0 0 0 1 ⟨none, none⟩] : List Instr).all (fun i => i.wf) = true := by decide +kernel

/-! ### The spec's own figures -/

/-- A word of zeros with the bits of a list flipped. -/
def flipped (l : List Nat) : Nat := l.foldl (fun w i => w ^^^ 2 ^ i) 0

/-- d(2,5) is data bit 8·2 + 5: checks R2 and C5 (R681, the example of three faults in one word). -/
theorem test_sram_data_bit : sramDecode (sramSyndrome (flipped [21])) = .corrected 21 ∧
    (sramSyndrome (flipped [21])).findIdx (fun x => x) = 2 ∧ (sramSyndrome (flipped [21])).getD 13 false = true := by decide

/-- P3 alone: R3, C3 and C4. -/
theorem test_sram_parity_bit : sramDecode (sramSyndrome (flipped [67])) = .corrected 67 ∧
    sramSyndrome (flipped [67]) = (List.range 16).map (fun k => decide (k ∈ [3, 11, 12])) := by decide

/-- d(3,3) and P3 together: C4 alone, uncorrectable. -/
theorem test_sram_two_bits : sramDecode (sramSyndrome (flipped [27, 67])) = .uncorrectable ∧
    sramSyndrome (flipped [27, 67]) = (List.range 16).map (fun k => decide (k = 12)) := by decide

/-- Slot 5 at generation 0xFFFF has handle 0xFFFF_0005, and its next generation is 1 (R598, the example of a generation that wraps). -/
theorem test_generation_wraps :
    let j : Nat → Job := fun n => ⟨n, if n = 5 then 0xFFFF else 7, 1, if n = 5 then 4 else 2, 0, 0, 0, 0, 0, [], 0, 0, 0, n = 5⟩
    let b := Block.reset.onNvm (fun n => { n with jobs := (List.range 64).map j })
    jobHandle (j 5) = 0xFFFF0005 ∧ takeSlot b = some (5, 1) := by decide +kernel

/-- 0.28 tokens at 160 ms are one token at 250 ms for a code at its defaults (R649, the example of a burst of recovered sectors). -/
theorem test_sepia_bucket :
    let b := { Block.reset with sys := { Block.reset.sys with devTime := 250000 } }
    let k : SepBucket := ⟨0x0602, 280, 160, 0, 0⟩
    (sepRefill b k).milli = 1000 := by decide +kernel

/-! ### One step -/

/-- An outcome is a next state with a property. -/
def holds (o : Host.Outcome State Fault Refusal) (p : State → Bool) : Bool :=
  match o with
  | .next t => p t
  | _ => false

/-- A step takes the front of the queue. -/
theorem test_step_front : holds (step { State.reset with pending := [.fcsStatus, .vcoreSag] }) (fun t => decide (t.pending = [.vcoreSag])) = true := by decide +kernel

/-- Device Time counts one microsecond with a supply present (R137). -/
theorem test_idle_counts : holds (step (W (fun b => { b with pwr := { b.pwr with v12 := true } }))) (fun t => decide (t.blk.now = 1)) = true := by decide +kernel

/-- The low word is read, then the kept high word (R41). -/
theorem test_wide_counter : holds (execCounterLowRead 0 0x70 (W (fun b => { b with sys := { b.sys with devTime := 0x123456789AB } }))) (fun t => decide (t.blk.sys.reply = .words [0x456789AB])) = true := by decide +kernel

/-- A host's write without factory unlock is counted (R40). -/
theorem test_write_discarded : holds (execRegisterWrite (.port 1) 0x2008 [5] 0 State.reset) (fun t => decide (t.blk.get .SYS_DIAG_WDROP_COUNT 0 = 1 ∧ t.blk.get .SYS_DIAG_WDROP_P1 0 = 1)) = true := by decide +kernel

end Sys2Proof.Tests
end

namespace Sys2Proof.Machine

/-! ## Frames of register fields

Rules for `regsKept`: one for each update of the block, as an equivalence that lets `simp` peel the update off. -/

@[simp] theorem port_val_lt_256 (p : Port) : p.val < 256 := by omega

@[simp] theorem act_val_lt_256 (a : Act) : a.val < 256 := by omega

@[simp] theorem channel_val_lt_256 (n : Fin 32) : n.val < 256 := by omega

@[simp] theorem headNumber_lt_256 (a : Act) (h : Fin 6) : 6 * a.val + h.val < 256 := by omega

@[simp] theorem regsKept_refl (fs : List Field) (b : Block) : regsKept fs b b := fun _ _ _ _ => rfl

theorem regsKept.trans {fs : List Field} {a b c : Block} (h : regsKept fs a b) (k : regsKept fs b c) : regsKept fs a c :=
  fun f i hi hf => (k f i hi hf).trans (h f i hi hf)

theorem regsKept.symm {fs : List Field} {a b : Block} (h : regsKept fs a b) : regsKept fs b a :=
  fun f i hi hf => (h f i hi hf).symm

theorem regsKept.mono {fs gs : List Field} {a b : Block} (h : regsKept gs a b) (hs : gs ⊆ fs) : regsKept fs a b :=
  fun f i hi hf => h f i hi (fun hg => hf (hs hg))

/-- Blocks with the same register table read alike. -/
theorem regsKept_of_regs {fs : List Field} {a b : Block} (h : b.regs = a.regs) : regsKept fs a b :=
  fun f i _ _ => by simp only [Block.get, h]

/-- A step that keeps a frame may be dropped from a longer run. -/
theorem regsKept_iff_of_step {fs : List Field} {b c : Block} (h : regsKept fs b c) (a : Block) :
    regsKept fs a c ↔ regsKept fs a b := ⟨fun k => k.trans h.symm, fun k => k.trans h⟩

/-- A fold of steps each of which keeps a frame keeps it. -/
theorem regsKept_foldl {α : Type} {fs : List Field} {f : Block → α → Block} (h : ∀ b x, regsKept fs b (f b x)) :
    ∀ (l : List α) (b : Block), regsKept fs b (l.foldl f b)
  | [], b => regsKept_refl fs b
  | x :: l, b => (h b x).trans (regsKept_foldl h l (f b x))

/-- A fold of steps each of which leaves the register table alone leaves it alone. -/
theorem foldl_regs {α : Type} {f : Block → α → Block} (h : ∀ b x, (f b x).regs = b.regs) :
    ∀ (l : List α) (b : Block), (l.foldl f b).regs = b.regs
  | [], _ => rfl
  | x :: l, b => (foldl_regs h l (f b x)).trans (h b x)

section Updates

variable {fs : List Field} (a b : Block)

/-! ### The register writes -/

@[simp] theorem regsKept_put {f : Field} {i : Nat} (v : Nat) (hf : f ∈ fs) (hi : i < 256) :
    regsKept fs a (b.put f i v) ↔ regsKept fs a b :=
  regsKept_iff_of_step (fun _ j hj hg => Block.get_put_ne b i j v hi hj (fun e => hg (e ▸ hf))) a

@[simp] theorem regsKept_putSat {f : Field} {i : Nat} (v : Nat) (hf : f ∈ fs) (hi : i < 256) :
    regsKept fs a (b.putSat f i v) ↔ regsKept fs a b := regsKept_put a b _ hf hi

@[simp] theorem regsKept_bump {f : Field} {i : Nat} (n : Nat) (hf : f ∈ fs) (hi : i < 256) :
    regsKept fs a (b.bump f i n) ↔ regsKept fs a b := regsKept_put a b _ hf hi

@[simp] theorem regsKept_putBool {f : Field} {i : Nat} (v : Bool) (hf : f ∈ fs) (hi : i < 256) :
    regsKept fs a (b.putBool f i v) ↔ regsKept fs a b := regsKept_put a b _ hf hi

@[simp] theorem regsKept_putInt {f : Field} {i : Nat} (v : Int) (hf : f ∈ fs) (hi : i < 256) :
    regsKept fs a (b.putInt f i v) ↔ regsKept fs a b := regsKept_put a b _ hf hi

/-! ### The updates of other components -/

@[simp] theorem regsKept_answer (r : Reply) : regsKept fs a (b.answer r) ↔ regsKept fs a b := Iff.rfl
@[simp] theorem regsKept_coreFault : regsKept fs a b.coreFault ↔ regsKept fs a b := Iff.rfl
@[simp] theorem regsKept_onPx (p : Port) (g : PciPort → PciPort) : regsKept fs a (b.onPx p g) ↔ regsKept fs a b := Iff.rfl
@[simp] theorem regsKept_onDoe (p : Port) (g : Doe → Doe) : regsKept fs a (b.onDoe p g) ↔ regsKept fs a b := Iff.rfl
@[simp] theorem regsKept_onNs (g : Nand → Nand) : regsKept fs a (b.onNs g) ↔ regsKept fs a b := Iff.rfl
@[simp] theorem regsKept_onHea (g : Health → Health) : regsKept fs a (b.onHea g) ↔ regsKept fs a b := Iff.rfl
@[simp] theorem regsKept_onAst (x : Act) (g : Assist → Assist) : regsKept fs a (b.onAst x g) ↔ regsKept fs a b := Iff.rfl
@[simp] theorem regsKept_onCh (x : Act) (g : Channel → Channel) : regsKept fs a (b.onCh x g) ↔ regsKept fs a b := Iff.rfl
@[simp] theorem regsKept_onSrv (x : Act) (g : Servo → Servo) : regsKept fs a (b.onSrv x g) ↔ regsKept fs a b := Iff.rfl
@[simp] theorem regsKept_setDrain (n : Nat) (v : Bool) : regsKept fs a (setDrain b n v) ↔ regsKept fs a b := Iff.rfl
@[simp] theorem regsKept_storeMarks (x : Nat) (l : List Bool) : regsKept fs a (storeMarks b x l) ↔ regsKept fs a b := Iff.rfl
@[simp] theorem regsKept_frameSent (x : Act) (n : Nat) : regsKept fs a (frameSent b x n) ↔ regsKept fs a b := Iff.rfl
@[simp] theorem regsKept_abandonReads (p : Port) : regsKept fs a (abandonReads b p) ↔ regsKept fs a b := Iff.rfl

@[simp] theorem regsKept_withSep (x : Sepia) : regsKept fs a { b with sep := x } ↔ regsKept fs a b := Iff.rfl
@[simp] theorem regsKept_withFcs (x : Fcs) : regsKept fs a { b with fcs := x } ↔ regsKept fs a b := Iff.rfl
@[simp] theorem regsKept_withPwr (x : Power) : regsKept fs a { b with pwr := x } ↔ regsKept fs a b := Iff.rfl
@[simp] theorem regsKept_withSpn (x : Spindle) : regsKept fs a { b with spn := x } ↔ regsKept fs a b := Iff.rfl
@[simp] theorem regsKept_withSrv (x : Vector Servo 4) : regsKept fs a { b with srv := x } ↔ regsKept fs a b := Iff.rfl
@[simp] theorem regsKept_withOch (x : Ochre) : regsKept fs a { b with och := x } ↔ regsKept fs a b := Iff.rfl
@[simp] theorem regsKept_withMm (x : Memories) : regsKept fs a { b with mm := x } ↔ regsKept fs a b := Iff.rfl

/-! ### Guarded effects -/

variable {a b}

/-- A guarded effect keeps the frame that its effect keeps where its condition holds. -/
theorem regsKept_guard_of {c : Bool} {f : Block → Block} (h : regsKept fs a b) (hf : c = true → regsKept fs a (f b)) :
    regsKept fs a (b.guard c f) := by
  cases c
  · exact h
  · exact hf rfl

theorem regsKept_guard {c : Bool} {f : Block → Block} (h : regsKept fs a b) (hf : regsKept fs a (f b)) :
    regsKept fs a (b.guard c f) := regsKept_guard_of h (fun _ => hf)

/-- A guarded effect leaves the register table as its effect does. -/
theorem guard_regs {c : Bool} {f : Block → Block} (hf : (f b).regs = b.regs) : (b.guard c f).regs = b.regs := by
  cases c
  · rfl
  · exact hf

end Updates

/-! ### Shared operations -/

section Operations

variable {fs : List Field} (a b : Block)

@[simp] theorem regsKept_touchLink (p : Port) (hf : .PX_LINK_STATE ∈ fs) :
    regsKept fs a (touchLink b p) ↔ regsKept fs a b := by
  unfold touchLink
  dsimp only
  split <;> simp [hf]

@[simp] theorem regsKept_aerUncorrectable (p : Port) (n hdr : Nat) :
    regsKept fs a (aerUncorrectable b p n hdr) ↔ regsKept fs a b := Iff.rfl

@[simp] theorem regsKept_aerAdvisory (p : Port) (n hdr : Nat) :
    regsKept fs a (aerAdvisory b p n hdr) ↔ regsKept fs a b := by
  unfold aerAdvisory
  split <;> simp

@[simp] theorem regsKept_refuseWindow (p : Port) (hdr : Nat) (hf : .PX_RXERR_UR ∈ fs) :
    regsKept fs a (refuseWindow b p hdr) ↔ regsKept fs a b := by
  simp [refuseWindow, hf]

@[simp] theorem regsKept_discardWrite (p : Port) (hc : .SYS_DIAG_WDROP_COUNT ∈ fs) (h0 : .SYS_DIAG_WDROP_P0 ∈ fs)
    (h1 : .SYS_DIAG_WDROP_P1 ∈ fs) : regsKept fs a (discardWrite b p) ↔ regsKept fs a b := by
  unfold discardWrite
  dsimp only
  split <;> simp [hc, h0, h1]

@[simp] theorem regsKept_refreshDirty (hn : .PWR_DIRTY_NOW ∈ fs) (hp : .PWR_DIRTY_PEAK ∈ fs) :
    regsKept fs a (refreshDirty b) ↔ regsKept fs a b := by
  simp [refreshDirty, hn, hp]

@[simp] theorem regsKept_sepToPool (rs : List SepRec) (hk : .SEP_STATE_KEEP ∈ fs) :
    regsKept fs a (sepToPool b rs) ↔ regsKept fs a b := by
  simp only [sepToPool, regsKept_put _ _ _ hk (show 0 < 256 by decide)]
  exact Iff.rfl

@[simp] theorem regsKept_trapRequest (x : Act) (n : Nat) (hf : .TS_STATE_PEND ∈ fs) :
    regsKept fs a (trapRequest b x n) ↔ regsKept fs a b := by
  simp [trapRequest, hf]

variable {b}

/-- A write that needs factory unlock keeps what its effect keeps, beside the count of discarded writes. -/
theorem regsKept_unlockedWrite (w : Agent) {f : Block → Block} (hc : .SYS_DIAG_WDROP_COUNT ∈ fs)
    (h0 : .SYS_DIAG_WDROP_P0 ∈ fs) (h1 : .SYS_DIAG_WDROP_P1 ∈ fs) (hf : regsKept fs b (f b)) :
    regsKept fs b (unlockedWrite b w f) := by
  cases w with
  | core =>
    simp only [unlockedWrite]
    split
    · exact hf
    · exact regsKept_refl fs b
  | port p =>
    simp only [unlockedWrite]
    split
    · exact hf
    · simp [hc, h0, h1]

/-- A write to a channel's registers keeps what its effect keeps, beside the count of discarded writes. -/
theorem regsKept_dxWrite (w : Agent) (n : Fin 32) {f : Block → Block} (hc : .SYS_DIAG_WDROP_COUNT ∈ fs)
    (h0 : .SYS_DIAG_WDROP_P0 ∈ fs) (h1 : .SYS_DIAG_WDROP_P1 ∈ fs) (hf : regsKept fs b (f b)) :
    regsKept fs b (dxWrite b w n f) := by
  cases w with
  | core => exact hf
  | port p =>
    simp only [dxWrite]
    split
    · exact hf
    · simp [hc, h0, h1]

end Operations

/-! ## Commands that leave every register field as it was -/

theorem moveEntry_regs (b : Block) (m : (Nat × Nat) × (Nat × Nat)) : (moveEntry b m).regs = b.regs := by
  unfold moveEntry
  split
  · split
    · rfl
    · rfl
  · rfl

theorem copySpent_regs (b : Block) (c : NCopy) : (copySpent b c).regs = b.regs :=
  foldl_regs (by intros; rfl) _ b

theorem takeBlocks_regs (b : Block) (pool : NPool) (bs : List Nat) : (takeBlocks b pool bs).regs = b.regs :=
  foldl_regs (by intros; rfl) bs _

theorem fillRsv_regs (b : Block) (w : Nat × Bool) : (fillRsv b w).regs = b.regs := by
  unfold fillRsv
  dsimp only
  split
  · rfl
  · split <;> rfl

theorem replenish_regs (b : Block) : (replenish b).regs = b.regs := by
  unfold replenish
  dsimp only
  rw [foldl_regs fillRsv_regs, foldl_regs (fun b r => takeBlocks_regs b _ _)]
  rfl

theorem reserveReplenish_regs (b : Block) : (reserveReplenish b).regs = b.regs := guard_regs (replenish_regs b)

theorem programBlocks_regs (pool : NPool) : ∀ (ns : List Nat) (b : Block) (keys : List Nat),
    (programBlocks pool ns b keys).regs = b.regs
  | [], _, _ => rfl
  | n :: ns, b, keys => programBlocks_regs pool ns (programPage b n pool (keys.take 4)) (keys.drop 4)

theorem metaPages_regs (b : Block) : (metaPages b).regs = b.regs :=
  foldl_regs (fun b _ => programBlocks_regs _ _ b _) _ b

theorem retractParked_regs (a : Act) (bemfMv : Nat) (b : Block) : (retractParked a bemfMv b).regs = b.regs := guard_regs rfl

theorem controlStoreWrite_regs (a : Act) (word : Fin 4096) (data : BitVec 128) (b : Block) :
    (controlStoreWrite a word data b).regs = b.regs := by
  unfold controlStoreWrite
  split <;> rfl

theorem tokenRefill_regs (rates used : List Nat) (b : Block) : (tokenRefill rates used b).regs = b.regs :=
  foldl_regs (by intros; rfl) _ b

theorem referenceStep_regs (b : Block) : (referenceStep b).regs = b.regs := by
  unfold referenceStep
  split <;> rfl

theorem miUp_regs {f : Block → Block} (b : Block) (h : (f b).regs = b.regs) : (miUp b f).regs = b.regs := by
  unfold miUp miServe
  split
  · rfl
  · dsimp only
    split
    · rfl
    · exact h

theorem miReadData_regs (type idx : Nat) (b : Block) : (miReadData type idx b).regs = b.regs := by
  refine miUp_regs b ?_
  dsimp only
  split_ifs <;> rfl

theorem miGet_regs (id : Nat) (b : Block) : (miGet id b).regs = b.regs := by
  refine miUp_regs b ?_
  split <;> rfl

theorem miSet_regs (id v : Nat) (b : Block) : (miSet id v b).regs = b.regs := by
  refine miUp_regs b ?_
  split <;> rfl

theorem actRelease_regs (b : Block) : (actRelease b).regs = b.regs := by
  unfold actRelease
  split
  · rfl
  · exact guard_regs rfl

/-! ## The caches and memory -/

theorem CachesOnly.regsKept {b b' : Block} (h : CachesOnly b b') : regsKept cacheFields b b' := h.2

theorem storeByte_regs (r : NMap Byte × Block) (x : Nat) (d : Byte) : (storeByte r x d).2.regs = r.2.regs := by
  unfold storeByte
  split
  · rfl
  · rfl
  · rfl
  · split <;> rfl
  · rfl

/-- Bytes stored one after the other leave the register table alone. -/
theorem foldl_storeByte_regs (dst : Nat) : ∀ (l : List (Nat × Nat)) (r : NMap Byte × Block),
    (l.foldl (fun (q : NMap Byte × Block) (d : Nat × Nat) => storeByte q (dst + d.2) (BitVec.ofNat 8 d.1)) r).2.regs = r.2.regs
  | [], _ => rfl
  | _ :: l, r => (foldl_storeByte_regs dst l _).trans (storeByte_regs r _ _)

theorem fcsRead_regsKept (bank : Fin 2) (addr len dst : Nat) (r : NMap Byte × Block) :
    regsKept cacheFields r.2 (fcsRead bank addr len dst r).2 := by
  unfold fcsRead
  dsimp only
  split_ifs
  · simp
  · rw [regsKept_answer]
    refine regsKept.trans ?_ (rangeAccess_only _ _ _ _ _).regsKept
    rw [regsKept_storeMarks]
    exact regsKept_of_regs (foldl_storeByte_regs dst _ _)
  · simp

theorem markLine_regs (b : Block) (line : Nat) (poison : Bool) : (markLine b line poison).regs = b.regs := by
  unfold markLine
  dsimp only
  split <;> rfl

/-- The patrol's step writes its progress and its passes alone. -/
theorem scrubNext_regsKept (b : Block) : regsKept [.MEM_SCRUB_PASSES, .MEM_SCRUB_PROG] b (scrubNext b) := by
  unfold scrubNext
  dsimp only
  split <;> simp

theorem dramScrub_regsKept (bad held : Nat) (r : NMap Byte × Block) :
    regsKept [.MEM_DRAM_CORR, .MEM_DRAM_UNCORR, .MEM_SCRUB_PASSES, .MEM_SCRUB_PROG] r.2 (dramScrub bad held r).2 := by
  unfold dramScrub
  split
  · simp
  · dsimp only
    split
    · refine regsKept.trans ?_ ((scrubNext_regsKept _).mono (by decide))
      exact (regsKept_bump _ _ _ (by decide) (by decide)).mpr (regsKept_of_regs (markLine_regs _ _ _))
    · refine regsKept.trans ?_ ((scrubNext_regsKept _).mono (by decide))
      refine regsKept.trans (b := r.2.bump .MEM_DRAM_UNCORR 0) (by simp) (regsKept_of_regs ?_)
      split
      · exact markLine_regs _ _ _
      · exact markLine_regs _ _ _

theorem cmbWrite_regsKept (p : Port) (off : Nat) (data : List Byte) (poison enabled : Bool) (hdr : Nat) (m : NMap Byte)
    (b : Block) :
    regsKept [.PX_LINK_STATE, .PX_RXERR_POISON, .PX_RXERR_UR] b (cmbWrite p off data poison enabled hdr m b).2 := by
  have logged : ∀ c, regsKept [.PX_LINK_STATE, .PX_RXERR_POISON, .PX_RXERR_UR] c
      (if poison then (aerUncorrectable c p 12 hdr).bump .PX_RXERR_POISON p.val else c) := by
    intro c
    split <;> simp
  unfold cmbWrite
  dsimp only
  split
  · simp
  · refine regsKept.trans (b := touchLink b p) (by simp) ?_
    split
    · exact logged _
    · exact (logged _).trans (regsKept_of_regs rfl)

/-! ## The diagnostic window -/

theorem execDiagAccessBadSize_regsKept (s : State) (p : Port) (write : Bool) (off size hdr : Nat) :
    ∃ t, execDiagAccessBadSize p write off size hdr s = .next t ∧
      regsKept [.PX_LINK_STATE, .PX_RXERR_UR] s.blk t.blk := by
  refine ⟨_, rfl, regsKept_guard (regsKept_refl _ s.blk) ?_⟩
  dsimp only
  split <;> simp

@[simp] theorem unlocked_touchLink (b : Block) (p q : Port) : unlocked (touchLink b p) q = unlocked b q := by
  have h : (touchLink b p).px = vupd b.px p (fun x => { x with tlpAt := b.now }) := by
    unfold touchLink
    dsimp only
    split <;> rfl
  by_cases e : p = q
  · subst e; simp [unlocked, h, vget, vupd]
  · have e' : p.val ≠ q.val := fun k => e (Fin.ext k)
    simp [unlocked, h, vget, vupd, Vector.getElem_set_ne _ _ e']

/-- A host's write that is not let through writes the link's state and the counts of what is refused or discarded alone. -/
theorem registerWrite_discarded_regsKept (p : Port) (off : Nat) (vals : List Word) (hdr : Nat) (b : Block)
    (h : (!unlocked b p || dxFirmware off) = true) :
    regsKept [.PX_LINK_STATE, .PX_RXERR_UR, .SYS_DIAG_WDROP_COUNT, .SYS_DIAG_WDROP_P0, .SYS_DIAG_WDROP_P1] b
      (registerWrite (.port p) off vals hdr b) := by
  have held : (unlocked b p && !dxFirmware off) = false := by
    rw [Bool.or_eq_true, Bool.not_eq_true'] at h
    rcases h with h | h <;> simp [h]
  unfold registerWrite
  simp only [unlocked_touchLink, held]
  split <;> simp

theorem execDiagWriteDiscarded_regsKept (s : State) (p : Port) (off : Nat) (vals : List Word) :
    ∃ t, execDiagWriteDiscarded p off vals s = .next t ∧
      regsKept [.PX_LINK_STATE, .PX_RXERR_UR, .SYS_DIAG_WDROP_COUNT, .SYS_DIAG_WDROP_P0, .SYS_DIAG_WDROP_P1] s.blk t.blk :=
  ⟨_, rfl, regsKept_guard_of (regsKept_refl _ s.blk) fun hc =>
    registerWrite_discarded_regsKept p off vals _ s.blk ((Bool.and_eq_true _ _).mp hc).2⟩

theorem rtwaitClr_regsKept (w : Agent) (b : Block) :
    regsKept [.FAB_RTWAIT_CLR, .FAB_RTWAIT_MAX, .SYS_DIAG_WDROP_COUNT, .SYS_DIAG_WDROP_P0, .SYS_DIAG_WDROP_P1] b
      (rtwaitClr w b) :=
  regsKept_unlockedWrite w (by decide) (by decide) (by decide) (by simp)

theorem brakeTest_regsKept (w : Agent) (b : Block) :
    regsKept [.SPN_BRAKE_TEST, .SYS_DIAG_WDROP_COUNT, .SYS_DIAG_WDROP_P0, .SYS_DIAG_WDROP_P1] b (brakeTest w b) :=
  regsKept_unlockedWrite w (by decide) (by decide) (by decide) (by simp)

/-! ## The FCS, power and the spindle -/

@[simp] theorem regsKept_fcsReturn {fs : List Field} (a b : Block) (code : Nat) (hl : .FCS_STAT_LAST ∈ fs) :
    regsKept fs a (fcsReturn b code) ↔ regsKept fs a b := by
  simp [fcsReturn, hl]

theorem fcsStart_regsKept (b : Block) (o : FcsOp) :
    regsKept [.FCS_STAT_BUSY, .FCS_STAT_LAST, .FCS_STAT_OPBANK] b (fcsStart b o) := by
  simp [fcsStart]

theorem fcsProgram_regsKept (bank : Fin 2) (addr : Nat) (data : List Byte) (b : Block) :
    regsKept [.FCS_STAT_BUSY, .FCS_STAT_LAST, .FCS_STAT_OPBANK] b (fcsProgram bank addr data b) := by
  unfold fcsProgram
  dsimp only
  split
  · simp
  · split
    · simp
    · exact fcsStart_regsKept b _

theorem fcsErase_regsKept (bank : Fin 2) (addr : Nat) (b : Block) :
    regsKept [.FCS_STAT_BUSY, .FCS_STAT_LAST, .FCS_STAT_OPBANK] b (fcsErase bank addr b) := by
  unfold fcsErase
  dsimp only
  split
  · simp
  · exact fcsStart_regsKept b _

theorem enterMode_regsKept (b : Block) (m : Mode) (cause : Nat) :
    regsKept [.PWR_MODE_CAUSE, .PWR_MODE_MODE, .PWR_MODE_REVERSING, .PWR_MODE_TARGET] b (enterMode b m cause) := by
  simp [enterMode]

theorem beginBoot_regsKept (b : Block) :
    regsKept [.PWR_MODE_CAUSE, .PWR_MODE_MODE, .PWR_MODE_REVERSING, .PWR_MODE_TARGET] b (beginBoot b) :=
  (regsKept_of_regs rfl).trans (enterMode_regsKept _ _ _)

theorem v12Stable_regsKept (b : Block) :
    regsKept [.PWR_MODE_CAUSE, .PWR_MODE_MODE, .PWR_MODE_REVERSING, .PWR_MODE_TARGET] b (v12Stable b) := by
  unfold v12Stable
  dsimp only
  split
  · exact (regsKept_of_regs rfl).trans (beginBoot_regsKept _)
  · exact regsKept_of_regs rfl

theorem pwdisDeassert_regsKept (b : Block) :
    regsKept [.PWR_MODE_CAUSE, .PWR_MODE_MODE, .PWR_MODE_REVERSING, .PWR_MODE_TARGET] b (pwdisDeassert b) := by
  unfold pwdisDeassert
  dsimp only
  split
  · exact (regsKept_of_regs rfl).trans (beginBoot_regsKept _)
  · exact regsKept_of_regs rfl

theorem startFlush_regsKept (b : Block) : regsKept [.PWR_DIRTY_NOW, .PWR_DIRTY_PEAK] b (startFlush b) := by
  unfold startFlush
  refine regsKept.trans ?_ (regsKept_of_regs (metaPages_regs _))
  simp [journalWritten]

theorem pendingListProgrammed_regsKept (b : Block) :
    regsKept [.PWR_DIRTY_NOW, .PWR_DIRTY_PEAK, .PWR_PENDING_ROWS] b (pendingListProgrammed b) := by
  unfold pendingListProgrammed
  split
  · refine regsKept.trans ?_ ((startFlush_regsKept _).mono (by decide))
    refine (regsKept_put _ _ _ (by decide) (by decide)).mpr ?_
    split <;> simp
  · simp

theorem locateDone_regsKept (rises : List Nat) (b : Block) : regsKept [.SPN_STATE_STATE] b (locateDone rises b) := by
  refine regsKept_guard (regsKept_refl _ b) ?_
  simp

theorem beginAttempt_regsKept (b : Block) : regsKept [.SPN_SPINUP_TRIES] b (beginAttempt b) := by
  unfold beginAttempt
  dsimp only
  split
  · simp
  · split
    · simp
    · exact regsKept_of_regs rfl

theorem startStandstill_regsKept (b : Block) : regsKept [.SPN_SPINUP_TRIES, .SPN_STATE_STATE] b (startStandstill b) := by
  refine ((beginAttempt_regsKept b).mono (by decide)).trans ?_
  simp [startStandstill]

theorem seeBus_regsKept (b : Block) (mv : Nat) : regsKept [.SPN_BUS_MAX, .SPN_BUS_NOW] b (seeBus b mv) := by
  simp [seeBus]

theorem execClampComparator_regsKept (s : State) (high : Bool) (busMv : Nat) :
    ∃ t, execClampComparator high busMv s = .next t ∧ regsKept [.SPN_BUS_MAX, .SPN_BUS_NOW] s.blk t.blk := by
  refine ⟨_, rfl, (seeBus_regsKept s.blk busMv).trans (regsKept_of_regs ?_)⟩
  dsimp only
  split
  · rfl
  · split <;> rfl

/-! ## Servo, heads, channel and sequencer -/

theorem captureFull_regsKept (a : Act) (b : Block) :
    regsKept [.SRV_CAP_CTL_DONE, .SRV_CAP_CTL_START] b (captureFull a b) := by
  refine regsKept_guard (regsKept_refl _ b) ?_
  simp

theorem writeReadyReport_regsKept (a : Act) (b : Block) : regsKept [.AST_STATE_LOOP] b (writeReadyReport a b) :=
  regsKept_guard (regsKept_refl _ b) (by simp)

theorem wireFast_regsKept (b : Block) (a : Act) (h : Fin 6) (assist heater : Nat) :
    regsKept [.AST_CMD_ASSIST, .AST_CMD_HEATER, .AST_HCLR_HTR] b (wireFast b a h.val assist heater) := by
  simp [wireFast]

theorem touchdownReapply_regsKept (a : Act) (h : Fin 6) (b : Block) :
    regsKept [.AST_CMD_ASSIST, .AST_CMD_HEATER, .AST_HCLR_HTR] b (touchdownReapply a h b) := by
  refine regsKept_guard (regsKept_refl _ b) ?_
  dsimp only
  rw [regsKept_onSrv]
  exact (regsKept_of_regs rfl).trans (wireFast_regsKept _ a h _ _)

/-- A frame that does not address the safe-state register leaves every register field alone. -/
theorem wireWrite_regs (b : Block) (a : Act) (head addr data : Nat) (h : addr % 256 ≠ 0) :
    (wireWrite b a head addr data).regs = b.regs := by
  unfold wireWrite preampTakes
  refine foldl_regs (fun b x => ?_) _ _
  simp [h]

/-- The preamp's own map lies above the safe-state register (R249). -/
theorem preampAddr_mod_ne_zero (n : Nat) : preampAddr n % 256 ≠ 0 := by
  unfold preampAddr
  omega

theorem preampFaultRetry_regsKept (a : Act) (h : Fin 6) (b : Block) :
    regsKept [.AST_STATE_LOOP] b (preampFaultRetry a h b) := by
  refine regsKept_guard (regsKept_refl _ b) ?_
  have sent : ∀ c : Block, regsKept [.AST_STATE_LOOP] c (wireWrite c a h.val (preampAddr 3) 0) := fun c =>
    regsKept_of_regs (wireWrite_regs c a h.val _ 0 (preampAddr_mod_ne_zero 3))
  dsimp only
  split
  · exact (regsKept_put _ _ _ (by decide) (by simp)).mpr ((regsKept_of_regs rfl).trans (sent _))
  · exact (regsKept_of_regs rfl).trans (sent _)

theorem stopRequest_regsKept (b : Block) (a : Act) : regsKept [.TS_STATE_PEND, .TS_STATE_STOPREQ] b (stopRequest b a) := by
  unfold stopRequest
  split <;> simp

/-! ## The NAND, the ports, temperature and the recorder -/

theorem journalEntry_regsKept (b : Block) : regsKept [.PWR_DIRTY_NOW, .PWR_DIRTY_PEAK] b (journalEntry b) := by
  unfold journalEntry
  split <;> simp

theorem gcCopyCommit_regsKept (die : Fin 2) (errors : Nat) (b : Block) :
    regsKept [.NS_EVT_WLMOVE, .NS_READ_REFRESH, .PWR_DIRTY_NOW, .PWR_DIRTY_PEAK] b (gcCopyCommit die errors b) := by
  unfold gcCopyCommit
  split
  · simp
  · next c _ =>
    refine regsKept_guard (regsKept_refl _ b) ?_
    have moved : ∀ b' : Block, b'.regs = b.regs →
        regsKept [.NS_EVT_WLMOVE, .NS_READ_REFRESH, .PWR_DIRTY_NOW, .PWR_DIRTY_PEAK] b
          (journalEntry (copySpent (c.moved.foldl moveEntry b') c)) := fun b' hb =>
      (regsKept_of_regs (((copySpent_regs _ c).trans (foldl_regs moveEntry_regs _ _)).trans hb)).trans
        ((journalEntry_regsKept _).mono (by decide))
    dsimp only
    split
    · exact (regsKept_bump _ _ _ (by decide) (by decide)).mpr (moved _ rfl)
    · exact (regsKept_bump _ _ _ (by decide) (by decide)).mpr (moved _ rfl)
    · exact moved _ rfl

theorem invalidationRequest_regsKept (p : Port) (page pages : Nat) (b : Block) :
    regsKept [.PX_LINK_STATE] b (invalidationRequest p page pages b) :=
  regsKept_guard (regsKept_refl _ b) (by simp)

theorem invalidateCompletion_regsKept (p : Port) (b : Block) :
    regsKept [.PX_ATS_INV, .PX_LINK_STATE] b (invalidateCompletion p b) :=
  regsKept_guard (regsKept_refl _ b) (by simp)

theorem doeAbort_regsKept (p : Port) (b : Block) : regsKept [.PX_DOE_ABORTS, .PX_LINK_STATE] b (doeAbort p b) := by
  simp [doeAbort]

theorem linkDown_regsKept (b : Block) (p : Port) :
    regsKept [.PX_LINKEVT_DOWN, .PX_LINK_DSTATE, .PX_LINK_FLIT, .PX_LINK_RATE, .PX_LINK_STATE, .PX_LINK_WIDTH] b
      (linkDown b p) := by
  simp [linkDown]

theorem resonatorStep_regsKept (b : Block) : regsKept [.THM_RES_CORR, .THM_RES_NOCOMP] b (resonatorStep b) := by
  unfold resonatorStep
  split
  · simp
  · dsimp only
    split <;> simp

theorem ochreDaily_regsKept (b : Block) : regsKept [.OCH_STATE_SAMPLES] b (ochreDaily b) := by
  refine regsKept_guard (regsKept_refl _ b) ?_
  simp

theorem sepFlushAll_regsKept (b : Block) : regsKept [.SEP_STATE_KEEP] b (sepFlushAll b) := by
  unfold sepFlushAll
  dsimp only
  split
  · simp
  · simp

theorem sepiaBufferFlush_regsKept (b : Block) :
    regsKept [.SEP_FLUSH2_LASTSTART, .SEP_FLUSH_HALF, .SEP_FLUSH_SEV, .SEP_STATE_KEEP, .SEP_STATE_LAST] b
      (sepiaBufferFlush b) := by
  unfold sepiaBufferFlush
  split
  · simp
  · split
    · simpa using (sepFlushAll_regsKept b).mono (by decide)
    · split
      · simp
      · split
        · simp
        · simp

/-- The register fields that putting a record into the buffer writes: no number is taken, and nothing is suppressed. -/
def bufferFields : List Field := [.SEP_FLUSH2_LASTSTART, .SEP_FLUSH_FULL, .SEP_STATE_KEEP, .SEP_STATE_LAST]

theorem sepAppend_regs (b : Block) (x : Bool) (r : SepRec) : (sepAppend b x r).regs = b.regs := by
  unfold sepAppend
  split <;> rfl

theorem sepEnterHalf_regs (b b' : Block) (r : SepRec) (h : sepEnterHalf b r = some b') : b'.regs = b.regs := by
  unfold sepEnterHalf at h
  rcases either_some h with rfl | rfl <;> exact sepAppend_regs b _ r

theorem sepEnterCritical_regsKept (b : Block) (r : SepRec) : regsKept bufferFields b (sepEnterCritical b r) := by
  have counted : ∀ b' : Block, b'.regs = b.regs → regsKept bufferFields b (b'.bump .SEP_FLUSH_FULL 0) := fun b' hb =>
    (regsKept_bump b b' 1 (by decide) (by decide)).mpr (regsKept_of_regs hb)
  unfold sepEnterCritical
  dsimp only
  split
  · exact regsKept_of_regs rfl
  · split
    · exact counted _ rfl
    · exact counted _ rfl
    · exact counted _ rfl
    · split
      · exact regsKept_of_regs rfl
      · exact counted _ rfl

theorem sepBuffer_regsKept (b : Block) (r : SepRec) : regsKept bufferFields b (sepBuffer b r) := by
  unfold sepBuffer
  split
  · simp [bufferFields]
  · dsimp only
    refine regsKept.trans (b := if b.cfgN .REC_FLUSH_SEV ≤ r.severity then
      { b with sep := { b.sep with flushDue := true } } else b) ?_ ?_
    · split <;> exact regsKept_of_regs rfl
    · generalize (if b.cfgN .REC_FLUSH_SEV ≤ r.severity then
        { b with sep := { b.sep with flushDue := true } } else b) = c
      cases h : sepEnterHalf c r with
      | some b' => exact regsKept_of_regs (sepEnterHalf_regs c b' r h)
      | none => exact sepEnterCritical_regsKept c r

theorem sepEnterHeld_regsKept (b : Block) : regsKept bufferFields b (sepEnterHeld b) :=
  (regsKept_of_regs rfl).trans (regsKept_foldl sepBuffer_regsKept _ _)

theorem sepiaFlushComplete_regsKept (b : Block) :
    regsKept [.SEP_FLUSH2_LASTSTART, .SEP_FLUSH_FULL, .SEP_STATE_KEEP, .SEP_STATE_LAST, .SEP_STATE_WT] b
      (sepiaFlushComplete b) := by
  unfold sepiaFlushComplete
  split
  · refine regsKept.trans ?_ ((sepEnterHeld_regsKept _).mono (by decide))
    simp
  · split
    · refine regsKept.trans ?_ ((sepEnterHeld_regsKept _).mono (by decide))
      simp
    · simp

/-! ## DMA channels -/

theorem dmaGo_regsKept (w : Agent) (n : Fin 32) (b : Block) :
    regsKept (cacheFields ++ [.DX_CTL_n_GO, .DX_STAT_n_BUSY, .DX_STAT_n_ERR, .SYS_DIAG_WDROP_COUNT, .SYS_DIAG_WDROP_P0,
      .SYS_DIAG_WDROP_P1]) b (dmaGo w n b) := by
  refine regsKept_dxWrite w n (by decide) (by decide) (by decide) (regsKept_guard (regsKept_refl _ b) ?_)
  dsimp only
  split
  · simp
  · split
    · simp
    · refine regsKept.trans ?_ ((lineAccess_only _ _).regsKept.mono (by decide))
      simp

theorem dmaPause_regsKept (w : Agent) (n : Fin 32) (b : Block) :
    regsKept [.DX_CTL_n_PAUSE, .SYS_DIAG_WDROP_COUNT, .SYS_DIAG_WDROP_P0, .SYS_DIAG_WDROP_P1] b (dmaPause w n b) := by
  refine regsKept_dxWrite w n (by decide) (by decide) (by decide) ?_
  dsimp only
  split <;> simp

theorem dmaResume_regsKept (w : Agent) (n : Fin 32) (b : Block) :
    regsKept [.DX_CTL_n_PAUSE, .DX_STAT_n_PAUSED, .SYS_DIAG_WDROP_COUNT, .SYS_DIAG_WDROP_P0, .SYS_DIAG_WDROP_P1] b
      (dmaResume w n b) :=
  regsKept_dxWrite w n (by decide) (by decide) (by decide) (by simp)

theorem dmaStop_regsKept (w : Agent) (n : Fin 32) (b : Block) :
    regsKept [.DX_CTL_n_STOP, .SYS_DIAG_WDROP_COUNT, .SYS_DIAG_WDROP_P0, .SYS_DIAG_WDROP_P1] b (dmaStop w n b) := by
  refine regsKept_dxWrite w n (by decide) (by decide) (by decide) ?_
  split <;> simp

theorem dxStatClear_regsKept (w : Agent) (n : Fin 32) (done poison : Bool) (b : Block) :
    regsKept [.DX_STAT_n_DONE, .DX_STAT_n_POISON, .SYS_DIAG_WDROP_COUNT, .SYS_DIAG_WDROP_P0, .SYS_DIAG_WDROP_P1] b
      (dxStatClear w n done poison b) := by
  refine regsKept_dxWrite w n (by decide) (by decide) (by decide) ?_
  cases done <;> cases poison <;> simp

/-! ## The obligation -/

/-- Settles O54: each clause is the frame of its command's meaning. -/
theorem registerFrames : Obligations.RegisterFrames :=
  ⟨fun _ => ⟨_, rfl, rfl⟩,
    fun s bank addr len dst => ⟨_, rfl, fcsRead_regsKept bank addr len dst (s.mem, s.blk)⟩,
    fun _ => ⟨_, rfl, rfl⟩,
    fun _ _ => ⟨_, rfl, rfl⟩,
    fun _ _ => ⟨_, rfl, guard_regs rfl⟩,
    fun s a bemfMv => ⟨_, rfl, retractParked_regs a bemfMv s.blk⟩,
    fun s a => ⟨_, rfl, writeReadyReport_regsKept a s.blk⟩,
    fun _ _ => ⟨_, rfl, rfl⟩,
    fun s a word data => ⟨_, rfl, controlStoreWrite_regs a word data s.blk⟩,
    fun s => ⟨_, rfl, reserveReplenish_regs s.blk⟩,
    fun s p page pages => ⟨_, rfl, invalidationRequest_regsKept p page pages s.blk⟩,
    fun s rates used => ⟨_, rfl, tokenRefill_regs rates used s.blk⟩,
    fun s => ⟨_, rfl, referenceStep_regs s.blk⟩,
    fun s type idx => ⟨_, rfl, miReadData_regs type idx s.blk⟩,
    fun s id => ⟨_, rfl, miGet_regs id s.blk⟩,
    fun s id v => ⟨_, rfl, miSet_regs id v s.blk⟩,
    fun _ _ _ => ⟨_, rfl, rfl⟩,
    fun _ _ _ => ⟨_, rfl, rfl⟩,
    fun s => ⟨_, rfl, actRelease_regs s.blk⟩,
    execDiagAccessBadSize_regsKept,
    execDiagWriteDiscarded_regsKept,
    fun s w => ⟨_, rfl, rtwaitClr_regsKept w s.blk⟩,
    fun s bank addr data => ⟨_, rfl, fcsProgram_regsKept bank addr data s.blk⟩,
    fun s bank addr => ⟨_, rfl, fcsErase_regsKept bank addr s.blk⟩,
    fun s => ⟨_, rfl, v12Stable_regsKept s.blk⟩,
    fun s => ⟨_, rfl, pendingListProgrammed_regsKept s.blk⟩,
    fun s => ⟨_, rfl, pwdisDeassert_regsKept s.blk⟩,
    fun s rises => ⟨_, rfl, locateDone_regsKept rises s.blk⟩,
    fun s => ⟨_, rfl, regsKept_guard (regsKept_refl _ s.blk) (startStandstill_regsKept s.blk)⟩,
    execClampComparator_regsKept,
    fun s w => ⟨_, rfl, brakeTest_regsKept w s.blk⟩,
    fun s a => ⟨_, rfl, captureFull_regsKept a s.blk⟩,
    fun s a h => ⟨_, rfl, touchdownReapply_regsKept a h s.blk⟩,
    fun s a h => ⟨_, rfl, preampFaultRetry_regsKept a h s.blk⟩,
    fun _ _ => ⟨_, rfl, by simp⟩,
    fun s _ => ⟨_, rfl, regsKept_guard (regsKept_refl _ s.blk) (by simp)⟩,
    fun s a => ⟨_, rfl, stopRequest_regsKept s.blk a⟩,
    fun s die errors => ⟨_, rfl, gcCopyCommit_regsKept die errors s.blk⟩,
    fun s _ => ⟨_, rfl, regsKept_guard (regsKept_refl _ s.blk) (by simp)⟩,
    fun s _ => ⟨_, rfl, regsKept_guard (regsKept_refl _ s.blk) (by simp)⟩,
    fun s _ => ⟨_, rfl, regsKept_guard (regsKept_refl _ s.blk) (by simp)⟩,
    fun _ _ _ _ => ⟨_, rfl, by simp⟩,
    fun _ _ _ _ => ⟨_, rfl, by simp⟩,
    fun s p => ⟨_, rfl, invalidateCompletion_regsKept p s.blk⟩,
    fun s p => ⟨_, rfl, regsKept_guard (regsKept_refl _ s.blk) (doeAbort_regsKept p s.blk)⟩,
    fun s => ⟨_, rfl, resonatorStep_regsKept s.blk⟩,
    fun s => ⟨_, rfl, ochreDaily_regsKept s.blk⟩,
    fun s => ⟨_, rfl, sepiaBufferFlush_regsKept s.blk⟩,
    fun s => ⟨_, rfl, sepiaFlushComplete_regsKept s.blk⟩,
    fun s w n => ⟨_, rfl, dmaGo_regsKept w n s.blk⟩,
    fun s w n => ⟨_, rfl, dmaPause_regsKept w n s.blk⟩,
    fun s w n => ⟨_, rfl, dmaResume_regsKept w n s.blk⟩,
    fun s w n => ⟨_, rfl, dmaStop_regsKept w n s.blk⟩,
    fun s w n done poison => ⟨_, rfl, dxStatClear_regsKept w n done poison s.blk⟩,
    fun s bad held => ⟨_, rfl, dramScrub_regsKept bad held (s.mem, s.blk)⟩,
    fun s _ => ⟨_, rfl, regsKept_guard (regsKept_refl _ s.blk) (by simp)⟩,
    fun s p => ⟨_, rfl, regsKept_guard (regsKept_refl _ s.blk) (by simpa using linkDown_regsKept s.blk p)⟩,
    fun s _ => ⟨_, rfl, regsKept_guard (regsKept_refl _ s.blk) (by simp)⟩,
    fun s p off data poison enabled hdr => ⟨_, rfl, cmbWrite_regsKept p off data poison enabled hdr s.mem s.blk⟩,
    fun _ _ => ⟨_, rfl, by simp⟩⟩

/-! ## The state after reset -/

/-- A field that nothing has written reads its initial value. -/
theorem Block.get_of_regs_nil (b : Block) (f : Field) (i : Nat) (h : b.regs = []) : b.get f i = f.init := by
  rw [Block.get, h, nget]

theorem Field.init_of_val {f : Field} {v : Nat} (h : f.info.reset = .val v) : f.init = v := by
  rw [Field.init, h]

/-- Settles O57: the register table is empty at reset, so that each field reads its Reset entry; memory lists no byte. -/
theorem resetState : Obligations.ResetState := by
  have reads : ∀ (f : Field) (i v : Nat), f.info.reset = .val v → State.reset.blk.get f i = v := fun f i v h =>
    (Block.get_of_regs_nil _ f i rfl).trans (Field.init_of_val h)
  exact ⟨rfl, rfl, fun _ => rfl, reads, reads _ 0 _ rfl, reads _ 0 _ rfl⟩

/-! ## Register writes -/

/-- One field of a register written with its bits of a word. -/
def writeField (w : Word) (b : Block) (fi : Field × Nat) : Block :=
  if ownCommandField fi.1 || (unlockOnly fi.1 && !anyUnlocked b) then b
  else if dxHeld b fi.1 fi.2 then b.put .DX_STAT_n_ERR fi.2 3
  else
    let new := accessWrite fi.1.info.access (b.get fi.1 fi.2) (w.toNat / 2 ^ fi.1.info.lo % 2 ^ fi.1.width)
    if new = b.get fi.1 fi.2 then b else b.put fi.1 fi.2 new

theorem writeFields_eq_foldl (b : Block) (off : Nat) (w : Word) :
    writeFields b off w = (fieldsAt off).foldl (writeField w) b := rfl

/-- What the write of one field can do: nothing, an error shown for a held address, or the field's new value where its access type
takes writes. -/
theorem writeField_cases (w : Word) (b : Block) (g : Field) (j : Nat) :
    writeField w b (g, j) = b ∨
    (dxHeld b g j = true ∧ writeField w b (g, j) = b.put .DX_STAT_n_ERR j 3) ∨
    (g.info.access ≠ .ro ∧ ∃ v, writeField w b (g, j) = b.put g j v) := by
  unfold writeField
  dsimp only
  split_ifs with hown hheld hsame
  · exact .inl rfl
  · exact .inr (.inl ⟨hheld, rfl⟩)
  · exact .inl rfl
  · refine .inr (.inr ⟨fun hro => hsame ?_, _, rfl⟩)
    rw [hro]
    rfl

/-- What an access type makes of a field is its old value or fits the field. -/
theorem accessWrite_eq_old_or_lt (a : Access) (old : Nat) {v n : Nat} (hn : 0 < n) (hv : v < 2 ^ n) :
    accessWrite a old v = old ∨ accessWrite a old v < 2 ^ n := by
  have hone : 1 < 2 ^ n := Nat.one_lt_two_pow hn.ne'
  cases a with
  | ro => exact .inl rfl
  | rw => exact .inr hv
  | rw1c =>
    unfold accessWrite
    split_ifs
    · exact .inr (Nat.zero_lt_of_lt hone)
    · exact .inl rfl
  | rw1s =>
    unfold accessWrite
    split_ifs
    · exact .inr hone
    · exact .inl rfl
  | wo => exact .inl rfl

/-- The value that a field is left with by its own write. -/
theorem writeField_get_same (w : Word) (b : Block) (f : Field) (i : Nat) (hw : 0 < f.width)
    (ho : ownCommandField f = false) (hd : dxHeld b f i = false) :
    (writeField w b (f, i)).get f i = (if unlockOnly f = true ∧ anyUnlocked b = false then b.get f i
      else accessWrite f.info.access (b.get f i) (w.toNat / 2 ^ f.info.lo % 2 ^ f.width)) := by
  unfold writeField
  simp only [ho, hd, Bool.false_or, Bool.and_eq_true, Bool.not_eq_true', Bool.false_eq_true, if_false]
  split_ifs with hu hsame
  · rfl
  · exact hsame.symm
  · rw [Block.get_put_same]
    exact Nat.mod_eq_of_lt
      ((accessWrite_eq_old_or_lt _ _ hw (Nat.mod_lt _ (by positivity))).resolve_left hsame)

/-! ### The register map (R37) -/

theorem Field.mem_all (f : Field) : f ∈ Field.all := by
  have hlt : f.ctorIdx < 466 := by cases f <;> decide
  exact List.mem_map.mpr ⟨f.ctorIdx, List.mem_range.mpr hlt, Field.ofNat_ctorIdx f⟩

theorem Field.all_nodup : Field.all.Nodup := by
  refine List.Nodup.of_map Field.ctorIdx ?_
  have h : Field.all.map Field.ctorIdx = List.range 466 := by decide +kernel
  rw [h]
  exact List.nodup_range

/-- A row of the register tables fits the map: at most 256 places, all of them inside the 1 MiB register space, and at least
one bit. -/
def Field.fitsMap (f : Field) : Bool :=
  decide (f.info.outer * f.info.inner ≤ 256) &&
    decide (f.info.offset + (f.info.outer - 1) * f.info.outerStride + (f.info.inner - 1) * f.info.innerStride + 4 ≤ 0x100000) &&
    decide (0 < f.width)

theorem Field.fitsMap_true (f : Field) : f.fitsMap = true := by
  have h : Field.all.all Field.fitsMap = true := by decide +kernel
  exact List.all_eq_true.mp h f f.mem_all

theorem Field.fits_map (f : Field) : f.info.outer * f.info.inner ≤ 256 ∧
    f.info.offset + (f.info.outer - 1) * f.info.outerStride + (f.info.inner - 1) * f.info.innerStride + 4 ≤ 0x100000 ∧
    0 < f.width := by
  simpa only [Field.fitsMap, Bool.and_eq_true, decide_eq_true_eq, and_assoc] using f.fitsMap_true

theorem Field.width_pos (f : Field) : 0 < f.width := f.fits_map.2.2

/-- A field stands at an offset under the number that its two strides give. -/
theorem fieldInstance_eq_some {f : Field} {off i : Nat} (h : fieldInstance f off = some i) :
    ∃ k j, k < f.info.outer ∧ j < f.info.inner ∧
      f.info.offset + k * f.info.outerStride + j * f.info.innerStride = off ∧ i = k * f.info.inner + j := by
  unfold fieldInstance at h
  obtain ⟨k, hk, h⟩ := List.exists_of_findSome?_eq_some h
  obtain ⟨j, hj, h⟩ := List.exists_of_findSome?_eq_some h
  simp only [Option.ite_none_right_eq_some, Option.some.injEq] at h
  exact ⟨k, j, List.mem_range.mp hk, List.mem_range.mp hj, h.1, h.2.symm⟩

theorem fieldInstance_of_mem {f : Field} {off i : Nat} (h : (f, i) ∈ fieldsAt off) : fieldInstance f off = some i := by
  obtain ⟨g, -, hg⟩ := List.mem_filterMap.mp h
  obtain ⟨j, hj, he⟩ := Option.map_eq_some_iff.mp hg
  cases he
  exact hj

/-- The number of a field in the map is below 256. -/
theorem fieldNumber_lt_256 {f : Field} {off i : Nat} (h : (f, i) ∈ fieldsAt off) : i < 256 := by
  obtain ⟨k, j, hk, hj, -, rfl⟩ := fieldInstance_eq_some (fieldInstance_of_mem h)
  calc k * f.info.inner + j < k * f.info.inner + f.info.inner := by omega
    _ = (k + 1) * f.info.inner := by ring
    _ ≤ f.info.outer * f.info.inner := Nat.mul_le_mul_right _ hk
    _ ≤ 256 := f.fits_map.1

/-- A register lies inside the register space. -/
theorem offset_fits {f : Field} {off i : Nat} (h : (f, i) ∈ fieldsAt off) : off + 4 ≤ 0x100000 := by
  obtain ⟨k, j, hk, hj, rfl, -⟩ := fieldInstance_eq_some (fieldInstance_of_mem h)
  obtain ⟨-, hlast, -⟩ := f.fits_map
  have ho : k * f.info.outerStride ≤ (f.info.outer - 1) * f.info.outerStride := Nat.mul_le_mul_right _ (by omega)
  have hi : j * f.info.innerStride ≤ (f.info.inner - 1) * f.info.innerStride := Nat.mul_le_mul_right _ (by omega)
  omega

/-- The fields of a register differ from each other. -/
theorem fieldsAt_nodup (off : Nat) : ((fieldsAt off).map Prod.fst).Nodup := by
  have h : (fieldsAt off).map Prod.fst = Field.all.filter (fun f => (fieldInstance f off).isSome) := by
    rw [fieldsAt, List.map_filterMap, ← List.filterMap_eq_filter]
    refine List.filterMap_congr (fun f _ => ?_)
    cases h : fieldInstance f off <;> simp [Option.guard, h]
  rw [h]
  exact Field.all_nodup.filter _

/-- A field's place in its register: the neighbours on both sides are other fields. -/
theorem fieldsAt_split {f : Field} {off i : Nat} (h : (f, i) ∈ fieldsAt off) :
    ∃ before after, fieldsAt off = before ++ (f, i) :: after ∧ ∀ e ∈ before ++ after, f ≠ e.1 ∧ e ∈ fieldsAt off := by
  have hnd := fieldsAt_nodup off
  obtain ⟨before, after, hl⟩ := List.append_of_mem h
  rw [hl, List.map_append, List.map_cons, List.nodup_middle, List.nodup_cons, ← List.map_append] at hnd
  refine ⟨before, after, hl, fun e he => ⟨fun hfe => hnd.1 (List.mem_map.mpr ⟨e, he, hfe.symm⟩), ?_⟩⟩
  rw [hl]
  simp only [List.mem_append, List.mem_cons] at he ⊢
  tauto

/-- The address and count registers of a DMA channel are other registers than its status (R711, R712). -/
theorem dxAddress_not_with_error {b : Block} {g : Field} {off i j : Nat} (he : (.DX_STAT_n_ERR, i) ∈ fieldsAt off)
    (hg : (g, j) ∈ fieldsAt off) : dxHeld b g j = false := by
  obtain ⟨k, l, -, hl, hoff, -⟩ := fieldInstance_eq_some (fieldInstance_of_mem he)
  obtain ⟨k', l', -, hl', hoff', -⟩ := fieldInstance_eq_some (fieldInstance_of_mem hg)
  by_contra hd
  have hmem : g ∈ [.DX_SRC_LO_ADDR, .DX_SRC_HI_ADDR, .DX_DST_LO_ADDR, .DX_DST_HI_ADDR, .DX_COUNT_COUNT] := by
    simp only [dxHeld, Bool.and_eq_true, decide_eq_true_eq, Bool.not_eq_false] at hd
    exact hd.1
  simp only [List.mem_cons, List.not_mem_nil, or_false] at hmem
  rcases hmem with rfl | rfl | rfl | rfl | rfl <;> simp only [Field.info] at hoff hoff' hl hl' <;> omega

/-! ### One field among the others of its register -/

/-- What the write of a field's neighbours leaves alone: the field, whether a running channel holds it, and the ports. -/
def FieldSpared (f : Field) (i : Nat) (b b' : Block) : Prop :=
  b'.get f i = b.get f i ∧ dxHeld b' f i = dxHeld b f i ∧ b'.px = b.px

theorem FieldSpared.refl (f : Field) (i : Nat) (b : Block) : FieldSpared f i b b := ⟨rfl, rfl, rfl⟩

theorem FieldSpared.trans {f : Field} {i : Nat} {a b c : Block} (h : FieldSpared f i a b) (k : FieldSpared f i b c) :
    FieldSpared f i a c := ⟨k.1.trans h.1, k.2.1.trans h.2.1, k.2.2.trans h.2.2⟩

/-- A channel holds its addresses as its BUSY and PAUSED show it. -/
theorem dxHeld_congr {b b' : Block} (f : Field) (i : Nat) (hb : b'.get .DX_STAT_n_BUSY i = b.get .DX_STAT_n_BUSY i)
    (hp : b'.get .DX_STAT_n_PAUSED i = b.get .DX_STAT_n_PAUSED i) : dxHeld b' f i = dxHeld b f i := by
  simp only [dxHeld, hb, hp]

theorem anyUnlocked_congr {b b' : Block} (h : b'.px = b.px) : anyUnlocked b' = anyUnlocked b := by
  have hu : unlocked b' = unlocked b := funext fun p => by simp only [unlocked, h]
  rw [anyUnlocked, hu, anyUnlocked]

theorem put_spares {f g : Field} {i j : Nat} (b : Block) (v : Nat) (hi : i < 256) (hj : j < 256) (hne : f ≠ g)
    (hb : g ≠ .DX_STAT_n_BUSY) (hp : g ≠ .DX_STAT_n_PAUSED) : FieldSpared f i b (b.put g j v) :=
  ⟨Block.get_put_ne b j i v hj hi hne,
    dxHeld_congr f i (Block.get_put_ne b j i v hj hi hb.symm) (Block.get_put_ne b j i v hj hi hp.symm), rfl⟩

/-- The write of another field spares a field; BUSY and PAUSED are read-only, and ERR takes its error code from the channel's
addresses alone. -/
theorem writeField_spares {f g : Field} {i j : Nat} (w : Word) (b : Block) (hi : i < 256) (hj : j < 256) (hne : f ≠ g)
    (he : f = .DX_STAT_n_ERR → dxHeld b g j = false) : FieldSpared f i b (writeField w b (g, j)) := by
  rcases writeField_cases w b g j with h | ⟨hd, h⟩ | ⟨hro, v, h⟩
  · rw [h]
    exact FieldSpared.refl f i b
  · rw [h]
    refine put_spares b 3 hi hj (fun e => ?_) (by decide) (by decide)
    rw [he e] at hd
    cases hd
  · rw [h]
    refine put_spares b v hi hj hne ?_ ?_
    · rintro rfl
      exact hro rfl
    · rintro rfl
      exact hro rfl

theorem foldl_writeField_spares {f : Field} {i : Nat} (w : Word) (hi : i < 256) :
    ∀ (l : List (Field × Nat)) (b : Block),
      (∀ e ∈ l, f ≠ e.1 ∧ e.2 < 256 ∧ (f = .DX_STAT_n_ERR → ∀ b, dxHeld b e.1 e.2 = false)) →
      FieldSpared f i b (l.foldl (writeField w) b)
  | [], b, _ => FieldSpared.refl f i b
  | (g, j) :: l, b, h => by
    obtain ⟨hne, hj, he⟩ := h (g, j) List.mem_cons_self
    exact (writeField_spares w b hi hj hne (fun e => he e b)).trans
      (foldl_writeField_spares w hi l _ (fun e hm => h e (List.mem_cons_of_mem _ hm)))

/-- A word written to a register leaves each field with what its access type makes of its bits (R10). -/
theorem writeFields_get (b : Block) (off : Nat) (w : Word) {f : Field} {i : Nat} (hm : (f, i) ∈ fieldsAt off)
    (ho : ownCommandField f = false) (hd : dxHeld b f i = false) :
    (writeFields b off w).get f i = (if unlockOnly f = true ∧ anyUnlocked b = false then b.get f i
      else accessWrite f.info.access (b.get f i) (w.toNat / 2 ^ f.info.lo % 2 ^ f.width)) := by
  have hi := fieldNumber_lt_256 hm
  obtain ⟨before, after, hl, hne⟩ := fieldsAt_split hm
  have others : ∀ e ∈ before ++ after, f ≠ e.1 ∧ e.2 < 256 ∧ (f = .DX_STAT_n_ERR → ∀ b, dxHeld b e.1 e.2 = false) := by
    intro e he
    obtain ⟨hfe, hme⟩ := hne e he
    refine ⟨hfe, fieldNumber_lt_256 hme, ?_⟩
    rintro rfl b
    exact dxAddress_not_with_error hm hme
  obtain ⟨hget, hheld, hpx⟩ := foldl_writeField_spares w hi before b (fun e he => others e (List.mem_append_left _ he))
  obtain ⟨hafter, -, -⟩ := foldl_writeField_spares w hi after (writeField w (before.foldl (writeField w) b) (f, i))
    (fun e he => others e (List.mem_append_right _ he))
  rw [writeFields_eq_foldl, hl, List.foldl_append, List.foldl_cons, hafter,
    writeField_get_same w _ f i f.width_pos ho (hheld.trans hd), hget, anyUnlocked_congr hpx]

/-! ### The command -/

theorem touchLink_regsKept (b : Block) (p : Port) : regsKept [.PX_LINK_STATE] b (touchLink b p) := by simp

theorem anyUnlocked_of_unlocked {b : Block} {p : Port} (h : unlocked b p = true) : anyUnlocked b = true :=
  List.any_eq_true.mpr ⟨p, List.mem_finRange p, h⟩

theorem windowShapeOk_word {off : Nat} (h : off % 4 = 0) : windowShapeOk off 4 = true := by
  simp [windowShapeOk, h]

/-- A control core's write of one register (R38, R40). -/
theorem registerWrite_core_word (b : Block) {off : Nat} (w : Word) (hdr : Nat) (ha : off % 4 = 0)
    (hf : off + 4 ≤ 0x100000) :
    registerWrite .core off [w] hdr b = writeFields b off w := by
  have hin : ¬ off + 4 > 0x100000 := by omega
  simp [registerWrite, hin, windowShapeOk_word ha, writeWords]

/-- A host's write of one register under factory unlock on its port (R40). -/
theorem registerWrite_port_word (b : Block) (p : Port) {off : Nat} (w : Word) (hdr : Nat) (ha : off % 4 = 0)
    (hd3 : b.get .PX_LINK_DSTATE p.val ≠ 3) (hu : unlocked b p = true) (hdx : dxFirmware off = false) :
    registerWrite (.port p) off [w] hdr b = writeFields (touchLink b p) off w := by
  have hd3' : (touchLink b p).get .PX_LINK_DSTATE p.val ≠ 3 := by
    rwa [touchLink_regsKept b p .PX_LINK_DSTATE p.val (by simp) (by decide)]
  simp [registerWrite, windowShapeOk_word ha, hd3', hu, hdx, writeWords]

/-- Settles O58: the register's own fields by `writeFields_get`, for a host after the link's wake-up, which touches the link's state
alone. -/
theorem registerWriteAccess : Obligations.RegisterWriteAccess := by
  refine ⟨?_, ?_, ?_⟩
  · intro s off w f i hdr ha hm ho hd
    refine ⟨_, rfl, rfl, ?_⟩
    dsimp only
    rw [registerWrite_core_word s.blk w hdr ha (offset_fits hm)]
    exact writeFields_get s.blk off w hm ho hd
  · intro s p off w f i hdr ha hm ho hl hd hu hdx hd3
    have hi := fieldNumber_lt_256 hm
    have kept := touchLink_regsKept s.blk p
    have hd' : dxHeld (touchLink s.blk p) f i = false :=
      (dxHeld_congr f i (kept _ i hi (by decide)) (kept _ i hi (by decide))).trans hd
    have hany : anyUnlocked (touchLink s.blk p) = true :=
      anyUnlocked_of_unlocked ((unlocked_touchLink s.blk p p).trans hu)
    refine ⟨_, rfl, rfl, ?_⟩
    dsimp only
    rw [registerWrite_port_word s.blk p w hdr ha hd3 hu hdx, writeFields_get _ off w hm ho hd', hany,
      kept f i hi (by simpa using hl)]
    simp
  · intro s off vals hdr hpast
    have hfault : registerWrite .core off vals hdr s.blk = s.blk.coreFault := if_pos hpast
    refine ⟨{ s with blk := s.blk.coreFault }, ?_, rfl, rfl, rfl, rfl⟩
    rw [← hfault]
    rfl

end Sys2Proof.Machine

namespace Sys2Proof.Machine

/-! ## The canonical form of memory

Each store keeps it, so that each command does: one that stores nothing leaves memory alone, and a reset only drops bytes. -/

/-- Bytes of the map stored one after the other keep the canonical form. -/
theorem foldl_storeByte_wf {α : Type} (x : α → Nat) (d : α → Byte) (l : List α) (r : NMap Byte × Block)
    (h : Memory.wf r.1 = true) :
    Memory.wf (l.foldl (fun (q : NMap Byte × Block) e => storeByte q (x e) (d e)) r).1 = true :=
  List.foldlRecOn (motive := fun q => Memory.wf q.1 = true) l _ h (fun q hq _ _ => storeByte_wf q _ _ hq)

theorem fcsRead_wf (bank : Fin 2) (addr len dst : Nat) (r : NMap Byte × Block) (h : Memory.wf r.1 = true) :
    Memory.wf (fcsRead bank addr len dst r).1 = true := by
  unfold fcsRead
  dsimp only
  split_ifs
  · exact h
  · exact foldl_storeByte_wf (fun d : Nat × Nat => dst + d.2) (fun d => BitVec.ofNat 8 d.1) _ (r.1, r.2) h
  · exact h

theorem moveBytes_wf (n k : Nat) (fromHost : List Byte) (r : NMap Byte × Block) (h : Memory.wf r.1 = true) :
    Memory.wf (moveBytes n k fromHost r).1 = true := by
  unfold moveBytes
  dsimp only
  split
  · exact h
  · exact h
  · exact h
  · exact h
  · exact foldl_storeByte_wf (fun d : Byte × Nat => dxDst r.2 n + d.2) (fun d => d.1) _ r h

theorem dmaDrained_wf (n : Fin 32) (moved : Nat) (fromHost : List Byte) (r : NMap Byte × Block) (h : Memory.wf r.1 = true) :
    Memory.wf (dmaDrained n moved fromHost r).1 = true := by
  unfold dmaDrained
  dsimp only
  split
  · exact moveBytes_wf _ _ _ _ h
  · exact h

theorem dmaDone_wf (n : Fin 32) (failedAfter : Option Nat) (fromHost : List Byte) (r : NMap Byte × Block)
    (h : Memory.wf r.1 = true) : Memory.wf (dmaDone n failedAfter fromHost r).1 = true := by
  unfold dmaDone
  dsimp only
  split
  · cases failedAfter with
    | some f =>
      dsimp only
      split
      · exact moveBytes_wf _ _ _ _ h
      · exact h
    | none =>
      dsimp only
      split
      · exact moveBytes_wf _ _ _ _ h
      · exact moveBytes_wf _ _ _ _ h
  · exact h

theorem sramPatch_wf (r : NMap Byte × Block) (addr err : Nat) (h : Memory.wf r.1 = true) :
    Memory.wf (sramPatch r addr err).1 = true := by
  unfold sramPatch
  refine List.foldlRecOn (motive := fun (q : NMap Byte × Block) => Memory.wf q.1 = true) _ _ h (fun q hq k _ => ?_)
  dsimp only
  split
  · exact hq
  · exact storeByte_wf q _ _ hq

theorem sramScrub_wf (addr : Option Nat) (bank row bad : Nat) (clean last : Bool) (r : NMap Byte × Block)
    (h : Memory.wf r.1 = true) : Memory.wf (sramScrub addr bank row bad clean last r).1 = true := by
  have patched : ∀ (x : Nat → Nat) (err : Nat),
      Memory.wf (match addr with | some a => sramPatch r (x a) err | none => r).1 = true := by
    intro x err
    cases addr with
    | some a => exact sramPatch_wf r _ _ h
    | none => exact h
  unfold sramScrub
  split
  · exact h
  · dsimp only
    split
    · exact patched (fun a => a - a % 8) _
    · exact patched (fun a => a - a % 8) _
    · exact h
    · exact h

theorem putLine_wf (m : NMap Byte) (line data : Nat) (h : Memory.wf m = true) : Memory.wf (putLine m line data) = true :=
  List.foldlRecOn (motive := fun m => Memory.wf m = true) _ _ h (fun m hm _ _ => nset_memory_wf m _ _ hm)

theorem dramScrub_wf (bad held : Nat) (r : NMap Byte × Block) (h : Memory.wf r.1 = true) :
    Memory.wf (dramScrub bad held r).1 = true := by
  unfold dramScrub
  split
  · exact h
  · dsimp only
    split
    · dsimp only
      split
      · exact h
      · exact putLine_wf _ _ _ h
    · exact h

/-! ### What a command leaves of memory -/

/-- A command that neither stores to memory nor resets answers a next state with the queue and memory as they were. -/
theorem exec_of_storesMemory_false {c : Instr} (h : storesMemory c = false) (s : State) :
    ∃ t, exec c s = .next t ∧ t.pending = s.pending ∧ t.mem = s.mem := by
  cases c with
  | fcsRead | cmbWrite | dmaDrained | dmaDone | sramScrub | dramScrub
  | bootEnd | holdupEntry | holdupShortfall | holdupEnd | shortBrakeEnd | pwdisAssert | spindleBelow60rpm | perstAssert
  | hotReset | linkDisable | initiateFlr | ccEnClear | nvmSubsystemReset | configWrite | firmwareCommitImmediate
  | activationPhaseEnd => cases h
  | _ => exact ⟨_, rfl, rfl, rfl⟩

theorem wf_of_mem_eq {s t : State} (hm : t.mem = s.mem) (h : State.wf s) : State.wf t := by
  rwa [State.wf, hm]

/-- If the outcome is a next state, its memory is in canonical form. -/
def NextWf (o : Host.Outcome State Fault Refusal) : Prop := ∀ t, o = .next t → State.wf t

section Outcomes

variable {s : State}

theorem nextWf_of_storesMemory_false (h : State.wf s) {c : Instr} (hc : storesMemory c = false) : NextWf (exec c s) := by
  intro t ht
  obtain ⟨t', ht', -, hm⟩ := exec_of_storesMemory_false hc s
  obtain rfl : t' = t := Host.Outcome.next.inj (ht'.symm.trans ht)
  exact wf_of_mem_eq hm h

theorem onReset_nextWf (h : State.wf s) (f : Block → Block) : NextWf (s.onReset f) := by
  intro t ht
  obtain ⟨-, hm, -⟩ := State.onReset_next s t f ht
  rw [State.wf, hm]
  exact memAfter_wf _ _ _ h

theorem onMem_nextWf (f : NMap Byte → Block → NMap Byte × Block) (hf : Memory.wf (f s.mem s.blk).1 = true) :
    NextWf (s.onMem f) := by
  intro t ht
  obtain ⟨-, hm, -⟩ := State.onMem_next s t f ht
  rwa [State.wf, hm]

end Outcomes

/-- Every command keeps the canonical form: the six that store to memory by their own lemmas, those that may reset by
`memAfter_wf`, and all others because they leave memory alone. -/
theorem exec_nextWf (c : Instr) {s : State} (h : State.wf s) : NextWf (exec c s) := by
  cases c with
  | fcsRead bank addr len dst => exact onMem_nextWf (fun m b => fcsRead bank addr len dst (m, b)) (fcsRead_wf _ _ _ _ _ h)
  | cmbWrite p off data poison enabled hdr =>
    exact onMem_nextWf (cmbWrite p off data poison enabled hdr) (cmbWrite_wf _ _ _ _ _ _ _ _ h)
  | dmaDrained n moved fromHost => exact onMem_nextWf (fun m b => dmaDrained n moved fromHost (m, b)) (dmaDrained_wf _ _ _ _ h)
  | dmaDone n failedAfter fromHost => exact onMem_nextWf (fun m b => dmaDone n failedAfter fromHost (m, b)) (dmaDone_wf _ _ _ _ h)
  | sramScrub addr bank row bad clean last =>
    exact onMem_nextWf (fun m b => sramScrub addr bank row bad clean last (m, b)) (sramScrub_wf _ _ _ _ _ _ _ h)
  | dramScrub bad held => exact onMem_nextWf (fun m b => dramScrub bad held (m, b)) (dramScrub_wf _ _ _ h)
  | bootEnd | holdupEntry | holdupShortfall | holdupEnd | shortBrakeEnd | pwdisAssert | spindleBelow60rpm | perstAssert
  | hotReset | linkDisable | initiateFlr | ccEnClear | nvmSubsystemReset | configWrite | firmwareCommitImmediate
  | activationPhaseEnd => exact onReset_nextWf h _
  | _ => exact nextWf_of_storesMemory_false h rfl

theorem step_idle {s : State} (hp : s.pending = []) : step s = s.onBlock idleTick := by
  simp only [step, hp, State.onBlock]

theorem step_front {s : State} {c : Instr} {cs : List Instr} (hp : s.pending = c :: cs) :
    step s = exec c { s with pending := cs } := by
  simp only [step, hp]

/-- Settles O55: an idle microsecond leaves memory alone, and a command keeps the canonical form. -/
theorem memoryInvariant : Obligations.MemoryInvariant := by
  intro s t h ht
  cases hp : s.pending with
  | nil =>
    rw [step_idle hp] at ht
    obtain ⟨-, hm, -⟩ := State.onBlock_next s t idleTick ht
    exact wf_of_mem_eq hm h
  | cons c cs =>
    rw [step_front hp] at ht
    have hw : State.wf { s with pending := cs } := h
    exact exec_nextWf c hw t ht

/-! ## Accesses to the diagnostic window -/

@[simp] theorem touchLink_get (b : Block) (p : Port) {f : Field} {i : Nat} (hf : f ≠ .PX_LINK_STATE) (hi : i < 256) :
    (touchLink b p).get f i = b.get f i :=
  touchLink_regsKept b p f i hi (by simpa using hf)

@[simp] theorem touchLink_sys (b : Block) (p : Port) : (touchLink b p).sys = b.sys := by
  unfold touchLink
  dsimp only
  split <;> rfl

@[simp] theorem aerAdvisory_sys (b : Block) (p : Port) (n hdr : Nat) : (aerAdvisory b p n hdr).sys = b.sys := by
  unfold aerAdvisory
  split <;> rfl

@[simp] theorem refuseWindow_sys (b : Block) (p : Port) (hdr : Nat) : (refuseWindow b p hdr).sys = b.sys :=
  aerAdvisory_sys b p 20 hdr

@[simp] theorem discardWrite_px (b : Block) (p : Port) : (discardWrite b p).px = b.px := by
  unfold discardWrite
  dsimp only
  split <;> rfl

@[simp] theorem vget_vupd_same {α : Type} {n : Nat} (v : Vector α n) (i : Fin n) (f : α → α) :
    vget (vupd v i f) i = f (vget v i) := by
  simp [vget, vupd]

theorem vget_vupd_other {α : Type} {n : Nat} (v : Vector α n) {i j : Fin n} (f : α → α) (h : j ≠ i) :
    vget (vupd v i f) j = vget v j :=
  Vector.getElem_set_ne _ _ (fun e => h (Fin.ext e.symm))

/-! ### Register writes (R36 to R40, R519) -/

theorem registerWrite_core_inside (b : Block) {off : Nat} {vals : List Word} (hdr : Nat)
    (hs : windowShapeOk off (4 * vals.length) = true) (hin : off + 4 * vals.length ≤ 0x100000) :
    registerWrite .core off vals hdr b = writeWords b off vals := by
  rw [registerWrite, if_neg (Nat.not_lt.mpr hin), hs, Block.guard_true]

theorem registerWrite_core_past (b : Block) {off : Nat} {vals : List Word} (hdr : Nat) (h : 0x100000 < off + 4 * vals.length) :
    registerWrite .core off vals hdr b = b.coreFault := if_pos h

section HostWrites

variable (b : Block) (p : Port) {off : Nat} {vals : List Word} (hdr : Nat)

/-- A host's write that the function takes is carried out or discarded, as its unlock and its address say. -/
theorem registerWrite_port_taken (hs : windowShapeOk off (4 * vals.length) = true) (hd : b.get .PX_LINK_DSTATE p.val ≠ 3) :
    registerWrite (.port p) off vals hdr b =
      if unlocked b p && !dxFirmware off then writeWords (touchLink b p) off vals else discardWrite (touchLink b p) p := by
  simp [registerWrite, hs, hd]

theorem registerWrite_port_unlocked (hs : windowShapeOk off (4 * vals.length) = true) (hd : b.get .PX_LINK_DSTATE p.val ≠ 3)
    (hu : unlocked b p = true) (hx : dxFirmware off = false) :
    registerWrite (.port p) off vals hdr b = writeWords (touchLink b p) off vals := by
  simp [registerWrite_port_taken b p hdr hs hd, hu, hx]

theorem registerWrite_port_discarded (hs : windowShapeOk off (4 * vals.length) = true) (hd : b.get .PX_LINK_DSTATE p.val ≠ 3)
    (hu : unlocked b p = false ∨ dxFirmware off = true) :
    registerWrite (.port p) off vals hdr b = discardWrite (touchLink b p) p := by
  rw [registerWrite_port_taken b p hdr hs hd]
  rcases hu with hu | hu <;> simp [hu]

theorem registerWrite_port_refused (h : windowShapeOk off (4 * vals.length) = false ∨ b.get .PX_LINK_DSTATE p.val = 3) :
    registerWrite (.port p) off vals hdr b = refuseWindow (touchLink b p) p hdr := by
  rcases h with h | h <;> simp [registerWrite, h]

end HostWrites

theorem execRegisterWrite_eq (s : State) (w : Agent) (off : Nat) (vals : List Word) (hdr : Nat) :
    exec (.registerWrite w off vals hdr) s = .next { s with blk := registerWrite w off vals hdr s.blk } := rfl

/-- DIAG_WRITE_DISCARDED outside D3hot is the write that REGISTER_WRITE discards. -/
theorem execDiagWriteDiscarded_eq (s : State) (p : Port) {off : Nat} {vals : List Word}
    (hs : windowShapeOk off (4 * vals.length) = true) (hd : s.blk.get .PX_LINK_DSTATE p.val ≠ 3)
    (hu : unlocked s.blk p = false ∨ dxFirmware off = true) :
    exec (.diagWriteDiscarded p off vals) s = .next { s with blk := discardWrite (touchLink s.blk p) p } := by
  have hc : (windowShapeOk off (4 * vals.length) && (!unlocked s.blk p || dxFirmware off)) = true := by
    rcases hu with hu | hu <;> simp [hs, hu]
  change execDiagWriteDiscarded p off vals s = _
  simp only [execDiagWriteDiscarded, State.onBlock, hc, Block.guard_true, registerWrite_port_discarded s.blk p _ hs hd hu]

theorem execDiagAccessBadSize_eq (s : State) (p : Port) (write : Bool) {off size : Nat} (hdr : Nat)
    (hs : windowShapeOk off size = false) :
    exec (.diagAccessBadSize p write off size hdr) s = .next { s with
      blk := (refuseWindow (touchLink s.blk p) p hdr).answer (if write then .none else .unsupportedRequest) } := by
  change execDiagAccessBadSize p write off size hdr s = _
  cases write <;> simp [execDiagAccessBadSize, State.onBlock, hs]

/-! ### Reads of wide counters (R41, R519) -/

/-- The block after a window read that D3hot refuses. -/
def d3hotAnswered (b : Block) (p : Port) : Block :=
  (refuseWindow b p (Config.tlpHeader p.val b.now)).answer .unsupportedRequest

section WindowReads

variable {b : Block} {p : Port} {ok : Bool} (f : Block → Block)

theorem windowRead_taken (hok : ok = true) (hd : b.get .PX_LINK_DSTATE p.val ≠ 3) :
    windowRead b p ok f = f (touchLink b p) := by
  simp [windowRead, hok, hd]

theorem windowRead_d3hot (hok : ok = true) (hd : b.get .PX_LINK_DSTATE p.val = 3) :
    windowRead b p ok f = d3hotAnswered (touchLink b p) p := by
  simp [windowRead, d3hotAnswered, hok, hd]

end WindowReads

/-- The offset of a high word lies past the low word's. -/
theorem isWideLow_below_high {off : Nat} (h : isWideLow off = true) :
    (decide (4 ≤ off + 4) && isWideLow (off + 4 - 4)) = true := by
  simp [h]

/-- What a read of a counter's high word answers: the kept word where its low word was read last, else the live one. -/
def highAnswer (b : Block) (p : Port) (off : Nat) : Nat :=
  match vget b.sys.shadow p with
  | some (o, h) => if o = off then h else b.readWord (off + 4)
  | none => b.readWord (off + 4)

theorem highAnswer_kept {b : Block} {p : Port} {off h : Nat} (hk : vget b.sys.shadow p = some (off, h)) :
    highAnswer b p off = h := by
  simp [highAnswer, hk]

theorem highAnswer_live {b : Block} {p : Port} {off : Nat} (hk : ∀ h, vget b.sys.shadow p ≠ some (off, h)) :
    highAnswer b p off = b.readWord (off + 4) := by
  unfold highAnswer
  split
  · next o h e =>
    have ho : o ≠ off := fun eo => hk h (eo ▸ e)
    exact if_neg ho
  · rfl

/-- The block after a read of a wide counter: the answer, and the port's kept word. -/
def counterAnswered (b : Block) (p : Port) (w : Nat) (kept : Option (Nat × Nat)) : Block :=
  { b with sys := { b.sys with reply := .words [w], shadow := vupd b.sys.shadow p (fun _ => kept) } }

section CounterReads

variable (s : State) (p : Port) {off : Nat}

theorem execCounterLowRead_eq (hw : isWideLow off = true) (hd : s.blk.get .PX_LINK_DSTATE p.val ≠ 3) :
    exec (.counterLowRead p off) s = .next { s with
      blk := counterAnswered (touchLink s.blk p) p ((touchLink s.blk p).readWord off)
        (some (off, (touchLink s.blk p).readWord (off + 4))) } := by
  change s.onBlock (counterLowRead p off) = _
  rw [State.onBlock, counterLowRead, windowRead_taken _ hw hd]
  rfl

theorem execCounterHighRead_eq (hw : isWideLow off = true) (hd : s.blk.get .PX_LINK_DSTATE p.val ≠ 3) :
    exec (.counterHighRead p (off + 4)) s = .next { s with
      blk := counterAnswered (touchLink s.blk p) p (highAnswer (touchLink s.blk p) p off) none } := by
  change s.onBlock (counterHighRead p (off + 4)) = _
  rw [State.onBlock, counterHighRead, windowRead_taken _ (isWideLow_below_high hw) hd]
  rfl

/-- In D3hot both reads are refused alike (R519). -/
theorem execCounterLowRead_d3hot (hw : isWideLow off = true) (hd : s.blk.get .PX_LINK_DSTATE p.val = 3) :
    exec (.counterLowRead p off) s = .next { s with blk := d3hotAnswered (touchLink s.blk p) p } := by
  change s.onBlock (counterLowRead p off) = _
  rw [State.onBlock, counterLowRead, windowRead_d3hot _ hw hd]

theorem execCounterHighRead_d3hot (hw : isWideLow off = true) (hd : s.blk.get .PX_LINK_DSTATE p.val = 3) :
    exec (.counterHighRead p (off + 4)) s = .next { s with blk := d3hotAnswered (touchLink s.blk p) p } := by
  change s.onBlock (counterHighRead p (off + 4)) = _
  rw [State.onBlock, counterHighRead, windowRead_d3hot _ (isWideLow_below_high hw) hd]

end CounterReads

/-- A read of a wide counter changes its own port's kept word alone. -/
theorem counterAnswered_shadow (b : Block) (p q : Port) (w : Nat) (kept : Option (Nat × Nat)) :
    vget (counterAnswered b p w kept).sys.shadow p = kept ∧
      (q ≠ p → vget (counterAnswered b p w kept).sys.shadow q = vget b.sys.shadow q) :=
  ⟨vget_vupd_same b.sys.shadow p _, vget_vupd_other b.sys.shadow _⟩

/-! ### The statements on window accesses -/

/-- Settles O1: each clause is the equation of its command, the reads with the kept words of both ports. -/
theorem registerAccessCompletes : Obligations.RegisterAccessCompletes := by
  have shadows : ∀ (s : State) (p q : Port) (w : Nat) (kept : Option (Nat × Nat)),
      vget (counterAnswered (touchLink s.blk p) p w kept).sys.shadow p = kept ∧
        (q ≠ p → vget (counterAnswered (touchLink s.blk p) p w kept).sys.shadow q = vget s.blk.sys.shadow q) := by
    intro s p q w kept
    have h := counterAnswered_shadow (touchLink s.blk p) p q w kept
    rwa [touchLink_sys] at h
  refine ⟨?_, ?_, ?_, ?_, ?_, ?_, ?_, ?_, ?_, ?_⟩
  · intro s off hdr vals hs hin
    rw [execRegisterWrite_eq, registerWrite_core_inside _ hdr hs hin]
  · intro s off hdr vals hpast
    rw [execRegisterWrite_eq, registerWrite_core_past _ hdr hpast]
  · intro s p off hdr vals hs hd hu hx
    rw [execRegisterWrite_eq, registerWrite_port_unlocked _ p hdr hs hd hu hx]
  · intro s p off hdr vals hs hd hu
    rw [execRegisterWrite_eq, registerWrite_port_discarded _ p hdr hs hd hu]
    exact ⟨rfl, execDiagWriteDiscarded_eq s p hs hd hu⟩
  · intro s p off hdr vals h
    rw [execRegisterWrite_eq, registerWrite_port_refused _ p hdr h]
  · intro s p off size hdr hs
    exact ⟨execDiagAccessBadSize_eq s p false hdr hs, execDiagAccessBadSize_eq s p true hdr hs⟩
  · rintro s p q off _ rfl hd hw
    exact ⟨_, execCounterLowRead_eq s p hw hd, rfl, shadows s p q _ _⟩
  · rintro s p q off h _ rfl hd hw hk
    have hk' : highAnswer (touchLink s.blk p) p off = h := highAnswer_kept (by rwa [touchLink_sys])
    refine ⟨_, execCounterHighRead_eq s p hw hd, ?_, shadows s p q _ _⟩
    rw [hk']
    rfl
  · rintro s p q off _ rfl hd hw hk
    have hk' := highAnswer_live (b := touchLink s.blk p) (by rwa [touchLink_sys])
    refine ⟨_, execCounterHighRead_eq s p hw hd, ?_, shadows s p q _ _⟩
    rw [hk']
    rfl
  · intro s p off hd hw
    refine ⟨_, execCounterLowRead_d3hot s p hw hd, execCounterHighRead_d3hot s p hw hd, rfl, ?_, rfl⟩
    simp [d3hotAnswered, Block.answer]

/-- A discarded write counts in SYS_DIAG_WDROP, up to the field's greatest value (R45). -/
theorem discardWrite_count (b : Block) (p : Port) : (discardWrite b p).get .SYS_DIAG_WDROP_COUNT 0 =
    min (b.get .SYS_DIAG_WDROP_COUNT 0 + 1) (Field.max .SYS_DIAG_WDROP_COUNT) := by
  have fits : min (b.get .SYS_DIAG_WDROP_COUNT 0 + 1) (Field.max .SYS_DIAG_WDROP_COUNT) < 2 ^ Field.width .SYS_DIAG_WDROP_COUNT :=
    Nat.lt_of_le_of_lt (Nat.min_le_right _ _) (by decide)
  unfold discardWrite
  dsimp only
  split <;> simp [Block.get_bump_same, Nat.mod_eq_of_lt fits]

theorem discardWrite_port0 (b : Block) : (discardWrite b 0).get .SYS_DIAG_WDROP_P0 0 = 1 := Block.get_put_same _ _ _ _

theorem discardWrite_port1 (b : Block) : (discardWrite b 1).get .SYS_DIAG_WDROP_P1 0 = 1 := Block.get_put_same _ _ _ _

/-- Settles O59: both rows discard the write as `discardWrite` does, once the link is awake. -/
theorem windowWriteDiscarded : Obligations.WindowWriteDiscarded := by
  intro s p off vals hdr hs hu hd
  have hw : exec (.registerWrite (.port p) off vals hdr) s = .next { s with blk := discardWrite (touchLink s.blk p) p } := by
    rw [execRegisterWrite_eq, registerWrite_port_discarded _ p hdr hs hd (.inl hu)]
  refine ⟨_, hw, execDiagWriteDiscarded_eq s p hs hd (.inl hu), ?_, ?_, ?_, by simp, discardWrite_px _ p, rfl⟩
  · simpa using discardWrite_count (touchLink s.blk p) p
  · rintro rfl
    exact discardWrite_port0 _
  · rintro rfl
    exact discardWrite_port1 _

/-! ## Commands of the system block -/

theorem unlockedWrite_core {b : Block} (f : Block → Block) (h : anyUnlocked b = true) :
    unlockedWrite b .core f = f b := if_pos h

theorem unlockedWrite_port {b : Block} {p : Port} (f : Block → Block) (h : unlocked b p = true) :
    unlockedWrite b (.port p) f = f b := if_pos h

/-- Under factory unlock the record of the longest wait restarts, and the bit reads 0 again (R46). -/
theorem rtwaitRestart_get (b : Block) :
    ((b.put .FAB_RTWAIT_MAX 0 0).put .FAB_RTWAIT_CLR 0 0).get .FAB_RTWAIT_MAX 0 = 0 ∧
      ((b.put .FAB_RTWAIT_MAX 0 0).put .FAB_RTWAIT_CLR 0 0).get .FAB_RTWAIT_CLR 0 = 0 := by
  simp

/-- The record of the longest wait, and what reporting a wait above 38 may touch beside it (R46, log entry 119). -/
theorem realTimeWait_regsKept (wait : Nat) (b : Block) :
    regsKept (.FAB_RTWAIT_MAX :: recorderFields) b (realTimeWait wait b) := by
  unfold realTimeWait
  dsimp only
  split
  · exact regsKept_refl _ b
  · split
    · simp
    · refine regsKept.trans ?_ (regsKept.mono (sepia_only _ _ _ _ _).2 (List.subset_cons_self _ _))
      exact (regsKept_put b b _ (by decide) (by decide)).mpr (regsKept_refl _ b)

/-- FAB_RTWAIT.MAX keeps the longest wait. -/
theorem realTimeWait_max (wait : Nat) (b : Block) :
    (realTimeWait wait b).get .FAB_RTWAIT_MAX 0 = max (b.get .FAB_RTWAIT_MAX 0) (min wait 0xFFFF) := by
  have fits : min wait 0xFFFF % 2 ^ Field.width .FAB_RTWAIT_MAX = min wait 0xFFFF :=
    Nat.mod_eq_of_lt (Nat.lt_of_le_of_lt (Nat.min_le_right _ _) (by decide))
  unfold realTimeWait
  dsimp only
  split
  · next h => exact (Nat.max_eq_left h).symm
  · next h =>
    have hput : (b.put .FAB_RTWAIT_MAX 0 (min wait 0xFFFF)).get .FAB_RTWAIT_MAX 0 =
        max (b.get .FAB_RTWAIT_MAX 0) (min wait 0xFFFF) := by
      rw [Block.get_put_same, fits, Nat.max_eq_right (Nat.le_of_not_le h)]
    split
    · exact hput
    · exact (get_sepia _ _ _ _ _ _ 0 (by decide) (by decide)).trans hput

/-- Settles O2: the commands' own equations; for the rates, that the wait's record leaves them alone. -/
theorem systemEventsComplete : Obligations.SystemEventsComplete := by
  refine ⟨?_, ?_, fun _ => rfl, fun _ => ⟨_, rfl, rfl, rfl, rfl⟩, ?_, fun _ _ => rfl, ?_, ?_⟩
  · intro s h
    refine ⟨_, rfl, ?_⟩
    simp only [rtwaitClr, unlockedWrite_core _ h]
    exact rtwaitRestart_get s.blk
  · intro s p h
    refine ⟨_, rfl, ?_⟩
    simp only [rtwaitClr, unlockedWrite_port _ h]
    exact (rtwaitRestart_get s.blk).1
  · rintro s o _ _ rfl rfl
    rfl
  · intro s r v wait
    have kept := realTimeWait_regsKept wait s.blk
    have hmin : (realTimeWait wait s.blk).get .SYS_RATE_MIN 0 = s.blk.get .SYS_RATE_MIN 0 := kept _ 0 (by decide) (by decide)
    have hwidth : Field.width .SYS_RATE_MIN = 11 := rfl
    have hnow : min r 0x7FF % 2 ^ Field.width .SYS_RATE_NOW = min r 0x7FF :=
      Nat.mod_eq_of_lt (Nat.lt_of_le_of_lt (Nat.min_le_right _ _) (by decide))
    have hcore : min v 0x3FF % 2 ^ Field.width .SYS_RATE_VCORE = min v 0x3FF :=
      Nat.mod_eq_of_lt (Nat.lt_of_le_of_lt (Nat.min_le_right _ _) (by decide))
    refine ⟨_, rfl, ?_, ?_, ?_, ?_⟩
    · simp [Block.putSat, hnow]
    · simp [Block.putSat, hmin, hwidth]
    · rw [Block.get_putSat_same]
      exact hcore
    · simp [Block.putSat, realTimeWait_max]
  · intro s h
    refine ⟨_, rfl, ?_⟩
    simp only [brakeTest, unlockedWrite_core _ h]
    exact Block.get_put_same s.blk .SPN_BRAKE_TEST 0 1

end Sys2Proof.Machine

namespace Sys2Proof.Machine

/-! ## Bytes that a store leaves alone

The frame of each command that stores to memory (R504, R550, R62, R688, R692, R696), from that of one byte. -/

theorem storeByte_get_other (r : NMap Byte × Block) {x y : Nat} (d : Byte) (h : y ≠ x) :
    nget 0 (storeByte r x d).1 y = nget 0 r.1 y := by
  unfold storeByte
  split
  · exact nget_nset_other 0 0 r.1 d h
  · exact nget_nset_other 0 0 r.1 d h
  · exact nget_nset_other 0 0 r.1 d h
  · split <;> rfl
  · rfl

theorem foldl_storeByte_get_other {α : Type} (x : α → Nat) (d : α → Byte) (l : List α) (r : NMap Byte × Block) {y : Nat}
    (h : ∀ e ∈ l, y ≠ x e) :
    nget 0 (l.foldl (fun (q : NMap Byte × Block) e => storeByte q (x e) (d e)) r).1 y = nget 0 r.1 y :=
  List.foldlRecOn (motive := fun q => nget 0 q.1 y = nget 0 r.1 y) l _ rfl
    (fun q hq e he => (storeByte_get_other q (d e) (h e he)).trans hq)

/-- The places of the bytes of a store lie in its range. -/
theorem ne_add_of_mem_zip_range {α : Type} {ds : List α} {n dst y : Nat} (h : y < dst ∨ dst + n ≤ y) :
    ∀ e ∈ ds.zip (List.range n), y ≠ dst + e.2 := by
  intro e he
  have hn : e.2 < n := List.mem_range.mp (List.of_mem_zip he).2
  omega

theorem fcsRead_get_outside (bank : Fin 2) (addr : Nat) {len dst : Nat} (r : NMap Byte × Block) {y : Nat}
    (h : y < dst ∨ dst + len ≤ y) : nget 0 (fcsRead bank addr len dst r).1 y = nget 0 r.1 y := by
  unfold fcsRead
  dsimp only
  split_ifs
  · rfl
  · exact foldl_storeByte_get_other (fun d : Nat × Nat => dst + d.2) (fun d => BitVec.ofNat 8 d.1) _ (r.1, r.2)
      (ne_add_of_mem_zip_range h)
  · rfl

theorem moveBytes_get_outside (n : Nat) {k : Nat} (fromHost : List Byte) (r : NMap Byte × Block) {y : Nat}
    (h : y < dxDst r.2 n ∨ dxDst r.2 n + k ≤ y) : nget 0 (moveBytes n k fromHost r).1 y = nget 0 r.1 y := by
  unfold moveBytes
  dsimp only
  split
  · rfl
  · rfl
  · rfl
  · rfl
  · exact foldl_storeByte_get_other (fun d : Byte × Nat => dxDst r.2 n + d.2) (fun d => d.1) _ r (ne_add_of_mem_zip_range h)

theorem dmaDrained_get_outside (n : Fin 32) {moved : Nat} (fromHost : List Byte) (r : NMap Byte × Block) {y : Nat}
    (h : y < dxDst r.2 n.val ∨ dxDst r.2 n.val + moved ≤ y) :
    nget 0 (dmaDrained n moved fromHost r).1 y = nget 0 r.1 y := by
  unfold dmaDrained
  dsimp only
  split
  · exact moveBytes_get_outside n.val fromHost r h
  · rfl

/-- A channel that ends has moved at most its count: all of it, what its ranges hold, or what came before the failure. -/
theorem dmaDone_get_outside (n : Fin 32) (failedAfter : Option Nat) (fromHost : List Byte) (r : NMap Byte × Block) {y : Nat}
    (h : y < dxDst r.2 n.val ∨ dxDst r.2 n.val + dxCount r.2 n.val ≤ y) :
    nget 0 (dmaDone n failedAfter fromHost r).1 y = nget 0 r.1 y := by
  have moved : ∀ k, k ≤ dxCount r.2 n.val → nget 0 (moveBytes n.val k fromHost r).1 y = nget 0 r.1 y := fun k hk =>
    moveBytes_get_outside n.val fromHost r (by omega)
  have room : min (dxCount r.2 n.val) (dxRoom r.2 n.val) ≤ dxCount r.2 n.val := Nat.min_le_left _ _
  unfold dmaDone
  dsimp only
  split
  · cases failedAfter with
    | some f =>
      dsimp only
      split
      · next hf =>
        simp only [Bool.and_eq_true, decide_eq_true_eq] at hf
        exact moved f (by omega)
      · rfl
    | none =>
      dsimp only
      split
      · exact moved _ room
      · exact moved _ room
  · rfl

theorem putLine_get_outside (m : NMap Byte) (line data : Nat) {y : Nat} (h : y / 64 ≠ line) :
    nget 0 (putLine m line data) y = nget 0 m y := by
  refine List.foldlRecOn (motive := fun q => nget 0 q y = nget 0 m y) _ _ rfl (fun q hq k hk => ?_)
  have hk' : k < 64 := List.mem_range.mp hk
  exact (nget_nset_other 0 0 q _ (by omega)).trans hq

theorem dramScrub_get_outside (bad held : Nat) (r : NMap Byte × Block) {y : Nat}
    (h : y / 64 ≠ dramFirst + r.2.mm.scrubLine) : nget 0 (dramScrub bad held r).1 y = nget 0 r.1 y := by
  unfold dramScrub
  split
  · rfl
  · dsimp only
    split
    · dsimp only
      split
      · rfl
      · exact putLine_get_outside r.1 _ _ h
    · rfl

theorem sramPatch_get_outside (r : NMap Byte × Block) {addr : Nat} (err : Nat) {y : Nat} (h : y < addr ∨ addr + 8 ≤ y) :
    nget 0 (sramPatch r addr err).1 y = nget 0 r.1 y := by
  unfold sramPatch
  refine List.foldlRecOn (motive := fun (q : NMap Byte × Block) => nget 0 q.1 y = nget 0 r.1 y) _ _ rfl
    (fun q hq k hk => ?_)
  have hk' : k < 8 := List.mem_range.mp hk
  dsimp only
  split
  · exact hq
  · exact (storeByte_get_other q _ (by omega)).trans hq

theorem sramScrub_get_outside (a bank row bad : Nat) (clean last : Bool) (r : NMap Byte × Block) {y : Nat}
    (h : y < a - a % 8 ∨ a - a % 8 + 8 ≤ y) :
    nget 0 (sramScrub (some a) bank row bad clean last r).1 y = nget 0 r.1 y := by
  unfold sramScrub
  split
  · rfl
  · dsimp only
    split
    · exact sramPatch_get_outside r _ h
    · exact sramPatch_get_outside r _ h
    · rfl
    · rfl

/-! ### The Controller Memory Buffer (R504, R550) -/

/-- Bytes stored from an address on read back, and every other byte reads as before. -/
theorem storeBytes_get (m : NMap Byte) (addr : Nat) (ds : List Byte) (x : Nat) :
    nget 0 (storeBytes m addr ds) x = if addr ≤ x ∧ x < addr + ds.length then ds.getD (x - addr) 0 else nget 0 m x := by
  induction ds using List.reverseRecOn with
  | nil => rw [if_neg (by simp)]; rfl
  | append_singleton ds d ih =>
    have hlast : storeBytes m addr (ds ++ [d]) = nset 0 (storeBytes m addr ds) (addr + ds.length) d := by
      simp [storeBytes, List.range_succ, List.zip_append]
    rw [hlast, List.length_append, List.length_singleton]
    by_cases hx : x = addr + ds.length
    · rw [hx, nget_nset_same, if_pos (by omega)]
      simp
    · rw [nget_nset_other 0 0 _ d hx, ih]
      by_cases hin : addr ≤ x ∧ x < addr + ds.length
      · rw [if_pos hin, if_pos (by omega), List.getD_append _ _ _ _ (by omega)]
      · rw [if_neg hin, if_neg (by omega)]

theorem touchLink_px (b : Block) (p : Port) : (touchLink b p).px = vupd b.px p (fun x => { x with tlpAt := b.now }) := by
  unfold touchLink
  dsimp only
  split <;> rfl

/-- What a packet does to its link leaves every port that does not depend on the time of the last packet alone. -/
theorem touchLink_vget_px {α : Type} (b : Block) (p q : Port) (g : PciPort → α)
    (hg : ∀ x t, g { x with tlpAt := t } = g x) : g (vget (touchLink b p).px q) = g (vget b.px q) := by
  rw [touchLink_px]
  by_cases h : q = p
  · rw [h, vget_vupd_same, hg]
  · rw [vget_vupd_other _ _ h]

theorem cmbShare_touchLink (b : Block) (p q : Port) : cmbShare (touchLink b p) q = cmbShare b q := by
  have hpresent : (vget (touchLink b p).px 1).present = (vget b.px 1).present :=
    touchLink_vget_px b p 1 PciPort.present (fun _ _ => rfl)
  rw [cmbShare, hpresent, touchLink_get b p (by decide) (by decide)]
  rfl

/-- The bytes of a write of the buffer that lie in the controller's share, at most 4 KiB of them. -/
def cmbBytes (b : Block) (p : Port) (off : Nat) (data : List Byte) : List Byte :=
  (data.take 4096).take ((cmbShare b p).2 - off)

theorem cmbWrite_mem (p : Port) (off : Nat) (data : List Byte) (poison enabled : Bool) (hdr : Nat) (m : NMap Byte) (b : Block) :
    (cmbWrite p off data poison enabled hdr m b).1 =
      if b.get .PX_LINK_DSTATE p.val ≠ 3 ∧ enabled = true then storeBytes m ((cmbShare b p).1 + off) (cmbBytes b p off data)
      else m := by
  unfold cmbWrite
  simp only [touchLink_get b p (show Field.PX_LINK_DSTATE ≠ .PX_LINK_STATE by decide) (port_val_lt_256 p), cmbShare_touchLink]
  by_cases hd : b.get .PX_LINK_DSTATE p.val = 3
  · rw [if_pos hd, if_neg (fun h => h.1 hd)]
  · rw [if_neg hd]
    cases enabled with
    | false => simp
    | true =>
      have hon : b.get .PX_LINK_DSTATE p.val ≠ 3 ∧ true = true := ⟨hd, rfl⟩
      rw [if_pos hon]
      split
      · next he =>
        have hnil : cmbBytes b p off data = [] := List.isEmpty_iff.mp he
        rw [hnil]
        rfl
      · rfl

/-- A byte of memory after a write of the buffer. -/
theorem cmbWrite_get (p : Port) (off : Nat) (data : List Byte) (poison enabled : Bool) (hdr : Nat) (m : NMap Byte) (b : Block)
    (x : Nat) :
    nget 0 (cmbWrite p off data poison enabled hdr m b).1 x =
      if b.get .PX_LINK_DSTATE p.val ≠ 3 ∧ enabled = true ∧ (cmbShare b p).1 + off ≤ x ∧
          x < (cmbShare b p).1 + (cmbShare b p).2 ∧ x < (cmbShare b p).1 + off + min data.length 4096
      then data.getD (x - ((cmbShare b p).1 + off)) 0 else nget 0 m x := by
  have hlen : (cmbBytes b p off data).length = min ((cmbShare b p).2 - off) (min 4096 data.length) := by
    simp [cmbBytes, List.length_take]
  rw [cmbWrite_mem]
  by_cases hon : b.get .PX_LINK_DSTATE p.val ≠ 3 ∧ enabled = true
  · rw [if_pos hon, storeBytes_get, hlen]
    by_cases hin : (cmbShare b p).1 + off ≤ x ∧ x < (cmbShare b p).1 + (cmbShare b p).2 ∧
        x < (cmbShare b p).1 + off + min data.length 4096
    · rw [if_pos (by omega), if_pos ⟨hon.1, hon.2, hin⟩]
      have h1 : x - ((cmbShare b p).1 + off) < (cmbShare b p).2 - off := by omega
      have h2 : x - ((cmbShare b p).1 + off) < 4096 := by omega
      simp only [cmbBytes, List.getD_eq_getElem?_getD, List.getElem?_take, if_pos h1, if_pos h2]
    · rw [if_neg (by omega), if_neg (fun h => hin h.2.2)]
  · rw [if_neg hon, if_neg (fun h => hon ⟨h.1, h.2.1⟩)]

/-- Settles O56: the frame of each store, and for the buffer the byte that a write leaves. -/
theorem storesStayInPlace : Obligations.StoresStayInPlace := by
  refine ⟨?_, ?_, ?_, ?_, ?_, ?_, ?_⟩
  · intro s p off data poison enabled hdr
    refine ⟨_, rfl, fun x hx => ?_⟩
    exact (cmbWrite_get p off data poison enabled hdr s.mem s.blk x).trans (if_neg (by omega))
  · exact fun s n f fromHost => ⟨_, rfl, fun x hx => dmaDone_get_outside n f fromHost (s.mem, s.blk) hx⟩
  · exact fun s n moved fromHost => ⟨_, rfl, fun x hx => dmaDrained_get_outside n fromHost (s.mem, s.blk) hx⟩
  · exact fun s bank addr len dst => ⟨_, rfl, fun x hx => fcsRead_get_outside bank addr (s.mem, s.blk) hx⟩
  · exact fun s bad held => ⟨_, rfl, fun x hx => dramScrub_get_outside bad held (s.mem, s.blk) hx⟩
  · exact fun s a bank row bad clean last =>
      ⟨_, rfl, fun x hx => sramScrub_get_outside a bank row bad clean last (s.mem, s.blk) hx⟩
  · intro s t p off data poison enabled hdr x ht
    obtain ⟨-, hm, -⟩ := State.onMem_next s t (cmbWrite p off data poison enabled hdr) ht
    rw [byteOf, hm]
    exact cmbWrite_get p off data poison enabled hdr s.mem s.blk x

end Sys2Proof.Machine

namespace Sys2Proof.Machine

/-! ## Reads of the FCS that copy nothing (R62, R66) -/

/-- A read answers no bytes where its destination, or the bytes that it names, lie outside DRAM, the carve-out or the bank. -/
theorem fcsRead_uncopied {bank : Fin 2} {addr len dst : Nat} {r : NMap Byte × Block} (hop : ∀ o ∈ r.2.fcs.op, o.bank ≠ bank)
    (hdst : regionLeft r.2 dst < len ∨ regionOf r.2 dst = none) : fcsRead bank addr len dst r = (r.1, r.2.answer .none) := by
  unfold fcsRead
  dsimp only
  split_ifs with hbusy hcopy
  · cases h : r.2.fcs.op with
    | none => simp [h] at hbusy
    | some o => exact absurd (by simpa [h] using hbusy) (hop o h)
  · rw [Bool.and_eq_true] at hcopy
    rcases hdst with hdst | hdst
    · have hlen : decide (len ≤ regionLeft r.2 dst) = false := decide_eq_false (by omega)
      rw [hlen] at hcopy
      split at hcopy <;> exact absurd hcopy.1 (by decide)
    · rw [hdst] at hcopy
      exact absurd hcopy.1 Bool.false_ne_true
  · rfl

theorem execFcsRead_uncopied {s : State} {bank : Fin 2} {addr len dst : Nat} (hop : ∀ o ∈ s.blk.fcs.op, o.bank ≠ bank)
    (hdst : regionLeft s.blk dst < len ∨ regionOf s.blk dst = none) :
    exec (.fcsRead bank addr len dst) s = .next { s with blk := s.blk.answer .none } := by
  change s.onMem (fun m b => fcsRead bank addr len dst (m, b)) = _
  rw [State.onMem, fcsRead_uncopied (r := (s.mem, s.blk)) hop hdst]

/-- Refutes O60: the third hypothesis admits a read of no bytes to the address just past the DRAM, which lies in no region; it answers
no bytes at all instead of an empty list of them. -/
theorem not_fcsOneOperation : ¬ Obligations.FcsOneOperation := by
  rintro ⟨-, hread, -⟩
  obtain ⟨t, ht, -, -, hreply, -⟩ :=
    hread Tests.st8 ⟨1, true, 0, [], none⟩ 0 0 0 0x800000000 rfl (by decide) (by decide) (by decide) (by decide)
  have hop : ∀ o ∈ Tests.st8.blk.fcs.op, o.bank ≠ 0 := by decide
  have hnone : regionOf Tests.st8.blk 0x800000000 = none := by decide +kernel
  rw [execFcsRead_uncopied hop (.inr hnone)] at ht
  obtain rfl := Host.Outcome.next.inj ht
  exact absurd hreply (by decide)

/-- The module at reset, but that `MEM_L2_CARVE` holds 32,737 ways, more than its four bits can: the carve-out that it gives
ends 512 KiB past the start of the DRAM. -/
def carveOverDram : State :=
  { State.reset with blk := { State.reset.blk with regs := [(Field.key .MEM_L2_CARVE 0, 32737)] } }

/-- Refutes O3: the first clause takes every state, one among them whose register table holds a carve-out that covers the start of the
DRAM; a read of 512 KiB + 1 bytes to there passes the region's end and copies nothing. -/
theorem not_fcsCompletes : ¬ Obligations.FcsCompletes := by
  rintro ⟨hread, -⟩
  obtain ⟨t, ht, hreply, -⟩ :=
    hread carveOverDram 0 0 524289 0x400000000 rfl (by decide) (by decide) (by decide) (by decide)
  have hop : ∀ o ∈ carveOverDram.blk.fcs.op, o.bank ≠ 0 := by decide
  have hleft : regionLeft carveOverDram.blk 0x400000000 < 524289 := by decide +kernel
  rw [execFcsRead_uncopied hop (.inl hleft)] at ht
  obtain rfl := Host.Outcome.next.inj ht
  exact absurd hreply (by simp [Block.answer])

end Sys2Proof.Machine

namespace Sys2Proof.Machine

/-! ## Admin commands taken from their queue (R73, R83, R113, R622) -/

/-- Taking an admin command from its queue changes the controllers' queues alone. -/
theorem adminBlock_nvOnly (b : Block) (p : Port) : { adminBlock b p with nv := b.nv } = b := by
  unfold adminBlock adminStamp
  split
  · split
    · rfl
    · unfold takeStamp
      split
      · split <;> rfl
      · rfl
  · rfl

section AdminBlock

variable (b : Block) (p : Port)

@[simp] theorem adminBlock_regs : (adminBlock b p).regs = b.regs := by
  have h := congrArg Block.regs (adminBlock_nvOnly b p); exact h
@[simp] theorem adminBlock_fcs : (adminBlock b p).fcs = b.fcs := by
  have h := congrArg Block.fcs (adminBlock_nvOnly b p); exact h
@[simp] theorem adminBlock_boot : (adminBlock b p).boot = b.boot := by
  have h := congrArg Block.boot (adminBlock_nvOnly b p); exact h
@[simp] theorem adminBlock_nvm : (adminBlock b p).nvm = b.nvm := by
  have h := congrArg Block.nvm (adminBlock_nvOnly b p); exact h

variable {b p} (cid : Nat)

/-- An admin command that is taken acts on the block after it has been taken, with its stamp. -/
theorem adminStamped_taken (h : AdminTaken b p) (inRecovery : Bool) (f : Block → Nat → Block) :
    adminStamped b p cid inRecovery f = f (adminBlock b p) (adminStamp b p).1 := by
  obtain ⟨hlive, htrip, hstop, hrec⟩ := h
  simp [adminStamped, adminBlock, hlive, htrip, hstop, hrec]

theorem adminCommand_taken (h : AdminTaken b p) (f : Block → Block) : adminCommand b p cid f = f (adminBlock b p) :=
  adminStamped_taken cid h false _

end AdminBlock

/-! ### A namespace created beside an open media-cache row (R442, R590) -/

/-- A module in RUN with a conventional namespace of profile 0 and a media-cache row that is still open. -/
def openCacheRow : State :=
  { Tests.st176 with blk := Tests.st176.blk.onXl (fun x => { x with
      namespaces := [⟨1, false, 0, 1000000, false, 0, true, 1, 0, [], none, 0, false⟩]
      mcRows := [⟨0, ⟨0, none, [], 0, 1, 0, 0, 0, []⟩, false⟩] }) }

/-- That module's block with a second conventional namespace, of profile 2. -/
def openCacheRowGrown : Block :=
  (withNamespace (adminBlock openCacheRow.blk 0) ⟨2, false, 2, 100, false, 0, false, 0, 0, [], none, 0, false⟩).getD openCacheRow.blk

/-- A greater parity count closes the open row, and a row that holds no cached block is free. -/
theorem namespaceCreate_closes_cacheRow :
    (namespaceCreate 0 9 0 100 100 0 0 0 2 openCacheRow.blk).xl.mcRows = [] := by decide +kernel

theorem openCacheRowGrown_cacheRow :
    (complete (evalSpace (rekey openCacheRowGrown 2)) 0 0 9 .success 2).xl.mcRows ≠ [] := by decide +kernel

/-- Refutes O30: its first clause leaves out that a namespace whose parity count is the greatest of the conventional ones closes the open
media-cache row, which NAMESPACE_CREATE does in `openCacheRow`. -/
theorem not_namespacesComplete : ¬ Obligations.NamespacesComplete := by
  rintro ⟨hcreate, -⟩
  have hexec := hcreate openCacheRow 0 9 0 100 0 0 0 2 2 openCacheRowGrown (by decide +kernel) (by decide +kernel)
    (by decide +kernel) (by decide) (by decide +kernel) (fun _ => by decide +kernel) (by decide +kernel) (by decide +kernel)
  have hblk := congrArg (fun t => t.blk.xl.mcRows) (Host.Outcome.next.inj hexec)
  exact openCacheRowGrown_cacheRow (hblk.symm.trans namespaceCreate_closes_cacheRow)

/-! ## Firmware download, commit and activation (R79 to R86) -/

/-- A downloaded piece in the staging area, whose next piece starts at an offset. -/
def withPiece (b : Block) (next : Nat) (parts : Package) : Block :=
  { b with fcs := { b.fcs with
    staged := ⟨parts.fw <|> b.fcs.staged.fw, parts.img <|> b.fcs.staged.img⟩, stagedNext := next } }

theorem takePiece_staged {b : Block} (h : b.boot.recovery = false) (p : Port) (cid off len : Nat) (parts : Package) :
    takePiece b p cid off len parts = complete (withPiece b (off + len) parts) p 0 cid .success := by
  simp [takePiece, withPiece, h]

section Commits

variable {b : Block} {p : Port} {cid slot action : Nat} {write : Bool} {next : Block → Fin 2 → Block} {k : Fin 2} {fw : FwPart}
  {m : Image}

/-- A commit that finds its slot free, nothing else being committed or activated, and its parts: they are refused, or it goes on. -/
theorem commitWith_checked (h : AdminTaken b p) (hslot : slotBank (adminBlock b p) slot = some k)
    (hfree : slotRefused (adminBlock b p) k = false) (hact : b.fcs.activation = none) (hruns : commitRuns (adminBlock b p) = false)
    (hparts : commitParts (adminBlock b p) k write = some (fw, m)) :
    commitWith b p cid slot action write next =
      (partsRefused (adminBlock b p) fw m (!write || (adminBlock b p).fcs.staged.fw.isSome)).elim
        (if write then
          queueFcs { adminBlock b p with fcs := { (adminBlock b p).fcs with staged := ⟨none, none⟩, stagedNext := 0 } }
            (.commit (some (p, cid)) k fw m action)
        else next (adminBlock b p) k)
        (fun st => complete (adminBlock b p) p 0 cid st) := by
  have hact' : (adminBlock b p).fcs.activation = none := by rw [adminBlock_fcs, hact]
  rw [commitWith, adminStamped_taken cid h]
  simp only [hslot, hfree, hact', hruns, hparts]
  cases partsRefused (adminBlock b p) fw m (!write || (adminBlock b p).fcs.staged.fw.isSome) <;> rfl

theorem commitHeld_arms (h : b.boot.recovery = false) : commitHeld b p cid k true = complete (armBank b k) p 0 cid .success := by
  simp [commitHeld, h]

end Commits

section Activations

variable {b : Block} {v : Activation} (hv : b.fcs.activation = some v)
include hv

/-- Phase 1 ends once the FCS is free: the bank passes its checks, or the activation rolls back. -/
theorem activationPhaseEnd_verify (hphase : v.phase = 1) (hop : b.fcs.op = none) :
    activationPhaseEnd true b =
      if bankCheck b (vget b.fcs.banks v.bank) ≠ 0 then rollback b v else setPhase (stopNimbus b) v 2 0 := by
  simp [activationPhaseEnd, hv, hphase, hop]

theorem activationPhaseEnd_spindle (hphase : v.phase = 4) :
    activationPhaseEnd true b = setPhase (swapSpindle b v.bank) v 5 0 := by
  simp [activationPhaseEnd, hv, hphase]

theorem activationPhaseEnd_failed (hop : b.fcs.op = none) : activationPhaseEnd false b = rollback b v := by
  simp [activationPhaseEnd, hv, hop]

end Activations

/-- Settles O31: the commits by `commitWith_checked`, each with what it writes or goes on to. -/
theorem firmwareCompletes : Obligations.FirmwareCompletes := by
  refine ⟨?_, ?_, ?_, ?_, ?_, ?_, ?_⟩
  · intro s p cid off len parts h hoff hpos hunit hmax
    have hrec : (adminBlock s.blk p).boot.recovery = false := by rw [adminBlock_boot]; exact h.2.2.2
    have hshape : ¬ (len = 0 ∨ len % 4096 ≠ 0 ∨ 28 * 1048576 < off + len) := by omega
    have hnext : ¬ off ≠ (adminBlock s.blk p).fcs.stagedNext := by rw [adminBlock_fcs]; exact not_not_intro hoff
    have htaken : firmwareDownload p cid off len parts s.blk =
        complete (withPiece (adminBlock s.blk p) (off + len) parts) p 0 cid .success := by
      rw [firmwareDownload, adminStamped_taken cid h, if_neg hnext, if_neg hshape, takePiece_staged hrec]
    exact ⟨_, _, rfl, htaken, rfl, by simp [withPiece], by simp [withPiece]⟩
  · intro s p cid slot k fw m h hstaged hslot hfree hact hruns hparts
    have hrec : s.blk.boot.recovery = false := h.2.2.2
    have written := fun (action : Nat) (next : Block → Fin 2 → Block) =>
      commitWith_checked (cid := cid) (action := action) (next := next) h hslot hfree hact hruns hparts
    refine ⟨?_, ?_, _, rfl, ?_⟩
    · change s.onBlock (commitReplace p cid slot) = _
      simp only [State.onBlock, commitReplace, hstaged, hrec, Bool.true_or, Bool.not_false, if_true, written]
      rfl
    · change s.onBlock (commitReplaceActivate p cid slot) = _
      simp only [State.onBlock, commitReplaceActivate, hstaged, hrec, Bool.true_or, Bool.not_false, if_true, written]
      rfl
    · simp only [commitImmediate, hstaged, hrec, Bool.true_and, Bool.not_false, written]
      rfl
  · intro s p cid slot k fw m h hslot hfree hact hruns hparts
    have hrec : (adminBlock s.blk p).boot.recovery = false := by rw [adminBlock_boot]; exact h.2.2.2
    change s.onBlock (commitActivate p cid slot) = _
    simp only [State.onBlock, commitActivate, commitWith_checked h hslot hfree hact hruns hparts, commitHeld_arms hrec]
    rfl
  · intro s p cid slot k fw m h hslot hfree hact hruns hstaged hparts
    have hrec : (adminBlock s.blk p).boot.recovery = false := by rw [adminBlock_boot]; exact h.2.2.2
    refine ⟨_, rfl, ?_⟩
    simp only [commitImmediate, hstaged, Bool.false_and, commitWith_checked h hslot hfree hact hruns hparts, hrec]
    rfl
  · exact fun s v hv hphase hop => ⟨_, rfl, activationPhaseEnd_verify hv hphase hop⟩
  · exact fun s v hv hphase => ⟨_, rfl, activationPhaseEnd_spindle hv hphase⟩
  · exact fun s v hv hop => ⟨_, rfl, activationPhaseEnd_failed hv hop⟩

end Sys2Proof.Machine

namespace Sys2Proof.Machine

/-! ## Configuration requests, bus mastering and PME (R70, R503, R513, R514, R519, R520) -/

@[simp] theorem touchLink_boot (b : Block) (p : Port) : (touchLink b p).boot = b.boot := by
  unfold touchLink
  dsimp only
  split <;> rfl

@[simp] theorem touchLink_fcs (b : Block) (p : Port) : (touchLink b p).fcs = b.fcs := by
  unfold touchLink
  dsimp only
  split <;> rfl

/-- A packet does not change whether its port answers CRS. -/
theorem answersCrs_touchLink (b : Block) (p : Port) : answersCrs (touchLink b p) p = answersCrs b p := by
  have hflr : (vget (touchLink b p).px p).flr = (vget b.px p).flr := touchLink_vget_px b p p PciPort.flr (fun _ _ => rfl)
  rw [answersCrs, hflr, touchLink_boot, touchLink_fcs]
  rfl

theorem configRead_eq {b : Block} {p : Port} (h : onBus b p = true) (off : Nat) :
    configRead p off b = (touchLink b p).answer
      (if answersCrs b p = true then .retryStatus else .words [configWord (touchLink b p) p (off / 4 * 4)]) := by
  rw [configRead, h, Block.guard_true]
  dsimp only
  rw [answersCrs_touchLink]
  split <;> rfl

theorem configWrite_crs {b : Block} {p : Port} (h : onBus b p = true) (hcrs : answersCrs b p = true) (off : Nat) (v : Word)
    (enables : Fin 16) : configWrite p off v enables b = (touchLink b p).answer .retryStatus := by
  rw [configWrite, h, Block.guard_true]
  exact if_pos ((answersCrs_touchLink b p).trans hcrs)

/-- The block after the kept bits of a configuration write have taken the word: a change of ATS Enable has emptied the translation
cache. -/
def configKept (b : Block) (p : Port) (off w : Nat) : Block :=
  if atsOn b p = atsOn (keepConfig b p off w) p then keepConfig b p off w
  else (keepConfig b p off w).onPx p (fun x => { x with ats := [] })

theorem configKept_regs (b : Block) (p : Port) (off w : Nat) : (configKept b p off w).regs = b.regs := by
  unfold configKept
  split <;> rfl

theorem configKept_config (b : Block) (p : Port) (off w : Nat) :
    (vget (configKept b p off w).px p).config =
      nset (configDefault off) (vget b.px p).config (off / 4) (w &&& configMask b off) := by
  have hkeep : (vget (keepConfig b p off w).px p).config =
      nset (configDefault off) (vget b.px p).config (off / 4) (w &&& configMask b off) := by
    simp [keepConfig, Block.onPx]
  unfold configKept
  split
  · exact hkeep
  · simpa [Block.onPx] using hkeep

theorem configWrite_taken {b : Block} {p : Port} (h : onBus b p = true) (hcrs : answersCrs b p = false) (off : Nat) (v : Word)
    (enables : Fin 16) :
    configWrite p off v enables b =
      configEffect p (off / 4 * 4) (mergeBytes (configWord (touchLink b p) p (off / 4 * 4)) v.toNat enables.val)
        (mergeBytes 0 v.toNat enables.val)
        ((configKept (touchLink b p) p (off / 4 * 4)
          (mergeBytes (configWord (touchLink b p) p (off / 4 * 4)) v.toNat enables.val)).answer .none) := by
  rw [configWrite, h, Block.guard_true]
  exact if_neg (by rw [answersCrs_touchLink, hcrs]; exact Bool.false_ne_true)

/-- Bus Master Enable cleared and the reads outstanding given up: a port that had any counts it. -/
def busMasterCleared (b : Block) (p : Port) : Block :=
  let b := b.put .PX_BME_BME p.val 0
  abandonReads (if (vget b.px p).out.isEmpty then b else b.bump .PX_BME_CLEARS p.val) p

theorem bmeClear_eq {b : Block} {p : Port} (h : b.get .PX_BME_BME p.val = 1) :
    bmeClear p b = (b.nvm.cmds.filter (halfReceived p)).foldl dropHalf (busMasterCleared b p) := by
  have hnvm : (busMasterCleared b p).nvm = b.nvm := by
    unfold busMasterCleared
    dsimp only
    split <;> rfl
  rw [← hnvm, bmeClear, h]
  rfl

theorem abandonReads_get (b : Block) (p : Port) (f : Field) (i : Nat) : (abandonReads b p).get f i = b.get f i := rfl

theorem abandonReads_out (b : Block) (p : Port) : (vget (abandonReads b p).px p).out = [] := by
  simp [abandonReads, Block.onPx]

theorem Field.max_mod (f : Field) (n : Nat) : min n f.max % 2 ^ f.width = min n f.max :=
  Nat.mod_eq_of_lt (Nat.lt_of_le_of_lt (Nat.min_le_right _ _) (Nat.sub_lt (by positivity) Nat.one_pos))

/-- A counter that advances reads one more, up to its greatest value. -/
theorem Block.get_bump (b : Block) (f : Field) (i n : Nat) : (b.bump f i n).get f i = min (b.get f i + n) f.max := by
  rw [Block.get_bump_same, Field.max_mod]

theorem busMasterCleared_get_bme (b : Block) (p : Port) : (busMasterCleared b p).get .PX_BME_BME p.val = 0 := by
  unfold busMasterCleared
  dsimp only
  rw [abandonReads_get]
  split <;> simp [Block.bump]

theorem busMasterCleared_get_clears (b : Block) (p : Port) :
    (busMasterCleared b p).get .PX_BME_CLEARS p.val =
      if (vget b.px p).out = [] then b.get .PX_BME_CLEARS p.val
      else min (b.get .PX_BME_CLEARS p.val + 1) (Field.max .PX_BME_CLEARS) := by
  unfold busMasterCleared
  dsimp only
  rw [abandonReads_get, Block.put_px]
  cases h : (vget b.px p).out with
  | nil => simp
  | cons o os => simp [Block.get_bump]

theorem busMasterCleared_rest (b : Block) (p : Port) :
    (busMasterCleared b p).nv = b.nv ∧ (busMasterCleared b p).nvm = b.nvm := by
  unfold busMasterCleared
  dsimp only
  split <;> exact ⟨rfl, rfl⟩

/-- Settles O23: the requests by their equations, and a clear of Bus Master Enable as far as `busMasterCleared`. -/
theorem configurationCompletes : Obligations.ConfigurationCompletes := by
  refine ⟨?_, ?_, ?_, ?_, fun _ _ => rfl, ?_, ?_⟩
  · intro s p off h
    refine ⟨_, rfl, ?_, rfl, ?_⟩
    · dsimp only
      rw [configRead_eq h]
      rfl
    · dsimp only
      rw [configRead_eq h]
      rfl
  · exact fun s p off v enables h hcrs => ⟨_, rfl, configWrite_crs h hcrs off v enables⟩
  · intro s p off v enables h hcrs
    refine ⟨_, _, rfl, rfl, configWrite_taken h hcrs off v enables, rfl, configKept_regs _ _ _ _, ?_⟩
    have hconfig : (vget (touchLink s.blk p).px p).config = (vget s.blk.px p).config :=
      touchLink_vget_px s.blk p p PciPort.config (fun _ _ => rfl)
    have hword : off / 4 * 4 / 4 = off / 4 := by omega
    exact (configKept_config _ _ _ _).trans (by rw [hconfig, hword])
  · intro s p h
    obtain ⟨hnv, hnvm⟩ := busMasterCleared_rest s.blk p
    exact ⟨_, busMasterCleared s.blk p, rfl, busMasterCleared_get_bme s.blk p, abandonReads_out _ p, hnv, hnvm,
      busMasterCleared_get_clears s.blk p, bmeClear_eq h⟩
  · intro s p h
    refine ⟨_, rfl, ?_⟩
    dsimp only
    rw [h, Block.guard_true]
    exact ⟨by simp, Block.get_bump s.blk _ _ _⟩
  · intro s p h
    refine ⟨_, rfl, ?_⟩
    dsimp only
    rw [h, Block.guard_true]
    refine ⟨by simp [Block.onPx], by simp, ?_⟩
    rw [Block.get_bump, Block.get_onPx, touchLink_get s.blk p (by decide) (port_val_lt_256 p)]

end Sys2Proof.Machine

namespace Sys2Proof.Machine

/-! ## The SRAM code's syndromes (R681, R682)

The checks are sums without carry, so that the syndrome of two bad bits is the sum of theirs. -/

theorem foldl_xor_xor (l : List Nat) (f g : Nat → Bool) : ∀ x y : Bool,
    l.foldl (fun z c => xor z (xor (f c) (g c))) (xor x y) =
      xor (l.foldl (fun z c => xor z (f c)) x) (l.foldl (fun z c => xor z (g c)) y) := by
  induction l with
  | nil => exact fun _ _ => rfl
  | cons c l ih =>
    intro x y
    have hswap : xor (xor x y) (xor (f c) (g c)) = xor (xor x (f c)) (xor y (g c)) := by
      cases x <;> cases y <;> simp
    rw [List.foldl_cons, hswap, ih]
    rfl

theorem xor_three (a b c d e f : Bool) :
    xor (xor a d) (xor (xor b e) (xor c f)) = xor (xor a (xor b c)) (xor d (xor e f)) := by
  cases a <;> cases b <;> cases c <;> simp

theorem rowCheck_xor (v w r : Nat) : rowCheck (v ^^^ w) r = xor (rowCheck v r) (rowCheck w r) := by
  simp only [rowCheck, Nat.testBit_xor, xor_three]
  exact foldl_xor_xor _ _ _ _ _

theorem colCheck_xor (v w c : Nat) : colCheck (v ^^^ w) c = xor (colCheck v c) (colCheck w c) := by
  simp only [colCheck, Nat.testBit_xor, xor_three]
  exact foldl_xor_xor _ _ _ _ _

theorem sramSyndrome_length (w : Nat) : (sramSyndrome w).length = 16 := rfl

theorem sramSyndrome_xor (v w : Nat) : sramSyndrome (v ^^^ w) = (sramSyndrome v).zipWith xor (sramSyndrome w) := by
  rw [sramSyndrome, funext (rowCheck_xor v w), funext (colCheck_xor v w)]
  rfl

/-- A syndrome as a number, R0 lowest. -/
def syndromeCode (l : List Bool) : Nat := l.foldr Nat.bit 0

theorem syndromeCode_xor {k l : List Bool} (h : k.length = l.length) :
    syndromeCode (k.zipWith xor l) = syndromeCode k ^^^ syndromeCode l := by
  induction k generalizing l with
  | nil => cases l with
    | nil => rfl
    | cons y l => cases h
  | cons x k ih => cases l with
    | nil => cases h
    | cons y l => exact (congrArg (Nat.bit (xor x y)) (ih (Nat.succ.inj h))).trans (Nat.xor_bit x _ y _).symm

/-- The syndromes that the decoder knows, as the set bits of a number: none, poison, and those of the single bad bits. -/
def knownSyndromes : Nat :=
  (List.range 80).foldl (fun m i => m ||| 2 ^ syndromeCode (sramSyndrome (2 ^ i))) (1 ||| 2 ^ 65535)

theorem knownSyndromes_single : ∀ i : Fin 80, knownSyndromes.testBit (syndromeCode (sramSyndrome (2 ^ i.val))) = true := by
  decide +kernel

theorem knownSyndromes_none_poison : knownSyndromes.testBit (syndromeCode (List.replicate 16 false)) = true ∧
    knownSyndromes.testBit (syndromeCode (List.replicate 16 true)) = true := by
  decide +kernel

/-- No two single bad bits have a syndrome, taken together, that the decoder knows. -/
theorem knownSyndromes_pair : ∀ i j : Fin 80, i ≠ j →
    knownSyndromes.testBit (syndromeCode (sramSyndrome (2 ^ i.val)) ^^^ syndromeCode (sramSyndrome (2 ^ j.val))) = false := by
  decide +kernel

theorem sramDecode_unknown {syn : List Bool} (hlen : syn.length = 16) (h : knownSyndromes.testBit (syndromeCode syn) = false) :
    sramDecode syn = .uncorrectable := by
  have hne : ∀ x : List Bool, knownSyndromes.testBit (syndromeCode x) = true → syn ≠ x := by
    rintro x hx rfl
    exact Bool.false_ne_true (h.symm.trans hx)
  have hnone : syn.all (fun x => !x) = false := by
    refine Bool.eq_false_iff.mpr (fun hall => hne _ knownSyndromes_none_poison.1 (List.eq_replicate_iff.mpr ⟨hlen, fun x hx => ?_⟩))
    exact (Bool.not_eq_true' x).mp (List.all_eq_true.mp hall x hx)
  have hpoison : syn.all id = false := by
    refine Bool.eq_false_iff.mpr (fun hall => hne _ knownSyndromes_none_poison.2 (List.eq_replicate_iff.mpr ⟨hlen, fun x hx => ?_⟩))
    exact List.all_eq_true.mp hall x hx
  have hsingle : (List.range 80).find? (fun i => decide (sramSyndrome (2 ^ i) = syn)) = none := by
    refine List.find?_eq_none.mpr (fun i hi => ?_)
    have hi' : i < 80 := List.mem_range.mp hi
    simpa using fun e => hne _ (knownSyndromes_single ⟨i, hi'⟩) (Eq.symm e)
  rw [sramDecode, hnone, hsingle, hpoison]
  rfl

theorem sramDecode_pair {i j : Fin 80} (h : i ≠ j) : sramDecode (sramSyndrome (2 ^ i.val ^^^ 2 ^ j.val)) = .uncorrectable := by
  refine sramDecode_unknown (sramSyndrome_length _) ?_
  rw [sramSyndrome_xor, syndromeCode_xor (by rw [sramSyndrome_length, sramSyndrome_length])]
  exact knownSyndromes_pair i j h

theorem sramDecode_single : ∀ i : Fin 80, sramDecode (sramSyndrome (2 ^ i.val)) = .corrected i.val := by
  decide +kernel

/-! ## Spare rows and the words read by the scrubber (R685, R687, R688) -/

/-- The fields that a repair of a row writes. -/
def spareFields : List Field := [.MEM_SPARE_FREE, .MEM_SPARE_LEAST, .MEM_SPARE_NOSPARE, .MEM_SRAM_SPARED]

theorem useSpare_frame (b : Block) (x : Spare) :
    regsKept spareFields b (useSpare b x) ∧ (useSpare b x).mm.poison = b.mm.poison := by
  unfold useSpare
  generalize (if x.column = true then freeColumns b x.bank else freeRows b x.bank) = left
  split
  · exact ⟨regsKept_refl _ _, rfl⟩
  · exact ⟨by simp [refreshSpareRows, spareFields], rfl⟩

theorem spareRow_frame (b : Block) (bank row : Nat) :
    regsKept spareFields b (spareRow b bank row) ∧ (spareRow b bank row).mm.poison = b.mm.poison := by
  unfold spareRow
  split
  · exact ⟨regsKept_refl _ _, rfl⟩
  · dsimp only
    split
    · exact useSpare_frame b _
    · exact useSpare_frame b _

theorem rowCorrected_frame (b : Block) (bank row pass : Nat) :
    regsKept spareFields b (rowCorrected b bank row pass) ∧ (rowCorrected b bank row pass).mm.poison = b.mm.poison := by
  obtain ⟨hregs, hpoison⟩ := spareRow_frame b bank row
  unfold rowCorrected
  dsimp only
  split
  · exact ⟨(regsKept_bump _ _ _ (by decide) (by decide)).mpr hregs, hpoison⟩
  · exact ⟨regsKept_refl _ _, rfl⟩

/-- No bad bits left, nothing is stored. -/
theorem sramPatch_zero (r : NMap Byte × Block) (addr : Nat) : sramPatch r addr 0 = r :=
  List.foldlRecOn (motive := fun q => q = r) _ _ rfl (fun q hq k _ => by simp [hq])

/-- A word read with the pass moved on after the last one. -/
def scrubPassed (last : Bool) (pass : Nat) (b : Block) : Block :=
  if last then { b with mm := { b.mm with scrubWord := pass + 1 } } else b

theorem scrubPassed_regs (last : Bool) (pass : Nat) (b : Block) : (scrubPassed last pass b).regs = b.regs := by
  cases last <;> rfl

theorem scrubPassed_poison (last : Bool) (pass : Nat) (b : Block) : (scrubPassed last pass b).mm.poison = b.mm.poison := by
  cases last <;> rfl

theorem scrubPassed_get (last : Bool) (pass : Nat) (b : Block) (f : Field) (i : Nat) :
    (scrubPassed last pass b).get f i = b.get f i := by
  cases last <;> rfl

theorem bit_lt_word (i : Fin 80) : 2 ^ i.val < 2 ^ 80 := Nat.pow_lt_pow_of_lt (by decide : 1 < 2) i.isLt

/-- One bad bit in a word that is not poisoned is corrected where it stands and counted. -/
theorem sramScrub_corrected {r : NMap Byte × Block} (h : r.2.pwr.powered = true) {addr : Option Nat}
    (hclean : ∀ x ∈ addr.toList, poisonedAt r.2 x = false) (bank row : Nat) (i : Fin 80) (clean last : Bool) :
    sramScrub addr bank row (2 ^ i.val) clean last r = (r.1, scrubPassed last r.2.mm.scrubWord
      (rowCorrected { r.2.bump .MEM_SRAM_CORR 0 with och := { r.2.och with sramLast := r.2.och.sramLast + 1 } }
        bank row r.2.mm.scrubWord)) := by
  refine (if_neg (by simp [h])).trans ?_
  extract_lets pass bad marked syn word b mm q
  have hbad : bad = 2 ^ i.val := Nat.mod_eq_of_lt (bit_lt_word i)
  have hmarked : marked = false := by
    cases addr with
    | none => rfl
    | some x => exact hclean x (by simp)
  have hsyn : sramDecode syn = .corrected i.val := by
    simp [syn, hbad, hmarked, sramDecode_single i]
  have hq : q = (r.1, rowCorrected
      { r.2.bump .MEM_SRAM_CORR 0 with och := { r.2.och with sramLast := r.2.och.sramLast + 1 } } bank row pass) := by
    unfold q
    rw [hsyn, hbad]
    cases addr with
    | none => rfl
    | some x =>
      dsimp only
      rw [Nat.xor_self, sramPatch_zero]
      rfl
  clear_value q
  subst hq
  cases last <;> rfl

/-- Two bad bits in a word that is not poisoned are detected: a clean line is fetched again, any other data is poisoned. -/
theorem sramScrub_uncorrectable {r : NMap Byte × Block} (h : r.2.pwr.powered = true) {x : Nat} (hclean : poisonedAt r.2 x = false)
    (bank row : Nat) {i j : Fin 80} (hij : i ≠ j) (clean last : Bool) :
    sramScrub (some x) bank row (2 ^ i.val ^^^ 2 ^ j.val) clean last r =
      (r.1, scrubPassed last r.2.mm.scrubWord (if clean then fetchAgain (r.2.bump .MEM_SRAM_UNCORR 0) x
        else { r.2.bump .MEM_SRAM_UNCORR 0 with mm := { r.2.mm with poison := r.2.mm.poison ++ [poisonCell x] } })) := by
  refine (if_neg (by simp [h])).trans ?_
  extract_lets pass bad marked syn word b mm q
  have hbad : bad = 2 ^ i.val ^^^ 2 ^ j.val :=
    Nat.mod_eq_of_lt (Nat.xor_lt_two_pow (bit_lt_word i) (bit_lt_word j))
  have hmarked : marked = false := hclean
  have hsyn : sramDecode syn = .uncorrectable := by
    simp [syn, hbad, hmarked, sramDecode_pair hij]
  have hq : q = (r.1, if clean then fetchAgain (r.2.bump .MEM_SRAM_UNCORR 0) x
      else { r.2.bump .MEM_SRAM_UNCORR 0 with mm := { r.2.mm with poison := r.2.mm.poison ++ [poisonCell x] } }) := by
    unfold q
    rw [hsyn, hmarked]
    rfl
  clear_value q
  subst hq
  cases last <;> rfl

theorem writeBackWhere_only (b : Block) (p : Nat → Bool) : CachesOnly b (writeBackWhere b p) := by
  unfold writeBackWhere
  refine (dropL1_only b none p).trans ?_
  generalize dropL1 b none p = c
  exact ⟨rfl, fun _ _ _ _ => rfl⟩

theorem fetchAgain_only (b : Block) (x : Nat) : CachesOnly b (fetchAgain b x) := by
  unfold fetchAgain
  split
  · exact (writeBackWhere_only b _).trans (rangeAccess_only _ _ _ _ _)
  · exact CachesOnly.refl b

theorem execSramScrub_single {s : State} (h : s.blk.pwr.powered = true) {addr : Option Nat}
    (hclean : ∀ x ∈ addr.toList, poisonedAt s.blk x = false) (bank row : Nat) (i : Fin 80) (clean last : Bool) :
    ∃ t, exec (.sramScrub addr bank row (2 ^ i.val) clean last) s = .next t ∧ t.mem = s.mem ∧ t.blk.mm.poison = s.blk.mm.poison ∧
      t.blk.get .MEM_SRAM_CORR 0 = min (s.blk.get .MEM_SRAM_CORR 0 + 1) (Field.max .MEM_SRAM_CORR) := by
  have heq := sramScrub_corrected (r := (s.mem, s.blk)) h hclean bank row i clean last
  obtain ⟨hregs, hpoison⟩ := rowCorrected_frame
    { s.blk.bump .MEM_SRAM_CORR 0 with och := { s.blk.och with sramLast := s.blk.och.sramLast + 1 } } bank row s.blk.mm.scrubWord
  refine ⟨_, rfl, ?_, ?_, ?_⟩ <;> dsimp only <;> rw [heq]
  · exact (scrubPassed_poison _ _ _).trans hpoison
  · exact (scrubPassed_get _ _ _ _ _).trans ((hregs _ 0 (by decide) (by decide)).trans (Block.get_bump _ _ _ _))

theorem execSramScrub_pair {s : State} (h : s.blk.pwr.powered = true) {x : Nat} (hclean : poisonedAt s.blk x = false)
    (bank row : Nat) {i j : Fin 80} (hij : i ≠ j) (last : Bool) :
    ∃ t, exec (.sramScrub (some x) bank row (2 ^ i.val ^^^ 2 ^ j.val) false last) s = .next t ∧ t.mem = s.mem ∧
      poisonedAt t.blk x = true ∧ t.blk.get .MEM_SRAM_CORR 0 = s.blk.get .MEM_SRAM_CORR 0 ∧
      t.blk.get .MEM_SRAM_UNCORR 0 = min (s.blk.get .MEM_SRAM_UNCORR 0 + 1) (Field.max .MEM_SRAM_UNCORR) := by
  have heq := sramScrub_uncorrectable (r := (s.mem, s.blk)) h hclean bank row hij false last
  refine ⟨_, rfl, ?_, ?_, ?_, ?_⟩ <;> dsimp only <;> rw [heq]
  · rw [poisonedAt, scrubPassed_poison]
    simp
  · rw [scrubPassed_get]
    exact Block.get_put_ne s.blk 0 0 _ (by decide) (by decide) (by decide)
  · rw [scrubPassed_get]
    exact Block.get_bump s.blk _ _ _

theorem execSramScrub_pair_clean {s : State} (h : s.blk.pwr.powered = true) {x : Nat} (hclean : poisonedAt s.blk x = false)
    (bank row : Nat) {i j : Fin 80} (hij : i ≠ j) (last : Bool) :
    ∃ t, exec (.sramScrub (some x) bank row (2 ^ i.val ^^^ 2 ^ j.val) true last) s = .next t ∧ t.mem = s.mem ∧
      t.blk.mm.poison = s.blk.mm.poison ∧
      t.blk.get .MEM_SRAM_UNCORR 0 = min (s.blk.get .MEM_SRAM_UNCORR 0 + 1) (Field.max .MEM_SRAM_UNCORR) ∧
      regsKept (cacheFields ++ [.MEM_SRAM_UNCORR]) s.blk t.blk := by
  have heq := sramScrub_uncorrectable (r := (s.mem, s.blk)) h hclean bank row hij true last
  have hfetch := fetchAgain_only (s.blk.bump .MEM_SRAM_UNCORR 0) x
  obtain ⟨-, -, -, -, -, -, -, hpoison, -⟩ := hfetch.rest
  refine ⟨_, rfl, ?_, ?_, ?_, ?_⟩ <;> dsimp only <;> rw [heq]
  · exact (scrubPassed_poison _ _ _).trans hpoison
  · exact (scrubPassed_get _ _ _ _ _).trans ((hfetch.regsKept _ 0 (by decide) (by decide)).trans (Block.get_bump _ _ _ _))
  · have hbump : regsKept (cacheFields ++ [.MEM_SRAM_UNCORR]) s.blk (s.blk.bump .MEM_SRAM_UNCORR 0) := by simp
    exact (hbump.trans (hfetch.regsKept.mono (by decide))).trans (regsKept_of_regs (scrubPassed_regs _ _ _))

/-! ## The DRAM patrol (R689, R690, R692, R709) -/

theorem lineTag_lt (line : Nat) : lineTag line < 128 :=
  List.foldlRecOn (motive := fun x => x < 2 ^ 7) _ _ (by decide)
    (fun _ hx _ _ => Nat.xor_lt_two_pow hx (Nat.mod_lt _ (by decide)))

theorem tagByte_mod (line : Nat) (poison : Bool) : tagByte line poison % 128 = lineTag line := by
  have h := lineTag_lt line
  cases poison <;> simp only [tagByte, reduceIte, Bool.false_eq_true] <;> omega

theorem tagByte_lt (line : Nat) (poison : Bool) : tagByte line poison < 256 := by
  have h := lineTag_lt line
  cases poison <;> simp only [tagByte, reduceIte, Bool.false_eq_true] <;> omega

theorem tagByte_poison (line : Nat) (poison : Bool) : decide (128 ≤ tagByte line poison) = poison := by
  have h := lineTag_lt line
  cases poison
  · exact decide_eq_false (by simp only [tagByte, reduceIte, Bool.false_eq_true]; omega)
  · exact decide_eq_true (by simp only [tagByte, reduceIte]; omega)

/-- Bytes laid from byte k on, below byte n, make a number of n bytes. -/
theorem foldl_bytes_lt (f : Nat → Byte) (n : Nat) :
    (List.range n).foldl (fun x k => x + (f k).toNat * 2 ^ (8 * k)) 0 < 2 ^ (8 * n) := by
  induction n with
  | zero => simp
  | succ n ih =>
    rw [List.range_succ, List.foldl_append, List.foldl_cons, List.foldl_nil]
    have hbyte : (f n).toNat * 2 ^ (8 * n) ≤ 255 * 2 ^ (8 * n) := Nat.mul_le_mul_right _ (Nat.le_of_lt_succ (f n).isLt)
    have hpow : 2 ^ (8 * (n + 1)) = 256 * 2 ^ (8 * n) := by rw [Nat.mul_add, Nat.pow_add, Nat.mul_comm]
    omega

theorem lineData_lt (m : NMap Byte) (line : Nat) : lineData m line < 2 ^ 512 := by
  have h := foldl_bytes_lt (fun k => nget 0 m (64 * line + k)) 64
  rwa [show 8 * 64 = 512 from rfl] at h

/-- Check symbols lie above the 65 bytes that they check. -/
theorem foldl_checks_mod (l : List (Nat × Nat)) (w : Nat) :
    l.foldl (fun x c => x + c.1 * 2 ^ (8 * (65 + c.2))) w % 2 ^ 520 = w % 2 ^ 520 := by
  induction l generalizing w with
  | nil => rfl
  | cons c l ih =>
    have hc : 2 ^ 520 ∣ c.1 * 2 ^ (8 * (65 + c.2)) := (Nat.pow_dvd_pow 2 (show 520 ≤ 8 * (65 + c.2) by omega)).mul_left _
    rw [List.foldl_cons, ih, Nat.add_mod, Nat.mod_eq_zero_of_dvd hc, Nat.add_zero, Nat.mod_mod]

theorem dramCodeword_mod (data line : Nat) (poison : Bool) :
    dramCodeword data line poison % 2 ^ 520 = data % 2 ^ 512 + 2 ^ 512 * tagByte line poison := by
  have hd : data % 2 ^ 512 < 2 ^ 512 := Nat.mod_lt _ (by positivity)
  have ht := tagByte_lt line poison
  exact (foldl_checks_mod _ _).trans (Nat.mod_eq_of_lt (by omega))

theorem dramCodeword_data (data line : Nat) (poison : Bool) : dramCodeword data line poison % 2 ^ 512 = data % 2 ^ 512 := by
  have h := dramCodeword_mod data line poison
  omega

theorem dramCodeword_tag (data line : Nat) (poison : Bool) :
    symbolOf (dramCodeword data line poison) 64 = tagByte line poison := by
  have h := dramCodeword_mod data line poison
  have ht := tagByte_lt line poison
  have hd : data % 2 ^ 512 < 2 ^ 512 := Nat.mod_lt _ (by positivity)
  simp only [symbolOf]
  omega

/-- A line whose codeword has at most three bad symbols, and the tag of its address, reads as it was written. -/
theorem lineRead_codeword {line src bad : Nat} (h : badSymbols bad ≤ 3) (htag : lineTag src = lineTag line) (data : Nat)
    (poison : Bool) :
    lineRead line (dramCodeword data src poison) bad = some (data % 2 ^ 512, poison, badSymbols bad) := by
  have hdec : dramDecode (dramCodeword data src poison) bad = some (dramCodeword data src poison, badSymbols bad) := if_pos h
  unfold lineRead
  rw [hdec]
  dsimp only
  rw [dramCodeword_tag, tagByte_mod, if_pos htag, dramCodeword_data, tagByte_poison]

theorem lineRead_four {line w bad : Nat} (h : badSymbols bad = 4) : lineRead line w bad = none := by
  have hdec : dramDecode w bad = none := (if_neg (by omega)).trans (if_pos h)
  unfold lineRead
  rw [hdec]

theorem lineRead_astray {line src bad : Nat} (h : badSymbols bad ≤ 3) (htag : lineTag src ≠ lineTag line) (data : Nat)
    (poison : Bool) : lineRead line (dramCodeword data src poison) bad = none := by
  have hdec : dramDecode (dramCodeword data src poison) bad = some (dramCodeword data src poison, badSymbols bad) := if_pos h
  unfold lineRead
  rw [hdec]
  dsimp only
  rw [dramCodeword_tag, tagByte_mod, if_neg htag]

theorem mem_markLine_poison (b : Block) (line : Nat) : 64 * line ∈ (markLine b line true).mm.poison := by
  unfold markLine
  dsimp only
  split
  · next h => exact of_decide_eq_true h
  · exact List.mem_append_right _ (List.mem_singleton_self _)

theorem markLine_scrubLine (b : Block) (line : Nat) (poison : Bool) : (markLine b line poison).mm.scrubLine = b.mm.scrubLine := by
  unfold markLine
  dsimp only
  split <;> rfl

theorem scrubNext_poison (b : Block) : (scrubNext b).mm.poison = b.mm.poison := by
  unfold scrubNext
  dsimp only
  split <;> rfl

theorem scrubNext_of_ne {b : Block} (h : b.mm.scrubLine + 1 ≠ dramLines) :
    scrubNext b = { b with mm := { b.mm with scrubLine := b.mm.scrubLine + 1 } }.put .MEM_SCRUB_PROG 0
      ((b.mm.scrubLine + 1) * 10000 / dramLines) := if_neg h

theorem scrubNext_of_last {b : Block} (h : b.mm.scrubLine + 1 = dramLines) :
    scrubNext b = ({ b with mm := { b.mm with scrubLine := 0 } }.bump .MEM_SCRUB_PASSES 0).put .MEM_SCRUB_PROG 0 0 := if_pos h

/-- The line that the patrol reads next. -/
def patrolLine (b : Block) : Nat := dramFirst + b.mm.scrubLine

/-- A line that corrects is written back as it stands, its bad symbols counted. -/
theorem dramScrub_corrected {r : NMap Byte × Block} (h : r.2.pwr.powered = true) {bad : Nat} (hbad : badSymbols bad ≤ 3) :
    dramScrub bad r.2.mm.scrubLine r = (r.1, scrubNext { r.2.bump .MEM_DRAM_CORR 0 (badSymbols bad) with
      och := { r.2.och with dramLast := r.2.och.dramLast + badSymbols bad } }) := by
  have hread := lineRead_codeword (line := patrolLine r.2) hbad rfl (lineData r.1 (patrolLine r.2))
    (decide (64 * patrolLine r.2 ∈ r.2.mm.poison))
  have hdata : lineData r.1 (patrolLine r.2) % 2 ^ 512 = lineData r.1 (patrolLine r.2) := Nat.mod_eq_of_lt (lineData_lt _ _)
  have hmark : markLine r.2 (patrolLine r.2) (decide (64 * patrolLine r.2 ∈ r.2.mm.poison)) = r.2 := if_pos rfl
  unfold patrolLine at hread hdata hmark
  unfold dramScrub
  rw [if_neg (by simp [h])]
  dsimp only
  rw [hread]
  dsimp only
  rw [hdata, if_pos rfl, hmark]
  rfl

/-- What the patrol has made of a block when it read a line uncorrectable, before it moves on: the count, the poison mark, and the
owner told where it was not. -/
theorem dramScrub_uncorrectable {r : NMap Byte × Block} (h : r.2.pwr.powered = true) {bad held : Nat}
    (hread : lineRead (patrolLine r.2) (dramCodeword (lineData r.1 (dramFirst + held)) (dramFirst + held)
      (decide (64 * (dramFirst + held) ∈ r.2.mm.poison))) bad = none) :
    ∃ b, dramScrub bad held r = (r.1, scrubNext b) ∧ b.regs = (r.2.bump .MEM_DRAM_UNCORR 0).regs ∧
      b.mm.scrubLine = r.2.mm.scrubLine ∧ 64 * patrolLine r.2 ∈ b.mm.poison := by
  have hmark := mem_markLine_poison (r.2.bump .MEM_DRAM_UNCORR 0) (patrolLine r.2)
  have hregs := markLine_regs (r.2.bump .MEM_DRAM_UNCORR 0) (patrolLine r.2) true
  have hline := markLine_scrubLine (r.2.bump .MEM_DRAM_UNCORR 0) (patrolLine r.2) true
  unfold patrolLine at hread
  unfold dramScrub
  rw [if_neg (by simp [h])]
  dsimp only
  rw [hread]
  refine ⟨_, rfl, ?_⟩
  split
  · exact ⟨hregs, hline, hmark⟩
  · exact ⟨hregs, hline, hmark⟩

/-- Whatever the patrol reads, it ends by moving on from a block in which nothing of its own place has changed. -/
theorem dramScrub_moves {r : NMap Byte × Block} (h : r.2.pwr.powered = true) (bad held : Nat) :
    ∃ b, (dramScrub bad held r).2 = scrubNext b ∧ b.mm.scrubLine = r.2.mm.scrubLine ∧
      regsKept [.MEM_DRAM_CORR, .MEM_DRAM_UNCORR] r.2 b := by
  cases hread : lineRead (patrolLine r.2) (dramCodeword (lineData r.1 (dramFirst + held)) (dramFirst + held)
      (decide (64 * (dramFirst + held) ∈ r.2.mm.poison))) bad with
  | none =>
    obtain ⟨b, heq, hregs, hline, -⟩ := dramScrub_uncorrectable h hread
    have hbump : regsKept [.MEM_DRAM_CORR, .MEM_DRAM_UNCORR] r.2 (r.2.bump .MEM_DRAM_UNCORR 0) := by simp
    exact ⟨b, congrArg Prod.snd heq, hline, hbump.trans (regsKept_of_regs hregs)⟩
  | some x =>
    obtain ⟨data, poison, n⟩ := x
    unfold patrolLine at hread
    unfold dramScrub
    rw [if_neg (by simp [h])]
    dsimp only
    rw [hread]
    refine ⟨_, rfl, markLine_scrubLine _ _ _, ?_⟩
    exact (regsKept_bump _ _ _ (by decide) (by decide)).mpr (regsKept_of_regs (markLine_regs _ _ _))

theorem execDramScrub_corrected {s : State} {bad : Nat} (h : s.blk.pwr.powered = true) (hbad : badSymbols bad ≤ 3)
    (hnext : s.blk.mm.scrubLine + 1 ≠ dramLines) :
    ∃ t, exec (.dramScrub bad s.blk.mm.scrubLine) s = .next t ∧ t.mem = s.mem ∧ t.blk.mm.scrubLine = s.blk.mm.scrubLine + 1 ∧
      t.blk.get .MEM_DRAM_CORR 0 = min (s.blk.get .MEM_DRAM_CORR 0 + badSymbols bad) (Field.max .MEM_DRAM_CORR) ∧
      t.blk.mm.poison = s.blk.mm.poison ∧ regsKept [.MEM_DRAM_CORR, .MEM_SCRUB_PROG] s.blk t.blk := by
  have heq := (dramScrub_corrected (r := (s.mem, s.blk)) h hbad).trans (congrArg _ (scrubNext_of_ne hnext))
  refine ⟨_, rfl, ?_, ?_, ?_, ?_, ?_⟩ <;> dsimp only <;> rw [heq]
  · rfl
  · exact (Block.get_put_ne _ 0 0 _ (by decide) (by decide) (by decide)).trans (Block.get_bump s.blk _ _ _)
  · rfl
  · refine (regsKept_put _ _ _ (by decide) (by decide)).mpr ?_
    exact (regsKept_bump s.blk s.blk _ (by decide) (by decide)).mpr (regsKept_refl _ _)

theorem execDramScrub_uncorrectable {s : State} {bad held : Nat} (h : s.blk.pwr.powered = true)
    (hbad : badSymbols bad = 4 ∨ (badSymbols bad ≤ 3 ∧ lineTag (dramFirst + held) ≠ lineTag (dramFirst + s.blk.mm.scrubLine))) :
    ∃ t, exec (.dramScrub bad held) s = .next t ∧ t.mem = s.mem ∧ 64 * (dramFirst + s.blk.mm.scrubLine) ∈ t.blk.mm.poison ∧
      t.blk.get .MEM_DRAM_CORR 0 = s.blk.get .MEM_DRAM_CORR 0 ∧
      t.blk.get .MEM_DRAM_UNCORR 0 = min (s.blk.get .MEM_DRAM_UNCORR 0 + 1) (Field.max .MEM_DRAM_UNCORR) := by
  have hread : lineRead (patrolLine s.blk) (dramCodeword (lineData s.mem (dramFirst + held)) (dramFirst + held)
      (decide (64 * (dramFirst + held) ∈ s.blk.mm.poison))) bad = none := by
    rcases hbad with hfour | ⟨hthree, htag⟩
    · exact lineRead_four hfour
    · exact lineRead_astray hthree htag _ _
  obtain ⟨b, heq, hregs, -, hpoison⟩ := dramScrub_uncorrectable (r := (s.mem, s.blk)) h hread
  have hnext := scrubNext_regsKept b
  have hkept : regsKept [] (s.blk.bump .MEM_DRAM_UNCORR 0) b := regsKept_of_regs hregs
  refine ⟨_, rfl, ?_, ?_, ?_, ?_⟩ <;> dsimp only <;> rw [heq]
  · rw [scrubNext_poison]
    exact hpoison
  · rw [hnext _ 0 (by decide) (by decide), hkept _ 0 (by decide) (by decide)]
    exact Block.get_put_ne s.blk 0 0 _ (by decide) (by decide) (by decide)
  · rw [hnext _ 0 (by decide) (by decide), hkept _ 0 (by decide) (by decide)]
    exact Block.get_bump s.blk _ _ _

theorem execDramScrub_last {s : State} (bad held : Nat) (h : s.blk.pwr.powered = true)
    (hlast : s.blk.mm.scrubLine + 1 = dramLines) :
    ∃ t, exec (.dramScrub bad held) s = .next t ∧ t.blk.mm.scrubLine = 0 ∧ t.blk.get .MEM_SCRUB_PROG 0 = 0 ∧
      t.blk.get .MEM_SCRUB_PASSES 0 = min (s.blk.get .MEM_SCRUB_PASSES 0 + 1) (Field.max .MEM_SCRUB_PASSES) := by
  obtain ⟨b, heq, hline, hkept⟩ := dramScrub_moves (r := (s.mem, s.blk)) h bad held
  have hnext := heq.trans (scrubNext_of_last (hline ▸ hlast))
  refine ⟨_, rfl, ?_, ?_, ?_⟩ <;> dsimp only <;> rw [hnext]
  · rfl
  · exact Block.get_put_same _ _ _ _
  · refine (Block.get_put_ne _ 0 0 _ (by decide) (by decide) (by decide)).trans ((Block.get_bump _ _ _ _).trans ?_)
    exact congrArg (fun n => min (n + 1) (Field.max .MEM_SCRUB_PASSES)) (hkept _ 0 (by decide) (by decide))

/-! ## A calibration asked for, ACT# and the 12 V record (R78, R142, R723) -/

/-- The registers of a calibration under way: asked for, busy, no result yet. -/
def calBusy (b : Block) : Block := ((b.put .SYS_CALCTL_START 0 1).put .SYS_CALCTL_BUSY 0 1).put .SYS_CALCTL_FAIL 0 0

/-- A calibration taken for the items that the register asks for. -/
def calTaken (b : Block) (p : Port) : Block :=
  { calBusy b with fcs := { b.fcs with calPort := some p, calItems := (calBusy b).get .SYS_CALCTL_ITEMS 0,
                                       calAsked := (calBusy b).get .SYS_CALCTL_ITEMS 0, calFailed := 0 } }

theorem calTaken_get (b : Block) (p : Port) (f : Field) (i : Nat) : (calTaken b p).get f i = (calBusy b).get f i := rfl

theorem calTaken_regsKept (b : Block) (p : Port) :
    regsKept [.SYS_CALCTL_START, .SYS_CALCTL_BUSY, .SYS_CALCTL_FAIL] b (calTaken b p) := by
  have h : regsKept [.SYS_CALCTL_START, .SYS_CALCTL_BUSY, .SYS_CALCTL_FAIL] b (calBusy b) := by simp [calBusy]
  exact h

theorem sysCalctlStart_taken {b : Block} {w : Agent} {p : Port} (hw : calUnlock b w = some p)
    (hidle : b.get .SYS_CALCTL_BUSY 0 ≠ 1) (hmode : b.mode ≠ .park) : sysCalctlStart w b = calTaken b p := by
  have hkept : (calTaken b p).mode = b.mode := by
    rw [Block.mode, calTaken_regsKept b p _ 0 (by decide) (by decide)]
    rfl
  unfold sysCalctlStart
  rw [hw]
  dsimp only
  rw [if_neg hidle]
  exact if_neg (fun hc => hmode (hkept.symm.trans hc.1))

theorem execSysCalctlStart_taken {s : State} {w : Agent} {p : Port} (hw : calUnlock s.blk w = some p)
    (hidle : s.blk.get .SYS_CALCTL_BUSY 0 ≠ 1) (hmode : s.blk.mode ≠ .park) :
    ∃ t, exec (.sysCalctlStart w) s = .next t ∧ t.blk.get .SYS_CALCTL_START 0 = 1 ∧ t.blk.get .SYS_CALCTL_BUSY 0 = 1 ∧
      t.blk.get .SYS_CALCTL_FAIL 0 = 0 ∧ t.blk.fcs.calPort = some p ∧ t.blk.fcs.calItems = s.blk.get .SYS_CALCTL_ITEMS 0 ∧
      regsKept [.SYS_CALCTL_START, .SYS_CALCTL_BUSY, .SYS_CALCTL_FAIL] s.blk t.blk := by
  have hkept := calTaken_regsKept s.blk p
  refine ⟨_, rfl, ?_⟩
  dsimp only
  rw [sysCalctlStart_taken hw hidle hmode, calTaken_get, calTaken_get, calTaken_get]
  have hwidth : Field.width .SYS_CALCTL_START = 1 ∧ Field.width .SYS_CALCTL_BUSY = 1 := by decide
  exact ⟨by simp [calBusy, hwidth], by simp [calBusy, hwidth], by simp [calBusy], rfl, hkept _ 0 (by decide) (by decide), hkept⟩

theorem actRelease_due {b : Block} {since : Nat} (hlow : b.hea.actLow = some since) (hidle : b.nvm.cmds = [])
    (hdue : since + 50000 ≤ b.now) : actRelease b = b.onHea (fun h => { h with actLow := none }) := by
  unfold actRelease
  rw [hlow, hidle]
  exact if_pos (by simpa using hdue)

theorem execPwrV12Refresh_kept {s : State} {mv : Nat} (hmv : mv < 2 ^ 16) (hmin : s.blk.get .PWR_V12_MIN 0 < 2 ^ 16) :
    ∃ t, exec (.pwrV12Refresh mv) s = .next t ∧ t.blk.get .PWR_V12_NOW 0 = mv ∧
      t.blk.get .PWR_V12_MIN 0 = min (s.blk.get .PWR_V12_MIN 0) mv ∧ regsKept [.PWR_V12_NOW, .PWR_V12_MIN] s.blk t.blk := by
  have hv : min mv 0xFFFF = mv := Nat.min_eq_left (by omega)
  have hlow : min (s.blk.get .PWR_V12_MIN 0) mv < 2 ^ 16 := lt_of_le_of_lt (Nat.min_le_left _ _) hmin
  refine ⟨_, rfl, ?_⟩
  dsimp only
  rw [hv]
  refine ⟨?_, ?_, by simp⟩
  · rw [Block.get_put_ne _ 0 0 _ (by decide) (by decide) (by decide), Block.get_put_same]
    exact Nat.mod_eq_of_lt hmv
  · rw [Block.get_put_same]
    exact Nat.mod_eq_of_lt hlow

/-- Settles O46: the two scrubs by the code's syndromes and the codeword read back, the rest by the command's own equation. -/
theorem memoriesComplete : Obligations.MemoriesComplete := by
  refine ⟨?_, ?_, ?_, ?_, ?_, ?_, ?_, ?_, ?_, ?_⟩
  · exact fun s addr bank row i clean last h hclean => execSramScrub_single h hclean bank row i clean last
  · exact fun s x bank row i j last h hij hclean => execSramScrub_pair h hclean bank row hij last
  · exact fun s x bank row i j last h hij hclean => execSramScrub_pair_clean h hclean bank row hij last
  · exact fun s bad h hbad hnext => execDramScrub_corrected h hbad hnext
  · exact fun s bad held h hbad => execDramScrub_uncorrectable h hbad
  · exact fun s bad held h hlast => execDramScrub_last bad held h hlast
  · exact fun s w p hw hidle hmode => execSysCalctlStart_taken hw hidle hmode
  · intro s hw
    have heq : sysCalctlStart .core s.blk = s.blk := by
      unfold sysCalctlStart
      rw [hw]
    exact congrArg (fun b => Host.Outcome.next { s with blk := b }) heq
  · intro s since hlow hidle hdue
    refine ⟨_, rfl, ?_⟩
    dsimp only
    rw [actRelease_due hlow hidle hdue]
    exact ⟨rfl, rfl⟩
  · exact fun s mv hmv hmin => execPwrV12Refresh_kept hmv hmin

end Sys2Proof.Machine

namespace Sys2Proof.Machine

/-! ## The registers that follow a surface (R434)

A surface that changes its state is followed by zones, groups, requests, commands and admin commands that waited. Of the registers all
of this writes `followFields` alone. -/

/-- The register fields that what follows a surface writes: the recorder's, those of the links, the dirty DRAM, the pending rows and the
counts of rejected writes. -/
def followFields : List Field := recorderFields ++
  [.PX_LINK_STATE, .PX_PM_PME, .PWR_DIRTY_NOW, .PWR_DIRTY_PEAK, .PWR_PENDING_ROWS, .XL_STATE_RO, .XL_WREJ_ZIW, .XL_WREJ_CAPEX]

section Follow

variable (a b : Block)

@[simp] theorem regsKept_onXl {fs : List Field} (g : Xlate → Xlate) : regsKept fs a (b.onXl g) ↔ regsKept fs a b := Iff.rfl
@[simp] theorem regsKept_onNv {fs : List Field} (p : Port) (g : Ctrl → Ctrl) : regsKept fs a (b.onNv p g) ↔ regsKept fs a b := Iff.rfl
@[simp] theorem regsKept_onNvm {fs : List Field} (g : Nvm → Nvm) : regsKept fs a (b.onNvm g) ↔ regsKept fs a b := Iff.rfl
@[simp] theorem regsKept_fresh {fs : List Field} (n : Nat) : regsKept fs a (b.fresh n).2 ↔ regsKept fs a b := Iff.rfl

theorem regsKept_ite {fs : List Field} {c : Prop} [Decidable c] {x y : Block} (hx : regsKept fs a x) (hy : regsKept fs a y) :
    regsKept fs a (if c then x else y) := by
  split
  · exact hx
  · exact hy

@[simp] theorem follow_sepia (code src pa pb : Nat) :
    regsKept followFields a (b.sepia code src pa pb) ↔ regsKept followFields a b := by
  refine regsKept_iff_of_step (fun f i hi hf => get_sepia b code src pa pb f i hi (fun hr => hf ?_)) a
  exact List.mem_append_left _ hr

/-! ### Completions and events -/

@[simp] theorem follow_touchLink (p : Port) : regsKept followFields a (touchLink b p) ↔ regsKept followFields a b :=
  regsKept_touchLink a b p (by decide)

@[simp] theorem follow_sendMessage (p : Port) (v : Nat) :
    regsKept followFields a (sendMessage b p v) ↔ regsKept followFields a b := by
  unfold sendMessage
  split_ifs <;> simp

@[simp] theorem follow_pmeIfDue (p : Port) : regsKept followFields a (pmeIfDue b p) ↔ regsKept followFields a b := by
  unfold pmeIfDue
  split
  · exact regsKept_bump a _ _ (by decide) (port_val_lt_256 p)
  · rfl

@[simp] theorem follow_postEntry (p : Port) (q : CompQueue) (e : Cqe) :
    regsKept followFields a (postEntry b p q e) ↔ regsKept followFields a b := by
  unfold postEntry
  dsimp only
  split <;> simp

@[simp] theorem follow_tryPost (p : Port) (h : Nat × Cqe) :
    regsKept followFields a (tryPost b p h) ↔ regsKept followFields a b := by
  unfold tryPost
  dsimp only
  split
  · rfl
  · split <;> simp

@[simp] theorem follow_complete (p : Port) (sq cid : Nat) (st : Status) (dw0 dw1 : Nat) :
    regsKept followFields a (complete b p sq cid st dw0 dw1) ↔ regsKept followFields a b := by
  unfold complete
  dsimp only
  split_ifs <;> simp

@[simp] theorem follow_asyncEvent (p : Port) (type info page : Nat) :
    regsKept followFields a (asyncEvent b p type info page) ↔ regsKept followFields a b := by
  unfold asyncEvent
  dsimp only
  split
  · rfl
  · split <;> simp

@[simp] theorem follow_vendorEvent (info page : Nat) :
    regsKept followFields a (vendorEvent b info page) ↔ regsKept followFields a b :=
  regsKept_iff_of_step (regsKept_foldl (fun b _ => regsKept_ite b (by simp) (by simp)) _ b) a

@[simp] theorem follow_jobEvent (p : Port) : regsKept followFields a (jobEvent b p) ↔ regsKept followFields a b := by
  unfold jobEvent
  dsimp only
  split <;> simp

@[simp] theorem follow_setWarning (n : Nat) (v : Bool) :
    regsKept followFields a (setWarning b n v) ↔ regsKept followFields a b := by
  unfold setWarning
  dsimp only
  split
  · exact regsKept_iff_of_step (regsKept_foldl (fun b _ => regsKept_ite b (by simp) (by simp)) _ _) a
  · simp

@[simp] theorem follow_refreshWarnings : regsKept followFields a (refreshWarnings b) ↔ regsKept followFields a b := by
  simp [refreshWarnings]

@[simp] theorem follow_evalSpace : regsKept followFields a (evalSpace b) ↔ regsKept followFields a b := by
  unfold evalSpace
  dsimp only
  split
  · simp only [follow_refreshWarnings]
    exact regsKept_put a _ _ (by decide) (by decide)
  · simp

/-! ### Dirty blocks, the NAND and the journal -/

@[simp] theorem follow_refreshDirty : regsKept followFields a (refreshDirty b) ↔ regsKept followFields a b :=
  regsKept_refreshDirty a b (by decide) (by decide)

@[simp] theorem follow_dirtyDrop (key : Nat) : regsKept followFields a (dirtyDrop b key) ↔ regsKept followFields a b := by
  simp [dirtyDrop]

@[simp] theorem follow_journalEntry : regsKept followFields a (journalEntry b) ↔ regsKept followFields a b := by
  unfold journalEntry
  split <;> simp

@[simp] theorem follow_dropSlot (key : Nat) : regsKept followFields a (dropSlot b key) ↔ regsKept followFields a b := by
  unfold dropSlot
  dsimp only
  split <;> rfl

@[simp] theorem follow_releaseBlock (o : RowOwner) (key : Nat) :
    regsKept followFields a (releaseBlock b o key) ↔ regsKept followFields a b := by
  unfold releaseBlock
  dsimp only
  cases o with
  | mcache id => simp
  | zone n lba => dsimp only; split_ifs <;> simp
  | conv id => dsimp only; split_ifs <;> simp

/-! ### Requests and rows -/

@[simp] theorem follow_enqueueReq (r : MediaReq) : regsKept followFields a (enqueueReq b r) ↔ regsKept followFields a b := by
  unfold enqueueReq
  split <;> rfl

@[simp] theorem follow_newReq (f : ReqFor) (surf track first count : Nat) (write urgent : Bool) :
    regsKept followFields a (newReq b f surf track first count write urgent) ↔ regsKept followFields a b := by
  simp [newReq]

@[simp] theorem follow_putZone (z : Zone) : regsKept followFields a (putZone b z) ↔ regsKept followFields a b := Iff.rfl

@[simp] theorem follow_putGroup (g : Group) : regsKept followFields a (putGroup b g) ↔ regsKept followFields a b := Iff.rfl

@[simp] theorem follow_putLog (o : RowOwner) (l : RowLog) :
    regsKept followFields a (putLog b o l) ↔ regsKept followFields a b := by
  unfold putLog
  split
  · split <;> rfl
  · split <;> rfl
  · rfl

@[simp] theorem follow_rowAdd (o : RowOwner) (k m j sector symbols : Nat) :
    regsKept followFields a (rowAdd b o k m j sector symbols) ↔ regsKept followFields a b := by
  unfold rowAdd
  dsimp only
  split <;> rfl

@[simp] theorem follow_makeVirtual (o : RowOwner) (k s m : Nat) :
    regsKept followFields a (makeVirtual b o k s m) ↔ regsKept followFields a b := by
  unfold makeVirtual passTrack
  dsimp only
  split
  · split <;> simp
  · simp

@[simp] theorem follow_askParity (o : RowOwner) (l : RowLog) (k : Nat) :
    regsKept followFields a (askParity b o l k) ↔ regsKept followFields a b := by
  refine regsKept_iff_of_step (regsKept_foldl (fun b r => ?_) _ b) a
  dsimp only
  split
  · simp
  · split_ifs <;> simp

@[simp] theorem follow_rowAdvance (o : RowOwner) (k : Nat) :
    regsKept followFields a (rowAdvance b o k) ↔ regsKept followFields a b := by
  unfold rowAdvance
  split
  · rfl
  · split
    · dsimp only
      split
      · simp
      · split <;> simp
    · rfl

@[simp] theorem follow_emitTrack (o : RowOwner) (l : RowLog) (off count : Nat) :
    regsKept followFields a (emitTrack b o l off count) ↔ regsKept followFields a b := by
  refine regsKept_iff_of_step ?_ a
  have hrows : ∀ (c : Block) (k j first : Nat), regsKept followFields c ((List.range count).foldl (fun b i =>
      let b := rowAdd b o k l.m j (first + i) (rowSymbols b o l k j (first + i))
      match ownerBlock b o (off + i) with
      | some key => if hostOffset b o (off + i) then releaseBlock b o key else b
      | none => b) c) := by
    intro c k j first
    refine regsKept_foldl (fun b i => ?_) _ c
    dsimp only
    split
    · split <;> simp
    · simp
  unfold emitTrack
  dsimp only
  split
  · refine regsKept.trans (b := putLog b o { l with queued := off + count }) (by simp) ?_
    split
    · simp only [follow_rowAdvance, follow_makeVirtual]
      exact hrows _ _ _ _
    · exact hrows _ _ _ _
  · simp

@[simp] theorem follow_feedTracks (n : Nat) (o : RowOwner) :
    regsKept followFields a (feedTracks n b o) ↔ regsKept followFields a b := by
  induction n generalizing b with
  | zero => rfl
  | succ n ih =>
    unfold feedTracks
    split
    · rfl
    · dsimp only
      split
      · rw [ih, follow_emitTrack]
      · rfl

@[simp] theorem follow_feedLog (o : RowOwner) : regsKept followFields a (feedLog b o) ↔ regsKept followFields a b := by
  unfold feedLog
  split <;> simp

@[simp] theorem follow_fillRow (o : RowOwner) : regsKept followFields a (fillRow b o) ↔ regsKept followFields a b := by
  unfold fillRow
  split <;> simp

@[simp] theorem follow_dropOwner (o : RowOwner) : regsKept followFields a (dropOwner b o) ↔ regsKept followFields a b := by
  refine regsKept_iff_of_step ?_ a
  unfold dropOwner
  dsimp only
  rw [regsKept_put _ _ _ (by decide) (by decide), regsKept_withPwr, regsKept_onXl]
  split
  · refine regsKept_foldl (fun b off => ?_) _ b
    split
    · split <;> simp
    · simp
  · simp

@[simp] theorem follow_freeMcRows : regsKept followFields a (freeMcRows b) ↔ regsKept followFields a b :=
  regsKept_iff_of_step (regsKept_foldl (fun b r => by simp) _ b) a

@[simp] theorem follow_closeMcRow : regsKept followFields a (closeMcRow b) ↔ regsKept followFields a b := by
  simp only [closeMcRow, follow_freeMcRows]
  exact regsKept_iff_of_step (regsKept_foldl (fun b r => by simp) _ b) a

/-! ### Zones and namespaces -/

@[simp] theorem follow_putBand (phys s : Nat) (x : BandInfo) :
    regsKept followFields a (putBand b phys s x) ↔ regsKept followFields a b := by
  simp [putBand]

@[simp] theorem follow_renewBand (g s : Nat) : regsKept followFields a (renewBand b g s) ↔ regsKept followFields a b := by
  simp [renewBand]

@[simp] theorem follow_freeExtensions : regsKept followFields a (freeExtensions b) ↔ regsKept followFields a b := Iff.rfl

@[simp] theorem follow_eraseRange (nsid lba n : Nat) :
    regsKept followFields a (eraseRange b nsid lba n) ↔ regsKept followFields a b := Iff.rfl

@[simp] theorem follow_zoneToEmpty (z : Zone) : regsKept followFields a (zoneToEmpty b z) ↔ regsKept followFields a b := by
  refine regsKept_iff_of_step ?_ a
  have hbands : ∀ c : Block, regsKept followFields c (z.log.surfs.foldl (fun b s => renewBand b z.log.band s) c) :=
    regsKept_foldl (fun b s => by simp) _
  have hdrop : regsKept followFields b (dropOwner b (zoneOwner z)) := by simp
  unfold zoneToEmpty
  dsimp only
  refine regsKept_ite b ?_ ?_
  · rw [follow_putZone, follow_freeExtensions, follow_putZone, follow_eraseRange]
    exact hdrop.trans (hbands _)
  · rw [follow_freeExtensions, follow_putZone, follow_eraseRange]
    exact hdrop.trans (hbands _)

@[simp] theorem follow_countRejected (st : Status) :
    regsKept followFields a (countRejected b st) ↔ regsKept followFields a b := by
  unfold countRejected
  split
  · exact regsKept_bump a _ _ (by decide) (by decide)
  · split
    · exact regsKept_bump a _ _ (by decide) (by decide)
    · rfl

@[simp] theorem follow_zoneAction (z : Zone) (act : Nat) :
    regsKept followFields a (zoneAction b z act).1 ↔ regsKept followFields a b := by
  unfold zoneAction
  split_ifs
  · unfold zoneClose
    split_ifs <;> simp
  · unfold zoneFinish
    split_ifs <;> simp
  · unfold zoneOpen
    split_ifs
    · rfl
    · split <;> simp
    · rfl
  · unfold zoneReset
    split_ifs <;> simp
  · unfold zoneOffline
    split_ifs
    · rfl
    · dsimp only
      split <;> simp
    · rfl

@[simp] theorem follow_acceptWrite (n : Namespace) (slba nlb : Nat) (append : Bool) :
    regsKept followFields a (acceptWrite b n slba nlb append) ↔ regsKept followFields a b := by
  unfold acceptWrite
  split
  · split <;> simp
  · rfl

@[simp] theorem follow_rekey (nsid : Nat) : regsKept followFields a (rekey b nsid) ↔ regsKept followFields a b := by
  unfold rekey
  rfl

@[simp] theorem follow_shrinkPool : regsKept followFields a (shrinkPool b) ↔ regsKept followFields a b := by
  refine regsKept_iff_of_step (regsKept_foldl (fun b g => ?_) _ b) a
  dsimp only
  split_ifs <;> simp

@[simp] theorem follow_freeGroup (g : Group) : regsKept followFields a (freeGroup b g) ↔ regsKept followFields a b := by
  refine regsKept_iff_of_step ?_ a
  have hdrop : regsKept followFields b (dropOwner b (.conv g.id)) := by simp
  exact hdrop.trans (regsKept_foldl (fun b s => by simp) _ _)

@[simp] theorem follow_wipeNamespace (nsid : Nat) :
    regsKept followFields a (wipeNamespace b nsid) ↔ regsKept followFields a b := by
  refine regsKept_iff_of_step ?_ a
  unfold wipeNamespace
  dsimp only
  rw [follow_freeMcRows, regsKept_onXl]
  have hzones : ∀ (l : List Zone) (c : Block), regsKept followFields c (l.foldl (fun b z => zoneToEmpty b z) c) :=
    regsKept_foldl (fun b z => by simp)
  have hgroups : ∀ (l : List Group) (c : Block), regsKept followFields c (l.foldl freeGroup c) :=
    regsKept_foldl (fun b g => by simp)
  have hcached : ∀ (l : List (Nat × Nat)) (c : Block), regsKept followFields c (l.foldl (fun b c =>
      if nget 0 b.ns.map c.1 ≠ 0 then dropSlot b c.1 else dirtyDrop b c.1) c) :=
    regsKept_foldl (fun b c => regsKept_ite b (by simp) (by simp))
  exact ((hzones _ b).trans (hgroups _ _)).trans (hcached _ _)

@[simp] theorem follow_logSelfTest (j : Job) (result : Nat) :
    regsKept followFields a (logSelfTest b j result) ↔ regsKept followFields a b := by
  unfold logSelfTest
  split <;> rfl

@[simp] theorem follow_closeJob (j : Job) (result : Nat) :
    regsKept followFields a (closeJob b j result) ↔ regsKept followFields a b := by
  simp only [closeJob, follow_jobEvent, putJob, regsKept_onNvm, follow_logSelfTest, regsKept_fresh]

@[simp] theorem follow_deleteNamespace (nsid : Nat) :
    regsKept followFields a (deleteNamespace b nsid) ↔ regsKept followFields a b := by
  refine regsKept_iff_of_step ?_ a
  unfold deleteNamespace
  dsimp only
  refine regsKept.trans ?_ (regsKept_foldl (fun b j => ?_) _ _)
  · simp
  · rw [follow_closeJob]
    exact regsKept_ite b (by simp) (by simp)

@[simp] theorem follow_formatNamespace (meta8 : Bool) (dps : Nat) (crypto : Bool) (nsid : Nat) :
    regsKept followFields a (formatNamespace b meta8 dps crypto nsid) ↔ regsKept followFields a b := by
  unfold formatNamespace
  dsimp only
  split <;> simp

/-! ### What waited for a command -/

@[simp] theorem follow_waitEffect (w : AdminWait) : regsKept followFields a (waitEffect b w) ↔ regsKept followFields a b := by
  unfold waitEffect
  split
  · rfl
  · exact regsKept_iff_of_step (regsKept_foldl (fun b n => by simp) _ b) a
  · exact regsKept_iff_of_step (regsKept_foldl (fun b n => by simp) _ b) a
  · exact regsKept_iff_of_step (regsKept_foldl (fun b n => by simp) _ b) a

@[simp] theorem follow_settleAdmin (w : AdminWait) : regsKept followFields a (settleAdmin b w) ↔ regsKept followFields a b := by
  unfold settleAdmin
  split <;> simp

@[simp] theorem follow_putCmd (c : Cmd) : regsKept followFields a (putCmd b c) ↔ regsKept followFields a b := Iff.rfl

@[simp] theorem follow_dropCmd (c : Cmd) : regsKept followFields a (dropCmd b c) ↔ regsKept followFields a b := by
  unfold dropCmd refreshLtr
  dsimp only
  split <;> rfl

@[simp] theorem follow_settleBehind (c : Cmd) : regsKept followFields a (settleBehind b c) ↔ regsKept followFields a b := by
  unfold settleBehind
  split
  · rfl
  · split
    · simp
    · split <;> simp

theorem follow_actOnZones (c : Cmd) (act : Nat) : regsKept followFields b (actOnZones b c act).1 := by
  refine List.foldlRecOn (motive := fun r : Block × Status => regsKept followFields b r.1) _ _ (regsKept_refl _ b)
    (fun r hr k _ => ?_)
  split
  · exact (follow_zoneAction b r.1 _ act).mpr hr
  · exact hr

@[simp] theorem follow_settleAction (c : Cmd) : regsKept followFields a (settleAction b c) ↔ regsKept followFields a b := by
  unfold settleAction
  split
  · split
    · rw [follow_complete]
      exact (regsKept_iff_of_step (follow_actOnZones _ c _) a).trans (follow_dropCmd a b c)
    · rfl
  · simp

@[simp] theorem follow_settleWaits : regsKept followFields a (settleWaits b) ↔ regsKept followFields a b := by
  refine regsKept_iff_of_step ?_ a
  exact regsKept.trans (regsKept_foldl (fun b c => by simp) _ b) (regsKept_foldl (fun b w => by simp) _ _)

@[simp] theorem follow_finishCmd (c : Cmd) (st : Status) (dw0 dw1 : Nat) :
    regsKept followFields a (finishCmd b c st dw0 dw1) ↔ regsKept followFields a b := by
  unfold finishCmd
  dsimp only
  rw [follow_settleWaits, follow_complete]
  split_ifs <;> simp [countHost]

/-! ### Reconstructions and requests sent elsewhere -/

@[simp] theorem follow_cmdPart (p : Port) (sq cid : Nat) (st : Status) :
    regsKept followFields a (cmdPart b p sq cid st) ↔ regsKept followFields a b := by
  unfold cmdPart
  split
  · rfl
  · dsimp only
    split_ifs <;> simp

@[simp] theorem follow_reconFails (x : Recon) : regsKept followFields a (reconFails b x) ↔ regsKept followFields a b := by
  unfold reconFails
  dsimp only
  split <;> simp [countJob]

@[simp] theorem follow_readSources (x : Recon) (urgent : Bool) :
    regsKept followFields a (readSources b x urgent) ↔ regsKept followFields a b := by
  refine regsKept_iff_of_step ?_ a
  unfold readSources
  split
  · exact regsKept_refl _ b
  · exact (regsKept_foldl (fun b s => by simp [askSource]) _ _)

@[simp] theorem follow_startRecon (f : ReqFor) (o : RowOwner) (k surf sector : Nat) (urgent : Bool) :
    regsKept followFields a (startRecon b f o k surf sector urgent) ↔ regsKept followFields a b := by
  unfold startRecon
  split
  · rfl
  · dsimp only
    split <;> simp

@[simp] theorem follow_askRun (c : Cmd) (r : Spot × Nat) : regsKept followFields a (askRun b c r) ↔ regsKept followFields a b := by
  unfold askRun
  dsimp only
  split
  · exact regsKept_iff_of_step (regsKept_foldl (fun b i => by simp) _ b) a
  · simp

theorem follow_relocate (o : RowOwner) (row surf sector key : Nat) (of : Option Nat) :
    regsKept followFields b ((relocate b o row surf sector key of).getD b) := by
  unfold relocate
  cases relocPlace b surf with
  | none => exact regsKept_refl _ b
  | some p => simp

@[simp] theorem follow_rerouteReq (r : MediaReq) : regsKept followFields a (rerouteReq b r) ↔ regsKept followFields a b := by
  refine regsKept_iff_of_step ?_ a
  unfold rerouteReq
  split
  · split
    · split <;> simp
    · simp
  · split
    · split <;> simp
    · simp
  · split
    · simp
    · split
      · dsimp only
        split
        · exact regsKept_foldl (fun b x => by simp) _ _
        · simp
      · simp
  · split
    · split
      · exact follow_relocate b _ _ _ _ _ _
      · simp
    · simp
  · split <;> simp
  · split
    · simp
    · split
      · split
        · split <;> simp
        · simp
      · simp

/-! ### The surface itself -/

@[simp] theorem follow_rerouteSurf (s : Nat) : regsKept followFields a (rerouteSurf b s) ↔ regsKept followFields a b :=
  regsKept_iff_of_step (regsKept_foldl (fun b r => by simp) _ _) a

@[simp] theorem follow_closeGroups : regsKept followFields a (closeGroups b) ↔ regsKept followFields a b := by
  refine regsKept_iff_of_step ?_ a
  unfold closeGroups
  dsimp only
  have hgroups : ∀ l : List Group, regsKept followFields b
      (l.foldl (fun b g => fillRow (putGroup b { g with closed := true }) (.conv g.id)) b) :=
    fun l => regsKept_foldl (fun b g => by simp) l b
  split
  · exact (follow_closeMcRow b _).mpr (hgroups _)
  · exact hgroups _

@[simp] theorem follow_zonesReadOnly : regsKept followFields a (zonesReadOnly b) ↔ regsKept followFields a b := Iff.rfl

@[simp] theorem follow_endCopies (s : Nat) : regsKept followFields a (endCopies b s) ↔ regsKept followFields a b := Iff.rfl

@[simp] theorem follow_listChanged : regsKept followFields a (listChanged b) ↔ regsKept followFields a b := Iff.rfl

/-- Of the registers a change of a surface writes its state, its cause, and what follows. -/
theorem setSurface_follow (s st cause : Nat) :
    regsKept followFields b (setSurface b s st cause) ∨
      regsKept followFields ((b.put .BP_SURF_n_STATE s st).put .BP_SURF_n_CAUSE s cause) (setSurface b s st cause) := by
  unfold setSurface
  dsimp only
  split
  · exact .inl (regsKept_refl _ b)
  · refine .inr ?_
    rw [follow_evalSpace, follow_refreshWarnings, follow_rerouteSurf, follow_closeGroups, follow_zonesReadOnly]
    have hput : regsKept followFields ((b.put .BP_SURF_n_STATE s st).put .BP_SURF_n_CAUSE s cause)
        (((b.onXl (fun x => { x with
          surfTime := nset 0 x.surfTime s b.now
          surfBefore := if st = 2 then (if surfState b s = 2 then x.surfBefore else nset 1 x.surfBefore s (surfState b s))
                        else nset 1 x.surfBefore s 1 })).put .BP_SURF_n_STATE s st).put .BP_SURF_n_CAUSE s cause) :=
      regsKept_of_regs rfl
    refine regsKept_ite _ ?_ ?_ <;> simp only [follow_listChanged, follow_vendorEvent, follow_sepia]
    · exact regsKept_ite _ hput hput
    · exact regsKept_ite _ hput hput

end Follow

end Sys2Proof.Machine

namespace Sys2Proof.Machine

/-! ## Jobs asked after, run and ended (R592 to R600) -/

section AskedAfter

variable {b : Block} {p : Port} (cid : Nat) {handle : Nat} {j : Job}

theorem queryJob_missing (h : AdminTaken b p) (hfind : jobFind (adminBlock b p) handle = none) :
    queryJob p cid handle 0 b = complete (adminBlock b p) p 0 cid .jobNotFound := by
  simp [queryJob, adminCommand_taken cid h, hfind]

theorem queryJob_ended (h : AdminTaken b p) (hfind : jobFind (adminBlock b p) handle = some j) (hstate : j.state = 4) :
    queryJob p cid handle 0 b = complete ((adminBlock b p).fresh (2 ^ 32)).2 p 0 cid .success
      (4 * 2 ^ 24 + j.result * 65536 + j.progress) 0 := by
  simp [queryJob, adminCommand_taken cid h, hfind, jobProgress, jobResult, hstate]

/-- The progress and the estimate of a running job are open values, in that order. -/
theorem queryJob_running (h : AdminTaken b p) (hfind : jobFind (adminBlock b p) handle = some j) (hstate : j.state = 2) :
    queryJob p cid handle 0 b = complete (((adminBlock b p).fresh 10001).2.fresh (2 ^ 32)).2 p 0 cid .success
      (2 * 2 ^ 24 + 0xFF * 65536 + ((adminBlock b p).fresh 10001).1) (((adminBlock b p).fresh 10001).2.fresh (2 ^ 32)).1 := by
  simp [queryJob, adminCommand_taken cid h, hfind, jobProgress, jobResult, hstate]

theorem fresh_lt (b : Block) {n : Nat} (h : 0 < n) : (b.fresh n).1 < n := by
  unfold Block.fresh
  rw [if_neg (by omega)]
  exact Nat.mod_lt _ h

theorem cancelJob_missing (h : AdminTaken b p) (hfind : jobFind (adminBlock b p) handle = none) :
    cancelJob p cid handle 0 b = complete (adminBlock b p) p 0 cid .jobNotFound := by
  simp [cancelJob, adminCommand_taken cid h, hfind]

theorem cancelJob_found (h : AdminTaken b p) (hfind : jobFind (adminBlock b p) handle = some j) :
    cancelJob p cid handle 0 b = if j.state = 4 then complete (adminBlock b p) p 0 cid .jobEnded
      else complete (putJob (adminBlock b p) { j with state := 3 }) p 0 cid .success := by
  simp [cancelJob, adminCommand_taken cid h, hfind]

end AskedAfter

section Running

variable {b : Block} {slot : Nat} {j : Job}

/-- While no job is RUNNING or CANCELLING none holds what a queued one needs. -/
theorem jobRunning_begins (hslot : slotJob b slot = some j) (hstate : j.state = 1) (hact : b.fcs.activation = none)
    (hidle : ∀ k ∈ b.nvm.jobs, k.state ≠ 2 ∧ k.state ≠ 3) :
    jobRunning slot b =
      if j.type = 1 then (putJob b { j with state := 2 }).onNvm (fun n => { n with patrol := patrolList b j.nsid })
      else if j.type = 2 then
        if widthLimit b (j.params.getD 0 0) then closeJob b j 4
        else evalSpace ((maskSurfs (j.params.getD 0 0)).foldl retireSurface (putJob b { j with state := 2 }))
      else if j.type = 3 then (rebuildRows b j.nsid false).foldl rowBandsDue (putJob b { j with state := 2 })
      else if j.type = 4 ∨ j.type = 5 then holdActuator b j (jobTakes j)
      else if j.type = 8 then (putJob b { j with state := 2 }).put .NIM_STATE_EST 0 1
      else putJob b { j with state := 2 } := by
  have hholding : b.nvm.jobs.any (fun k => (decide (k.state = 2) || decide (k.state = 3)) &&
      (decide (k.type = j.type ∧ k.type ≠ 6) || ((jobAct k).isSome && decide (j.type = 4 ∨ j.type = 5)))) = false := by
    refine List.any_eq_false.mpr (fun k hk => ?_)
    obtain ⟨hrun, hcancel⟩ := hidle k hk
    simp [hrun, hcancel]
  unfold jobRunning
  rw [hslot]
  dsimp only
  rw [hholding, hstate, hact]
  rfl

theorem jobCancelStop_rebuild (hslot : slotJob b slot = some j) (hstate : j.state = 3) (htype : j.type = 3)
    (hact : jobAct j = none) : jobCancelStop slot b = endJob (dropRebuild b) j 2 := by
  simp [jobCancelStop, hslot, hstate, htype, hact, Block.guard]

theorem jobEnded_patrol (hslot : slotJob b slot = some j) (hstate : j.state = 2) (htype : j.type = 1) (rs : List CalResult)
    (hhand : patrolInHand b = false) (hleft : b.nvm.patrol = []) : jobEnded slot rs b = endJob (dropPatrol b) j 0 := by
  simp [jobEnded, hslot, hstate, htype, Block.guard, patrolEnd, hhand, hleft]

theorem jobEnded_rebuild (hslot : slotJob b slot = some j) (hstate : j.state = 2) (htype : j.type = 3) (rs : List CalResult)
    (hdone : rebuildRows b j.nsid false = []) :
    jobEnded slot rs b = endJob b { j with countB := (rebuildRows b j.nsid true).length }
      (if (rebuildRows b j.nsid true).length = 0 then 0 else 1) := by
  simp [jobEnded, hslot, hstate, htype, Block.guard, rebuildEnd, hdone]

end Running

/-! ## Device Self-test (R593, R662) -/

section SelfTest

variable {b : Block} {p : Port} (cid : Nat)

theorem selfTestShort_taken (h : AdminTaken b p) (hfree : selfTesting (adminBlock b p) = false) (loopFail clearFail : Fin 16) :
    selfTestShort p cid loopFail clearFail b =
      (let c := adminBlock b p
       let acts := (List.finRange 4).filter (fun a => c.populated a)
       let run := acts.filter (fun a => decide (nimSuspend c 2 a.val = 0) && decide (c.mode = .run) && loaded c a)
       complete (enterSelfTest (run.foldl (fun b a =>
          testRun (testRun b 2 a.val (bit loopFail.val a.val)) 4 (firstHead b a) (bit clearFail.val a.val)) c) p 1
        (if run.any (fun a => bit loopFail.val a.val || bit clearFail.val a.val) then 7
         else if run.length < acts.length then 8 else 0)) p 0 cid .success) := by
  unfold selfTestShort
  rw [adminCommand_taken cid h, hfree]
  rfl

/-- Where Nimbus may run on every actuator and nothing fails, each is tested once and the test ends without failure. -/
theorem selfTestShort_all (h : AdminTaken b p) (hfree : selfTesting (adminBlock b p) = false)
    (hmode : (adminBlock b p).mode = .run) (hmay : ∀ a ∈ List.finRange 4, (adminBlock b p).populated a = true →
      nimSuspend (adminBlock b p) 2 a.val = 0 ∧ loaded (adminBlock b p) a = true) :
    selfTestShort p cid 0 0 b =
      complete (enterSelfTest (((List.finRange 4).filter (fun a => (adminBlock b p).populated a)).foldl (fun b a =>
        testRun (testRun b 2 a.val false) 4 (firstHead b a) false) (adminBlock b p)) p 1 0) p 0 cid .success := by
  have hbit : ∀ n, bit 0 n = false := by simp [bit]
  have hrun : ((List.finRange 4).filter (fun a => (adminBlock b p).populated a)).filter (fun a =>
      decide (nimSuspend (adminBlock b p) 2 a.val = 0) && decide ((adminBlock b p).mode = .run) && loaded (adminBlock b p) a) =
      (List.finRange 4).filter (fun a => (adminBlock b p).populated a) := by
    refine List.filter_eq_self.mpr (fun a ha => ?_)
    obtain ⟨hmem, hpop⟩ := List.mem_filter.mp ha
    obtain ⟨hsusp, hload⟩ := hmay a hmem hpop
    simp [hsusp, hmode, hload]
  rw [selfTestShort_taken cid h hfree]
  dsimp only
  rw [hrun]
  simp [hbit]

/-- Outside RUN no actuator is tested, and with one populated the test ends so. -/
theorem selfTestShort_none (h : AdminTaken b p) (hfree : selfTesting (adminBlock b p) = false)
    (hmode : (adminBlock b p).mode ≠ .run) (hpop : ∃ a ∈ List.finRange 4, (adminBlock b p).populated a = true)
    (loopFail clearFail : Fin 16) :
    selfTestShort p cid loopFail clearFail b = complete (enterSelfTest (adminBlock b p) p 1 8) p 0 cid .success := by
  obtain ⟨a, ha, hpopulated⟩ := hpop
  have hacts : 0 < ((List.finRange 4).filter (fun a => (adminBlock b p).populated a)).length :=
    List.length_pos_of_mem (List.mem_filter.mpr ⟨ha, hpopulated⟩)
  have hrun : ((List.finRange 4).filter (fun a => (adminBlock b p).populated a)).filter (fun a =>
      decide (nimSuspend (adminBlock b p) 2 a.val = 0) && decide ((adminBlock b p).mode = .run) && loaded (adminBlock b p) a) =
      [] := by
    refine List.filter_eq_nil_iff.mpr (fun a _ => ?_)
    simp [hmode]
  rw [selfTestShort_taken cid h hfree]
  dsimp only
  rw [hrun]
  simp only [List.foldl_nil, List.any_nil, List.length_nil, hacts, Bool.false_eq_true, if_true, if_false]

theorem selfTestExtended_taken (h : AdminTaken b p) (hfree : selfTesting (adminBlock b p) = false) {slot gen : Nat}
    (hslot : takeSlot (adminBlock b p) = some (slot, gen)) :
    selfTestExtended p cid b = complete (queueJob (adminBlock b p) p 8 0 [0, 0, 0, 0, 1] slot gen) p 0 cid .success := by
  simp [selfTestExtended, adminCommand_taken cid h, hfree, hslot]

end SelfTest

/-! ## A calibration run's end (R76, R100)

The trims and surfaces that follow are named by a result's subject, which may lie outside the registers: what such a write
leaves in the mode is the value written or a reset value, and none of them is that of RUN. -/

theorem nget_nset_read {α : Type} [DecidableEq α] (d e : α) (m : NMap α) (j : Nat) (w : α) :
    nget e (nset d m j w) j = w ∨ nget e (nset d m j w) j = e := by
  by_cases hw : w = d
  · rw [nset, if_pos hw]
    exact .inr (nget_nerase_same e m j)
  · rw [nset, if_neg hw]
    exact .inl (nget_ninsert_same e _ j w (fun x hx => (nerase_keys m j x hx)))

/-- What a field reads after a write to any register of any field: what it read, the value written or its reset value. -/
theorem Block.get_put_or (b : Block) (f g : Field) (i j v : Nat) :
    (b.put f i v).get g j = b.get g j ∨ (b.put f i v).get g j = v % 2 ^ f.width ∨ (b.put f i v).get g j = g.init := by
  by_cases hk : g.key j = f.key i
  · right
    unfold Block.get Block.put
    rw [hk]
    exact nget_nset_read _ _ _ _ _
  · exact .inl (nget_nset_other _ _ _ _ hk)

theorem mode_eq_run_iff (b : Block) : b.mode = .run ↔ b.get .PWR_MODE_MODE 0 = 2 := by
  unfold Block.mode modeOfCode
  split_ifs <;> simp_all

theorem put_mode_ne_run {b : Block} (h : b.mode ≠ .run) (f : Field) (i : Nat) {v : Nat} (hv : v % 2 ^ f.width ≠ 2) :
    (b.put f i v).mode ≠ .run := by
  rw [Ne, mode_eq_run_iff] at h ⊢
  have hinit : Field.init .PWR_MODE_MODE ≠ 2 := by decide
  rcases Block.get_put_or b f .PWR_MODE_MODE i 0 v with hold | hnew | hreset
  · rwa [hold]
  · rwa [hnew]
  · rwa [hreset]

theorem regsKept.mode_ne_run {fs : List Field} {a b : Block} (hkept : regsKept fs a b) (hf : Field.PWR_MODE_MODE ∉ fs)
    (h : a.mode ≠ .run) : b.mode ≠ .run := by
  rw [Ne, mode_eq_run_iff] at h ⊢
  rwa [hkept _ 0 (by decide) hf]

/-- A surface back in service leaves no mode of RUN. -/
theorem setSurface_active_mode_ne_run {b : Block} (h : b.mode ≠ .run) (s : Nat) : (setSurface b s 1 0).mode ≠ .run := by
  rcases setSurface_follow b s 1 0 with hkept | hkept
  · exact hkept.mode_ne_run (by decide) h
  · exact hkept.mode_ne_run (by decide) (put_mode_ne_run (put_mode_ne_run h _ s (by decide)) _ s (by decide))

theorem afterCalibration_mode_ne_run {b : Block} (h : b.mode ≠ .run) (accepted : List (Nat × Nat)) :
    (afterCalibration b accepted).mode ≠ .run := by
  refine List.foldlRecOn (motive := fun b : Block => b.mode ≠ .run) _ _ h (fun c hc s _ => ?_)
  have htrims : ∀ g : Assist → Assist, ((((c.onAst ⟨s / 6 % 4, by omega⟩ g).put .AST_HCLR_DRIFT s 1000).put .AST_HTRIM_SATHI s 0).put
      .AST_HTRIM_SATLO s 0).mode ≠ .run := fun g =>
    put_mode_ne_run (put_mode_ne_run (put_mode_ne_run (b := c.onAst _ g) hc _ s (by decide)) _ s (by decide)) _ s (by decide)
  dsimp only
  split
  · exact setSurface_active_mode_ne_run (htrims _) s
  · exact htrims _

theorem calCommit_regsKept (b : Block) (rs : List CalResult) : regsKept [.FCS_STAT_BUSY, .FCS_STAT_OPBANK] b (calCommit b rs) := by
  unfold calCommit
  dsimp only
  split
  · simp
  · unfold queueFcs startJobs
    split <;> simp [onBank]

theorem setBit_ne_zero (m n : Nat) : setBit m n ≠ 0 := by
  have h : 1 <<< n ≤ setBit m n := Nat.right_le_or
  have hpos : 0 < 1 <<< n := by simp [Nat.shiftLeft_eq]
  omega

/-- A mask of the indices that satisfy a test is zero only where none does. -/
theorem foldl_setBit_ne_zero (t : Nat → Bool) (l : List Nat) (m : Nat) :
    l.foldl (fun m i => if t i then setBit m i else m) m ≠ 0 ↔ m ≠ 0 ∨ l.any t = true := by
  induction l generalizing m with
  | nil => simp
  | cons i l ih =>
    rw [List.foldl_cons, ih, List.any_cons]
    cases t i <;> simp [setBit_ne_zero]

/-- The results of a calibration run's items that are accepted. -/
def acceptedResults (b : Block) (rs : List CalResult) : List CalResult := calAccepted b (rs.filter (fun r => bit b.fcs.calItems r.item))

/-- The items of a calibration run that have failed, as a mask. -/
def calFailures (b : Block) (rs : List CalResult) : Nat :=
  (List.range 7).foldl (fun m i => if bit b.fcs.calItems i && itemFailed b (acceptedResults b rs) i then setBit m i else m) 0

/-- The registers of a calibration run that has ended. -/
def calReported (b : Block) (rs : List CalResult) : Block :=
  (((calCommit b (rs.filter (fun r => bit b.fcs.calItems r.item))).put .SYS_CALCTL_START 0 0).put .SYS_CALCTL_BUSY 0 0).putBool
    .SYS_CALCTL_FAIL 0 (decide (calFailures b rs ≠ 0))

/-- The block of a calibration run that has ended, before what follows its results. -/
def calEnded (b : Block) (rs : List CalResult) : Block :=
  { calReported b rs with fcs := { (calReported b rs).fcs with
      calPort := none, calAsked := b.fcs.calItems, calFailed := calFailures b rs } }

theorem calEnded_get (b : Block) (rs : List CalResult) (f : Field) (i : Nat) :
    (calEnded b rs).get f i = (calReported b rs).get f i := rfl

theorem calEnded_mode_ne_run {b : Block} (h : b.mode ≠ .run) (rs : List CalResult) : (calEnded b rs).mode ≠ .run := by
  have hcommit := (calCommit_regsKept b (rs.filter (fun r => bit b.fcs.calItems r.item))).mode_ne_run (by decide) h
  have hputs : regsKept [.SYS_CALCTL_START, .SYS_CALCTL_BUSY, .SYS_CALCTL_FAIL]
      (calCommit b (rs.filter (fun r => bit b.fcs.calItems r.item))) (calReported b rs) := by
    unfold calReported
    simp
  exact hputs.mode_ne_run (by decide) hcommit

theorem calEnded_fail (b : Block) (rs : List CalResult) :
    (calEnded b rs).get .SYS_CALCTL_FAIL 0 =
      if (List.range 7).any (fun i => bit b.fcs.calItems i && itemFailed b (acceptedResults b rs) i) = true then 1 else 0 := by
  have hwidth : Field.width .SYS_CALCTL_FAIL = 1 := by decide
  have hmask : calFailures b rs ≠ 0 ↔ 0 ≠ 0 ∨
      (List.range 7).any (fun i => bit b.fcs.calItems i && itemFailed b (acceptedResults b rs) i) = true := foldl_setBit_ne_zero _ _ 0
  rw [calEnded_get, calReported, Block.putBool, Block.get_put_same, hwidth]
  simp only [hmask, ne_eq, not_true_eq_false, false_or, decide_eq_true_eq]
  split <;> rfl

/-- Outside RUN what follows the results of a calibration run is all that its end does. -/
theorem calibrationRunEnd_eq {b : Block} (hmode : b.mode ≠ .run) (hbusy : b.get .SYS_CALCTL_BUSY 0 = 1) (rs : List CalResult) :
    calibrationRunEnd rs b = afterCalibration (calEnded b rs) ((acceptedResults b rs).map (fun r => (r.item, r.subject))) := by
  have hafter := afterCalibration_mode_ne_run (calEnded_mode_ne_run hmode rs) ((acceptedResults b rs).map (fun r => (r.item, r.subject)))
  unfold calibrationRunEnd
  rw [hbusy, decide_eq_true rfl, Block.guard_true]
  exact if_neg (fun hc : _ ∧ _ => hafter hc.1)

/-- Two steps to equal blocks are equal. -/
theorem next_withBlk {s : State} {b c : Block} (h : b = c) :
    (Host.Outcome.next { s with blk := b } : Host.Outcome State Fault Refusal) = .next { s with blk := c } := by
  rw [h]

/-- Settles O34: each command by its equation, and the end of a calibration run by the modes that it cannot leave. -/
theorem jobsComplete : Obligations.JobsComplete := by
  refine ⟨?_, ?_, ?_, ?_, ?_, ?_, ?_, ?_, ?_, ?_, ?_, ?_, ?_⟩
  · intro s p cid handle j h hfind hstate
    exact ⟨_, ((adminBlock s.blk p).fresh (2 ^ 32)).2, rfl, adminBlock_regs _ _, adminBlock_nvm _ _,
      queryJob_ended cid h hfind hstate⟩
  · intro s p cid handle j h hfind hstate
    exact ⟨_, (((adminBlock s.blk p).fresh 10001).2.fresh (2 ^ 32)).2, _, _, rfl, adminBlock_regs _ _, adminBlock_nvm _ _,
      Nat.le_of_lt_succ (fresh_lt _ (by decide)), queryJob_running cid h hfind hstate⟩
  · exact fun s p cid handle h hfind => ⟨next_withBlk (queryJob_missing cid h hfind), next_withBlk (cancelJob_missing cid h hfind)⟩
  · exact fun s p cid handle j h hfind => next_withBlk (cancelJob_found cid h hfind)
  · intro s slot j hslot hstate htype hact hidle
    exact next_withBlk ((jobRunning_begins hslot hstate hact hidle).trans (if_pos htype))
  · intro s slot j hslot hstate htype hact hidle
    exact next_withBlk ((jobRunning_begins hslot hstate hact hidle).trans (by simp [htype]))
  · exact fun s slot j hslot hstate htype hact => next_withBlk (jobCancelStop_rebuild hslot hstate htype hact)
  · exact fun s slot j rs hslot hstate htype hhand hleft => next_withBlk (jobEnded_patrol hslot hstate htype rs hhand hleft)
  · exact fun s slot j rs hslot hstate htype hdone => next_withBlk (jobEnded_rebuild hslot hstate htype rs hdone)
  · intro s rs hmode hbusy
    exact ⟨_, calEnded s.blk rs, acceptedResults s.blk rs, rfl, rfl, calibrationRunEnd_eq hmode hbusy rs, rfl,
      by simp [calEnded_get, calReported, Block.putBool], by simp [calEnded_get, calReported, Block.putBool],
      calEnded_fail s.blk rs⟩
  · exact fun s p cid h hfree hmode hmay => next_withBlk (selfTestShort_all cid h hfree hmode hmay)
  · exact fun s p cid loopFail clearFail h hfree hmode hpop =>
      next_withBlk (selfTestShort_none cid h hfree hmode hpop loopFail clearFail)
  · exact fun s p cid slot gen h hfree hslot => next_withBlk (selfTestExtended_taken cid h hfree hslot)

end Sys2Proof.Machine

namespace Sys2Proof.Machine

/-! ## The journal replay that loads an actuator (R471, R100)

The replay restores fields from the journal; one that names SPINUP as the mode makes the spin-up that waited go on, and the actuators
load. A load raises WUNSAFE and cuts a write in progress, at which the head's drive current is latched. A head number that no head
has takes that latch to the register of the replay's own duration. -/

theorem failUncalibrated_unpopulated {b : Block} (h : b.cfgN .PLT_SURFACES = 0) : failUncalibrated b = b := by
  refine List.foldlRecOn (motive := fun c => c = b) _ _ rfl (fun c hc s _ => ?_)
  have hstate : surfState b s = 0 := by simp [surfState, h, bit]
  dsimp only
  rw [hc, if_neg (fun hs => absurd (hstate.symm.trans hs.1) (by decide))]

/-- The head number at which the latch of the drive current lies on the register of the replay's duration. -/
def strayHead : Nat := Field.key .NS_JRNL_REPLAY 0 - Field.key .AST_HLAS_IDRV 0

theorem strayHead_key : Field.key .AST_HLAS_IDRV (6 * (0 : Act).val + strayHead) = Field.key .NS_JRNL_REPLAY 0 := by decide

/-- Write gate falls with the drive current latched, as the preamp tells it. -/
theorem writeGatesFall_latches {b : Block} {t : Nat} (hag : (vget b.ast 0).agAt = some t)
    (hhead : b.get .AST_STATE_HEAD (0 : Act).val = strayHead) :
    (writeGatesFall b 0).get .NS_JRNL_REPLAY 0 = (b.fresh 65536).1 % 2 ^ Field.width .AST_HLAS_IDRV := by
  unfold writeGatesFall
  dsimp only
  rw [hag, hhead]
  unfold Block.get Block.put
  rw [strayHead_key]
  exact nget_nset_same _ _ _ _

theorem writeGatesFall_image (b : Block) (a : Act) : (writeGatesFall b a).image = b.image := by
  unfold writeGatesFall
  dsimp only
  split <;> rfl

theorem writeGatesFall_ts (b : Block) (a : Act) : (writeGatesFall b a).ts = b.ts := by
  unfold writeGatesFall
  dsimp only
  split <;> rfl

/-- A write cut before any sector of it: its gates fall, and no frame is flagged. -/
theorem cutWrite_unframed {b : Block} (hwg : (vget b.ts 0).wg = true) (hframe : (vget b.ts 0).frame = none) :
    (cutWrite b 0).regs = (lowerWg b 0).regs ∧ (cutWrite b 0).image = b.image := by
  have hts : (vget (lowerWg b 0).ts 0).frame = none := by
    rw [lowerWg, writeGatesFall_ts]
    simp [Block.onTs, hframe]
  have hcut : cutFrame (lowerWg b 0) 0 = (lowerWg b 0).onTs 0 (fun t => { t with cut := true }) := by
    unfold cutFrame
    rw [hts]
  rw [cutWrite, if_pos hwg, hcut]
  exact ⟨rfl, writeGatesFall_image _ _⟩

/-- A write in progress on actuator 0, between its sectors, whose drive current is latched off the heads' registers. -/
structure StrayWrite (b : Block) : Prop where
  gate : (vget b.ts 0).wg = true
  unframed : (vget b.ts 0).frame = none
  driven : (vget b.ast 0).agAt.isSome = true
  head : b.get .AST_STATE_HEAD 0 = strayHead

theorem cutWrite_latches {b : Block} (h : StrayWrite b) :
    (cutWrite b 0).get .NS_JRNL_REPLAY 0 = (b.fresh 65536).1 % 2 ^ Field.width .AST_HLAS_IDRV ∧
      (cutWrite b 0).image = b.image := by
  obtain ⟨t, ht⟩ := Option.isSome_iff_exists.mp h.driven
  obtain ⟨hregs, himage⟩ := cutWrite_unframed h.gate h.unframed
  refine ⟨?_, himage⟩
  rw [Block.get, hregs]
  exact writeGatesFall_latches (b := b.onTs 0 (fun t => { t with wg := false, wgFell := t.wgFell || t.wg })) ht h.head

/-- Where WUNSAFE is up already, raising it writes its cause alone before the write is cut. -/
theorem raiseWu_raised {b : Block} (hwu : b.get .SRV_STATE_WU 0 ≠ 0) (n : Nat) :
    raiseWu b 0 n = cutWrite ((b.put .SRV_WU_CAUSE 0 (setBit (b.get .SRV_WU_CAUSE 0) n)).onSrv 0
      (fun v => { v with goodRun := 0 })) 0 := by
  have hkept : ∀ v, regsKept [.SRV_WU_CAUSE] b (b.put .SRV_WU_CAUSE 0 v) := fun v => by simp
  have hstill : ¬ (b.put .SRV_WU_CAUSE 0 (setBit (b.get .SRV_WU_CAUSE 0) n)).get .SRV_STATE_WU 0 = 0 :=
    fun hc => hwu ((hkept _ _ 0 (by decide) (by decide)).symm.trans hc)
  exact congrArg (fun c => cutWrite c 0) (if_neg hstill)

theorem raiseWu_latches {b : Block} (h : StrayWrite b) (hwu : b.get .SRV_STATE_WU 0 ≠ 0) (n : Nat) :
    (raiseWu b 0 n).get .NS_JRNL_REPLAY 0 = (b.fresh 65536).1 % 2 ^ Field.width .AST_HLAS_IDRV ∧
      (raiseWu b 0 n).image = b.image := by
  have hkept : ∀ v, regsKept [.SRV_WU_CAUSE] b (b.put .SRV_WU_CAUSE 0 v) := fun v => by simp
  rw [raiseWu_raised hwu]
  exact cutWrite_latches ⟨h.gate, h.unframed, h.driven, (hkept _ _ 0 (by decide) (by decide)).trans h.head⟩

theorem selectHead_frame (b : Block) (a : Act) (surf : Nat) :
    (selectHead b a surf).ts = b.ts ∧ (selectHead b a surf).ast = b.ast ∧ (selectHead b a surf).sys = b.sys ∧
      (selectHead b a surf).image = b.image ∧ regsKept [.SRV_STATE_HEAD] b (selectHead b a surf) := by
  have ha : a.val < 256 := by omega
  unfold selectHead
  split
  · exact ⟨rfl, rfl, rfl, rfl, regsKept_refl _ b⟩
  · exact ⟨rfl, rfl, rfl, rfl, by simp [ha]⟩

/-- A servo that changes, a head selected and a loop state entered leave the write in progress to be cut. -/
theorem loadRaisesWu_latches {b : Block} (h : StrayWrite b) (hwu : b.get .SRV_STATE_WU 0 ≠ 0) (g : Servo → Servo)
    (surf mode n : Nat) :
    (raiseWu ((selectHead (b.onSrv 0 g) 0 surf).put .SRV_STATE_MODE 0 mode) 0 n).get .NS_JRNL_REPLAY 0 =
        (b.fresh 65536).1 % 2 ^ Field.width .AST_HLAS_IDRV ∧
      (raiseWu ((selectHead (b.onSrv 0 g) 0 surf).put .SRV_STATE_MODE 0 mode) 0 n).image = b.image := by
  obtain ⟨hts, hast, hsys, himage, hkept⟩ := selectHead_frame (b.onSrv 0 g) 0 surf
  have hmode : regsKept [.SRV_STATE_HEAD, .SRV_STATE_MODE] b ((selectHead (b.onSrv 0 g) 0 surf).put .SRV_STATE_MODE 0 mode) :=
    (regsKept_put _ _ _ (by decide) (by decide)).mpr (hkept.mono (by decide))
  have hstray : StrayWrite ((selectHead (b.onSrv 0 g) 0 surf).put .SRV_STATE_MODE 0 mode) := by
    refine ⟨?_, ?_, ?_, (hmode _ 0 (by decide) (by decide)).trans h.head⟩
    · rw [Block.put_ts, hts]
      exact h.gate
    · rw [Block.put_ts, hts]
      exact h.unframed
    · rw [Block.put_ast, hast]
      exact h.driven
  have hfresh : (((selectHead (b.onSrv 0 g) 0 surf).put .SRV_STATE_MODE 0 mode).fresh 65536).1 = (b.fresh 65536).1 := by
    unfold Block.fresh
    rw [Block.put_sys, hsys]
    rfl
  obtain ⟨hget, himg⟩ := raiseWu_latches hstray (fun hz => hwu ((hmode _ 0 (by decide) (by decide)).symm.trans hz)) n
  exact ⟨hget.trans (by rw [hfresh]), himg.trans himage⟩

/-- An actuator that starts to load leaves in the register of the replay's duration the latch. -/
theorem startLoad_latches {b : Block} (h : StrayWrite b) (hwu : b.get .SRV_STATE_WU 0 ≠ 0) :
    (startLoad b 0).get .NS_JRNL_REPLAY 0 = (b.fresh 65536).1 % 2 ^ Field.width .AST_HLAS_IDRV ∧
      (startLoad b 0).image = b.image :=
  loadRaisesWu_latches h hwu _ _ _ _

/-- A spin-up at lock, on its way to RUN, whose one actuator is on its ramp. -/
structure SpinupLoads (b : Block) : Prop where
  mode : b.get .PWR_MODE_MODE 0 = 1
  target : b.get .PWR_MODE_TARGET 0 = 2
  lock : b.get .SPN_STATE_LOCK 0 = 1
  alone : b.cfgN .PLT_ACTUATORS = 1
  ramp : b.get .SRV_STATE_MODE 0 = 0
  still : (vget b.srv 0).retract = .idle

theorem SpinupLoads.populated_iff {b : Block} (h : SpinupLoads b) (a : Act) : b.populated a = true ↔ a = 0 := by
  unfold Block.populated
  rw [h.alone]
  exact (by decide : ∀ a : Act, bit 1 a.val = true ↔ a = 0) a

theorem SpinupLoads.unloaded {b : Block} (h : SpinupLoads b) : b.srvMode 0 = .unloaded := by
  unfold Block.srvMode
  rw [show (0 : Act).val = 0 from rfl, h.ramp]
  rfl

theorem SpinupLoads.inService {b : Block} (h : SpinupLoads b) : inService b = [0] := by
  have hin : ∀ a : Act, (b.populated a && decide (b.srvMode a ≠ .failed)) = decide (a = 0) := by
    intro a
    by_cases ha : a = 0
    · rw [ha, (h.populated_iff 0).mpr rfl, h.unloaded]
      rfl
    · rw [Bool.eq_false_iff.mpr (fun hp => ha ((h.populated_iff a).mp hp)), decide_eq_false ha]
      rfl
  unfold Machine.inService
  rw [funext hin]
  rfl

theorem modeProgress_loads {b : Block} (h : SpinupLoads b) (hstray : StrayWrite b) (hwu : b.get .SRV_STATE_WU 0 ≠ 0) :
    modeProgress b = startLoad b 0 := by
  have hmode : b.mode = .spinup := by
    unfold Block.mode
    rw [h.mode]
    rfl
  have hready : actuatorsReady b = false := by
    simp [actuatorsReady, h.inService, tracking, h.unloaded]
  have himage := (startLoad_latches hstray hwu).2
  have hothers : ∀ a : Act, a ≠ 0 → (startLoad b 0).populated a = false := by
    intro a ha
    have hcfg : (startLoad b 0).populated a = b.populated a := by
      unfold Block.populated Block.cfgN
      rw [himage]
    rw [hcfg]
    exact Bool.eq_false_iff.mpr (fun hp => ha ((h.populated_iff a).mp hp))
  have hall : loadAll b = startLoad b 0 := by
    unfold loadAll
    rw [show List.finRange 4 = [0, 1, 2, 3] from rfl]
    simp [(h.populated_iff 0).mpr rfl, h.unloaded, h.still, h.lock, hothers]
  unfold modeProgress
  simp [hmode, h.lock, h.target, h.inService, hready, hall, Mode.code]

/-- The module that waits for its journal: its spindle is locked, its only actuator is on its ramp with write gate up, it has no surface,
and the journal names SPINUP as the mode. -/
def replayWaits : State :=
  { State.reset with blk := { State.reset.blk with
      image := ⟨[], [(settingKey .PLT_ACTUATORS 0 0, 1)]⟩
      regs := [(Field.key .PWR_MODE_TARGET 0, 2), (Field.key .SPN_STATE_LOCK 0, 1), (Field.key .AST_STATE_HEAD 0, strayHead)]
      ts := vupd State.reset.blk.ts 0 (fun t => { t with wg := true })
      ast := vupd State.reset.blk.ast 0 (fun v => { v with agAt := some 0 })
      boot := { State.reset.blk.boot with enginesUp := true }
      pwr := { State.reset.blk.pwr with savedRegs := [(Field.key .PWR_MODE_MODE 0, 1)] } } }

/-- Its block when the stored fields have been read back. -/
def replayRestored : Block :=
  restoreHucount ((restoreStored { replayWaits.blk with boot := { replayWaits.blk.boot with journalUp := true } }).put
    .PWR_PENDING_ROWS 0 replayWaits.blk.pwr.pending.length)

/-- Its block with the duration of the replay shown, before the spin-up goes on. -/
def replayShown (ms : Nat) : Block :=
  ((refreshSpareRows replayRestored).putSat .NS_JRNL_REPLAY 0 ms).put .NS_STATE_REPLAY 0 0

theorem replayShown_regsKept (ms : Nat) :
    regsKept [.MEM_SPARE_FREE, .MEM_SPARE_LEAST, .MEM_SPARE_NOSPARE, .NS_JRNL_REPLAY, .NS_STATE_REPLAY] replayRestored
      (replayShown ms) := by
  simp [replayShown, refreshSpareRows]

theorem replayShown_loads (ms : Nat) : SpinupLoads (replayShown ms) where
  mode := (replayShown_regsKept ms _ 0 (by decide) (by decide)).trans (by decide +kernel)
  target := (replayShown_regsKept ms _ 0 (by decide) (by decide)).trans (by decide +kernel)
  lock := (replayShown_regsKept ms _ 0 (by decide) (by decide)).trans (by decide +kernel)
  alone := (by decide +kernel : replayRestored.cfgN .PLT_ACTUATORS = 1)
  ramp := (replayShown_regsKept ms _ 0 (by decide) (by decide)).trans (by decide +kernel)
  still := (by decide +kernel : (vget replayRestored.srv 0).retract = .idle)

theorem replayShown_stray (ms : Nat) : StrayWrite (replayShown ms) where
  gate := (by decide +kernel : (vget replayRestored.ts 0).wg = true)
  unframed := (by decide +kernel : (vget replayRestored.ts 0).frame = none)
  driven := (by decide +kernel : (vget replayRestored.ast 0).agAt.isSome = true)
  head := (replayShown_regsKept ms _ 0 (by decide) (by decide)).trans (by decide +kernel)

/-- The replay's duration reads the latched current, whatever the duration was. -/
theorem journalReplayDone_replayWaits (ms : Nat) :
    (journalReplayDone ms none replayWaits.blk).get .NS_JRNL_REPLAY 0 =
      (replayRestored.fresh 65536).1 % 2 ^ Field.width .AST_HLAS_IDRV := by
  have hwu : (replayShown ms).get .SRV_STATE_WU 0 ≠ 0 := by
    rw [replayShown_regsKept ms _ 0 (by decide) (by decide)]
    decide +kernel
  have hloads := replayShown_loads ms
  have hmode : (replayShown ms).mode = .spinup := by
    unfold Block.mode
    rw [hloads.mode]
    rfl
  have hfail : failUncalibrated (refreshSpareRows replayRestored) = refreshSpareRows replayRestored :=
    failUncalibrated_unpopulated (by decide +kernel : replayRestored.cfgN .PLT_SURFACES = 0)
  have hshown : journalReplayDone ms none replayWaits.blk = modeProgress (replayShown ms) := by
    have heq : journalReplayDone ms none replayWaits.blk =
        (let b := ((failUncalibrated (refreshSpareRows replayRestored)).putSat .NS_JRNL_REPLAY 0 ms).put .NS_STATE_REPLAY 0 0
         if b.mode = .spinup then modeProgress b else b) := rfl
    rw [heq, hfail]
    exact if_pos hmode
  rw [hshown, modeProgress_loads hloads (replayShown_stray ms) hwu]
  exact (startLoad_latches (replayShown_stray ms) hwu).1

/-- Refutes O4: in `replayWaits` the load that the replay sets off overwrites the register in which its last clause expects the
duration, so that replays of 0 and of 1 ms show the same. -/
theorem not_bootCompletes : ¬ Obligations.BootCompletes := by
  rintro ⟨-, -, -, -, -, -, -, -, hreplay⟩
  have hms : ∀ ms, min ms (Field.max .NS_JRNL_REPLAY) = (replayRestored.fresh 65536).1 % 2 ^ Field.width .AST_HLAS_IDRV := by
    intro ms
    obtain ⟨t, ht, -, -, hget, -⟩ := hreplay replayWaits ms (by decide) (by decide) (by decide) (by decide) (by decide +kernel)
    obtain rfl := Host.Outcome.next.inj ht
    exact hget.symm.trans (journalReplayDone_replayWaits ms)
  exact absurd ((hms 0).trans (hms 1).symm) (by decide)

end Sys2Proof.Machine

namespace Sys2Proof.Machine

/-! ## What leaves the FCS as it is

A reset of a port or of a controller ends commands, withdraws media work and evaluates the power state, and none of this arms a firmware
activation (R80, R82). Nearly every operation on the way leaves the whole of the FCS alone; the few that do not, the orphaned commits of
a controller, a cut measurement's calibration record and the FCS work that RUN takes up again, leave the armed bank. -/

theorem foldl_fcs {α : Type} {f : Block → α → Block} (h : ∀ b x, (f b x).fcs = b.fcs) :
    ∀ (l : List α) (b : Block), (l.foldl f b).fcs = b.fcs
  | [], _ => rfl
  | x :: l, b => (foldl_fcs h l (f b x)).trans (h b x)

section FcsKept

variable (b : Block)

/-! ### The recorder, completions and events -/

@[simp] theorem sepiaCont_fcs (code src pa pb : Nat) (conts : List (List Nat)) :
    (b.sepiaCont code src pa pb conts).fcs = b.fcs := by
  have h := congrArg Block.fcs (sepiaCont_only b code src pa pb conts).1
  exact h

@[simp] theorem sepFlushAll_fcs : (sepFlushAll b).fcs = b.fcs := by
  unfold sepFlushAll
  dsimp only
  split <;> rfl

@[simp] theorem sepPark_fcs : (sepPark b).fcs = b.fcs := by
  unfold sepPark
  split <;> simp

@[simp] theorem sendMessage_fcs (p : Port) (v : Nat) : (sendMessage b p v).fcs = b.fcs := by
  unfold sendMessage
  split_ifs <;> simp

@[simp] theorem postEntry_fcs (p : Port) (q : CompQueue) (e : Cqe) : (postEntry b p q e).fcs = b.fcs := by
  unfold postEntry
  dsimp only
  split <;> simp

@[simp] theorem pmeIfDue_fcs (p : Port) : (pmeIfDue b p).fcs = b.fcs := by
  unfold pmeIfDue
  split <;> rfl

@[simp] theorem tryPost_fcs (p : Port) (h : Nat × Cqe) : (tryPost b p h).fcs = b.fcs := by
  unfold tryPost
  dsimp only
  split
  · rfl
  · split <;> simp

@[simp] theorem complete_fcs (p : Port) (sq cid : Nat) (st : Status) (dw0 dw1 : Nat) :
    (complete b p sq cid st dw0 dw1).fcs = b.fcs := by
  unfold complete
  split_ifs <;> simp

@[simp] theorem asyncEvent_fcs (p : Port) (type info page : Nat) : (asyncEvent b p type info page).fcs = b.fcs := by
  unfold asyncEvent
  dsimp only
  split
  · rfl
  · split <;> simp

@[simp] theorem vendorEvent_fcs (info page : Nat) : (vendorEvent b info page).fcs = b.fcs :=
  foldl_fcs (fun b p => by split <;> simp) _ b

@[simp] theorem jobEvent_fcs (p : Port) : (jobEvent b p).fcs = b.fcs := by
  unfold jobEvent
  dsimp only
  split <;> simp

@[simp] theorem setWarning_fcs (n : Nat) (v : Bool) : (setWarning b n v).fcs = b.fcs := by
  unfold setWarning
  dsimp only
  split
  · exact foldl_fcs (fun b p => by split <;> simp) _ _
  · rfl

@[simp] theorem refreshWarnings_fcs : (refreshWarnings b).fcs = b.fcs := by simp [refreshWarnings]

@[simp] theorem evalSpace_fcs : (evalSpace b).fcs = b.fcs := by
  unfold evalSpace
  dsimp only
  split <;> simp

/-! ### Dirty blocks, the NAND and the journal -/

@[simp] theorem dirtyDrop_fcs (key : Nat) : (dirtyDrop b key).fcs = b.fcs := rfl
@[simp] theorem journalWritten_fcs : (journalWritten b).fcs = b.fcs := rfl
@[simp] theorem putNand_fcs (n : Nat) (x : NBlock) : (putNand b n x).fcs = b.fcs := rfl
@[simp] theorem programPage_fcs (n : Nat) (pool : NPool) (keys : List Nat) : (programPage b n pool keys).fcs = b.fcs := rfl

@[simp] theorem journalEntry_fcs : (journalEntry b).fcs = b.fcs := by
  unfold journalEntry
  split <;> rfl

@[simp] theorem dropSlot_fcs (key : Nat) : (dropSlot b key).fcs = b.fcs := by
  unfold dropSlot
  dsimp only
  split <;> rfl

@[simp] theorem programBlocks_fcs (pool : NPool) (ns keys : List Nat) : (programBlocks pool ns b keys).fcs = b.fcs := by
  induction ns generalizing b keys with
  | nil => rfl
  | cons n ns ih => simp [programBlocks, ih]

@[simp] theorem takeBlocks_fcs (pool : NPool) (bs : List Nat) : (takeBlocks b pool bs).fcs = b.fcs := by
  unfold takeBlocks
  rw [foldl_fcs (fun b n => putNand_fcs b _ _), Block.onNs_fcs]

theorem nextBlocks_fcs {pool : NPool} {die : Option Nat} {r : List Nat × Block} (h : nextBlocks b pool die = some r) :
    r.2.fcs = b.fcs := by
  unfold nextBlocks takeSb at h
  split at h
  · cases h
    rfl
  · split at h
    · cases h
    · obtain ⟨bs, -, rfl⟩ := Option.map_eq_some_iff.mp h
      exact takeBlocks_fcs b _ _

@[simp] theorem journalCopy_fcs (die : Nat) : (journalCopy b die).fcs = b.fcs := by
  unfold journalCopy
  split
  next h => exact (programBlocks_fcs _ _ _ _).trans (nextBlocks_fcs b h)
  · rfl

@[simp] theorem journalPage_fcs : (journalPage b).fcs = b.fcs := by
  unfold journalPage
  split <;> simp

@[simp] theorem stageBlock_fcs (key : Nat) : (stageBlock b key).fcs = b.fcs := by
  unfold stageBlock
  dsimp only
  split_ifs <;> simp

@[simp] theorem stagePages_fcs (n : Nat) : (stagePages n b).fcs = b.fcs := by
  induction n generalizing b with
  | zero => rfl
  | succ n ih =>
    unfold stagePages
    split
    · rfl
    · split
      next h => rw [ih, programBlocks_fcs, foldl_fcs (fun b k => stageBlock_fcs b k), nextBlocks_fcs b h]
      · rfl

@[simp] theorem flushDirty_fcs : (flushDirty b).fcs = b.fcs := by simp [flushDirty]

/-! ### Requests, rows and bands -/

@[simp] theorem putZone_fcs (z : Zone) : (putZone b z).fcs = b.fcs := rfl
@[simp] theorem putGroup_fcs (g : Group) : (putGroup b g).fcs = b.fcs := rfl
@[simp] theorem admitBeyond_fcs (a : Act) : (admitBeyond b a).fcs = b.fcs := rfl

@[simp] theorem releaseBlock_fcs (o : RowOwner) (key : Nat) : (releaseBlock b o key).fcs = b.fcs := by
  unfold releaseBlock
  dsimp only
  split
  · simp
  · split_ifs <;> simp

@[simp] theorem putLog_fcs (o : RowOwner) (l : RowLog) : (putLog b o l).fcs = b.fcs := by
  unfold putLog
  split
  · split <;> rfl
  · split <;> rfl
  · rfl

@[simp] theorem enqueueReq_fcs (r : MediaReq) : (enqueueReq b r).fcs = b.fcs := by
  unfold enqueueReq
  split <;> rfl

@[simp] theorem newReq_fcs (f : ReqFor) (surf track first count : Nat) (write urgent : Bool) :
    (newReq b f surf track first count write urgent).fcs = b.fcs := by
  simp [newReq]

@[simp] theorem rowAdd_fcs (o : RowOwner) (k m j sector symbols : Nat) : (rowAdd b o k m j sector symbols).fcs = b.fcs := by
  unfold rowAdd
  dsimp only
  split <;> rfl

@[simp] theorem rowRemove_fcs (o : RowOwner) (k m j sector : Nat) : (rowRemove b o k m j sector).fcs = b.fcs := by
  unfold rowRemove
  dsimp only
  split <;> rfl

@[simp] theorem makeVirtual_fcs (o : RowOwner) (k s m : Nat) : (makeVirtual b o k s m).fcs = b.fcs := by
  unfold makeVirtual passTrack
  dsimp only
  split
  · split <;> simp
  · rfl

@[simp] theorem askParity_fcs (o : RowOwner) (l : RowLog) (k : Nat) : (askParity b o l k).fcs = b.fcs := by
  refine foldl_fcs (fun b r => ?_) _ b
  dsimp only
  split
  · rfl
  · split_ifs <;> simp

@[simp] theorem rowAdvance_fcs (o : RowOwner) (k : Nat) : (rowAdvance b o k).fcs = b.fcs := by
  unfold rowAdvance
  split
  · rfl
  · split
    · dsimp only
      split
      · simp
      · split <;> simp
    · rfl

@[simp] theorem emitTrack_fcs (o : RowOwner) (l : RowLog) (off count : Nat) : (emitTrack b o l off count).fcs = b.fcs := by
  unfold emitTrack
  extract_lets k j first surf b1 b2
  have h1 : b1.fcs = b.fcs := putLog_fcs b o _
  have h2 : b2.fcs = b.fcs := by
    refine (foldl_fcs (fun b i => ?_) _ b1).trans h1
    dsimp only
    split
    · split <;> simp
    · simp
  split
  · split
    · rw [rowAdvance_fcs, makeVirtual_fcs, h2]
    · exact h2
  · rw [newReq_fcs, h1]

@[simp] theorem feedTracks_fcs (n : Nat) (o : RowOwner) : (feedTracks n b o).fcs = b.fcs := by
  induction n generalizing b with
  | zero => rfl
  | succ n ih =>
    unfold feedTracks
    split
    · rfl
    · dsimp only
      split
      · rw [ih, emitTrack_fcs]
      · rfl

@[simp] theorem feedLog_fcs (o : RowOwner) : (feedLog b o).fcs = b.fcs := by
  unfold feedLog
  split <;> simp

@[simp] theorem fillRow_fcs (o : RowOwner) : (fillRow b o).fcs = b.fcs := by
  unfold fillRow
  split <;> simp

@[simp] theorem dropOwner_fcs (o : RowOwner) : (dropOwner b o).fcs = b.fcs := by
  unfold dropOwner
  dsimp only [Block.put_fcs, Block.onXl_fcs]
  split
  · refine foldl_fcs (fun b off => ?_) _ b
    split
    · split <;> simp
    · rfl
  · rfl

@[simp] theorem freeMcRows_fcs : (freeMcRows b).fcs = b.fcs := foldl_fcs (fun b r => by simp) _ b

@[simp] theorem closeMcRow_fcs : (closeMcRow b).fcs = b.fcs :=
  (freeMcRows_fcs _).trans (foldl_fcs (fun b r => by simp) _ b)

@[simp] theorem renewBand_fcs (g s : Nat) : (renewBand b g s).fcs = b.fcs := by simp [renewBand, putBand]

@[simp] theorem eraseRange_fcs (nsid lba n : Nat) : (eraseRange b nsid lba n).fcs = b.fcs := rfl
@[simp] theorem freeExtensions_fcs : (freeExtensions b).fcs = b.fcs := rfl

/-! ### Zones and namespaces -/

@[simp] theorem zoneToEmpty_fcs (z : Zone) : (zoneToEmpty b z).fcs = b.fcs := by
  unfold zoneToEmpty
  extract_lets b1 b2 b3 free b4
  have h4 : b4.fcs = b.fcs := by
    rw [freeExtensions_fcs, putZone_fcs, eraseRange_fcs, foldl_fcs (fun b s => renewBand_fcs b _ s), dropOwner_fcs]
  split
  · exact (putZone_fcs _ _).trans h4
  · exact h4

@[simp] theorem countRejected_fcs (st : Status) : (countRejected b st).fcs = b.fcs := by
  unfold countRejected
  split_ifs <;> rfl

@[simp] theorem zoneAction_fcs (z : Zone) (act : Nat) : (zoneAction b z act).1.fcs = b.fcs := by
  unfold zoneAction
  split_ifs
  · unfold zoneClose
    split_ifs <;> rfl
  · unfold zoneFinish
    split_ifs <;> simp
  · unfold zoneOpen
    split_ifs
    · rfl
    · split <;> rfl
    · rfl
  · unfold zoneReset
    split_ifs <;> simp
  · unfold zoneOffline
    split_ifs
    · rfl
    · dsimp only
      split <;> simp
    · rfl

theorem actOnZones_fcs (c : Cmd) (act : Nat) : (actOnZones b c act).1.fcs = b.fcs := by
  refine List.foldlRecOn (motive := fun r : Block × Status => r.1.fcs = b.fcs) _ _ rfl (fun r hr k _ => ?_)
  split
  · exact (zoneAction_fcs r.1 _ act).trans hr
  · exact hr

@[simp] theorem acceptWrite_fcs (n : Namespace) (slba nlb : Nat) (append : Bool) :
    (acceptWrite b n slba nlb append).fcs = b.fcs := by
  unfold acceptWrite
  split
  · split <;> rfl
  · rfl

@[simp] theorem resetExpected_fcs (nsid k : Nat) : (resetExpected b nsid k).fcs = b.fcs := by
  unfold resetExpected
  split
  · dsimp only
    split <;> rfl
  · rfl

@[simp] theorem freeGroup_fcs (g : Group) : (freeGroup b g).fcs = b.fcs :=
  (foldl_fcs (fun b s => by simp) _ _).trans (dropOwner_fcs b _)

@[simp] theorem wipeNamespace_fcs (nsid : Nat) : (wipeNamespace b nsid).fcs = b.fcs := by
  unfold wipeNamespace
  dsimp only
  rw [freeMcRows_fcs, Block.onXl_fcs, foldl_fcs (fun b c => ?_), foldl_fcs (fun b g => by simp), foldl_fcs (fun b z => by simp)]
  split <;> simp

@[simp] theorem rekey_fcs (nsid : Nat) : (rekey b nsid).fcs = b.fcs := rfl

@[simp] theorem shrinkPool_fcs : (shrinkPool b).fcs = b.fcs := by
  refine foldl_fcs (fun b g => ?_) _ b
  dsimp only
  split_ifs <;> rfl

@[simp] theorem putJob_fcs (j : Job) : (putJob b j).fcs = b.fcs := rfl
@[simp] theorem countJob_fcs (type da db : Nat) : (countJob b type da db).fcs = b.fcs := rfl

@[simp] theorem logSelfTest_fcs (j : Job) (result : Nat) : (logSelfTest b j result).fcs = b.fcs := by
  unfold logSelfTest
  split <;> rfl

@[simp] theorem closeJob_fcs (j : Job) (result : Nat) : (closeJob b j result).fcs = b.fcs := by simp [closeJob, Block.fresh]

@[simp] theorem deleteNamespace_fcs (nsid : Nat) : (deleteNamespace b nsid).fcs = b.fcs := by
  unfold deleteNamespace
  dsimp only
  rw [foldl_fcs (fun b j => ?_)]
  · simp
  · rw [closeJob_fcs]
    split <;> rfl

@[simp] theorem formatNamespace_fcs (meta8 : Bool) (dps : Nat) (crypto : Bool) (nsid : Nat) :
    (formatNamespace b meta8 dps crypto nsid).fcs = b.fcs := by
  unfold formatNamespace
  dsimp only
  split <;> simp

/-! ### Commands that end -/

@[simp] theorem putCmd_fcs (c : Cmd) : (putCmd b c).fcs = b.fcs := rfl
@[simp] theorem countHost_fcs (c : Cmd) (done : Bool) : (countHost b c done).fcs = b.fcs := rfl

@[simp] theorem dropCmd_fcs (c : Cmd) : (dropCmd b c).fcs = b.fcs := by
  unfold dropCmd refreshLtr
  dsimp only
  split <;> rfl

@[simp] theorem waitEffect_fcs (w : AdminWait) : (waitEffect b w).fcs = b.fcs := by
  unfold waitEffect
  split
  · rfl
  · exact foldl_fcs (fun b n => by simp) _ b
  · exact foldl_fcs (fun b n => by simp) _ b
  · exact foldl_fcs (fun b n => by simp) _ b

@[simp] theorem settleAdmin_fcs (w : AdminWait) : (settleAdmin b w).fcs = b.fcs := by
  unfold settleAdmin
  split <;> simp

@[simp] theorem settleBehind_fcs (c : Cmd) : (settleBehind b c).fcs = b.fcs := by
  unfold settleBehind
  split
  · rfl
  · split
    · simp
    · split <;> simp

@[simp] theorem settleAction_fcs (c : Cmd) : (settleAction b c).fcs = b.fcs := by
  unfold settleAction
  split
  · split
    · exact (complete_fcs _ _ _ _ _ _ _).trans ((actOnZones_fcs _ c _).trans (dropCmd_fcs b c))
    · rfl
  · simp

@[simp] theorem settleWaits_fcs : (settleWaits b).fcs = b.fcs :=
  (foldl_fcs (fun b w => by simp) _ _).trans (foldl_fcs (fun b c => by simp) _ b)

@[simp] theorem finishCmd_fcs (c : Cmd) (st : Status) (dw0 dw1 : Nat) : (finishCmd b c st dw0 dw1).fcs = b.fcs := by
  unfold finishCmd
  dsimp only
  split_ifs <;> simp

@[simp] theorem cmdPart_fcs (p : Port) (sq cid : Nat) (st : Status) : (cmdPart b p sq cid st).fcs = b.fcs := by
  unfold cmdPart
  split
  · rfl
  · dsimp only
    split_ifs <;> simp

@[simp] theorem failBehind_fcs (c : Cmd) (test : Cmd → Bool) : (failBehind b c test).fcs = b.fcs := by
  unfold failBehind
  split
  · rfl
  · split
    · refine (resetExpected_fcs _ _ _).trans (foldl_fcs (fun b d => ?_) _ b)
      have hdrop : ∀ keys : List Nat, (keys.foldl dirtyDrop (countRejected b .zoneInvalidWrite)).fcs = b.fcs :=
        fun keys => (foldl_fcs (fun b k => dirtyDrop_fcs b k) keys _).trans (countRejected_fcs b _)
      dsimp only
      split_ifs <;> simp [hdrop]
    · rfl

@[simp] theorem failWrite_fcs (c : Cmd) (st : Status) : (failWrite b c st).fcs = b.fcs := by simp [failWrite, failLater]

/-! ### Reconstructions and reads -/

@[simp] theorem reconFails_fcs (x : Recon) : (reconFails b x).fcs = b.fcs := by
  unfold reconFails
  dsimp only
  split <;> simp

@[simp] theorem readSources_fcs (x : Recon) (urgent : Bool) : (readSources b x urgent).fcs = b.fcs := by
  unfold readSources
  split
  · rfl
  · exact foldl_fcs (fun b s => by simp [askSource]) _ _

@[simp] theorem startRecon_fcs (f : ReqFor) (o : RowOwner) (k surf sector : Nat) (urgent : Bool) :
    (startRecon b f o k surf sector urgent).fcs = b.fcs := by
  unfold startRecon
  split
  · rfl
  · dsimp only
    split <;> simp

@[simp] theorem askRun_fcs (c : Cmd) (r : Spot × Nat) : (askRun b c r).fcs = b.fcs := by
  unfold askRun
  dsimp only
  split
  · exact foldl_fcs (fun b i => by simp) _ b
  · simp

@[simp] theorem startReads_fcs (n : Namespace) (c : Cmd) : (startReads b n c).fcs = b.fcs := by
  unfold startReads
  extract_lets lbas runs lost need st c' b1
  have h1 : b1.fcs = b.fcs := putCmd_fcs b c'
  split_ifs
  · exact (foldl_fcs (fun b r => askRun_fcs b c' r) runs b1).trans h1
  · exact (putCmd_fcs b1 _).trans h1
  · exact (finishCmd_fcs b1 c' st 0 0).trans h1

/-! ### Data received and blocks deallocated -/

@[simp] theorem writeDurable_fcs (c : Cmd) (n : Namespace) : (writeDurable b c n).fcs = b.fcs := by
  unfold writeDurable
  dsimp only
  split_ifs <;> simp

@[simp] theorem landAt_fcs (c : Cmd) (n : Namespace) (z : Zone) (at_ : Nat) : (landAt b c n z at_).fcs = b.fcs := by
  simp [landAt, setTokens]

@[simp] theorem landGaps_fcs (m : Nat) (n : Namespace) (k : Nat) : (landGaps m b n k).fcs = b.fcs := by
  induction m generalizing b with
  | zero => rfl
  | succ m ih =>
    unfold landGaps
    split
    · split
      · rfl
      · rw [ih, landAt_fcs]
    · rfl

@[simp] theorem dropCached_fcs (key : Nat) : (dropCached b key).fcs = b.fcs := by
  unfold dropCached
  split
  · rfl
  · dsimp only
    split_ifs <;> simp

@[simp] theorem releaseExtent_fcs (key : Nat) : (releaseExtent b key).fcs = b.fcs := by
  unfold releaseExtent
  dsimp only
  split
  · rfl
  · split
    · rfl
    · exact foldl_fcs (fun b off => by split <;> simp) _ b

@[simp] theorem deallocate_fcs (n : Namespace) (slba nlb : Nat) : (deallocate b n slba nlb).fcs = b.fcs := by
  unfold deallocate
  dsimp only
  rw [Block.onXl_fcs, foldl_fcs (fun b i => by simp), eraseRange_fcs, foldl_fcs (fun b k => by simp)]

/-! ### Reservations -/

@[simp] theorem putNs_fcs (n : Namespace) : (putNs b n).fcs = b.fcs := rfl

@[simp] theorem resNotify_fcs (actor nsid type : Nat) (hosts : List Nat) : (resNotify b actor nsid type hosts).fcs = b.fcs := by
  refine foldl_fcs (fun b p => ?_) _ b
  dsimp only
  split <;> simp

@[simp] theorem resRegister_fcs (host : Nat) (n : Namespace) (action : Nat) (ignore : Bool) (cur new change : Nat) :
    (resRegister b host n action ignore cur new change).1.fcs = b.fcs := by
  unfold resRegister
  extract_lets done m freed b1 shared
  split
  · rfl
  split
  · split
    · split <;> rfl
    · split <;> rfl
  split
  · split
    · dsimp only
      split <;> simp [b1]
    · rfl
  split
  · split <;> rfl
  · rfl

@[simp] theorem resAcquire_fcs (host : Nat) (n : Namespace) (action : Nat) (ignore : Bool) (cur prKey kind : Nat) :
    (resAcquire b host n action ignore cur prKey kind).1.fcs = b.fcs := by
  unfold resAcquire
  dsimp only
  split_ifs <;> try simp
  split
  · rfl
  · split <;> rfl

@[simp] theorem resRelease_fcs (host : Nat) (n : Namespace) (action : Nat) (ignore : Bool) (cur kind : Nat) :
    (resRelease b host n action ignore cur kind).1.fcs = b.fcs := by
  unfold resRelease
  dsimp only
  split_ifs <;> try simp
  split
  · rfl
  · split_ifs <;> simp

/-! ### Commands withdrawn and commands started -/

@[simp] theorem trapRequest_fcs (a : Act) (n : Nat) : (trapRequest b a n).fcs = b.fcs := rfl

@[simp] theorem withdrawFor_fcs (mine : ReqFor → Bool) : (withdrawFor b mine).fcs = b.fcs := by
  unfold withdrawFor
  extract_lets ids gone tags b1
  refine (foldl_fcs (fun b a => ?_) _ b1).trans (Block.onXl_fcs ..)
  dsimp only
  split_ifs <;> simp

@[simp] theorem withdrawCmd_fcs (c : Cmd) : (withdrawCmd b c).fcs = b.fcs := withdrawFor_fcs b _

@[simp] theorem abortOne_fcs (c : Cmd) (st : Status) : (abortOne b c st).fcs = b.fcs := by
  unfold abortOne
  dsimp only
  split <;> simp

@[simp] theorem startAcquire_fcs (c : Cmd) (n : Namespace) : (startAcquire b c n).fcs = b.fcs := by
  unfold startAcquire
  dsimp only
  rw [finishCmd_fcs, foldl_fcs (fun b d => by split <;> simp), resAcquire_fcs]

@[simp] theorem startInstant_fcs (c : Cmd) (n : Namespace) (op : Nat) : (startInstant b c n op).fcs = b.fcs := by
  have hranges : (c.src.foldl (fun b r => deallocate b n (r / 2 ^ 32) (r % 2 ^ 32)) b).fcs = b.fcs :=
    foldl_fcs (fun b r => deallocate_fcs b n _ _) c.src b
  unfold startInstant
  dsimp only
  split_ifs
  · simp
  · simp
  · rw [finishCmd_fcs, hranges]
  all_goals simp

theorem issueRead_fcs {p : Port} {f : ReadFor} {b' : Block} (h : issueRead b p f = some b') : b'.fcs = b.fcs := by
  obtain ⟨t, -, rfl⟩ := Option.map_eq_some_iff.mp h
  simp

@[simp] theorem pumpCmd_fcs (n : Nat) (c : Cmd) : (pumpCmd n b c).fcs = b.fcs := by
  induction n generalizing b with
  | zero => rfl
  | succ n ih =>
    unfold pumpCmd
    split
    next h => rw [ih, issueRead_fcs b h]
    · rfl

@[simp] theorem pumpReads_fcs (p : Port) : (pumpReads b p).fcs = b.fcs :=
  foldl_fcs (fun b c => by split <;> simp) _ b

@[simp] theorem startCmd_fcs (c : Cmd) : (startCmd b c).fcs = b.fcs := by
  unfold startCmd
  split
  · split <;> simp
  · split
    · simp
    · split <;> simp
    · split <;> simp
    · split <;> simp
    · simp
    · split
      · simp
      · split_ifs <;> simp

@[simp] theorem releaseFenced_fcs : (releaseFenced b).fcs = b.fcs := by
  refine foldl_fcs (fun b c => ?_) _ b
  split
  · split <;> simp
  · rfl

@[simp] theorem resetCmd_fcs (c : Cmd) : (resetCmd b c).fcs = b.fcs := by
  unfold resetCmd
  split <;> simp

@[simp] theorem resetBehind_fcs (c : Cmd) : (resetBehind b c).fcs = b.fcs := by
  unfold resetBehind
  dsimp only
  split
  · split <;> simp
  · simp

@[simp] theorem resetCmds_fcs (p : Port) : (resetCmds b p).fcs = b.fcs := by
  unfold resetCmds
  dsimp only
  rw [releaseFenced_fcs, Block.onNvm_fcs, foldl_fcs (fun b c => by simp), foldl_fcs (fun b c => by split <;> simp)]

/-! ### Surfaces -/

@[simp] theorem endCopies_fcs (s : Nat) : (endCopies b s).fcs = b.fcs := rfl
@[simp] theorem listChanged_fcs : (listChanged b).fcs = b.fcs := rfl
@[simp] theorem zonesReadOnly_fcs : (zonesReadOnly b).fcs = b.fcs := rfl

@[simp] theorem closeGroups_fcs : (closeGroups b).fcs = b.fcs := by
  have hgroups : ∀ l : List Group,
      (l.foldl (fun b g => fillRow (putGroup b { g with closed := true }) (.conv g.id)) b).fcs = b.fcs :=
    fun l => foldl_fcs (fun b g => by simp) l b
  unfold closeGroups
  dsimp only
  split <;> simp [hgroups]

theorem relocate_fcs (o : RowOwner) (row surf sector key : Nat) (of : Option Nat) :
    ((relocate b o row surf sector key of).getD b).fcs = b.fcs := by
  unfold relocate
  cases relocPlace b surf with
  | none => rfl
  | some p => simp

@[simp] theorem rerouteReq_fcs (r : MediaReq) : (rerouteReq b r).fcs = b.fcs := by
  unfold rerouteReq
  split
  · split
    · split <;> simp
    · rfl
  · split
    · split <;> simp
    · rfl
  · split
    · rfl
    · split
      · dsimp only
        split
        · exact foldl_fcs (fun b x => by simp) _ _
        · rfl
      · simp
  · split
    · split
      · exact relocate_fcs b _ _ _ _ _ _
      · rfl
    · simp
  · split <;> simp
  · split
    · rfl
    · split
      · split
        · split <;> simp
        · rfl
      · simp

@[simp] theorem rerouteSurf_fcs (s : Nat) : (rerouteSurf b s).fcs = b.fcs := foldl_fcs (fun b r => by simp) _ _

@[simp] theorem setSurface_fcs (s st cause : Nat) : (setSurface b s st cause).fcs = b.fcs := by
  unfold setSurface
  dsimp only
  split_ifs <;> simp

@[simp] theorem actuatorBack_fcs (a : Act) (recalibrated : Bool) : (actuatorBack b a recalibrated).fcs = b.fcs := by
  refine foldl_fcs (fun b s => ?_) _ b
  dsimp only
  split_ifs <;> simp

/-! ### Gates, actuators and the spindle -/

@[simp] theorem releaseSg_fcs (a : Act) : (releaseSg b a).fcs = b.fcs := rfl

@[simp] theorem flagRewrite_fcs (a : Act) (index buf cause : Nat) (job : Option TsJob) :
    (flagRewrite b a index buf cause job).fcs = b.fcs := by
  unfold flagRewrite
  split <;> rfl

@[simp] theorem removeCut_fcs (a : Act) (index : Nat) (job : Option TsJob) : (removeCut b a index job).fcs = b.fcs := by
  unfold removeCut
  split
  · rfl
  · split
    · split
      · split
        · split <;> simp
        · rfl
      · rfl
    · rfl

@[simp] theorem cutFrame_fcs (a : Act) : (cutFrame b a).fcs = b.fcs := by
  unfold cutFrame
  split
  · rfl
  · dsimp only
    split_ifs <;> simp

@[simp] theorem writeGatesFall_fcs (a : Act) : (writeGatesFall b a).fcs = b.fcs := by
  unfold writeGatesFall
  dsimp only
  split <;> rfl

@[simp] theorem cutWrite_fcs (a : Act) : (cutWrite b a).fcs = b.fcs := by
  unfold cutWrite lowerWg
  split <;> simp

@[simp] theorem raiseWu_fcs (a : Act) (n : Nat) : (raiseWu b a n).fcs = b.fcs := by
  unfold raiseWu
  dsimp only
  split <;> simp

@[simp] theorem stopInjection_fcs (a : Act) : (stopInjection b a).fcs = b.fcs := by
  unfold stopInjection
  dsimp only
  split <;> rfl

@[simp] theorem unlockOver_fcs (p : Port) : (unlockOver b p).fcs = b.fcs := by
  refine foldl_fcs (fun b a => ?_) _ b
  dsimp only
  split <;> simp

@[simp] theorem withdrawJobs_fcs (a : Act) : (withdrawJobs b a).fcs = b.fcs := by
  have hjobs : ∀ (l : List TsJob) (c : Block), (l.foldl (fun b j =>
      match activeReq b j.tag with
      | some r => requeueFront (b.onXl (fun x => { x with active := x.active.filter (fun y => y.tag ≠ r.tag) }))
          { r with first := logicalOf b r.surf r.track j.first, count := j.count }
      | none => b) c).fcs = c.fcs :=
    fun l c => foldl_fcs (fun b j => by split <;> rfl) l c
  unfold withdrawJobs
  dsimp only
  split
  · exact (hjobs _ _).trans rfl
  · exact (hjobs _ _).trans rfl

@[simp] theorem recalOver_fcs : (recalOver b).fcs = b.fcs := by
  unfold recalOver
  dsimp only
  rw [Block.onNvm_fcs]
  split
  · split <;> rfl
  · rfl

@[simp] theorem endJob_fcs (j : Job) (result : Nat) : (endJob b j result).fcs = b.fcs := by
  unfold endJob
  dsimp only
  rw [jobEvent_fcs]
  split
  · split_ifs <;> simp [Block.fresh]
  · simp [Block.fresh]

@[simp] theorem selectHead_fcs (a : Act) (surf : Nat) : (selectHead b a surf).fcs = b.fcs := by
  unfold selectHead
  split <;> rfl

@[simp] theorem startLoad_fcs (a : Act) : (startLoad b a).fcs = b.fcs := by simp [startLoad]

@[simp] theorem loadAll_fcs : (loadAll b).fcs = b.fcs := foldl_fcs (fun b a => by split <;> simp) _ b

@[simp] theorem startBrake_fcs (g : SpnGoal) : (startBrake b g).fcs = b.fcs := by
  unfold startBrake
  split_ifs <;> simp [brakeEvent, clampShort, shortBrake]

@[simp] theorem resumeSpin_fcs : (resumeSpin b).fcs = b.fcs := by
  unfold resumeSpin
  dsimp only
  split_ifs <;> rfl

/-! ### Modes that are entered -/

@[simp] theorem resetRegs_fcs (l : ResetLetter) (p : Port) : (resetRegs b l p).fcs = b.fcs := rfl
@[simp] theorem clearLock_fcs : (clearLock b).fcs = b.fcs := rfl
@[simp] theorem enterMode_fcs (m : Mode) (cause : Nat) : (enterMode b m cause).fcs = b.fcs := rfl
@[simp] theorem setTarget_fcs (m : Mode) (cause : Nat) : (setTarget b m cause).fcs = b.fcs := rfl
@[simp] theorem passageReset_fcs : (passageReset b).fcs = b.fcs := rfl

@[simp] theorem failMedia_fcs : (failMedia b).fcs = b.fcs := foldl_fcs (fun b c => by simp) _ _

@[simp] theorem enterPark_fcs (cause : Nat) : (enterPark b cause).fcs = b.fcs := by simp [enterPark]

@[simp] theorem spinupFailure_fcs : (spinupFailure b).fcs = b.fcs := by simp [spinupFailure]

@[simp] theorem enterIdle_fcs (cause : Nat) : (enterIdle b cause).fcs = b.fcs := by
  unfold enterIdle
  split <;> simp

@[simp] theorem resumeErases_fcs : (resumeErases b).fcs = b.fcs := by
  unfold resumeErases
  dsimp only
  split
  · rfl
  · exact (evalSpace_fcs _).trans (foldl_fcs (fun b w => waitEffect_fcs b w) _ _)

@[simp] theorem refeed_fcs : (refeed b).fcs = b.fcs := foldl_fcs (fun b x => by simp) _ b

@[simp] theorem loseSkipped_fcs : (loseSkipped b).fcs = b.fcs := by
  refine (foldl_fcs (fun b k => ?_) _ _).trans rfl
  unfold listLost
  split <;> simp

@[simp] theorem restoreShort_fcs : (restoreShort b).fcs = b.fcs := (foldl_fcs (fun b n => by simp) _ _).trans rfl

/-! ### The armed bank (R80) where the FCS itself changes -/

theorem foldl_armed {α : Type} {f : Block → α → Block} (h : ∀ b x, (f b x).fcs.armed = b.fcs.armed) :
    ∀ (l : List α) (b : Block), (l.foldl f b).fcs.armed = b.fcs.armed
  | [], _ => rfl
  | x :: l, b => (foldl_armed h l (f b x)).trans (h b x)

@[simp] theorem orphanJobs_armed (p : Port) : (orphanJobs b p).fcs.armed = b.fcs.armed := rfl

@[simp] theorem startJobs_armed : (startJobs b).fcs.armed = b.fcs.armed := by
  unfold startJobs
  split <;> rfl

@[simp] theorem calCommit_armed (rs : List CalResult) : (calCommit b rs).fcs.armed = b.fcs.armed := by
  unfold calCommit
  dsimp only
  split
  · rfl
  · exact startJobs_armed _

@[simp] theorem redoAbandoned_armed : (redoAbandoned b).fcs.armed = b.fcs.armed := by
  refine (startJobs_armed _).trans ((foldl_armed (fun b o => ?_) _ _).trans rfl)
  unfold redoOne
  split <;> rfl

/-- The block that a drawn result leaves differs in the count of free values alone. -/
theorem freeResult_fcs (pair : Nat) : (freeResult b pair).2.fcs = b.fcs :=
  List.foldlRecOn (motive := fun r : List Int × Block => r.2.fcs = b.fcs) _ _ rfl (fun _ hr _ _ => hr)

theorem foldl_freeResult_fcs (l : List Nat) (rs : List CalResult) :
    (l.foldl (fun (acc : List CalResult × Block) k => let d := freeResult acc.2 k; (acc.1 ++ [d.1], d.2)) (rs, b)).2.fcs = b.fcs :=
  List.foldlRecOn (motive := fun r : List CalResult × Block => r.2.fcs = b.fcs) _ _ rfl
    (fun r hr k _ => (freeResult_fcs r.2 k).trans hr)

@[simp] theorem cutMeasurement_armed : (cutMeasurement b).fcs.armed = b.fcs.armed := by
  unfold cutMeasurement
  split
  · dsimp only
    rw [endJob_fcs]
    exact (calCommit_armed _ _).trans (congrArg Fcs.armed (foldl_freeResult_fcs b _ _))
  · simp
  · rfl

@[simp] theorem requestUnload_armed (a : Act) : (requestUnload b a).fcs.armed = b.fcs.armed := by
  unfold requestUnload
  split <;> simp

@[simp] theorem unloadAll_armed : (unloadAll b).fcs.armed = b.fcs.armed := by
  unfold unloadAll
  exact foldl_armed requestUnload_armed _ b

@[simp] theorem parkTransition_armed (cause : Nat) : (parkTransition b cause).fcs.armed = b.fcs.armed := by
  unfold parkTransition askBrake
  dsimp only
  split <;> simp

@[simp] theorem enterSpinup_armed (cause : Nat) : (enterSpinup b cause).fcs.armed = b.fcs.armed := by
  unfold enterSpinup
  dsimp only
  split <;> simp

@[simp] theorem enterRun_armed (cause : Nat) : (enterRun b cause).fcs.armed = b.fcs.armed := by
  unfold enterRun
  dsimp only
  split_ifs <;> simp

@[simp] theorem modeProgress_armed : (modeProgress b).fcs.armed = b.fcs.armed := by
  unfold modeProgress
  dsimp only
  split_ifs <;> simp

@[simp] theorem pursue_armed (cause : Nat) : (pursue b cause).fcs.armed = b.fcs.armed := by
  unfold pursue
  dsimp only
  split
  · rfl
  · split
    · split <;> simp
    · split_ifs <;> simp
    · split_ifs <;> simp

@[simp] theorem powerEval_armed (cause : Nat) : (powerEval b cause).fcs.armed = b.fcs.armed := by simp [powerEval]

/-- The reset of a controller arms nothing and disarms nothing. -/
@[simp] theorem controllerReset_armed (p : Port) : (controllerReset b p).fcs.armed = b.fcs.armed := by simp [controllerReset]

@[simp] theorem functionReset_armed (p : Port) : (functionReset b p).fcs.armed = b.fcs.armed := by
  simp [functionReset, abandonReads]

@[simp] theorem portPart_armed (p : Port) (l : ResetLetter) : (portPart b p l).fcs.armed = b.fcs.armed := by simp [portPart]

@[simp] theorem subsystemReset_armed : (subsystemReset b).fcs.armed = b.fcs.armed := foldl_armed (fun b p => by simp) _ b

end FcsKept

end Sys2Proof.Machine

namespace Sys2Proof.Machine

/-! ## An idle microsecond and the supplies (R108, R116, R124, R128, R137, R717) -/

/-- A command answers what the block that its meaning comes to gives. -/
theorem onBlock_eq {s : State} {f : Block → Block} {b : Block} (h : f s.blk = b) : s.onBlock f = .next { s with blk := b } := by
  rw [State.onBlock, h]

theorem advanceClocks_now (b : Block) :
    (advanceClocks b).now = b.now + (if b.pwr.v12 || b.pwr.aux || b.pwr.powered then 1 else 0) := by
  unfold advanceClocks Block.now
  dsimp only
  split <;> rfl

/-- Settles O52: a step on an empty queue is `idleTick` on the block alone, and `advanceClocks` counts Device Time. -/
theorem stepIdles : Obligations.StepIdles := by
  intro s hp
  obtain ⟨hpending, hmem, hblk⟩ := State.onBlock_next s _ idleTick rfl
  exact ⟨_, step_idle hp, hpending.trans hp, hmem, hblk, advanceClocks_now s.blk⟩

@[simp] theorem enterMode_mode (b : Block) (m : Mode) (cause : Nat) : (enterMode b m cause).mode = m := by
  have hcode : (enterMode b m cause).get .PWR_MODE_MODE 0 = m.code % 2 ^ Field.width .PWR_MODE_MODE := by simp [enterMode]
  unfold Block.mode
  rw [hcode]
  cases m <;> rfl

@[simp] theorem beginBoot_mode (b : Block) : (beginBoot b).mode = .boot := enterMode_mode _ _ _

/-- With 12 V stable, BOOT starts only after a HOLDUP that has switched the module off, and not under PWDIS (R116). -/
theorem v12Stable_starts {b : Block} (hafter : b.pwr.afterHoldup = true) (hpwdis : b.pwr.pwdis = false)
    (hoff : b.pwr.powered = false) :
    v12Stable b = beginBoot { b with pwr := { b.pwr with v12 := true, v12Held := true } } := by
  simp [v12Stable, hafter, hpwdis, hoff]

theorem v12Stable_stays {b : Block} (h : b.pwr.afterHoldup = false ∨ b.pwr.pwdis = true ∨ b.pwr.powered = true) :
    v12Stable b = { b with pwr := { b.pwr with v12 := true, v12Held := true } } := by
  obtain h | h | h := h <;> simp [v12Stable, h]

theorem auxSupplyChange_keeps {b : Block} {valid : Bool} (h : valid = true ∨ b.pwr.v12 = true ∨ b.pwr.powered = true) :
    auxSupplyChange valid b = { b with pwr := { b.pwr with aux := valid } } := by
  obtain h | h | h := h <;> simp [auxSupplyChange, h]

theorem auxSupplyChange_loses {b : Block} (hv12 : b.pwr.v12 = false) (hoff : b.pwr.powered = false) :
    auxSupplyChange false b = loseRetention { b with pwr := { b.pwr with aux := false } } := by
  simp [auxSupplyChange, hv12, hoff]

theorem apstIdleExpiry_eq {b : Block} {p : Port} {ps : Nat} (h : apstTarget b p = some ps) :
    apstIdleExpiry p b = powerEval (setRequest b p ps) 0x02 := by
  simp [apstIdleExpiry, h]

/-- A row done is no longer counted among the pending ones (R124). -/
theorem pendingRowComplete_rows {b : Block} {o : RowOwner} {row : Nat} (lost : List Nat) (hrun : b.mode = .run)
    (hpending : b.pwr.pending.any (fun r => r.owner = o ∧ r.row = row) = true) :
    (pendingRowComplete o row lost b).get .PWR_PENDING_ROWS 0 =
      (b.pwr.pending.filter (fun r => !(decide (r.owner = o ∧ r.row = row)))).length % 2 ^ Field.width .PWR_PENDING_ROWS := by
  have hguard : (decide (b.mode = .run) && b.pwr.pending.any (fun r => r.owner = o ∧ r.row = row)) = true := by
    rw [hpending, hrun]
    rfl
  rw [pendingRowComplete, hguard, Block.guard_true]
  exact Block.get_put_same _ _ _ _

/-- Settles O5: each command by the equation of its meaning, and BOOT by the mode that it enters. -/
theorem suppliesComplete : Obligations.SuppliesComplete := by
  refine ⟨fun s h => ?_, fun s hafter hpwdis hoff => ?_, fun s valid h => ?_, fun s hv12 hoff => ?_, fun s => rfl,
    fun s p ps h => ?_, fun s o row lost hrun hpending => ⟨_, rfl, pendingRowComplete_rows lost hrun hpending, rfl⟩⟩
  · exact onBlock_eq (v12Stable_stays h)
  · have hblk := v12Stable_starts hafter hpwdis hoff
    refine ⟨{ s with blk := v12Stable s.blk }, rfl, ?_, ?_, ?_, rfl⟩ <;> dsimp only <;> rw [hblk]
    · exact beginBoot_mode _
    · rfl
    · rfl
  · exact onBlock_eq (auxSupplyChange_keeps h)
  · have hblk := auxSupplyChange_loses hv12 hoff
    refine ⟨{ s with blk := auxSupplyChange false s.blk }, rfl, ?_, ?_, ?_, ?_⟩ <;> dsimp only <;> rw [hblk] <;> rfl
  · exact onBlock_eq (apstIdleExpiry_eq h)

end Sys2Proof.Machine

namespace Sys2Proof.Machine

/-! ## Resets of a port and of a controller (R134, R501, R515, R519, R547, R548) -/

/-- A step that neither takes the power away nor resets a controller's buffer leaves memory alone. -/
theorem memAfter_same {m : NMap Byte} {old new : Block} (h : new.mm = old.mm) : memAfter m old new = m := by
  rw [memAfter, h]
  simp

theorem onReset_same {s : State} {f : Block → Block} (h : (f s.blk).mm = s.blk.mm) :
    s.onReset f = .next { s with blk := f s.blk } := by
  rw [State.onReset, memAfter_same h]

@[simp] theorem touchLink_mm (b : Block) (p : Port) : (touchLink b p).mm = b.mm := by
  unfold touchLink
  dsimp only
  split <;> rfl

@[simp] theorem touchLink_nvm (b : Block) (p : Port) : (touchLink b p).nvm = b.nvm := by
  unfold touchLink
  dsimp only
  split <;> rfl

@[simp] theorem refuseWindow_mm (b : Block) (p : Port) (hdr : Nat) : (refuseWindow b p hdr).mm = b.mm := by
  unfold refuseWindow aerAdvisory
  split <;> rfl

/-! ### Resets that wait for an activation (R134) -/

theorem startArmed_unarmed {b : Block} (h : b.fcs.armed = none) : startArmed b = b := by
  simp [startArmed, h]

theorem resetOrDefer_idle {b : Block} (r : DeferredReset) {f : Block → Block} (h : b.fcs.activation = none)
    (hf : (f b).fcs.armed = none) : resetOrDefer b r f = f b := by
  simp [resetOrDefer, h, startArmed_unarmed hf]

theorem resetOrDefer_running {b : Block} (r : DeferredReset) (f : Block → Block) (h : b.fcs.activation.isSome = true) :
    resetOrDefer b r f = deferReset b r := by
  simp [resetOrDefer, h]

/-- The state that a link shows once it is down: OFF where the port does not exist (R500). -/
theorem linkDown_state (b : Block) (p : Port) :
    (linkDown b p).get .PX_LINK_STATE p.val = if (vget b.px p).present then 0 else 0xB := by
  have hp : p.val < 256 := by omega
  have hpresent : (vget (abandonReads b p).px p).present = (vget b.px p).present := by
    simp [abandonReads, Block.onPx]
  unfold linkDown
  simp only [hpresent]
  simp only [Block.get_put_ne, hp, ne_eq, reduceCtorEq, not_false_eq_true, Block.get_put_same]
  split <;> rfl

theorem hotReset_state {b : Block} {p : Port} (h : onBus b p = true) : (hotReset p b).get .PX_LINK_STATE p.val = 0xA := by
  rw [hotReset, h, Block.guard_true]
  exact Block.get_put_same _ _ _ _

theorem linkDisable_state {b : Block} {p : Port} (h : onBus b p = true) :
    (linkDisable p b).get .PX_LINK_STATE p.val = 9 ∧ (vget (linkDisable p b).px p).disabled = true := by
  rw [linkDisable, h, Block.guard_true]
  refine ⟨Block.get_put_same _ _ _ _, ?_⟩
  simp [Block.onPx]

theorem perstAssert_idle {b : Block} (p : Port) (hact : b.fcs.activation = none) (harm : b.fcs.armed = none) :
    perstAssert p b = portPart (linkDown (b.onPx p (fun x => { x with perst := true })) p) p .P := by
  unfold perstAssert portResetNow
  refine resetOrDefer_idle (f := fun b => portPart b p .P) _ hact ?_
  rw [portPart_armed]
  exact harm

theorem perstAssert_running {b : Block} (p : Port) (hact : b.fcs.activation.isSome = true) :
    perstAssert p b = deferReset (linkDown (b.onPx p (fun x => { x with perst := true })) p) (.perst p) := by
  unfold perstAssert portResetNow
  exact resetOrDefer_running _ _ hact

/-- Settles O8: outside an activation a reset is carried out, as it arms none; during one it is put off. -/
theorem portResetsComplete : Obligations.PortResetsComplete := by
  refine ⟨fun s p hact harm => ⟨_, rfl, perstAssert_idle p hact harm, rfl⟩, fun s p hact => ?_, fun s p => rfl,
    fun s p h => ⟨_, rfl, hotReset_state h⟩, fun s p h => ⟨_, rfl, linkDisable_state h⟩,
    fun s p hbus hup hflr => ⟨_, rfl, ?_⟩, fun s p h => ?_⟩
  · have hdefer := perstAssert_running p hact
    refine ⟨{ s with blk := perstAssert p s.blk }, onReset_same (by rw [hdefer]; rfl), ?_, ?_, rfl⟩ <;> dsimp only <;> rw [hdefer]
    · rfl
    · refine (linkDown_state _ p).trans ?_
      simp [Block.onPx]
  · simp [initiateFlr, hbus, hup, hflr]
  · have hguard : (!decide (DeferredReset.flr p ∈ s.blk.fcs.deferred)) = true := by simp [h]
    exact onBlock_eq (if_pos hguard)

/-! ### Writes of the host to a controller (R133, R519, R547, R548) -/

section HostWrite

variable {b : Block} {p : Port}

/-- In D0 a write of the host wakes the link and takes effect (R519, R521). -/
theorem hostWrite_taken (f : Block → Block) (h : b.get .PX_LINK_DSTATE p.val ≠ 3) : hostWrite b p f = f (touchLink b p) := by
  have hstate : (touchLink b p).get .PX_LINK_DSTATE p.val ≠ 3 := by rwa [touchLink_get b p (by decide) (by omega)]
  exact if_neg hstate

/-- In D3hot it is refused as a memory request (R519). -/
theorem hostWrite_refused (f : Block → Block) (h : b.get .PX_LINK_DSTATE p.val = 3) :
    hostWrite b p f = refuseWindow (touchLink b p) p (Config.tlpHeader p.val b.now) := by
  have hstate : (touchLink b p).get .PX_LINK_DSTATE p.val = 3 := by rwa [touchLink_get b p (by decide) (by omega)]
  have hnow : (touchLink b p).now = b.now := congrArg Sys.devTime (touchLink_sys b p)
  exact (if_pos hstate).trans (by rw [hnow])

theorem touchLink_enabled {v : Nat} (h : b.get .NV_CTL_EN p.val = v) : (touchLink b p).get .NV_CTL_EN p.val = v := by
  rwa [touchLink_get b p (by decide) (by omega)]

theorem touchLink_present : (vget (touchLink b p).px p).present = (vget b.px p).present :=
  touchLink_vget_px b p p PciPort.present (fun _ _ => rfl)

theorem ctrlBusy_touchLink : ctrlBusy (touchLink b p) p = ctrlBusy b p := by
  rw [ctrlBusy, touchLink_nvm]
  rfl

end HostWrite

/-! ### Controller enable (R545, R547, R552) -/

/-- The block in which an enabled controller is ready, before its power state is evaluated. -/
def ctrlEnabled (p : Port) (ams : Fin 8) (asqSize acqSize : Nat) (b : Block) : Block :=
  let queues := b.onNv p (fun c => { c with
    sqs := [newSq b 0 asqSize 0 0 false], cqs := [⟨0, acqSize, 0, true, [], 0, 0, 0⟩] })
  let ready := (((queues.put .NV_CTL_EN p.val 1).put .NV_CTL_RDY p.val 1).put .NV_CTL_AMS p.val ams.val).put .NV_CTL_SHST p.val 0
  (ready.put .NV_CTL_CFS p.val 0).onHea (fun h => { h with notified := vupd h.notified p (fun _ => false) })

theorem ccEnSet_enables {b : Block} {p : Port} (ams : Fin 8) {asq acq : Nat} (hd3 : b.get .PX_LINK_DSTATE p.val ≠ 3)
    (hpresent : (vget b.px p).present = true) (hup : b.boot.enginesUp = true) (hen : b.get .NV_CTL_EN p.val = 0)
    (hasq : queueSizeOk asq = true) (hacq : queueSizeOk acq = true) :
    ccEnSet p ams asq acq b = powerEval (ctrlEnabled p ams asq acq (touchLink b p)) 0x01 := by
  unfold ccEnSet
  rw [hostWrite_taken _ hd3]
  have hguard : ((vget (touchLink b p).px p).present && (touchLink b p).boot.enginesUp &&
      decide ((touchLink b p).get .NV_CTL_EN p.val = 0) && queueSizeOk asq && queueSizeOk acq) = true := by
    simp [touchLink_present, hpresent, hup, touchLink_enabled hen, hasq, hacq]
  rw [hguard]
  rfl

theorem ctrlEnabled_shown (p : Port) (ams : Fin 8) (asq acq : Nat) (b : Block) :
    (ctrlEnabled p ams asq acq b).get .NV_CTL_EN p.val = 1 ∧ (ctrlEnabled p ams asq acq b).get .NV_CTL_RDY p.val = 1 ∧
      (ctrlEnabled p ams asq acq b).get .NV_CTL_SHST p.val = 0 := by
  have hp : p.val < 256 := by omega
  have hget : ∀ (c : Block) (g : Health → Health) (f : Field), (c.onHea g).get f p.val = c.get f p.val := fun _ _ _ => rfl
  unfold ctrlEnabled
  refine ⟨?_, ?_, ?_⟩ <;> rw [hget] <;>
    simp only [Block.get_put_ne, hp, ne_eq, reduceCtorEq, not_false_eq_true, Block.get_put_same] <;> rfl

theorem ctrlEnabled_queues (p : Port) (ams : Fin 8) (asq acq : Nat) (b : Block) :
    (vget (ctrlEnabled p ams asq acq b).nv p).sqs.map (fun q => (q.qid, q.size)) = [(0, asq)] ∧
      (vget (ctrlEnabled p ams asq acq b).nv p).cqs.map (fun q => (q.qid, q.size)) = [(0, acq)] := by
  simp [ctrlEnabled, Block.onNv, newSq]

/-! ### Controller disable, shutdown and subsystem reset -/

section CtrlWrites

variable {b : Block} {p : Port}

/-- What a clear of CC.EN asks for, once the link is awake. -/
theorem ccEnClear_taken (hd3 : b.get .PX_LINK_DSTATE p.val ≠ 3) (hen : b.get .NV_CTL_EN p.val = 1) :
    ccEnClear p b = resetOrDefer (touchLink b p) (.ctrl p) (fun b => controllerReset b p) := by
  unfold ccEnClear
  rw [hostWrite_taken _ hd3, decide_eq_true (touchLink_enabled hen), Block.guard_true]

theorem ccEnClear_idle (hd3 : b.get .PX_LINK_DSTATE p.val ≠ 3) (hen : b.get .NV_CTL_EN p.val = 1)
    (hact : b.fcs.activation = none) (harm : b.fcs.armed = none) : ccEnClear p b = controllerReset (touchLink b p) p := by
  rw [ccEnClear_taken hd3 hen]
  refine resetOrDefer_idle (f := fun b => controllerReset b p) _ ?_ ?_
  · rw [touchLink_fcs, hact]
  · rw [controllerReset_armed, touchLink_fcs, harm]

theorem ccEnClear_running (hd3 : b.get .PX_LINK_DSTATE p.val ≠ 3) (hen : b.get .NV_CTL_EN p.val = 1)
    (hact : b.fcs.activation.isSome = true) : ccEnClear p b = deferReset (touchLink b p) (.ctrl p) := by
  rw [ccEnClear_taken hd3 hen]
  exact resetOrDefer_running _ _ (by rw [touchLink_fcs, hact])

/-- A shutdown begun: its time and kind are noted, and the host has given notice (R548). -/
def shutdownBegun (b : Block) (p : Port) (abrupt : Bool) : Block :=
  ((b.onHea (fun h => { h with notified := vupd h.notified p (fun _ => true) })).put .NV_CTL_SHST p.val 1).onNv p
    (fun c => { c with shutAt := some (b.now, abrupt) })

theorem ccShutdown_taken (abrupt : Bool) (hd3 : b.get .PX_LINK_DSTATE p.val ≠ 3) (hen : b.get .NV_CTL_EN p.val = 1)
    (hshst : b.get .NV_CTL_SHST p.val = 0) :
    ccShutdown p abrupt b =
      if ctrlBusy b p then shutdownBegun (touchLink b p) p abrupt
      else shutdownDone (shutdownBegun (touchLink b p) p abrupt) p := by
  have hshst' : (touchLink b p).get .NV_CTL_SHST p.val = 0 := by rwa [touchLink_get b p (by decide) (by omega)]
  have hbusy : ctrlBusy (shutdownBegun (touchLink b p) p abrupt) p = ctrlBusy b p := by
    rw [← ctrlBusy_touchLink (b := b) (p := p)]
    rfl
  unfold ccShutdown
  rw [hostWrite_taken _ hd3, decide_eq_true (touchLink_enabled hen), decide_eq_true hshst', ← hbusy]
  rfl

theorem shutdownBegun_shown (abrupt : Bool) :
    (shutdownBegun b p abrupt).get .NV_CTL_SHST p.val = 1 ∧
      (vget (shutdownBegun b p abrupt).nv p).shutAt = some (b.now, abrupt) ∧
      vget (shutdownBegun b p abrupt).hea.notified p = true := by
  have hget : ∀ (c : Block) (g : Ctrl → Ctrl), (c.onNv p g).get .NV_CTL_SHST p.val = c.get .NV_CTL_SHST p.val := fun _ _ => rfl
  refine ⟨(hget _ _).trans (Block.get_put_same _ _ _ _), ?_, ?_⟩
  · simp [shutdownBegun, Block.onNv]
  · simp [shutdownBegun, Block.onHea]

theorem shutdownDone_shown :
    (shutdownDone b p).get .NV_CTL_SHST p.val = 2 ∧ (vget (shutdownDone b p).nv p).shutAt = none := by
  refine ⟨Block.get_put_same _ _ _ _, ?_⟩
  simp [shutdownDone, Block.onNv]

/-- The deadline acts once nothing is left to wait for, or 1 s has passed (R548). -/
theorem shutdownDeadline_due {at_ : Nat} {abrupt : Bool} (hshut : (vget b.nv p).shutAt = some (at_, abrupt))
    (hdue : ctrlBusy b p = false ∨ at_ + 1000000 ≤ b.now) : shutdownDeadline p b = shutdownDone (resetCmds b p) p := by
  have hguard : (!ctrlBusy b p || decide (at_ + 1000000 ≤ b.now)) = true := by simpa using hdue
  simp only [shutdownDeadline, hshut, hguard, Block.guard_true]

theorem nssrWrite_reset (hd3 : b.get .PX_LINK_DSTATE p.val ≠ 3) (hpresent : (vget b.px p).present = true)
    (hup : b.boot.enginesUp = true) (hact : b.fcs.activation = none) (harm : b.fcs.armed = none) :
    nssrWrite p 0x4E564D65 b = subsystemReset (touchLink b p) := by
  have hguard : (decide ((0x4E564D65 : Word).toNat = 0x4E564D65) && (vget (touchLink b p).px p).present &&
      (touchLink b p).boot.enginesUp) = true := by
    simp [touchLink_present, hpresent, hup]
  unfold nssrWrite
  rw [hostWrite_taken _ hd3, hguard, Block.guard_true]
  refine resetOrDefer_idle (f := subsystemReset) _ ?_ ?_
  · rw [touchLink_fcs, hact]
  · rw [subsystemReset_armed, touchLink_fcs, harm]

theorem nssrWrite_ignored {key : Word} (hd3 : b.get .PX_LINK_DSTATE p.val ≠ 3) (hkey : key ≠ 0x4E564D65) :
    nssrWrite p key b = touchLink b p := by
  have hnat : key.toNat ≠ 0x4E564D65 := fun h => hkey (BitVec.eq_of_toNat_eq h)
  unfold nssrWrite
  rw [hostWrite_taken _ hd3, decide_eq_false hnat, Bool.false_and, Bool.false_and, Block.guard_false]

end CtrlWrites

/-- Settles O9: each write by what it comes to in D0, where a reset arms no activation, and in D3hot by its refusal. -/
theorem controllerCompletes : Obligations.ControllerCompletes := by
  refine ⟨fun s p ams asq acq hd3 hpresent hup hen hasq hacq => ?_, fun s p hd3 hen hact harm => ?_, fun s p hd3 hen hact => ?_,
    fun s p abrupt hd3 hen hshst hbusy => ?_, fun s p abrupt hd3 hen hshst hbusy => ?_, fun s p at_ abrupt hshut hdue => ?_,
    fun s p hd3 hpresent hup hact harm => ?_, fun s p ams asq acq abrupt key hd3 => ?_, fun s p key hd3 hkey => ?_⟩
  · obtain ⟨hen', hrdy, hshst⟩ := ctrlEnabled_shown p ams asq acq (touchLink s.blk p)
    obtain ⟨hsqs, hcqs⟩ := ctrlEnabled_queues p ams asq acq (touchLink s.blk p)
    exact ⟨_, _, rfl, ccEnSet_enables ams hd3 hpresent hup hen hasq hacq, hen', hrdy, hshst, hsqs, hcqs⟩
  · change s.onReset (ccEnClear p) = _
    rw [State.onReset, ccEnClear_idle hd3 hen hact harm]
  · have hdefer := ccEnClear_running hd3 hen hact
    have hmm : (ccEnClear p s.blk).mm = s.blk.mm := by
      rw [hdefer]
      exact touchLink_mm s.blk p
    change s.onReset (ccEnClear p) = _
    rw [onReset_same hmm, hdefer]
  · have hbegun := (ccShutdown_taken abrupt hd3 hen hshst).trans (if_pos hbusy)
    obtain ⟨hshown, hat, hnotified⟩ := shutdownBegun_shown (b := touchLink s.blk p) (p := p) abrupt
    have hnow : (touchLink s.blk p).now = s.blk.now := congrArg Sys.devTime (touchLink_sys s.blk p)
    refine ⟨{ s with blk := ccShutdown p abrupt s.blk }, rfl, ?_, ?_, ?_, rfl⟩ <;> dsimp only <;> rw [hbegun]
    · exact hshown
    · rw [hat, hnow]
    · exact hnotified
  · have hdone := (ccShutdown_taken abrupt hd3 hen hshst).trans (if_neg (Bool.eq_false_iff.mp hbusy))
    obtain ⟨hshown, hat⟩ := shutdownDone_shown (b := shutdownBegun (touchLink s.blk p) p abrupt) (p := p)
    refine ⟨{ s with blk := ccShutdown p abrupt s.blk }, rfl, ?_, ?_, rfl⟩ <;> dsimp only <;> rw [hdone]
    · exact hshown
    · exact hat
  · refine ⟨{ s with blk := shutdownDeadline p s.blk }, rfl, ?_, rfl⟩
    dsimp only
    rw [shutdownDeadline_due hshut hdue]
    exact shutdownDone_shown.1
  · change s.onReset (nssrWrite p 0x4E564D65) = _
    rw [State.onReset, nssrWrite_reset hd3 hpresent hup hact harm]
  · have hmm : ∀ f : Block → Block, (hostWrite s.blk p f).mm = s.blk.mm := fun f => by
      rw [hostWrite_refused f hd3, refuseWindow_mm, touchLink_mm]
    have hblock : ∀ f : Block → Block, s.onBlock (fun b => hostWrite b p f) =
        .next { s with blk := refuseWindow (touchLink s.blk p) p (Config.tlpHeader p.val s.blk.now) } := fun f =>
      onBlock_eq (hostWrite_refused f hd3)
    have hreset : ∀ f : Block → Block, s.onReset (fun b => hostWrite b p f) =
        .next { s with blk := refuseWindow (touchLink s.blk p) p (Config.tlpHeader p.val s.blk.now) } := fun f => by
      rw [onReset_same (hmm f), hostWrite_refused f hd3]
    exact ⟨_, hblock _, hblock _, hreset _, hreset _, rfl, rfl⟩
  · have hmm : (nssrWrite p key s.blk).mm = s.blk.mm := by rw [nssrWrite_ignored hd3 hkey, touchLink_mm]
    change s.onReset (nssrWrite p key) = _
    rw [onReset_same hmm, nssrWrite_ignored hd3 hkey]

end Sys2Proof.Machine

namespace Sys2Proof.Machine

/-! ## Set Features (R108, R136, R568, R570, R572, R609, R627) -/

section FeatureValues

variable (b : Block) (p : Port) (fid sel v : Nat)

theorem find_ninsert_same {α : Type} (m : NMap α) (j : Nat) (w : α) (h : ∀ e ∈ m, e.1 ≠ j) :
    (ninsert m j w).find? (fun e => e.1 = j) = some (j, w) := by
  induction m with
  | nil => simp [ninsert]
  | cons e m ih =>
    have he : e.1 ≠ j := h e (List.mem_cons_self ..)
    have hm : ∀ e ∈ m, e.1 ≠ j := fun e hmem => h e (List.mem_cons_of_mem _ hmem)
    unfold ninsert
    split <;> simp [he, ih hm]

theorem find_ninsert_other {α : Type} (m : NMap α) {j k : Nat} (w : α) (h : k ≠ j) :
    (ninsert m j w).find? (fun e => e.1 = k) = m.find? (fun e => e.1 = k) := by
  induction m with
  | nil => simp [ninsert, h.symm]
  | cons e m ih =>
    unfold ninsert
    split
    · simp [h.symm]
    · simp [List.find?_cons, ih]

theorem find_nerase_other {α : Type} (m : NMap α) {j k : Nat} (h : k ≠ j) :
    (nerase m j).find? (fun e => e.1 = k) = m.find? (fun e => e.1 = k) := by
  rw [nerase_eq_filter, List.find?_filter]
  congr 1
  funext e
  by_cases he : e.1 = k <;> simp [he, h]

theorem feat_setFeat_same : feat (setFeat b p fid sel v) p fid sel = v := by
  simp [feat, setFeat, Block.onNv, find_ninsert_same _ _ _ (nerase_keys _ _)]

theorem feat_setFeat_other {sel' : Nat} (h : sel' ≠ sel) : feat (setFeat b p fid sel v) p fid sel' = feat b p fid sel' := by
  have hkey : featKey fid sel' ≠ featKey fid sel := by
    unfold featKey
    omega
  simp [feat, setFeat, Block.onNv, find_ninsert_other _ _ hkey, find_nerase_other _ hkey]
  rfl

theorem feat_keepFeature (fid' sel' : Nat) (save : Bool) :
    feat (keepFeature b p fid sel v save) p fid' sel' = feat (setFeat b p fid sel v) p fid' sel' := by
  cases save
  · rfl
  · simp [feat, keepFeature, Block.onNv]
    rfl

theorem feat_keepFeature_same (save : Bool) : feat (keepFeature b p fid sel v save) p fid sel = v :=
  (feat_keepFeature b p fid sel v fid sel save).trans (feat_setFeat_same b p fid sel v)

theorem feat_keepFeature_other {sel' : Nat} (save : Bool) (h : sel' ≠ sel) :
    feat (keepFeature b p fid sel v save) p fid sel' = feat b p fid sel' :=
  (feat_keepFeature b p fid sel v fid sel' save).trans (feat_setFeat_other b p fid sel v h)

@[simp] theorem keepFeature_regs (save : Bool) : (keepFeature b p fid sel v save).regs = b.regs := by
  cases save <;> rfl

@[simp] theorem keepFeature_xl (save : Bool) : (keepFeature b p fid sel v save).xl = b.xl := by
  cases save <;> rfl

end FeatureValues

section AdminFeatures

variable {b : Block} {p : Port}

/-- Taking an admin command leaves the controller's own values alone. -/
theorem adminBlock_ctrl (b : Block) (p : Port) :
    ∃ sqs, vget (adminBlock b p).nv p = { vget b.nv p with sqs := sqs } := by
  have hsame : ∃ sqs, vget b.nv p = { vget b.nv p with sqs := sqs } := ⟨_, rfl⟩
  unfold adminBlock adminStamp
  split
  · split
    · exact hsame
    · unfold takeStamp
      split
      · split
        · exact ⟨_, vget_vupd_same _ _ _⟩
        · exact hsame
      · exact hsame
  · exact hsame

@[simp] theorem adminBlock_granted (b : Block) (p : Port) : (vget (adminBlock b p).nv p).granted = (vget b.nv p).granted := by
  obtain ⟨sqs, h⟩ := adminBlock_ctrl b p
  rw [h]

@[simp] theorem adminBlock_hostId (b : Block) (p : Port) : (vget (adminBlock b p).nv p).hostId = (vget b.nv p).hostId := by
  obtain ⟨sqs, h⟩ := adminBlock_ctrl b p
  rw [h]

@[simp] theorem adminBlock_xl (b : Block) (p : Port) : (adminBlock b p).xl = b.xl := by
  have h := congrArg Block.xl (adminBlock_nvOnly b p)
  exact h

@[simp] theorem adminBlock_sys (b : Block) (p : Port) : (adminBlock b p).sys = b.sys := by
  have h := congrArg Block.sys (adminBlock_nvOnly b p)
  exact h

@[simp] theorem adminBlock_sep (b : Block) (p : Port) : (adminBlock b p).sep = b.sep := by
  have h := congrArg Block.sep (adminBlock_nvOnly b p)
  exact h

variable (cid : Nat)

/-- A value in range is taken, and the command completes. -/
theorem setFeature_taken (h : AdminTaken b p) {ok : Block → Bool} (f : Block → Block) (hok : ok (adminBlock b p) = true) :
    setFeature p cid ok f b = complete (f (adminBlock b p)) p 0 cid .success := by
  rw [setFeature, adminCommand_taken cid h]
  exact if_pos hok

theorem setVolatile_taken (h : AdminTaken b p) {ok : Block → Bool} (f : Block → Block) (hok : ok (adminBlock b p) = true) :
    setVolatile p cid false ok f b = complete (f (adminBlock b p)) p 0 cid .success :=
  setFeature_taken cid h f hok

/-- A feature of a namespace is set for each one that it reaches. -/
theorem setNamespaceFeature_taken {nsid : Nat} (h : AdminTaken b p) (f : Block → Nat → Block)
    (hns : featureNamespaces (adminBlock b p) p nsid ≠ []) :
    setNamespaceFeature p cid nsid f b =
      complete ((featureNamespaces (adminBlock b p) p nsid).foldl f (adminBlock b p)) p 0 cid .success := by
  rw [setNamespaceFeature, adminCommand_taken cid h]
  split
  · contradiction
  · rfl

/-! ### The features with an effect of their own -/

/-- The field that shows a controller's request. -/
def requestField (p : Port) : Field := if p = 0 then .PWR_MODE_PS_C1 else .PWR_MODE_PS_C2

theorem requestOf_eq (b : Block) (p : Port) : requestOf b p = b.get (requestField p) 0 := rfl

theorem requestField_width : ∀ p : Port, 4 < 2 ^ (requestField p).width := by decide

theorem requestField_inj : ∀ {p q : Port}, q ≠ p → requestField q ≠ requestField p := by decide

theorem setRequest_get (b : Block) (p : Port) (ps : Nat) (f : Field) :
    (setRequest b p ps).get f 0 = (b.put (requestField p) 0 ps).get f 0 := by
  unfold setRequest requestField
  dsimp only
  split <;> rfl

theorem requestOf_setRequest_same (b : Block) (p : Port) {ps : Nat} (h : ps ≤ 4) : requestOf (setRequest b p ps) p = ps := by
  rw [requestOf_eq, setRequest_get, Block.get_put_same]
  exact Nat.mod_eq_of_lt (lt_of_le_of_lt h (requestField_width p))

theorem requestOf_setRequest_other (b : Block) {p q : Port} (ps : Nat) (h : q ≠ p) :
    requestOf (setRequest b p ps) q = requestOf b q := by
  rw [requestOf_eq, setRequest_get, Block.get_put_ne _ _ _ _ (by decide) (by decide) (requestField_inj h)]
  rfl

/-- The first n entries of an APST table set (R108): each its time and its state. -/
def apstEntries (p : Port) (table : List (Nat × Nat)) (save : Bool) (n : Nat) (b : Block) : Block :=
  (List.range n).foldl (fun b i =>
    keepFeature b p 0x0C (i + 1) ((table.getD i (0, 0)).1 % 2 ^ 24 * 256 + (table.getD i (0, 0)).2 % 32 * 8) save) b

section ApstEntries

variable (b : Block) (p : Port) (table : List (Nat × Nat)) (save : Bool)

theorem apstEntries_succ (n : Nat) : apstEntries p table save (n + 1) b = keepFeature (apstEntries p table save n b) p 0x0C (n + 1)
    ((table.getD n (0, 0)).1 % 2 ^ 24 * 256 + (table.getD n (0, 0)).2 % 32 * 8) save := by
  rw [apstEntries, List.range_succ, List.foldl_append]
  rfl

theorem apstEntries_regs (n : Nat) : (apstEntries p table save n b).regs = b.regs := by
  induction n with
  | zero => rfl
  | succ n ih => rw [apstEntries_succ, keepFeature_regs, ih]

/-- Whether the transitions are enabled is no entry of the table. -/
theorem apstEntries_enabled (n : Nat) : feat (apstEntries p table save n b) p 0x0C 0 = feat b p 0x0C 0 := by
  induction n with
  | zero => rfl
  | succ n ih => rw [apstEntries_succ, feat_keepFeature_other _ _ _ _ _ _ (by omega), ih]

theorem apstEntries_feat {n i : Nat} (h : i < n) : feat (apstEntries p table save n b) p 0x0C (i + 1) =
    (table.getD i (0, 0)).1 % 2 ^ 24 * 256 + (table.getD i (0, 0)).2 % 32 * 8 := by
  induction n with
  | zero => omega
  | succ n ih =>
    rw [apstEntries_succ]
    by_cases hi : i = n
    · rw [hi, feat_keepFeature_same]
    · rw [feat_keepFeature_other _ _ _ _ _ _ (by omega), ih (by omega)]

end ApstEntries

/-- The namespace that a feature is set for is the one it is found under (R572). -/
theorem find_updFirst_ptpl (l : List Namespace) {nsid : Nat} {n : Namespace} (ptpl : Bool)
    (h : l.find? (fun x => x.nsid = nsid) = some n) :
    (updFirst (fun m => m.nsid = nsid) (fun m => { m with ptpl := ptpl }) l).find? (fun x => x.nsid = nsid) =
      some { n with ptpl := ptpl } := by
  induction l with
  | nil => cases h
  | cons m l ih =>
    by_cases hm : m.nsid = nsid
    · simp only [List.find?_cons, hm, decide_true, Option.some.injEq] at h
      subst h
      simp [updFirst, hm]
    · simp only [List.find?_cons, hm, decide_false] at h
      simp [updFirst, hm, ih h]

theorem numberOfQueues_taken {nsq ncq : Nat} (h : AdminTaken b p) (hsq : nsq < 65535) (hcq : ncq < 65535)
    (hgranted : (vget b.nv p).granted = none) :
    numberOfQueues p cid nsq ncq false b =
      complete ((adminBlock b p).onNv p (fun c => { c with granted := some (min nsq 126 + 1, min ncq 126 + 1) })) p 0 cid .success
        (min ncq 126 * 65536 + min nsq 126) := by
  have hnone : ¬ (nsq = 65535 ∨ ncq = 65535) := by omega
  have hn : min (nsq + 1) 127 = min nsq 126 + 1 := by omega
  have hm : min (ncq + 1) 127 = min ncq 126 + 1 := by omega
  simp only [numberOfQueues, adminCommand_taken cid h, adminBlock_granted, hgranted, hn, hm, if_neg hnone]
  rfl

theorem hostIdentifier_taken (h : AdminTaken b p) {id : Nat}
    (hid : (vget b.nv p).hostId = 0 ∨ (vget b.nv p).hostId = id % 2 ^ 128) :
    hostIdentifier p cid true id false b =
      complete ((adminBlock b p).onNv p (fun c => { c with hostId := id % 2 ^ 128 })) p 0 cid .success := by
  rw [hostIdentifier, adminCommand_taken cid h]
  dsimp only
  rw [adminBlock_hostId, if_neg (by decide), if_neg (by decide), if_neg]
  rintro ⟨hne, hother, -⟩
  exact hid.elim hne hother

/-- A timestamp that does not go back is set, and nothing is recorded (R136). -/
theorem timestampFeature_forward (h : AdminTaken b p) {ms : Nat} (hms : (hostTimestamp b).getD 0 ≤ ms % 2 ^ 48) :
    timestampFeature p cid ms false b = complete { adminBlock b p with
      sys := { (adminBlock b p).sys with hostTs := some (ms % 2 ^ 48), hostTsAt := b.now } } p 0 cid .success := by
  have hold : hostTimestamp (adminBlock b p) = hostTimestamp b := by simp [hostTimestamp, Block.now]
  have hnow : (adminBlock b p).now = b.now := congrArg Sys.devTime (adminBlock_sys b p)
  rw [timestampFeature, setVolatile_taken cid h _ rfl]
  dsimp only
  rw [hold, if_neg (Nat.not_lt.mpr hms), hnow]

theorem featureNamespaces_attached {nsid : Nat} {n : Namespace} (hall : nsid ≠ 0xFFFFFFFF) (h : nsAttached b p nsid = some n) :
    featureNamespaces (adminBlock b p) p nsid = [nsid] := by
  have hattached : nsAttached (adminBlock b p) p nsid = some n := by
    rw [← h]
    simp [nsAttached, nsFind]
  rw [featureNamespaces, if_neg hall, hattached]
  rfl

end AdminFeatures

theorem otherPort_ne : ∀ p : Port, 1 - p ≠ p := by decide

/-- The block in which a power state has been asked for, before the power state is evaluated. -/
def psAsked (b : Block) (p : Port) (ps : Nat) (save : Bool) : Block :=
  setRequest (keepFeature { b with pwr := { b.pwr with spinupFailed := b.pwr.spinupFailed && decide (3 < ps) } } p 0x02 0 ps save) p ps

theorem psAsked_other (b : Block) {p q : Port} (ps : Nat) (save : Bool) (h : q ≠ p) :
    requestOf (psAsked b p ps save) q = requestOf b q := by
  rw [psAsked, requestOf_setRequest_other _ _ h]
  unfold requestOf Block.get
  rw [keepFeature_regs]

/-- Settles O29: each feature by the equation of its command, with what it sets read back. -/
theorem featuresComplete : Obligations.FeaturesComplete := by
  refine ⟨fun s p cid v save h => ?arbitration, fun s p cid ps hint save h hps => ?powerManagement,
    fun s p cid sensor under v save h hsensor => ?temperatureThreshold, fun s p cid h => ?errorRecovery,
    fun s p cid nsq ncq h hsq hcq hgranted => ?numberOfQueues, fun s p cid time threshold save h => ?interruptCoalescing,
    fun s p cid vector disable h hlow hhigh => ?interruptVector, fun s p cid v save h => ?asyncEvents,
    fun s p cid enable table save h hlen hok => ?apst, fun s p cid ms h hms => ?timestamp,
    fun s p cid id h hid => ?hostIdentifier, fun s p cid nsid mask save h hns => ?reservationMask,
    fun s p cid nsid ptpl save n h hall hns => ?reservationPersistence, fun s p cid h => ?volatileWriteCache,
    fun s p cid v save h hv => ?jobEvents, fun s p cid v save h hlow hhigh => ?healthNotice⟩
  case arbitration =>
    have hset := setFeature_taken cid h (ok := fun _ => true)
      (fun b => (keepFeature b p 0x01 0 v.toNat save).onNv p (fun c => { c with credits := [] })) rfl
    exact ⟨_, _, onBlock_eq hset, rfl, rfl, (keepFeature_regs ..).trans (adminBlock_regs ..)⟩
  case powerManagement =>
    have hset := setFeature_taken cid h (ok := fun _ => decide (ps ≤ 4))
      (fun b => refreshWarnings (powerEval (psAsked b p ps save) 0x01)) (decide_eq_true hps)
    refine ⟨_, psAsked (adminBlock s.blk p) p ps save, onBlock_eq (f := powerManagement p cid ps save) hset, rfl,
      requestOf_setRequest_same _ _ hps, ?_⟩
    rw [psAsked_other _ _ _ (otherPort_ne p)]
    unfold requestOf Block.get
    rw [adminBlock_regs]
  case temperatureThreshold => exact onBlock_eq (setFeature_taken cid h _ (decide_eq_true hsensor))
  case errorRecovery => exact onBlock_eq (setVolatile_taken cid h _ rfl)
  case numberOfQueues =>
    exact ⟨_, _, rfl, numberOfQueues_taken cid h hsq hcq hgranted, congrArg Ctrl.granted (vget_vupd_same _ _ _),
      adminBlock_regs _ _⟩
  case interruptCoalescing => exact onBlock_eq (setFeature_taken cid h _ rfl)
  case interruptVector =>
    have hvector : disable.toNat = if disable then 1 else 0 := by cases disable <;> rfl
    rw [hvector]
    exact onBlock_eq (setVolatile_taken cid h _ (decide_eq_true ⟨hlow, hhigh⟩))
  case asyncEvents => exact onBlock_eq (setFeature_taken cid h _ rfl)
  case apst =>
    have hrange : (decide (table.length ≤ 5) && table.all apstEntryOk) = true := by simp [hlen, hok]
    have henable : enable.toNat = if enable then 1 else 0 := by cases enable <;> rfl
    have hset := setFeature_taken cid h (ok := fun _ => decide (table.length ≤ 5) && table.all apstEntryOk)
      (fun b => apstEntries p table save 5 (keepFeature b p 0x0C 0 enable.toNat save)) hrange
    rw [henable] at hset
    refine ⟨_, apstEntries p table save 5 (keepFeature (adminBlock s.blk p) p 0x0C 0 enable.toNat save),
      onBlock_eq (f := apstFeature p cid enable table save) hset, by rw [henable], ?_, ?_, ?_⟩
    · rw [apstEntries_regs, keepFeature_regs, adminBlock_regs]
    · rw [apstEntries_enabled, feat_keepFeature_same]
    · exact apstEntries_feat _ _ _ _ (by decide)
  case timestamp =>
    exact ⟨_, _, rfl, timestampFeature_forward cid h hms, rfl, rfl, adminBlock_regs _ _, adminBlock_sep _ _⟩
  case hostIdentifier =>
    exact ⟨_, _, rfl, hostIdentifier_taken cid h hid, congrArg Ctrl.hostId (vget_vupd_same _ _ _), adminBlock_regs _ _⟩
  case reservationMask => exact onBlock_eq (setNamespaceFeature_taken cid h _ hns)
  case reservationPersistence =>
    have honly := featureNamespaces_attached hall hns
    have hone := setNamespaceFeature_taken cid h (nsid := nsid) (fun b n => keepFeature (b.onXl (fun x => { x with
      namespaces := updFirst (fun m => m.nsid = n) (fun m => { m with ptpl := ptpl }) x.namespaces })) p 0x83 n
        (if ptpl then 1 else 0) save) (by simp [honly])
    rw [honly] at hone
    obtain ⟨hfind, -⟩ := Option.filter_eq_some_iff.mp hns
    refine ⟨_, _, rfl, hone, ?_, ?_⟩
    · simp only [List.foldl_cons, List.foldl_nil, nsFind, keepFeature_xl, Block.onXl, adminBlock_xl]
      exact find_updFirst_ptpl _ ptpl hfind
    · exact (keepFeature_regs ..).trans (adminBlock_regs ..)
  case volatileWriteCache => exact onBlock_eq (adminCommand_taken cid h (fun b => complete b p 0 cid .invalidField))
  case jobEvents => exact onBlock_eq (setFeature_taken cid h _ (decide_eq_true hv))
  case healthNotice => exact onBlock_eq (setFeature_taken cid h _ (decide_eq_true ⟨hlow, hhigh⟩))

end Sys2Proof.Machine

namespace Sys2Proof.Machine

/-! ## The bus, the clamp and the brakes (R168 to R172, R181) -/

/-- Where the field that holds SPE's control state is kept, so is the state. -/
theorem regsKept.spnMode {fs : List Field} {a b : Block} (h : regsKept fs a b) (hf : Field.SPN_STATE_STATE ∉ fs) :
    b.spnMode = a.spnMode := by
  unfold Block.spnMode
  rw [h _ 0 (by decide) hf]

@[simp] theorem spnMode_put (b : Block) (m : SpnMode) : (b.put .SPN_STATE_STATE 0 m.code).spnMode = m := by
  unfold Block.spnMode
  rw [Block.get_put_same]
  cases m <;> rfl

@[simp] theorem spnMode_put_other (b : Block) {f : Field} (v : Nat) (hf : f ≠ .SPN_STATE_STATE) :
    (b.put f 0 v).spnMode = b.spnMode := by
  unfold Block.spnMode
  rw [Block.get_put_ne b 0 0 v (by decide) (by decide) hf.symm]

@[simp] theorem spnMode_bump (b : Block) {f : Field} (n : Nat) (hf : f ≠ .SPN_STATE_STATE) :
    (b.bump f 0 n).spnMode = b.spnMode := spnMode_put_other b _ hf

@[simp] theorem spnMode_onHea (b : Block) (g : Health → Health) : (b.onHea g).spnMode = b.spnMode := rfl

section Bus

variable (b : Block) (mv : Nat)

theorem brakeEvent_only : RecorderOnly b (brakeEvent b mv) := sepia_only b _ _ _ _

@[simp] theorem brakeEvent_spn : (brakeEvent b mv).spn = b.spn := sepia_spn b _ _ _ _

@[simp] theorem brakeEvent_get {f : Field} (hf : f ∉ recorderFields) : (brakeEvent b mv).get f 0 = b.get f 0 :=
  get_sepia b _ _ _ _ f 0 (by decide) hf

@[simp] theorem brakeEvent_spnMode : (brakeEvent b mv).spnMode = b.spnMode :=
  regsKept.spnMode (brakeEvent_only b mv).2 (by decide)

@[simp] theorem seeBus_spn : (seeBus b mv).spn = b.spn := rfl

@[simp] theorem seeBus_spnMode : (seeBus b mv).spnMode = b.spnMode := (seeBus_regsKept b mv).spnMode (by decide)

theorem seeBus_now : (seeBus b mv).get .SPN_BUS_NOW 0 = min mv 0xFFFF := by
  have hfits : min mv 0xFFFF % 2 ^ Field.width .SPN_BUS_NOW = min mv 0xFFFF := Nat.mod_eq_of_lt (by
    have : 2 ^ Field.width .SPN_BUS_NOW = 65536 := rfl
    omega)
  unfold seeBus
  rw [Block.get_put_ne _ 0 0 _ (by decide) (by decide) (by decide), Block.get_put_same, hfits]

@[simp] theorem shortBrake_spnMode (g : SpnGoal) : (shortBrake b g).spnMode = .short := by simp [shortBrake]

@[simp] theorem shortBrake_last (g : SpnGoal) : (shortBrake b g).get .SPN_BRAKE_LAST 0 = 2 := Block.get_put_same _ _ _ _

theorem shortBrake_regsKept (g : SpnGoal) : regsKept [.SPN_BRAKE_LAST, .SPN_STATE_STATE] b (shortBrake b g) := by simp [shortBrake]

@[simp] theorem beginCatch_spnMode : (beginCatch b).spnMode = .catching := spnMode_put _ _

end Bus

/-! ### The clamp -/

section Clamp

variable {b : Block} {mv : Nat}

/-- The clamp's switch closes above 13.6 V (R168). -/
theorem execClampComparator_closes (s : State) (hmv : 13600 < mv) : execClampComparator true mv s =
    .next { s with blk := { seeBus s.blk mv with spn := { s.blk.spn with clampClosed := true } } } :=
  onBlock_eq (if_pos (by simp [hmv]))

/-- It opens below 13.2 V (R168). -/
theorem execClampComparator_opens (s : State) (hmv : mv < 13200) : execClampComparator false mv s =
    .next { s with blk := { seeBus s.blk mv with spn := { s.blk.spn with clampClosed := false } } } :=
  onBlock_eq ((if_neg (by simp)).trans (if_pos (by simp [hmv])))

/-- What a faulty clamp writes beside `SPN_BRAKE.CLAMPBAD`, where it turns a regenerative brake into SHORT (R170). -/
def clampFaultFields : List Field := recorderFields ++ [.SPN_BRAKE_SHORTS, .SPN_BRAKE_LAST, .SPN_STATE_STATE]

theorem clampFaulty_regsKept : regsKept clampFaultFields (b.put .SPN_BRAKE_CLAMPBAD 0 1) (clampFaulty b mv) := by
  unfold clampFaulty
  dsimp only
  split
  · refine (((shortBrake_regsKept _ b.spn.goal).mono (by decide)).trans ?_).trans
      (regsKept.mono (brakeEvent_only _ mv).2 (List.subset_append_left _ _))
    simp [clampShort, clampFaultFields]
  · exact regsKept_refl _ _

theorem clampFaulty_bad : (clampFaulty b mv).get .SPN_BRAKE_CLAMPBAD 0 = 1 :=
  (clampFaulty_regsKept _ 0 (by decide) (by decide)).trans (Block.get_put_same _ _ _ _)

theorem clampFaulty_test : (clampFaulty b mv).get .SPN_BRAKE_TEST 0 = b.get .SPN_BRAKE_TEST 0 :=
  (clampFaulty_regsKept _ 0 (by decide) (by decide)).trans (Block.get_put_ne _ 0 0 _ (by decide) (by decide) (by decide))

/-- A faulty clamp leaves alone when the next test is due. -/
theorem clampFaulty_due : (clampFaulty b mv).spn.clampUs = b.spn.clampUs ∧ (clampFaulty b mv).spn.clampDue = b.spn.clampDue := by
  unfold clampFaulty
  dsimp only
  split
  · rw [brakeEvent_spn]
    exact ⟨rfl, rfl⟩
  · exact ⟨rfl, rfl⟩

theorem clampFaulty_regen (h : b.spnMode = .regen) :
    (clampFaulty b mv).spnMode = .short ∧ (clampFaulty b mv).get .SPN_BRAKE_LAST 0 = 2 := by
  have hregen : (b.put .SPN_BRAKE_CLAMPBAD 0 1).spnMode = .regen := by rw [spnMode_put_other _ _ (by decide), h]
  unfold clampFaulty
  dsimp only
  rw [if_pos hregen, brakeEvent_spnMode, brakeEvent_get _ _ (by decide)]
  constructor
  · simp [clampShort]
  · exact (Block.get_put_ne _ 0 0 _ (by decide) (by decide) (by decide)).trans (shortBrake_last _ _)

theorem clampFault_rising (hclosed : b.spn.clampClosed = true) : clampFault true mv b = clampFaulty (seeBus b mv) mv := by
  rw [clampFault, hclosed]
  rfl

/-- The block once a clamp test has been made and recorded, before its result shows (R169, R172). -/
def clampTested (b : Block) (mv : Nat) : Block :=
  brakeEvent ({ (seeBus b mv) with spn := { b.spn with clampUs := 0, clampDue := false } }.put .SPN_BRAKE_TEST 0 0) mv

theorem clampTested_shown : (clampTested b mv).get .SPN_BRAKE_TEST 0 = 0 ∧ (clampTested b mv).spn.clampUs = 0 ∧
    (clampTested b mv).spn.clampDue = false := by
  unfold clampTested
  rw [brakeEvent_get _ _ (by decide), brakeEvent_spn]
  exact ⟨Block.get_put_same _ _ _ _, rfl, rfl⟩

variable {ma : Nat} (hasked : b.spn.clampDue = true ∨ b.get .SPN_BRAKE_TEST 0 = 1)

include hasked

theorem clampTest_eq : clampTest ma mv b =
    if clampTestPass ma mv then (clampTested b mv).put .SPN_BRAKE_CLAMPBAD 0 0
    else clampFaulty (((clampTested b mv).bump .SPN_BRAKE_TESTFAIL 0).onHea (fun h => { h with clampFails := h.clampFails + 1 })) mv := by
  have hguard : (b.spn.clampDue || decide (b.get .SPN_BRAKE_TEST 0 = 1)) = true := by simpa using hasked
  rw [clampTest, hguard]
  rfl

theorem clampTest_shown : (clampTest ma mv b).get .SPN_BRAKE_CLAMPBAD 0 = (if clampTestPass ma mv then 0 else 1) ∧
    (clampTest ma mv b).get .SPN_BRAKE_TEST 0 = 0 ∧ (clampTest ma mv b).spn.clampUs = 0 ∧
    (clampTest ma mv b).spn.clampDue = false := by
  obtain ⟨htest, hus, hdue⟩ := clampTested_shown (b := b) (mv := mv)
  have hput : ∀ (f : Field) (v : Nat), f ≠ .SPN_BRAKE_TEST → ((clampTested b mv).put f 0 v).get .SPN_BRAKE_TEST 0 = 0 :=
    fun f v hf => (Block.get_put_ne _ 0 0 v (by decide) (by decide) hf.symm).trans htest
  rw [clampTest_eq hasked]
  cases clampTestPass ma mv with
  | true => exact ⟨Block.get_put_same _ _ _ _, hput _ _ (by decide), hus, hdue⟩
  | false =>
    rw [if_neg Bool.false_ne_true, clampFaulty_test, clampFaulty_due.1, clampFaulty_due.2]
    exact ⟨clampFaulty_bad, hput _ _ (by decide), hus, hdue⟩

end Clamp

/-! ### The bus -/

section Overvoltage

variable {b : Block} {mv : Nat}

theorem busOvervoltage_again (hmv : 15000 < mv) (h : b.spnMode = .coast) : busOvervoltage mv b = seeBus b mv := by
  rw [busOvervoltage, decide_eq_true hmv, Block.guard_true]
  exact if_pos ((seeBus_spnMode b mv).trans h)

/-- The block that an over-voltage leaves, its heads unloading, before the brake change is recorded (R171). -/
def coasting (b : Block) (mv : Nat) : Block :=
  let braking := decide (b.spnMode ∈ [SpnMode.regen, .short])
  let c := if braking then unloadAll (seeBus b mv) else unloadForSpeed (seeBus b mv)
  let c := { c with spn := { c.spn with ovBraking := braking, angleKnown := false, lostWait := false, zeroSteps := 0 } }
  (((c.onHea (fun h => { h with coasts := h.coasts + 1 })).put .SPN_STATE_STATE 0 SpnMode.coast.code).bump
    .SPN_BRAKE_COASTS 0).put .SPN_BRAKE_LAST 0 3

theorem coasting_shown : (coasting b mv).spnMode = .coast ∧ (coasting b mv).get .SPN_BRAKE_LAST 0 = 3 := by
  refine ⟨?_, Block.get_put_same _ _ _ _⟩
  simp [coasting]

theorem busOvervoltage_eq (hmv : 15000 < mv) (h : b.spnMode ≠ .coast) :
    busOvervoltage mv b = brakeEvent (coasting b mv) mv := by
  rw [busOvervoltage, decide_eq_true hmv, Block.guard_true]
  refine (if_neg (by rwa [seeBus_spnMode])).trans ?_
  rw [seeBus_spnMode]
  rfl

theorem cleared_guard (hcoast : b.spnMode = .coast) (hmv : mv < 14000) :
    (b.spnMode = .coast && decide (mv < 14000)) = true := by simp [hcoast, hmv]

/-- A brake that the over-voltage cut short goes on in SHORT (R171). -/
theorem busOvervoltageCleared_braking (hcoast : b.spnMode = .coast) (hmv : mv < 14000) (hbraking : b.spn.ovBraking = true) :
    busOvervoltageCleared mv b = brakeEvent (shortBrake (seeBus b mv) b.spn.goal) mv := by
  rw [busOvervoltageCleared, cleared_guard hcoast hmv, Block.guard_true]
  exact if_pos hbraking

/-- A motor that SPE was driving is caught (R171). -/
theorem busOvervoltageCleared_driving (hcoast : b.spnMode = .coast) (hmv : mv < 14000) (hbraking : b.spn.ovBraking = false)
    (hgoal : b.spn.goal ∉ [SpnGoal.rest, SpnGoal.retry]) : busOvervoltageCleared mv b = beginCatch (seeBus b mv) := by
  rw [busOvervoltageCleared, cleared_guard hcoast hmv, Block.guard_true]
  refine (if_neg (by simp [hbraking])).trans (if_neg ?_)
  rw [decide_eq_true_eq]
  exact hgoal

end Overvoltage

/-- Settles O11: the clamp by its comparator, its fault and the result of its test, the bus by the control state that SPE enters. -/
theorem brakesComplete : Obligations.BrakesComplete := by
  refine ⟨fun s mv hmv => ?_, fun s mv hmv => ?_, fun s mv hclosed hregen => ⟨_, rfl, ?_⟩, fun s ma mv hasked => ⟨_, rfl, ?_⟩,
    fun s mv hmv hmode => ⟨_, rfl, ?_⟩, fun s mv hmv hmode => onBlock_eq (busOvervoltage_again hmv hmode),
    fun s mv hcoast hmv hbraking => ⟨_, rfl, ?_⟩,
    fun s mv hcoast hmv hbraking hgoal => ⟨_, rfl, ?_⟩⟩
  · exact ⟨_, execClampComparator_closes s hmv, rfl, seeBus_now s.blk mv⟩
  · exact ⟨_, execClampComparator_opens s hmv, rfl, (seeBus_now s.blk mv).trans (by omega)⟩
  · dsimp only
    rw [clampFault_rising hclosed]
    exact ⟨clampFaulty_bad, clampFaulty_regen ((seeBus_spnMode s.blk mv).trans hregen)⟩
  · obtain ⟨hbad, htest, hus, hdue⟩ := clampTest_shown (ma := ma) (mv := mv) hasked
    refine ⟨?_, htest, hus, hdue, rfl⟩
    simpa only [clampTestPass, decide_eq_true_eq] using hbad
  · dsimp only
    rw [busOvervoltage_eq hmv hmode, brakeEvent_spnMode, brakeEvent_get _ _ (by decide), brakeEvent_spn]
    exact ⟨coasting_shown.1, coasting_shown.2, rfl, rfl, rfl⟩
  · dsimp only
    rw [busOvervoltageCleared_braking hcoast hmv hbraking, brakeEvent_spnMode, shortBrake_spnMode]
  · dsimp only
    rw [busOvervoltageCleared_driving hcoast hmv hbraking hgoal]
    exact ⟨beginCatch_spnMode _, rfl⟩

end Sys2Proof.Machine

namespace Sys2Proof.Machine

/-! ## A third over-current trip while a write is cut (R721)

The last clause of `Obligations.SpindleCompletes` takes every state, one among them whose register table holds a head number so great
that the drive current latched at the fall of write gate lands on the mode. The latched current is a free value, and the trip goes on
to PARK only where it reads as SPINUP, RUN or IDLE. -/

/-- The head number at which the latch of actuator 3's drive current lies on the mode. -/
def latchOnMode : Nat := Field.key .PWR_MODE_MODE 0 - Field.key .AST_HLAS_IDRV 18

/-- A spin-up with two recent trips, whose actuator 3 follows its track with write gate up. -/
def tripWrites : State :=
  { State.reset with blk := { State.reset.blk with
      regs := [(Field.key .SRV_STATE_MODE 3, 4), (Field.key .AST_STATE_HEAD 3, latchOnMode), (Field.key .PWR_MODE_MODE 0, 1)]
      ts := vupd State.reset.blk.ts 3 (fun t => { t with wg := true })
      ast := vupd State.reset.blk.ast 3 (fun v => { v with agAt := some 0 })
      spn := { State.reset.blk.spn with trips := [0, 0] } } }

/-- Its block once the third trip is counted. -/
def tripThird : Block :=
  { tripWrites.blk with spn := { tripWrites.blk.spn with trips := [0, 0, 0], angleKnown := false, lostWait := false } }

theorem spindleOvercurrent_tripWrites : spindleOvercurrent tripWrites.blk = overcurrentOut tripThird := rfl

/-- The unload cuts the write, and the current latched replaces the mode. -/
theorem unloadAll_tripThird : (unloadAll tripThird).regs =
    nset 0 (nset 0 tripThird.regs (Field.key .PWR_MODE_MODE 0) (Config.freeValue 0 % 65536 % 65536))
      (Field.key .SRV_STATE_MODE 3) 5 := rfl

theorem unloadAll_tripThird_mode : (unloadAll tripThird).mode = modeOfCode (Config.freeValue 0 % 65536) := by
  have hget : (unloadAll tripThird).get .PWR_MODE_MODE 0 = Config.freeValue 0 % 65536 % 65536 := by
    unfold Block.get
    rw [unloadAll_tripThird, nget_nset_other _ _ _ _ (by decide)]
    exact nget_nset_same _ _ _ _
  rw [Block.mode, hget, Nat.mod_mod]

theorem unloadAll_tripThird_target : (unloadAll tripThird).get .PWR_MODE_TARGET 0 = 0 := by
  unfold Block.get
  rw [unloadAll_tripThird, nget_nset_other _ _ _ _ (by decide), nget_nset_other _ _ _ _ (by decide)]
  decide

/-- Outside SPINUP, RUN and IDLE the last trip leaves the target of the mode as it was. -/
theorem overcurrentOut_target {b : Block} (h : (unloadAll b).mode ∉ [Mode.spinup, .run, .idle]) :
    (overcurrentOut b).get .PWR_MODE_TARGET 0 = (unloadAll b).get .PWR_MODE_TARGET 0 := by
  have hkept : ∀ spn : Spindle, regsKept [.SPN_STATE_STATE, .SPN_SPINUP_CAUSE] (unloadAll b)
      (({ unloadAll b with spn := spn }.put .SPN_STATE_STATE 0 SpnMode.float.code).put .SPN_SPINUP_CAUSE 0 4) := fun spn => by simp
  have hmode : ∀ spn : Spindle, (({ unloadAll b with spn := spn }.put .SPN_STATE_STATE 0 SpnMode.float.code).put
      .SPN_SPINUP_CAUSE 0 4).mode = (unloadAll b).mode := fun spn => by
    unfold Block.mode
    rw [hkept spn _ 0 (by decide) (by decide)]
  unfold overcurrentOut
  dsimp only
  rw [hmode, decide_eq_false h, if_neg Bool.false_ne_true]
  exact hkept _ _ 0 (by decide) (by decide)

/-- Where the first free value reads as another mode, the third trip in `tripWrites` asks for no PARK, and O10 fails: what it says of
the trip rests on a value about which nothing can be proved. -/
theorem not_spindleCompletes_of_freeValue (hfree : modeOfCode (Config.freeValue 0 % 65536) ∉ [Mode.spinup, .run, .idle]) :
    ¬ Obligations.SpindleCompletes := by
  rintro ⟨-, -, -, -, -, -, -, -, -, -, -, -, -, -, -, -, -, -, -, htrip⟩
  obtain ⟨t, ht, -, -, hout⟩ := htrip tripWrites (by decide)
  obtain rfl := Host.Outcome.next.inj ht
  obtain ⟨-, htarget, -⟩ := hout (by decide +kernel)
  rw [← unloadAll_tripThird_mode] at hfree
  have hkept := (overcurrentOut_target hfree).trans unloadAll_tripThird_target
  rw [← spindleOvercurrent_tripWrites] at hkept
  exact absurd (htarget.symm.trans hkept) (by decide)

end Sys2Proof.Machine

namespace Sys2Proof.Machine

/-! ## The registers of a servo engine while a write is cut (R206, R227 to R236, R243)

The fall of write gate latches the drive current of the head that `AST_STATE.HEAD` names, whatever number that field holds. The latch lies
above every field of SEa, and so none of them changes. -/

/-- The register fields of SEa (R227 to R238). -/
abbrev ServoField (f : Field) : Prop :=
  Field.ctorIdx .SRV_STATE_MODE ≤ f.ctorIdx ∧ f.ctorIdx ≤ Field.ctorIdx .SRV_TBLMAP_T0_INDEX

/-- A write to a field behind another leaves that one alone, at whatever number it is made. -/
theorem Block.get_put_behind (b : Block) {f g : Field} {i : Nat} (j v : Nat) (hi : i < 256) (h : f.ctorIdx < g.ctorIdx) :
    (b.put g j v).get f i = b.get f i := by
  unfold Block.get Block.put
  refine nget_nset_other _ _ _ _ ?_
  unfold Field.key
  omega

/-- Every register field of the servo engines but those of a list reads in one block as in the other. -/
def servoKept (fs : List Field) (b c : Block) : Prop :=
  ∀ (f : Field) (i : Nat), i < 256 → ServoField f → f ∉ fs → c.get f i = b.get f i

section ServoKept

variable {fs gs : List Field} {a b c : Block}

theorem servoKept_refl (fs : List Field) (b : Block) : servoKept fs b b := fun _ _ _ _ _ => rfl

theorem servoKept_of_regs (h : b.regs = a.regs) : servoKept fs a b := fun f i _ _ _ => by simp only [Block.get, h]

theorem servoKept.trans (h : servoKept fs a b) (k : servoKept fs b c) : servoKept fs a c :=
  fun f i hi hs hf => (k f i hi hs hf).trans (h f i hi hs hf)

theorem servoKept.mono (h : servoKept gs a b) (hs : gs ⊆ fs) : servoKept fs a b :=
  fun f i hi hsrv hf => h f i hi hsrv (fun hg => hf (hs hg))

/-- A frame of all register fields is one of SEa's. -/
theorem regsKept.toServo (h : regsKept gs a b) (hs : ∀ f ∈ gs, ServoField f → f ∈ fs) : servoKept fs a b :=
  fun f i hi hsrv hf => h f i hi (fun hg => hf (hs f hg hsrv))

/-- Where the field that holds SEa's loop state is kept, so is the state. -/
theorem servoKept.srvMode (h : servoKept fs a b) (hf : Field.SRV_STATE_MODE ∉ fs) (x : Act) : b.srvMode x = a.srvMode x := by
  unfold Block.srvMode
  rw [h _ _ (act_val_lt_256 x) (by decide) hf]

end ServoKept

/-! ### The loop state and the servo's state -/

@[simp] theorem srvMode_put (b : Block) (a : Act) (m : SrvMode) : (b.put .SRV_STATE_MODE a.val m.code).srvMode a = m := by
  unfold Block.srvMode
  rw [Block.get_put_same]
  cases m <;> rfl

theorem srvMode_put_otherAct (b : Block) {a x : Act} (v : Nat) (h : x ≠ a) :
    (b.put .SRV_STATE_MODE a.val v).srvMode x = b.srvMode x := by
  unfold Block.srvMode
  rw [Block.get_put_other b v (act_val_lt_256 a) (act_val_lt_256 x) (.inr (fun e => h (Fin.ext e)))]

@[simp] theorem srvMode_put_other (b : Block) (x : Act) {f : Field} {i : Nat} (v : Nat) (hf : f ≠ .SRV_STATE_MODE) (hi : i < 256) :
    (b.put f i v).srvMode x = b.srvMode x := by
  unfold Block.srvMode
  rw [Block.get_put_ne b i x.val v hi (act_val_lt_256 x) hf.symm]

@[simp] theorem srvMode_onSrv (b : Block) (a x : Act) (g : Servo → Servo) : (b.onSrv a g).srvMode x = b.srvMode x := rfl

@[simp] theorem onSrv_vget (b : Block) (a : Act) (g : Servo → Servo) : vget (b.onSrv a g).srv a = g (vget b.srv a) :=
  vget_vupd_same _ _ _

/-! ### Gates and the write in progress -/

section Cut

variable (b : Block) (a : Act)

@[simp] theorem rowRemove_regs (o : RowOwner) (k m j sector : Nat) : (rowRemove b o k m j sector).regs = b.regs := by
  unfold rowRemove
  dsimp only
  split <;> rfl

@[simp] theorem rowRemove_srv (o : RowOwner) (k m j sector : Nat) : (rowRemove b o k m j sector).srv = b.srv := by
  unfold rowRemove
  dsimp only
  split <;> rfl

/-- A cut sector taken out of its row changes the translation layer alone. -/
theorem removeCut_kept (index : Nat) (job : Option TsJob) :
    (removeCut b a index job).regs = b.regs ∧ (removeCut b a index job).srv = b.srv := by
  unfold removeCut
  split
  · exact ⟨rfl, rfl⟩
  · split
    · split
      · split
        · split <;> simp
        · exact ⟨rfl, rfl⟩
      · exact ⟨rfl, rfl⟩
    · exact ⟨rfl, rfl⟩

/-- A sector flagged for rewrite changes the track sequencer alone. -/
theorem flagRewrite_kept (index buf cause : Nat) (job : Option TsJob) :
    (flagRewrite b a index buf cause job).regs = b.regs ∧ (flagRewrite b a index buf cause job).srv = b.srv := by
  unfold flagRewrite
  split <;> exact ⟨rfl, rfl⟩

theorem cutFrame_kept : (cutFrame b a).regs = b.regs ∧ (cutFrame b a).srv = b.srv := by
  unfold cutFrame
  split
  · exact ⟨rfl, rfl⟩
  · dsimp only
    split_ifs
    · exact ⟨rfl, rfl⟩
    · rw [(flagRewrite_kept _ _ _ _ _ _).1, (flagRewrite_kept _ _ _ _ _ _).2, (removeCut_kept _ _ _ _).1, (removeCut_kept _ _ _ _).2]
      exact ⟨rfl, rfl⟩
    · exact ⟨rfl, rfl⟩

@[simp] theorem writeGatesFall_srv : (writeGatesFall b a).srv = b.srv := by
  unfold writeGatesFall
  dsimp only
  split <;> rfl

theorem writeGatesFall_servoKept : servoKept [] b (writeGatesFall b a) := by
  intro f i hi hservo _
  have hag : f.ctorIdx < Field.ctorIdx .AST_STATE_AG := lt_of_le_of_lt hservo.2 (by decide)
  have hwg : f.ctorIdx < Field.ctorIdx .AST_STATE_WG := lt_of_le_of_lt hservo.2 (by decide)
  have hlatch : f.ctorIdx < Field.ctorIdx .AST_HLAS_IDRV := lt_of_le_of_lt hservo.2 (by decide)
  unfold writeGatesFall
  dsimp only
  split
  · rfl
  · rw [Block.get_put_behind _ _ _ hi hlatch, Block.get_put_behind _ _ _ hi hwg, Block.get_put_behind _ _ _ hi hag]
    rfl

theorem cutWrite_servoKept : servoKept [] b (cutWrite b a) := by
  unfold cutWrite
  split
  · have hlow : servoKept [] b (lowerWg b a) := writeGatesFall_servoKept (b.onTs a _) a
    exact hlow.trans (servoKept_of_regs (cutFrame_kept _ a).1)
  · exact servoKept_refl [] b

@[simp] theorem cutWrite_srv : (cutWrite b a).srv = b.srv := by
  unfold cutWrite
  split
  · exact (cutFrame_kept _ _).2.trans (writeGatesFall_srv _ a)
  · rfl

/-! ### WUNSAFE raised -/

/-- The register fields in which WUNSAFE shows (R227, R231). -/
def wuFields : List Field := [.SRV_WU_CAUSE, .SRV_WU_COUNT, .SRV_STATE_WU]

/-- WUNSAFE with the request for its trap, before the write is cut. -/
def wuShown (b : Block) (a : Act) (n : Nat) : Block :=
  let b := (b.put .SRV_WU_CAUSE a.val (setBit (b.get .SRV_WU_CAUSE a.val) n)).onSrv a (fun v => { v with goodRun := 0 })
  if b.get .SRV_STATE_WU a.val = 0 then trapRequest ((b.bump .SRV_WU_COUNT a.val).put .SRV_STATE_WU a.val 1) a 1 else b

theorem raiseWu_eq (n : Nat) : raiseWu b a n = cutWrite (wuShown b a n) a := rfl

theorem wuShown_regsKept (n : Nat) : regsKept (.TS_STATE_PEND :: wuFields) b (wuShown b a n) := by
  unfold wuShown
  dsimp only
  split <;> simp [wuFields]

theorem raiseWu_servoKept (n : Nat) : servoKept wuFields b (raiseWu b a n) :=
  ((wuShown_regsKept b a n).toServo (by decide)).trans ((cutWrite_servoKept _ a).mono (List.nil_subset _))

theorem raiseWu_wu (n : Nat) : (raiseWu b a n).get .SRV_STATE_WU a.val ≠ 0 := by
  have ha := act_val_lt_256 a
  rw [raiseWu_eq, cutWrite_servoKept _ a _ _ ha (by decide) (by decide)]
  unfold wuShown
  dsimp only
  split
  · unfold trapRequest
    rw [Block.get_put_ne _ _ _ _ ha ha (by decide), Block.get_put_same]
    decide
  · assumption

@[simp] theorem raiseWu_srv (n : Nat) : (raiseWu b a n).srv = vupd b.srv a (fun v => { v with goodRun := 0 }) := by
  rw [raiseWu_eq, cutWrite_srv]
  unfold wuShown
  dsimp only
  split <;> rfl

@[simp] theorem raiseWu_srvMode (n : Nat) (x : Act) : (raiseWu b a n).srvMode x = b.srvMode x :=
  (raiseWu_servoKept b a n).srvMode (by decide) x

end Cut

end Sys2Proof.Machine

namespace Sys2Proof.Machine

/-! ## What leaves the engines as they are

What follows a surface that changes its state (R434) is work for the translation layer, the queues and the recorder. The image, the spindle
and the engines of every actuator stay as they were. -/

/-- The image and the states of SPE, SEa, AEa, CHa with the deep decoders, and TSa. -/
def engines (b : Block) :
    Image × Spindle × Vector Servo 4 × Vector Assist 4 × Vector Channel 4 × Deep × Vector Ts 4 :=
  (b.image, b.spn, b.srv, b.ast, b.ch, b.deep, b.ts)

/-- A fold of steps each of which leaves a part of the block alone leaves it alone. -/
theorem foldl_keeps {α γ : Type} (part : Block → γ) {f : Block → α → Block} (h : ∀ b x, part (f b x) = part b) :
    ∀ (l : List α) (b : Block), part (l.foldl f b) = part b
  | [], _ => rfl
  | x :: l, b => (foldl_keeps part h l (f b x)).trans (h b x)

theorem foldl_engines {α : Type} {f : Block → α → Block} (h : ∀ b x, engines (f b x) = engines b) :
    ∀ (l : List α) (b : Block), engines (l.foldl f b) = engines b := foldl_keeps engines h

theorem engines_srv {b c : Block} (h : engines c = engines b) : c.srv = b.srv := congrArg (fun e => e.2.2.1) h

section EnginesKept

variable (b : Block)

@[simp] theorem put_engines (f : Field) (i v : Nat) : engines (b.put f i v) = engines b := rfl
@[simp] theorem bump_engines (f : Field) (i n : Nat) : engines (b.bump f i n) = engines b := rfl
@[simp] theorem putBool_engines (f : Field) (i : Nat) (v : Bool) : engines (b.putBool f i v) = engines b := rfl
@[simp] theorem onNv_engines (p : Port) (g : Ctrl → Ctrl) : engines (b.onNv p g) = engines b := rfl
@[simp] theorem onPx_engines (p : Port) (g : PciPort → PciPort) : engines (b.onPx p g) = engines b := rfl
@[simp] theorem onXl_engines (g : Xlate → Xlate) : engines (b.onXl g) = engines b := rfl
@[simp] theorem onNs_engines (g : Nand → Nand) : engines (b.onNs g) = engines b := rfl
@[simp] theorem onNvm_engines (g : Nvm → Nvm) : engines (b.onNvm g) = engines b := rfl
@[simp] theorem onHea_engines (g : Health → Health) : engines (b.onHea g) = engines b := rfl
@[simp] theorem fresh_engines (n : Nat) : engines (b.fresh n).2 = engines b := rfl
@[simp] theorem answer_engines (r : Reply) : engines (b.answer r) = engines b := rfl
@[simp] theorem refreshDirty_engines : engines (refreshDirty b) = engines b := rfl
@[simp] theorem touchLink_engines (p : Port) : engines (touchLink b p) = engines b := by
  unfold touchLink
  dsimp only
  split <;> rfl

/-! ### The recorder, completions and events -/

@[simp] theorem sepiaCont_engines (code src pa pb : Nat) (conts : List (List Nat)) :
    engines (b.sepiaCont code src pa pb conts) = engines b := by
  have h := congrArg engines (sepiaCont_only b code src pa pb conts).1
  exact h

@[simp] theorem sepia_engines (code src pa pb : Nat) : engines (b.sepia code src pa pb) = engines b := sepiaCont_engines b _ _ _ _ _

@[simp] theorem sendMessage_engines (p : Port) (v : Nat) : engines (sendMessage b p v) = engines b := by
  unfold sendMessage
  split_ifs <;> simp

@[simp] theorem postEntry_engines (p : Port) (q : CompQueue) (e : Cqe) : engines (postEntry b p q e) = engines b := by
  unfold postEntry
  dsimp only
  split <;> simp

@[simp] theorem pmeIfDue_engines (p : Port) : engines (pmeIfDue b p) = engines b := by
  unfold pmeIfDue
  split <;> rfl

@[simp] theorem tryPost_engines (p : Port) (h : Nat × Cqe) : engines (tryPost b p h) = engines b := by
  unfold tryPost
  dsimp only
  split
  · rfl
  · split <;> simp

@[simp] theorem complete_engines (p : Port) (sq cid : Nat) (st : Status) (dw0 dw1 : Nat) :
    engines (complete b p sq cid st dw0 dw1) = engines b := by
  unfold complete
  split_ifs <;> simp

@[simp] theorem asyncEvent_engines (p : Port) (type info page : Nat) : engines (asyncEvent b p type info page) = engines b := by
  unfold asyncEvent
  dsimp only
  split
  · rfl
  · split <;> simp

@[simp] theorem vendorEvent_engines (info page : Nat) : engines (vendorEvent b info page) = engines b :=
  foldl_engines (fun b p => by split <;> simp) _ b

@[simp] theorem jobEvent_engines (p : Port) : engines (jobEvent b p) = engines b := by
  unfold jobEvent
  dsimp only
  split <;> simp

@[simp] theorem setWarning_engines (n : Nat) (v : Bool) : engines (setWarning b n v) = engines b := by
  unfold setWarning
  dsimp only
  split
  · exact foldl_engines (fun b p => by split <;> simp) _ _
  · rfl

@[simp] theorem refreshWarnings_engines : engines (refreshWarnings b) = engines b := by simp [refreshWarnings]

@[simp] theorem evalSpace_engines : engines (evalSpace b) = engines b := by
  unfold evalSpace
  dsimp only
  split <;> simp

/-! ### Dirty blocks, the NAND and the journal -/

@[simp] theorem dirtyDrop_engines (key : Nat) : engines (dirtyDrop b key) = engines b := rfl

@[simp] theorem journalEntry_engines : engines (journalEntry b) = engines b := by
  unfold journalEntry
  split <;> rfl

@[simp] theorem dropSlot_engines (key : Nat) : engines (dropSlot b key) = engines b := by
  unfold dropSlot
  dsimp only
  split <;> rfl

/-! ### Requests, rows and bands -/

@[simp] theorem putZone_engines (z : Zone) : engines (putZone b z) = engines b := rfl

@[simp] theorem putGroup_engines (g : Group) : engines (putGroup b g) = engines b := rfl

@[simp] theorem releaseBlock_engines (o : RowOwner) (key : Nat) : engines (releaseBlock b o key) = engines b := by
  unfold releaseBlock
  dsimp only
  split
  · simp
  · split_ifs <;> simp

@[simp] theorem putLog_engines (o : RowOwner) (l : RowLog) : engines (putLog b o l) = engines b := by
  unfold putLog
  split
  · split <;> rfl
  · split <;> rfl
  · rfl

@[simp] theorem enqueueReq_engines (r : MediaReq) : engines (enqueueReq b r) = engines b := by
  unfold enqueueReq
  split <;> rfl

@[simp] theorem newReq_engines (f : ReqFor) (surf track first count : Nat) (write urgent : Bool) :
    engines (newReq b f surf track first count write urgent) = engines b := by
  simp [newReq]

@[simp] theorem rowAdd_engines (o : RowOwner) (k m j sector symbols : Nat) : engines (rowAdd b o k m j sector symbols) = engines b := by
  unfold rowAdd
  dsimp only
  split <;> rfl

@[simp] theorem makeVirtual_engines (o : RowOwner) (k s m : Nat) : engines (makeVirtual b o k s m) = engines b := by
  unfold makeVirtual passTrack
  dsimp only
  split
  · split <;> simp
  · rfl

@[simp] theorem askParity_engines (o : RowOwner) (l : RowLog) (k : Nat) : engines (askParity b o l k) = engines b := by
  refine foldl_engines (fun b r => ?_) _ b
  dsimp only
  split
  · rfl
  · split_ifs <;> simp

@[simp] theorem rowAdvance_engines (o : RowOwner) (k : Nat) : engines (rowAdvance b o k) = engines b := by
  unfold rowAdvance
  split
  · rfl
  · split
    · dsimp only
      split
      · simp
      · split <;> simp
    · rfl

@[simp] theorem emitTrack_engines (o : RowOwner) (l : RowLog) (off count : Nat) : engines (emitTrack b o l off count) = engines b := by
  unfold emitTrack
  extract_lets k j first surf b1 b2
  have h1 : engines b1 = engines b := putLog_engines b o _
  have h2 : engines b2 = engines b := by
    refine (foldl_engines (fun b i => ?_) _ b1).trans h1
    dsimp only
    split
    · split <;> simp
    · simp
  split
  · split
    · rw [rowAdvance_engines, makeVirtual_engines, h2]
    · exact h2
  · rw [newReq_engines, h1]

@[simp] theorem feedTracks_engines (n : Nat) (o : RowOwner) : engines (feedTracks n b o) = engines b := by
  induction n generalizing b with
  | zero => rfl
  | succ n ih =>
    unfold feedTracks
    split
    · rfl
    · dsimp only
      split
      · rw [ih, emitTrack_engines]
      · rfl

@[simp] theorem feedLog_engines (o : RowOwner) : engines (feedLog b o) = engines b := by
  unfold feedLog
  split <;> simp

@[simp] theorem fillRow_engines (o : RowOwner) : engines (fillRow b o) = engines b := by
  unfold fillRow
  split <;> simp

@[simp] theorem dropOwner_engines (o : RowOwner) : engines (dropOwner b o) = engines b := by
  unfold dropOwner
  dsimp only [put_engines, onXl_engines]
  split
  · refine foldl_engines (fun b off => ?_) _ b
    split
    · split <;> simp
    · rfl
  · rfl

@[simp] theorem freeMcRows_engines : engines (freeMcRows b) = engines b := foldl_engines (fun b r => by simp) _ b

@[simp] theorem closeMcRow_engines : engines (closeMcRow b) = engines b :=
  (freeMcRows_engines _).trans (foldl_engines (fun b r => by simp) _ b)

@[simp] theorem renewBand_engines (g s : Nat) : engines (renewBand b g s) = engines b := by simp [renewBand, putBand]

@[simp] theorem eraseRange_engines (nsid lba n : Nat) : engines (eraseRange b nsid lba n) = engines b := rfl

@[simp] theorem freeExtensions_engines : engines (freeExtensions b) = engines b := rfl

/-! ### Zones and namespaces -/

@[simp] theorem zoneToEmpty_engines (z : Zone) : engines (zoneToEmpty b z) = engines b := by
  unfold zoneToEmpty
  extract_lets b1 b2 b3 free b4
  have h4 : engines b4 = engines b := by
    rw [freeExtensions_engines, putZone_engines, eraseRange_engines, foldl_engines (fun b s => renewBand_engines b _ s), dropOwner_engines]
  split
  · exact (putZone_engines _ _).trans h4
  · exact h4

@[simp] theorem countRejected_engines (st : Status) : engines (countRejected b st) = engines b := by
  unfold countRejected
  split_ifs <;> rfl

@[simp] theorem zoneAction_engines (z : Zone) (act : Nat) : engines (zoneAction b z act).1 = engines b := by
  unfold zoneAction
  split_ifs
  · unfold zoneClose
    split_ifs <;> rfl
  · unfold zoneFinish
    split_ifs <;> simp
  · unfold zoneOpen
    split_ifs
    · rfl
    · split <;> rfl
    · rfl
  · unfold zoneReset
    split_ifs <;> simp
  · unfold zoneOffline
    split_ifs
    · rfl
    · dsimp only
      split <;> simp
    · rfl

theorem actOnZones_engines (c : Cmd) (act : Nat) : engines (actOnZones b c act).1 = engines b := by
  refine List.foldlRecOn (motive := fun r : Block × Status => engines r.1 = engines b) _ _ rfl (fun r hr k _ => ?_)
  split
  · exact (zoneAction_engines r.1 _ act).trans hr
  · exact hr

@[simp] theorem acceptWrite_engines (n : Namespace) (slba nlb : Nat) (append : Bool) :
    engines (acceptWrite b n slba nlb append) = engines b := by
  unfold acceptWrite
  split
  · split <;> rfl
  · rfl

@[simp] theorem freeGroup_engines (g : Group) : engines (freeGroup b g) = engines b :=
  (foldl_engines (fun b s => by simp) _ _).trans (dropOwner_engines b _)

@[simp] theorem wipeNamespace_engines (nsid : Nat) : engines (wipeNamespace b nsid) = engines b := by
  unfold wipeNamespace
  dsimp only
  rw [freeMcRows_engines, onXl_engines, foldl_engines (fun b c => ?_), foldl_engines (fun b g => by simp),
    foldl_engines (fun b z => by simp)]
  split <;> simp

@[simp] theorem rekey_engines (nsid : Nat) : engines (rekey b nsid) = engines b := rfl

@[simp] theorem shrinkPool_engines : engines (shrinkPool b) = engines b := by
  refine foldl_engines (fun b g => ?_) _ b
  dsimp only
  split_ifs <;> rfl

@[simp] theorem putJob_engines (j : Job) : engines (putJob b j) = engines b := rfl

@[simp] theorem countJob_engines (type da db : Nat) : engines (countJob b type da db) = engines b := rfl

@[simp] theorem logSelfTest_engines (j : Job) (result : Nat) : engines (logSelfTest b j result) = engines b := by
  unfold logSelfTest
  split <;> rfl

@[simp] theorem closeJob_engines (j : Job) (result : Nat) : engines (closeJob b j result) = engines b := by simp [closeJob]

@[simp] theorem deleteNamespace_engines (nsid : Nat) : engines (deleteNamespace b nsid) = engines b := by
  unfold deleteNamespace
  dsimp only
  rw [foldl_engines (fun b j => ?_)]
  · simp
  · rw [closeJob_engines]
    split <;> rfl

@[simp] theorem formatNamespace_engines (meta8 : Bool) (dps : Nat) (crypto : Bool) (nsid : Nat) :
    engines (formatNamespace b meta8 dps crypto nsid) = engines b := by
  unfold formatNamespace
  dsimp only
  split <;> simp

/-! ### Commands that end -/

@[simp] theorem putCmd_engines (c : Cmd) : engines (putCmd b c) = engines b := rfl

@[simp] theorem countHost_engines (c : Cmd) (done : Bool) : engines (countHost b c done) = engines b := rfl

@[simp] theorem dropCmd_engines (c : Cmd) : engines (dropCmd b c) = engines b := by
  unfold dropCmd refreshLtr
  dsimp only
  split <;> rfl

@[simp] theorem waitEffect_engines (w : AdminWait) : engines (waitEffect b w) = engines b := by
  unfold waitEffect
  split
  · rfl
  · exact foldl_engines (fun b n => by simp) _ b
  · exact foldl_engines (fun b n => by simp) _ b
  · exact foldl_engines (fun b n => by simp) _ b

@[simp] theorem settleAdmin_engines (w : AdminWait) : engines (settleAdmin b w) = engines b := by
  unfold settleAdmin
  split <;> simp

@[simp] theorem settleBehind_engines (c : Cmd) : engines (settleBehind b c) = engines b := by
  unfold settleBehind
  split
  · rfl
  · split
    · simp
    · split <;> simp

@[simp] theorem settleAction_engines (c : Cmd) : engines (settleAction b c) = engines b := by
  unfold settleAction
  split
  · split
    · exact (complete_engines _ _ _ _ _ _ _).trans ((actOnZones_engines _ c _).trans (dropCmd_engines b c))
    · rfl
  · simp

@[simp] theorem settleWaits_engines : engines (settleWaits b) = engines b :=
  (foldl_engines (fun b w => by simp) _ _).trans (foldl_engines (fun b c => by simp) _ b)

@[simp] theorem finishCmd_engines (c : Cmd) (st : Status) (dw0 dw1 : Nat) : engines (finishCmd b c st dw0 dw1) = engines b := by
  unfold finishCmd
  dsimp only
  split_ifs <;> simp

@[simp] theorem cmdPart_engines (p : Port) (sq cid : Nat) (st : Status) : engines (cmdPart b p sq cid st) = engines b := by
  unfold cmdPart
  split
  · rfl
  · dsimp only
    split_ifs <;> simp

/-! ### Reconstructions and reads -/

@[simp] theorem reconFails_engines (x : Recon) : engines (reconFails b x) = engines b := by
  unfold reconFails
  dsimp only
  split <;> simp

@[simp] theorem readSources_engines (x : Recon) (urgent : Bool) : engines (readSources b x urgent) = engines b := by
  unfold readSources
  split
  · rfl
  · exact foldl_engines (fun b s => by simp [askSource]) _ _

@[simp] theorem startRecon_engines (f : ReqFor) (o : RowOwner) (k surf sector : Nat) (urgent : Bool) :
    engines (startRecon b f o k surf sector urgent) = engines b := by
  unfold startRecon
  split
  · rfl
  · dsimp only
    split <;> simp

@[simp] theorem askRun_engines (c : Cmd) (r : Spot × Nat) : engines (askRun b c r) = engines b := by
  unfold askRun
  dsimp only
  split
  · exact foldl_engines (fun b i => by simp) _ b
  · simp

/-! ### Data received and blocks deallocated -/

/-! ### Reservations -/

/-! ### Commands withdrawn and commands started -/

/-! ### Surfaces -/

@[simp] theorem endCopies_engines (s : Nat) : engines (endCopies b s) = engines b := rfl

@[simp] theorem listChanged_engines : engines (listChanged b) = engines b := rfl

@[simp] theorem zonesReadOnly_engines : engines (zonesReadOnly b) = engines b := rfl

@[simp] theorem closeGroups_engines : engines (closeGroups b) = engines b := by
  have hgroups : ∀ l : List Group,
      engines (l.foldl (fun b g => fillRow (putGroup b { g with closed := true }) (.conv g.id)) b) = engines b :=
    fun l => foldl_engines (fun b g => by simp) l b
  unfold closeGroups
  dsimp only
  split <;> simp [hgroups]

theorem relocate_engines (o : RowOwner) (row surf sector key : Nat) (of : Option Nat) :
    engines ((relocate b o row surf sector key of).getD b) = engines b := by
  unfold relocate
  cases relocPlace b surf with
  | none => rfl
  | some p => simp

@[simp] theorem rerouteReq_engines (r : MediaReq) : engines (rerouteReq b r) = engines b := by
  unfold rerouteReq
  split
  · split
    · split <;> simp
    · rfl
  · split
    · split <;> simp
    · rfl
  · split
    · rfl
    · split
      · dsimp only
        split
        · exact foldl_engines (fun b x => by simp) _ _
        · rfl
      · simp
  · split
    · split
      · exact relocate_engines b _ _ _ _ _ _
      · rfl
    · simp
  · split <;> simp
  · split
    · rfl
    · split
      · split
        · split <;> simp
        · rfl
      · simp

@[simp] theorem rerouteSurf_engines (s : Nat) : engines (rerouteSurf b s) = engines b := foldl_engines (fun b r => by simp) _ _

@[simp] theorem setSurface_engines (s st cause : Nat) : engines (setSurface b s st cause) = engines b := by
  unfold setSurface
  dsimp only
  split_ifs <;> simp

@[simp] theorem actuatorBack_engines (a : Act) (recalibrated : Bool) : engines (actuatorBack b a recalibrated) = engines b := by
  refine foldl_engines (fun b s => ?_) _ b
  dsimp only
  split_ifs <;> simp

/-! ### Gates, actuators and the spindle -/
end EnginesKept

end Sys2Proof.Machine

namespace Sys2Proof.Machine

/-! ## Loads, unloads and what a cut measurement leaves (R203, R210, R216 to R218) -/

section Mechanics

variable (b : Block) (a : Act)

/-! ### An actuator's work taken back -/

theorem stopInjection_servoKept : servoKept [.SRV_INJ_CTL_EN, .SRV_STATE_MODE] b (stopInjection b a) := by
  refine regsKept.toServo (gs := [.SRV_INJ_CTL_EN, .SRV_STATE_MODE]) ?_ (fun _ hf _ => hf)
  unfold stopInjection
  dsimp only
  split <;> simp

@[simp] theorem stopInjection_srv : (stopInjection b a).srv = b.srv := by
  unfold stopInjection
  dsimp only
  split <;> rfl

/-- Track jobs taken back change queues, and of the registers those of TSa. -/
theorem withdrawJobs_regsKept : regsKept [.TS_STATE_STOPREQ, .TS_STATE_PEND] b (withdrawJobs b a) := by
  unfold withdrawJobs
  dsimp only
  split
  · rw [regsKept_trapRequest _ _ _ _ (by decide), regsKept_put _ _ _ (by decide) (act_val_lt_256 a)]
    exact regsKept_of_regs (foldl_regs (fun b j => by split <;> rfl) _ _)
  · exact regsKept_of_regs (foldl_regs (fun b j => by split <;> rfl) _ _)

@[simp] theorem withdrawJobs_srv : (withdrawJobs b a).srv = b.srv := by
  unfold withdrawJobs
  dsimp only
  split
  · rw [trapRequest, Block.put_srv, Block.put_srv]
    exact foldl_keeps Block.srv (fun b j => by split <;> rfl) _ _
  · exact foldl_keeps Block.srv (fun b j => by split <;> rfl) _ _

theorem withdrawJobs_servoKept : servoKept [] b (withdrawJobs b a) := (withdrawJobs_regsKept b a).toServo (by decide)

/-! ### A load begins (R217) -/

/-- The servo of an actuator that leaves its ramp. -/
def loadingServo (v : Servo) : Servo :=
  { v with
    loadWedges := 0, markRun := 0, loadDue := false, speedReload := false, maLimited := false, safeLaw := false, plausRun := 0
    safeWedges := 0, reacquired := false, readSettled := false, writeSettled := false, settleRun := 0, readRun := 0, climbing := false
    unloadWanted := false, markSeen := false }

/-- The block of an actuator that leaves its ramp, before WUNSAFE is raised. -/
def leavesRamp (b : Block) (a : Act) : Block :=
  (selectHead (b.onSrv a loadingServo) a (loadHead (b.onSrv a loadingServo) a)).put .SRV_STATE_MODE a.val SrvMode.loading.code

theorem startLoad_eq : startLoad b a = raiseWu (leavesRamp b a) a 4 := rfl

@[simp] theorem startLoad_srvMode : (startLoad b a).srvMode a = .loading := by
  rw [startLoad_eq, raiseWu_srvMode]
  exact srvMode_put _ a .loading

theorem startLoad_wu : (startLoad b a).get .SRV_STATE_WU a.val ≠ 0 := raiseWu_wu _ a 4

/-- A load leaves the runout gathered and the good wedges, beside what it sets. -/
theorem startLoad_servo : ∃ pes, vget (startLoad b a).srv a = { loadingServo (vget b.srv a) with revPes := pes, goodRun := 0 } := by
  rw [startLoad_eq, raiseWu_srv, vget_vupd_same]
  unfold leavesRamp selectHead
  split
  · exact ⟨(vget b.srv a).revPes, by simp [loadingServo]⟩
  · exact ⟨[], by simp [loadingServo]⟩

/-! ### A measurement cut (R203) -/

/-- The register fields that a surface's change of state writes. -/
def surfaceFields : List Field := [.BP_SURF_n_STATE, .BP_SURF_n_CAUSE] ++ followFields

theorem setSurface_regsKept {s : Nat} (hs : s < 256) (st cause : Nat) : regsKept surfaceFields b (setSurface b s st cause) := by
  have hput : regsKept surfaceFields b ((b.put .BP_SURF_n_STATE s st).put .BP_SURF_n_CAUSE s cause) :=
    (regsKept_put _ _ _ (by decide) hs).mpr ((regsKept_put _ _ _ (by decide) hs).mpr (regsKept_refl _ b))
  rcases setSurface_follow b s st cause with h | h
  · exact h.mono (List.subset_append_right _ _)
  · exact hput.trans (h.mono (List.subset_append_right _ _))

theorem actuatorBack_regsKept (recalibrated : Bool) : regsKept surfaceFields b (actuatorBack b a recalibrated) := by
  refine regsKept_foldl (fun b s => ?_) _ b
  have hs : s.val < 256 := by omega
  dsimp only
  split_ifs
  · exact setSurface_regsKept b hs _ _
  · exact setSurface_regsKept b hs _ _
  · exact setSurface_regsKept b hs _ _
  · exact setSurface_regsKept b hs _ _
  · exact setSurface_regsKept b hs _ _
  · exact regsKept_refl _ b

/-- SEa's registers are as they were, but for a loop state RECAL that may have ended. -/
def RecalMayEnd (b c : Block) : Prop :=
  servoKept [.SRV_STATE_MODE] b c ∧ ∀ x : Act, b.srvMode x ≠ .recal → c.srvMode x = b.srvMode x

theorem RecalMayEnd.trans {b c d : Block} (h : RecalMayEnd b c) (k : RecalMayEnd c d) : RecalMayEnd b d :=
  ⟨h.1.trans k.1, fun x hx => (k.2 x (by rwa [h.2 x hx])).trans (h.2 x hx)⟩

theorem regsKept.toRecalMayEnd {fs : List Field} {b c : Block} (h : regsKept fs b c) (hs : ∀ f ∈ fs, ¬ ServoField f) :
    RecalMayEnd b c := by
  have hkept : servoKept [] b c := h.toServo (fun f hf hservo => absurd hservo (hs f hf))
  exact ⟨hkept.mono (List.nil_subset _), fun x _ => hkept.srvMode (by decide) x⟩

theorem recalOver_recalMayEnd : RecalMayEnd b (recalOver b) := by
  have hstill : RecalMayEnd b b := (regsKept_refl [] b).toRecalMayEnd (by simp)
  unfold recalOver
  dsimp only
  split
  · split
    next r _ hrecal =>
      have hr : r.act % 4 < 256 := by omega
      refine ⟨regsKept.toServo (gs := [.SRV_STATE_MODE]) (by simp [hr]) (fun _ hf _ => hf), fun x hx => ?_⟩
      have hother : x ≠ ⟨r.act % 4, by omega⟩ := fun e => hx (e ▸ hrecal)
      exact srvMode_put_otherAct b SrvMode.settle.code hother
    · exact hstill
  · exact hstill

@[simp] theorem recalOver_engines : engines (recalOver b) = engines b := by
  unfold recalOver
  dsimp only
  split
  · split <;> rfl
  · rfl

/-- The actuator that a job held, as the job leaves it (R597). -/
def freedByJob (b : Block) (j : Job) : Block :=
  match jobAct j with
  | some n =>
    let a : Act := ⟨n % 4, by omega⟩
    let b := if j.type = 4 then recalOver b else b
    if b.srvMode a = .failed then b else actuatorBack b a false
  | none => b

theorem freedByJob_recalMayEnd (j : Job) : RecalMayEnd b (freedByJob b j) := by
  have hstill : ∀ c : Block, RecalMayEnd c c := fun c => (regsKept_refl [] c).toRecalMayEnd (by simp)
  have hback : ∀ (c : Block) (x : Act), RecalMayEnd c (if c.srvMode x = .failed then c else actuatorBack c x false) := by
    intro c x
    split
    · exact hstill c
    · exact (actuatorBack_regsKept c x false).toRecalMayEnd (by decide)
  unfold freedByJob
  dsimp only
  split
  · refine RecalMayEnd.trans ?_ (hback _ _)
    split
    · exact recalOver_recalMayEnd b
    · exact hstill b
  · exact hstill b

@[simp] theorem freedByJob_engines (j : Job) : engines (freedByJob b j) = engines b := by
  unfold freedByJob
  dsimp only
  split
  · split_ifs <;> simp
  · rfl

/-- A job's end: its record, the actuator that it held, and the event. -/
theorem endJob_eq (j : Job) (result : Nat) : ∃ k : Job, endJob b j result =
    jobEvent (freedByJob (logSelfTest (putJob (b.fresh 10001).2 k) j result) j) j.ctrl := ⟨_, rfl⟩

theorem endJob_recalMayEnd (j : Job) (result : Nat) : RecalMayEnd b (endJob b j result) := by
  obtain ⟨k, hk⟩ := endJob_eq b j result
  have hlog : regsKept followFields b (logSelfTest (putJob (b.fresh 10001).2 k) j result) := by simp [putJob]
  rw [hk]
  exact ((hlog.toRecalMayEnd (by decide)).trans (freedByJob_recalMayEnd _ j)).trans
    (regsKept.toRecalMayEnd (fs := followFields) (by simp) (by decide))

@[simp] theorem endJob_engines (j : Job) (result : Nat) : engines (endJob b j result) = engines b := by
  obtain ⟨k, hk⟩ := endJob_eq b j result
  rw [hk]
  simp

@[simp] theorem calCommit_engines (rs : List CalResult) : engines (calCommit b rs) = engines b := by
  unfold calCommit queueFcs startJobs
  dsimp only
  split
  · rfl
  · split <;> rfl

/-- Drawing a result takes free values alone. -/
theorem freeResult_kept (pair : Nat) : (freeResult b pair).2.regs = b.regs ∧ engines (freeResult b pair).2 = engines b :=
  List.foldlRecOn (motive := fun r : List Int × Block => r.2.regs = b.regs ∧ engines r.2 = engines b) _ _ ⟨rfl, rfl⟩
    (fun _ hr _ _ => hr)

theorem foldl_freeResult_kept (l : List Nat) :
    let m := l.foldl (fun (acc : List CalResult × Block) k => let d := freeResult acc.2 k; (acc.1 ++ [d.1], d.2)) ([], b)
    m.2.regs = b.regs ∧ engines m.2 = engines b :=
  List.foldlRecOn (motive := fun r : List CalResult × Block => r.2.regs = b.regs ∧ engines r.2 = engines b) _ _ ⟨rfl, rfl⟩
    (fun r hr k _ => ⟨(freeResult_kept r.2 k).1.trans hr.1, (freeResult_kept r.2 k).2.trans hr.2⟩)

theorem lastRun_regsKept (asked failed : Nat) : regsKept [.SYS_CALCTL_FAIL] b (lastRun b asked failed) := by simp [lastRun]

/-- A measurement cut changes no engine. -/
theorem cutMeasurement_kept : RecalMayEnd b (cutMeasurement b) ∧ engines (cutMeasurement b) = engines b := by
  unfold cutMeasurement
  split
  next r _ _ =>
    obtain ⟨hregs, heng⟩ := foldl_freeResult_kept b (pairsMeasured r)
    have hwritten : ∀ (rs : List CalResult) (c : Block), c.regs = b.regs → RecalMayEnd b (lastRun (calCommit c rs) (2 ^ 5) (2 ^ 5)) :=
      fun rs c hc => ((regsKept_of_regs hc).trans (calCommit_regsKept c rs)).toRecalMayEnd (by decide) |>.trans
        ((lastRun_regsKept _ _ _).toRecalMayEnd (by decide))
    refine ⟨(hwritten _ _ hregs).trans (endJob_recalMayEnd _ _ _), ?_⟩
    exact (endJob_engines _ _ _).trans ((calCommit_engines _ _).trans heng)
  · exact ⟨endJob_recalMayEnd b _ 6, endJob_engines b _ 6⟩
  · exact ⟨(regsKept_refl [] b).toRecalMayEnd (by simp), rfl⟩

@[simp] theorem cutMeasurement_srv : (cutMeasurement b).srv = b.srv := engines_srv (cutMeasurement_kept b).2

/-! ### An unload asked for (R216, R218) -/

/-- The servo of an actuator that is asked to unload. -/
def unloadingServo (climb : Bool) (v : Servo) : Servo := { v with ref := 0, climbing := climb, seekN := 0, loadDue := false }

/-- The block with an actuator's work taken back, before its head turns to the ramp. -/
def workStopped (b : Block) (a : Act) : Block := raiseWu (withdrawJobs (stopInjection b a) a) a 4

/-- An unload that is already under way or that the coil makes is not asked for again; any other takes the work back. -/
theorem requestUnload_eq : requestUnload b a =
    if !loaded b a || decide ((vget b.srv a).retract ≠ .idle) || decide (b.srvMode a = .unloading) then b
    else cutMeasurement (((workStopped b a).onSrv a (unloadingServo (decide ((workStopped b a).srvMode a = .loading)))).put
      .SRV_STATE_MODE a.val SrvMode.unloading.code) := rfl

@[simp] theorem workStopped_srv : (workStopped b a).srv = vupd b.srv a (fun v => { v with goodRun := 0 }) := by
  simp [workStopped]

/-- The register fields of SEa that an unload asked for may write. -/
def unloadFields : List Field := [.SRV_STATE_MODE, .SRV_INJ_CTL_EN] ++ wuFields

theorem workStopped_servoKept : servoKept unloadFields b (workStopped b a) :=
  (((stopInjection_servoKept b a).mono (by decide)).trans ((withdrawJobs_servoKept _ a).mono (List.nil_subset _))).trans
    ((raiseWu_servoKept _ a 4).mono (by decide))

theorem requestUnload_servoKept : servoKept unloadFields b (requestUnload b a) := by
  rw [requestUnload_eq]
  split
  · exact servoKept_refl _ b
  · refine (workStopped_servoKept b a).trans (servoKept.trans ?_ ((cutMeasurement_kept _).1.1.mono (by decide)))
    exact regsKept.toServo (gs := [.SRV_STATE_MODE]) (by simp) (by decide)

theorem requestUnload_unloading (hloaded : loaded b a = true) (hretract : (vget b.srv a).retract = .idle) :
    (requestUnload b a).srvMode a = .unloading := by
  rw [requestUnload_eq]
  split
  next h => simpa [hloaded, hretract] using h
  next h =>
    have hmode := srvMode_put ((workStopped b a).onSrv a (unloadingServo (decide ((workStopped b a).srvMode a = .loading)))) a .unloading
    rw [(cutMeasurement_kept _).1.2 a (by rw [hmode]; decide), hmode]

/-- An unload asked for leaves the reloads that a loop fault has left. -/
theorem requestUnload_reloads : (vget (requestUnload b a).srv a).reloads = (vget b.srv a).reloads := by
  rw [requestUnload_eq]
  split
  · rfl
  · simp [unloadingServo, Block.onSrv]

end Mechanics

end Sys2Proof.Machine

namespace Sys2Proof.Machine

/-! ## Start Job (R592 to R594) -/

/-- A job with valid fields, an existing target, no conflict and a slot is queued, and its handle is returned. -/
theorem startJob_queued (type : Nat) (s : State) (p : Port) (cid nsid d12 d13 d14 slot gen : Nat) (h : AdminTaken s.blk p)
    (hfields : jobFieldsOk type nsid d12 d13 d14 = true) (htarget : jobTargetOk (adminBlock s.blk p) type nsid d12 = true)
    (hconflict : jobConflicts (adminBlock s.blk p) type nsid = false) (hslot : takeSlot (adminBlock s.blk p) = some (slot, gen)) :
    s.onBlock (startJob type p cid nsid d12 d13 d14 0) = .next { s with
      blk := complete (queueJob (adminBlock s.blk p) p type nsid [d12, d13, d14] slot gen) p 0 cid .success (gen * 65536 + slot) } :=
  onBlock_eq (by simp [startJob, adminCommand_taken cid h, hfields, htarget, hconflict, hslot])

/-- A reserved field that is set refuses the job before its target is looked at. -/
theorem startJob_reserved {type : Nat} {s : State} {p : Port} {cid nsid d12 d13 d14 rsvd : Nat} (h : AdminTaken s.blk p)
    (hrsvd : rsvd ≠ 0) : s.onBlock (startJob type p cid nsid d12 d13 d14 rsvd) =
      .next { s with blk := complete (adminBlock s.blk p) p 0 cid .invalidField } :=
  onBlock_eq (by simp [startJob, adminCommand_taken cid h, hrsvd])

/-- Settles O32: every type of job goes through the one `startJob`, which queues a valid job and refuses a reserved field. -/
theorem startJobsComplete : Obligations.StartJobsComplete :=
  ⟨startJob_queued 1, startJob_queued 2, startJob_queued 3, startJob_queued 4, startJob_queued 5, startJob_queued 6,
    startJob_queued 7, startJob_queued 8, fun _ _ _ _ _ _ _ _ h hrsvd =>
      ⟨startJob_reserved h hrsvd, startJob_reserved h hrsvd, startJob_reserved h hrsvd, startJob_reserved h hrsvd,
        startJob_reserved h hrsvd, startJob_reserved h hrsvd, startJob_reserved h hrsvd, startJob_reserved h hrsvd⟩⟩

/-! ## Injection and capture (R221 to R223, R234, R236) -/

section Aids

variable {b : Block} {a : Act}

theorem unlockedWrite_core_locked (h : anyUnlocked b = false) (f : Block → Block) : unlockedWrite b .core f = b :=
  if_neg (by simp [h])

theorem unlockedWrite_port_locked {p : Port} (h : unlocked b p = false) (f : Block → Block) :
    unlockedWrite b (.port p) f = discardWrite b p := if_neg (by simp [h])

/-- The block with the fields of an injection written, before it starts or stops. -/
def injectionSet (b : Block) (a : Act) (v : Nat) : Block :=
  ((b.put .SRV_INJ_CTL_POINT a.val (v / 2 ^ 28)).put .SRV_INJ_CTL_KIND a.val (v / 2 ^ 26)).put .SRV_INJ_CTL_AMP a.val v

@[simp] theorem injectionSet_srvMode (v : Nat) (x : Act) : (injectionSet b a v).srvMode x = b.srvMode x := by
  simp [injectionSet]

theorem injectionWrite_core_on (h : anyUnlocked b = true) {val : Word} (hon : 2 ^ 31 ≤ val.toNat) :
    injectionWrite .core a val b =
      startInjection (((injectionSet b a val.toNat).onSrv a (fun v => { v with injBy := 3 })).put .SRV_INJ_CTL_EN a.val 1) a := by
  rw [injectionWrite, unlockedWrite_core _ h]
  dsimp only
  rw [if_neg (Nat.div_pos hon (by decide)).ne']
  rfl

theorem injectionWrite_core_off (h : anyUnlocked b = true) {val : Word} (hoff : val.toNat < 2 ^ 31) :
    injectionWrite .core a val b = stopInjection (injectionSet b a val.toNat) a := by
  rw [injectionWrite, unlockedWrite_core _ h]
  dsimp only
  rw [if_pos (Nat.div_eq_of_lt hoff)]
  rfl

/-- An enabled injection of an actuator that follows starts, and holds WUNSAFE. -/
theorem startInjection_starts (hen : b.get .SRV_INJ_CTL_EN a.val = 1) (hmode : b.srvMode a = .follow) :
    (startInjection b a).srvMode a = .inject ∧ (startInjection b a).get .SRV_INJ_CTL_EN a.val = 1 ∧
      (startInjection b a).get .SRV_STATE_WU a.val ≠ 0 ∧ (vget (startInjection b a).srv a).injN = 0 := by
  have ha := act_val_lt_256 a
  rw [startInjection, if_pos ⟨hen, hmode⟩]
  refine ⟨?_, ?_, raiseWu_wu _ a 6, ?_⟩
  · rw [raiseWu_srvMode]
    exact srvMode_put _ a .inject
  · rw [raiseWu_servoKept _ a 6 _ _ ha (by decide) (by decide), Block.get_put_ne _ _ _ _ ha ha (by decide)]
    exact hen
  · simp

theorem stopInjection_stops (hmode : b.srvMode a = .inject) :
    (stopInjection b a).srvMode a = .follow ∧ (stopInjection b a).get .SRV_INJ_CTL_EN a.val = 0 := by
  have ha := act_val_lt_256 a
  rw [stopInjection, if_pos (by rw [srvMode_put_other _ _ _ (by decide) ha, hmode])]
  exact ⟨srvMode_put _ a .follow, (Block.get_put_ne _ _ _ _ ha ha (by decide)).trans (Block.get_put_same _ _ _ _)⟩

/-- The block with the fields of a capture written, before it starts over. -/
def captureSet (b : Block) (a : Act) (v : Nat) : Block :=
  ((b.put .SRV_CAP_CTL_NSIG a.val (v / 2 ^ 28)).put .SRV_CAP_CTL_DECIM a.val (v / 2 ^ 20)).put .SRV_CAP_CTL_SIG a.val v

theorem captureStart_starts {p : Port} (h : unlocked b p = true) {val : Word} (hon : 2 ^ 31 ≤ val.toNat) :
    captureStart (.port p) a val b =
      (((captureSet b a val.toNat).onSrv a (fun v => { v with capture := [], capWait := 0, capRun := true })).put
        .SRV_CAP_CTL_START a.val 1).put .SRV_CAP_CTL_DONE a.val 0 := by
  rw [captureStart, unlockedWrite_port _ h]
  dsimp only
  rw [if_neg (Nat.div_pos hon (by decide)).ne']
  rfl

/-- A capture whose buffer is full stops, DONE is set and START clears. -/
theorem captureFull_stops (hrun : (vget b.srv a).capRun = true) (hfull : captureDepth b a ≤ (vget b.srv a).capture.length) :
    captureFull a b = ((b.onSrv a (fun v => { v with capRun := false })).put .SRV_CAP_CTL_DONE a.val 1).put
      .SRV_CAP_CTL_START a.val 0 := by
  rw [captureFull, hrun, decide_eq_true hfull]
  rfl

theorem captureFull_waits (h : (vget b.srv a).capRun = false ∨ (vget b.srv a).capture.length < captureDepth b a) :
    captureFull a b = b := by
  have hguard : ((vget b.srv a).capRun && decide (captureDepth b a ≤ (vget b.srv a).capture.length)) = false := by
    rcases h with h | h <;> simp [h]
  rw [captureFull, hguard, Block.guard_false]

/-- A free actuator serves the next request of its queue; host work ends a Nimbus run on it first. -/
theorem actuatorDispatch_serves {r : MediaReq} (hrun : b.mode = .run) (hmode : b.srvMode a ∈ [SrvMode.follow, .settle])
    (hjobs : (vget b.ts a).jobs = []) (hcur : (vget b.ts a).cur = none) (hjob : jobHolds b a = false) (hswap : swapHolds b a = false)
    (hladder : ladderHolds b a = false) (hgrant : actGrant b a = true) (hreq : nextReq b a = some r) :
    actuatorDispatch a b = serve (if r.for_ = .patrol then b else nimYield b a) a r := by
  have hfree : (decide (b.mode = .run) && decide (b.srvMode a ∈ [SrvMode.follow, .settle]) && (vget b.ts a).jobs.isEmpty &&
      (vget b.ts a).cur.isNone && !jobHolds b a && !swapHolds b a && !ladderHolds b a && actGrant b a) = true := by
    rw [decide_eq_true hrun, decide_eq_true hmode, hjobs, hcur, hjob, hswap, hladder, hgrant]
    rfl
  rw [actuatorDispatch, hfree, Block.guard_true]
  simp only [hreq, Option.isNone_some, Bool.false_and, Bool.false_eq_true, if_false]

/-- With no request and no patrol the actuator stays as it is, free or not. -/
theorem actuatorDispatch_stays (hreq : nextReq b a = none) (hpatrol : patrolRuns b = false) : actuatorDispatch a b = b := by
  unfold actuatorDispatch
  rcases Block.guard_cases b _ _ with ⟨-, h⟩ | ⟨-, h⟩
  · rw [h]
    simp only [hpatrol, Bool.and_false, Bool.false_eq_true, if_false, hreq]
  · exact h

end Aids

/-- Settles O14: dispatch by what the queue holds, injection and capture by the unlock and bit 31 of the word written. -/
theorem servoAidsComplete : Obligations.ServoAidsComplete := by
  refine ⟨fun s a r hrun hmode hjobs hcur hjob hswap hladder hgrant hreq =>
      onBlock_eq (actuatorDispatch_serves hrun hmode hjobs hcur hjob hswap hladder hgrant hreq),
    fun s a hreq hpatrol => onBlock_eq (actuatorDispatch_stays hreq hpatrol),
    fun s a val hlock hmode hon => ⟨_, rfl, ?_⟩, fun s a val hlock hoff hmode => ⟨_, rfl, ?_⟩,
    fun s a p val hlock => ⟨onBlock_eq (unlockedWrite_port_locked hlock _), onBlock_eq (unlockedWrite_port_locked hlock _)⟩,
    fun s a val hlock => ⟨onBlock_eq (unlockedWrite_core_locked hlock _), onBlock_eq (unlockedWrite_core_locked hlock _)⟩,
    fun s a p val hlock hon => ⟨_, rfl, ?_⟩, fun s a hrun hfull => ⟨_, rfl, ?_⟩,
    fun s a h => onBlock_eq (captureFull_waits h)⟩
  · obtain ⟨hinject, hen, hwu, hn⟩ := startInjection_starts (b := ((injectionSet s.blk a val.toNat).onSrv a
      (fun v => { v with injBy := 3 })).put .SRV_INJ_CTL_EN a.val 1) (a := a) (Block.get_put_same _ _ _ _) (by simpa using hmode)
    dsimp only
    rw [injectionWrite_core_on hlock hon]
    exact ⟨hinject, hen, hwu, hn, rfl⟩
  · obtain ⟨hfollow, hen⟩ := stopInjection_stops (b := injectionSet s.blk a val.toNat) (a := a) (by simpa using hmode)
    dsimp only
    rw [injectionWrite_core_off hlock hoff]
    exact ⟨hfollow, hen, rfl⟩
  · dsimp only
    rw [captureStart_starts hlock hon]
    simp [show 0 < Field.width .SRV_CAP_CTL_START by decide]
  · dsimp only
    rw [captureFull_stops hrun hfull]
    simp [show 0 < Field.width .SRV_CAP_CTL_DONE by decide]
end Sys2Proof.Machine

namespace Sys2Proof.Machine

/-! ## Loads, unloads and retracts (R210 to R212, R216 to R220) -/

section Ramp

variable (b : Block) (a : Act)

/-! ### On the ramp -/

/-- What leaves SEa alone: its registers and the state of every servo. -/
def ServoStays (b c : Block) : Prop := servoKept [] b c ∧ c.srv = b.srv

theorem ServoStays.trans {b c d : Block} (h : ServoStays b c) (k : ServoStays c d) : ServoStays b d :=
  ⟨h.1.trans k.1, k.2.trans h.2⟩

theorem ServoStays.refl : ServoStays b b := ⟨servoKept_refl [] b, rfl⟩

theorem brakeEvent_stays (mv : Nat) : ServoStays b (brakeEvent b mv) :=
  ⟨regsKept.toServo (brakeEvent_only b mv).2 (by decide), sepia_srv b _ _ _ _⟩

theorem shortBrake_stays (g : SpnGoal) : ServoStays b (shortBrake b g) :=
  ⟨(shortBrake_regsKept b g).toServo (by decide), rfl⟩

theorem clampShort_stays : ServoStays b (clampShort b) :=
  ⟨regsKept.toServo (gs := [.SPN_BRAKE_SHORTS]) (by simp [clampShort]) (by decide), rfl⟩

theorem withSpn_stays (x : Spindle) : ServoStays b { b with spn := x } := ServoStays.refl b

theorem brakeShown_stays (state last : Nat) :
    ServoStays b ((b.put .SPN_STATE_STATE 0 state).put .SPN_BRAKE_LAST 0 last) :=
  ⟨regsKept.toServo (gs := [.SPN_STATE_STATE, .SPN_BRAKE_LAST]) (by simp) (by decide), rfl⟩

theorem startBrake_stays (g : SpnGoal) : ServoStays b (startBrake b g) := by
  unfold startBrake
  dsimp only
  split_ifs
  · exact withSpn_stays b _
  · exact ((shortBrake_stays b g).trans (clampShort_stays _)).trans (brakeEvent_stays _ _)
  · exact ((withSpn_stays b _).trans (brakeShown_stays _ _ _)).trans (brakeEvent_stays _ _)
  · exact (shortBrake_stays b g).trans (brakeEvent_stays _ _)

theorem startSlow_stays : ServoStays b (startSlow b) := by
  unfold startSlow
  dsimp only
  split
  · exact (withSpn_stays b _).trans (startBrake_stays _ _)
  · exact withSpn_stays b _

/-- A brake that begins once the actuators are on their ramps leaves them there. -/
theorem brakeIfReady_stays : ServoStays b (brakeIfReady b) := by
  unfold brakeIfReady
  split
  · split
    · exact (shortBrake_stays b _).trans (brakeEvent_stays _ _)
    · exact startSlow_stays b
    · exact startBrake_stays b _
  · exact ServoStays.refl b

theorem onRamp_srvMode : (onRamp b a).srvMode a ∈ [SrvMode.unloaded, .failed] := by
  unfold onRamp
  split
  · rw [srvMode_put _ a .failed]
    decide
  · rw [srvMode_put _ a .unloaded]
    decide

end Ramp

section Loads

variable {b : Block} {a : Act}

/-! ### Loads (R211, R212, R217) -/

theorem loadStart_starts (hpop : b.populated a = true) (hretract : (vget b.srv a).retract = .idle) (hlock : b.get .SPN_STATE_LOCK 0 = 1)
    (hramp : b.srvMode a = .unloaded ∨ b.srvMode a = .failed ∧ recalRuns b a = true) : loadStart a b = startLoad b a := by
  have hguard : (b.populated a && (vget b.srv a).retract = .idle && b.get .SPN_STATE_LOCK 0 = 1 &&
      (b.srvMode a = .unloaded || (b.srvMode a = .failed && recalRuns b a))) = true := by
    simp [hpop, hretract, hlock, hramp]
  rw [loadStart, hguard, Block.guard_true]

theorem startLoad_loadWedges : (vget (startLoad b a).srv a).loadWedges = 0 := by
  obtain ⟨pes, hservo⟩ := startLoad_servo b a
  rw [hservo]
  rfl

theorem startLoad_reloads : (vget (startLoad b a).srv a).reloads = (vget b.srv a).reloads := by
  obtain ⟨pes, hservo⟩ := startLoad_servo b a
  rw [hservo]
  rfl

/-- The block of an actuator that returns to its ramp after a load without a mark, before it is known whether it may try again. -/
def loadFailed (b : Block) (a : Act) : Block :=
  ((b.onSrv a (fun v => { v with loadFails := (vget b.srv a).loadFails + 1, loadDue := true })).put .SRV_STATE_MODE a.val
    SrvMode.unloaded.code).put .SRV_STATE_LOCK a.val 0

theorem loadFailed_shown : (loadFailed b a).srvMode a = .unloaded ∧ (loadFailed b a).get .SRV_STATE_LOCK a.val = 0 ∧
    vget (loadFailed b a).srv a = { vget b.srv a with loadFails := (vget b.srv a).loadFails + 1, loadDue := true } := by
  refine ⟨?_, Block.get_put_same _ _ _ _, by simp [loadFailed]⟩
  rw [loadFailed, srvMode_put_other _ _ _ (by decide) (act_val_lt_256 a), srvMode_put _ a .unloaded]

/-- No mark within 64 wedges of a first load, or of a reload that is not the last: the third failure in a row is the last. -/
theorem loadWedgeLimit_fails (hmode : b.srvMode a = .loading) (hwedges : 64 ≤ (vget b.srv a).loadWedges)
    (hmark : (vget b.srv a).markSeen = false) (hleft : (vget b.srv a).reloads ≠ some 0) : loadWedgeLimit a b =
      if 3 ≤ (vget b.srv a).loadFails + 1 then failActuator (loadFailed b a) a 3 else loadFailed b a := by
  have hguard : (b.srvMode a = .loading && decide (64 ≤ (vget b.srv a).loadWedges) && !(vget b.srv a).markSeen) = true := by
    simp [hmode, hwedges, hmark]
  have hstill : (vget (loadFailed b a).srv a).reloads ≠ some 0 := by
    rw [loadFailed_shown.2.2]
    exact hleft
  rw [loadWedgeLimit, hguard, Block.guard_true]
  exact if_neg hstill

theorem loadRetry_guard (hmode : b.srvMode a = .unloaded) (hdue : (vget b.srv a).loadDue = true) (hfails : 0 < (vget b.srv a).loadFails) :
    (b.srvMode a = .unloaded && (vget b.srv a).loadDue && decide (0 < (vget b.srv a).loadFails)) = true := by
  simp [hmode, hdue, hfails]

/-- A load of its own, outside the reloads of a loop fault, is tried again. -/
theorem loadRetry_again (hmode : b.srvMode a = .unloaded) (hdue : (vget b.srv a).loadDue = true) (hfails : 0 < (vget b.srv a).loadFails)
    (hnone : (vget b.srv a).reloads = none) : loadRetry a b = startLoad b a := by
  rw [loadRetry, loadRetry_guard hmode hdue hfails, Block.guard_true, hnone]
  rfl

/-- The block with one of a loop fault's reloads taken and counted (R210). -/
def reloadTaken (b : Block) (a : Act) (n : Nat) : Block :=
  (b.onSrv a (fun v => { v with reloads := some n })).bump .SRV_FAULT_RELOAD a.val

theorem takeReload_left {n : Nat} (h : ((vget b.srv a).reloads).getD 3 = n + 1) : takeReload b a = some (reloadTaken b a n) := by
  rw [takeReload, h]
  rfl

theorem takeReload_none (h : (vget b.srv a).reloads = some 0) : takeReload b a = none := by
  rw [takeReload, h]
  rfl

/-- A reload of a loop fault that fails counts as the next of them. -/
theorem loadRetry_reload {n : Nat} (hmode : b.srvMode a = .unloaded) (hdue : (vget b.srv a).loadDue = true)
    (hfails : 0 < (vget b.srv a).loadFails) (hleft : (vget b.srv a).reloads = some (n + 1)) :
    loadRetry a b = startLoad (reloadTaken b a n) a := by
  have htake : takeReload b a = some (reloadTaken b a n) := takeReload_left (by rw [hleft]; rfl)
  rw [loadRetry, loadRetry_guard hmode hdue hfails, Block.guard_true, hleft, htake]
  rfl

/-! ### Unloads and retracts (R216 to R220) -/

/-- An actuator back on its ramp loads again, or the mode goes on. -/
theorem unloadComplete_cases (hmode : b.srvMode a = .unloading) :
    let c := brakeIfReady (onRamp (b.put .SRV_STATE_LOCK a.val 0) a)
    unloadComplete a b = startLoad c a ∨ unloadComplete a b = modeProgress c := by
  have hguard : (decide (b.srvMode a = .unloading)) = true := decide_eq_true hmode
  rw [unloadComplete, hguard, Block.guard_true]
  dsimp only
  split_ifs
  · exact .inl rfl
  · exact .inl rfl
  · exact .inr rfl

/-- A coil that has nearly stopped against the ramp's end goes on being driven, to seat the latch. -/
theorem retractParked_latches {mv target limit : Nat} (hdriving : (vget b.srv a).retract = .driving)
    (hcoil : (vget b.srv a).coil = some (target, limit)) (hslow : 5 * mv < target) :
    retractParked a mv b = b.onSrv a (fun v => { v with retract := .latching }) := by
  simp [retractParked, hdriving, hcoil, hslow]

/-- The block of a retract whose coil is opened, the actuator on its ramp. -/
def retractParkedOn (b : Block) (a : Act) : Block :=
  onRamp (((b.onSrv a (fun v => { v with retract := .idle, coil := none })).put .SRV_STATE_ISLAND_RET a.val 0).put
    .SRV_STATE_LOCK a.val 0) a

theorem retractParkedOn_shown : (retractParkedOn b a).get .SRV_STATE_ISLAND_RET a.val = 0 ∧
    (retractParkedOn b a).get .SRV_STATE_LOCK a.val = 0 ∧ (vget (retractParkedOn b a).srv a).retract = .idle ∧
    (vget (retractParkedOn b a).srv a).coil = none := by
  have ha := act_val_lt_256 a
  unfold retractParkedOn onRamp
  refine ⟨?_, ?_, by simp, by simp⟩
  · rw [Block.get_put_ne _ _ _ _ ha ha (by decide), Block.get_put_ne _ _ _ _ ha ha (by decide), Block.get_put_same]
    rfl
  · rw [Block.get_put_ne _ _ _ _ ha ha (by decide), Block.get_put_same]
    rfl

theorem retractDone_cases (hlatching : (vget b.srv a).retract = .latching) :
    retractDone a b = startLoad (brakeIfReady (retractParkedOn b a)) a ∨
      retractDone a b = modeProgress (brakeIfReady (retractParkedOn b a)) := by
  have hguard : decide ((vget b.srv a).retract = .latching) = true := decide_eq_true hlatching
  rw [retractDone, hguard, Block.guard_true]
  dsimp only
  split
  · exact .inl rfl
  · exact .inr rfl

end Loads

/-- Settles O13: each event by what its guard lets through; a load raises WUNSAFE, and what cuts a write leaves SEa's registers. -/
theorem loadsComplete : Obligations.LoadsComplete := by
  refine ⟨fun s a hpop hretract hlock hmode => ⟨_, rfl, ?_⟩, fun s a hpop hretract hlock hmode hrecal => ⟨_, rfl, ?_⟩,
    fun s a hmode hwedges hmark hleft hfails => ⟨_, rfl, ?_⟩,
    fun s a hmode hwedges hmark hleft hfails => ⟨_, loadFailed s.blk a, rfl, ?_⟩,
    fun s a hmode hdue hfails hnone => onBlock_eq (loadRetry_again hmode hdue hfails hnone),
    fun s a n hmode hdue hfails hleft => ⟨_, rfl, ?_⟩,
    fun s a hloaded => onBlock_eq (if_pos hloaded), fun s a hloaded hretract => ⟨_, rfl, ?_⟩,
    fun s a b hmode hb => ⟨_, rfl, rfl, rfl, hb ▸ unloadComplete_cases hmode⟩,
    fun s a mv target limit hdriving hcoil hslow => ⟨_, rfl, ?_⟩,
    fun s a hlatching => ⟨_, brakeIfReady (retractParkedOn s.blk a), rfl, rfl, retractDone_cases hlatching, ?_⟩, fun s => rfl⟩
  · have hload := loadStart_starts hpop hretract hlock (.inl hmode)
    refine ⟨hload, ?_, ?_, ?_, rfl⟩ <;> dsimp only <;> rw [hload]
    · exact startLoad_srvMode _ _
    · exact startLoad_wu _ _
    · exact startLoad_loadWedges
  · dsimp only
    rw [loadStart_starts hpop hretract hlock (.inr ⟨hmode, hrecal⟩)]
    exact ⟨startLoad_srvMode _ _, rfl⟩
  · obtain ⟨hramp, hlock, hservo⟩ := loadFailed_shown (b := s.blk) (a := a)
    dsimp only
    rw [loadWedgeLimit_fails hmode hwedges hmark hleft, if_neg (by omega), hservo]
    exact ⟨hramp, hlock, rfl, rfl, rfl⟩
  · obtain ⟨hramp, hlock, -⟩ := loadFailed_shown (b := s.blk) (a := a)
    exact ⟨(loadWedgeLimit_fails hmode hwedges hmark hleft).trans (if_pos (by omega)), hramp, hlock, rfl⟩
  · dsimp only
    rw [loadRetry_reload hmode hdue hfails hleft, startLoad_reloads]
    exact ⟨startLoad_srvMode _ _, by simp [reloadTaken], rfl⟩
  · dsimp only
    rw [hloaded, Block.guard_true]
    exact ⟨requestUnload_unloading _ _ hloaded hretract, rfl⟩
  · dsimp only
    rw [retractParked_latches hdriving hcoil hslow, onSrv_vget]
    exact ⟨rfl, rfl, rfl⟩
  · obtain ⟨hisland, hlock, hidle, hcoil⟩ := retractParkedOn_shown (b := s.blk) (a := a)
    obtain ⟨hkept, hsrv⟩ := brakeIfReady_stays (retractParkedOn s.blk a)
    have ha := act_val_lt_256 a
    rw [hsrv, hkept _ _ ha (by decide) (by decide), hkept _ _ ha (by decide) (by decide), hkept.srvMode (by decide)]
    exact ⟨hidle, hcoil, hisland, hlock, onRamp_srvMode _ _⟩

end Sys2Proof.Machine

namespace Sys2Proof.Machine

/-! ## The servo's steps and events (R191, R193, R207, R210, R214, R721) -/

section Steps

variable {b : Block} {a : Act}

/-- An actuator on its ramp, failed or in the hands of the retract controller only ends its run of missed deadlines. -/
theorem servoStep_idle (x : ServoSample) (hmode : b.srvMode a ∈ [SrvMode.unloaded, .failed, .retract]) :
    servoStep a x b = { b with sys := { b.sys with missRuns := nerase b.sys.missRuns a.val } } :=
  if_pos (by simpa using hmode)

/-- Between wedges a milliactuator under its law gets the interpolated command through its own sections (R193). -/
theorem midWedge_commands (htracking : tracking b a = true) (hlimit : (vget b.srv a).maLimited = false) :
    ∃ (st : List (Nat × Nat)) (v : Int), midWedge a b = (b.onSrv a (fun v => { v with notchMa := st })).putInt .SRV_CMD_MA a.val v := by
  rw [midWedge, htracking, hlimit]
  exact ⟨_, _, rfl⟩

/-- An actuator that comes to follow is in FOLLOW, or injects at once. -/
theorem startInjection_mode (hmode : b.srvMode a = .follow) : (startInjection b a).srvMode a ∈ [SrvMode.follow, .inject] := by
  by_cases hen : b.get .SRV_INJ_CTL_EN a.val = 1
  · rw [(startInjection_starts hen hmode).1]
    decide
  · rw [startInjection, if_neg (fun h => hen h.1), hmode]
    decide

/-- An injection that starts leaves what has settled. -/
theorem startInjection_settled : (vget (startInjection b a).srv a).readSettled = (vget b.srv a).readSettled ∧
    (vget (startInjection b a).srv a).writeSettled = (vget b.srv a).writeSettled := by
  unfold startInjection
  split
  · simp
  · exact ⟨rfl, rfl⟩

/-- The settle that a request of an actuator needs is reached (R214): the write settle or the read settle. -/
def settledFor (b : Block) (a : Act) : Bool :=
  if (vget b.srv a).forWrite then (vget b.srv a).writeSettled || decide (b.cfgN .SRV_SETTLE_N a.val ≤ (vget b.srv a).settleRun)
  else (vget b.srv a).readSettled || decide (b.cfgN .SRV_RDSETTLE_N a.val ≤ (vget b.srv a).readRun)

/-- The block with the settles that their wedges have reached. -/
def settlesCounted (b : Block) (a : Act) : Block :=
  b.onSrv a (fun v => { v with
    readSettled := (vget b.srv a).readSettled || decide (b.cfgN .SRV_RDSETTLE_N a.val ≤ (vget b.srv a).readRun)
    writeSettled := (vget b.srv a).writeSettled || decide (b.cfgN .SRV_SETTLE_N a.val ≤ (vget b.srv a).settleRun) })

theorem settleReached_eq (hmode : b.srvMode a ∈ [SrvMode.settle, .follow]) : settleReached a b =
    if settledFor b a then startInjection ((settlesCounted b a).put .SRV_STATE_MODE a.val SrvMode.follow.code) a
    else settlesCounted b a := by
  rw [settleReached, decide_eq_true hmode]
  rfl

/-- Once the settle that its request needs is reached the actuator follows, and both settles show as counted. -/
theorem settleReached_follows (hmode : b.srvMode a ∈ [SrvMode.settle, .follow]) (hsettled : settledFor b a = true) :
    (settleReached a b).srvMode a ∈ [SrvMode.follow, .inject] ∧
      (vget (settleReached a b).srv a).readSettled = (vget (settlesCounted b a).srv a).readSettled ∧
      (vget (settleReached a b).srv a).writeSettled = (vget (settlesCounted b a).srv a).writeSettled := by
  rw [settleReached_eq hmode, if_pos hsettled]
  exact ⟨startInjection_mode (srvMode_put _ a .follow), startInjection_settled⟩

theorem writeUnsafeClear_clears (hrun : b.cfgN .SRV_WU_CLEAR a.val ≤ (vget b.srv a).goodRun) (hcause : b.get .SRV_WU_CAUSE a.val = 0) :
    writeUnsafeClear a b = (b.onSrv a (fun v => { v with implWu := false })).put .SRV_STATE_WU a.val 0 := by
  rw [writeUnsafeClear, decide_eq_true hrun, hcause]
  rfl

/-- The actuator unloads under velocity control, to reload (R210). -/
def reloadDown (b : Block) (a : Act) : Block :=
  (requestUnload b a).onSrv a (fun v => { v with climbing := true, loadDue := true, unloadWanted := false })

/-- A track not re-acquired within 20 ms costs a reload, and the actuator where none is left. -/
theorem reacquireTimeout_eq (hmode : b.srvMode a = .safe) (hlost : (vget b.srv a).reacquired = false)
    (hlate : (vget b.srv a).safeAt + 20000 ≤ b.now) (hunload : (vget b.srv a).unloadWanted = false) : reacquireTimeout a b =
      (takeReload b a).elim (failActuator b a 1) (fun c => reloadDown c a) := by
  have hguard : (b.srvMode a = .safe && !(vget b.srv a).reacquired && decide ((vget b.srv a).safeAt + 20000 ≤ b.now)) = true := by
    simp [hmode, hlost, hlate]
  rw [reacquireTimeout, hguard, Block.guard_true]
  simp only [hunload, Bool.false_eq_true, if_false]
  cases takeReload b a <;> rfl

/-- A counter advanced reads its sum, cut at its greatest value. -/
theorem Block.get_bump_max (f : Field) (i n : Nat) : (b.bump f i n).get f i = min (b.get f i + n) f.max := by
  have hpos : 0 < 2 ^ f.width := Nat.two_pow_pos _
  rw [Block.get_bump_same]
  refine Nat.mod_eq_of_lt (lt_of_le_of_lt (min_le_right _ _) ?_)
  unfold Field.max
  omega

theorem reloadDown_shown (n : Nat) : (vget (reloadDown (reloadTaken b a n) a).srv a).reloads = some n ∧
    (vget (reloadDown (reloadTaken b a n) a).srv a).loadDue = true ∧ (vget (reloadDown (reloadTaken b a n) a).srv a).climbing = true ∧
    (reloadDown (reloadTaken b a n) a).get .SRV_FAULT_RELOAD a.val =
      min (b.get .SRV_FAULT_RELOAD a.val + 1) (Field.max .SRV_FAULT_RELOAD) := by
  unfold reloadDown
  refine ⟨?_, by simp, by simp, ?_⟩
  · rw [onSrv_vget]
    exact (requestUnload_reloads _ a).trans (by simp [reloadTaken])
  · rw [Block.get_onSrv, requestUnload_servoKept _ a _ _ (act_val_lt_256 a) (by decide) (by decide), reloadTaken, Block.get_bump_max,
      Block.get_onSrv]

/-- A milliactuator at its current limit is held at 0 V under WUNSAFE (R721). -/
theorem milliLimit_shown : (milliLimit a b).get .SRV_CMD_MA a.val = 0 ∧ (milliLimit a b).get .SRV_STATE_WU a.val ≠ 0 := by
  unfold milliLimit
  refine ⟨?_, raiseWu_wu _ a 4⟩
  rw [raiseWu_servoKept _ a 4 _ _ (act_val_lt_256 a) (by decide) (by decide), Block.get_put_same]
  rfl

end Steps

/-- Settles O12: each event by what its guard lets through; the reloads and SEa's registers stay through an unload, whatever job it
cuts. -/
theorem servoStepsComplete : Obligations.ServoStepsComplete := by
  refine ⟨fun s a x => ⟨_, rfl, rfl, rfl, rfl⟩, fun s a x hmode => onBlock_eq (servoStep_idle x hmode),
    fun s a htracking hlimit => ⟨_, rfl, ?_⟩, fun s a hmode hrun hwrite => ⟨_, rfl, ?_⟩,
    fun s a hmode hrun hread => ⟨_, rfl, ?_⟩,
    fun s a hrun hcause => onBlock_eq (writeUnsafeClear_clears hrun hcause),
    fun s a hmode hlost hlate hunload hleft => onBlock_eq ?_, fun s a n hmode hlost hlate hunload hleft => ⟨_, rfl, ?_⟩,
    fun s a => ⟨_, rfl, milliLimit_shown⟩⟩
  · obtain ⟨st, v, hmid⟩ := midWedge_commands htracking hlimit
    dsimp only
    rw [hmid]
    refine ⟨?_, by simp [Block.putInt], by simp⟩
    rw [Block.putInt, srvMode_put_other _ _ _ (by decide) (act_val_lt_256 a), srvMode_onSrv]
  · have hsettled : settledFor s.blk a = true := by simp [settledFor, hwrite, hrun]
    obtain ⟨hfollow, -, hwritten⟩ := settleReached_follows hmode hsettled
    exact ⟨hfollow, hwritten.trans (by simp [settlesCounted, hrun]), rfl⟩
  · have hsettled : settledFor s.blk a = true := by simp [settledFor, hread, hrun]
    obtain ⟨hfollow, hreads, -⟩ := settleReached_follows hmode hsettled
    exact ⟨hfollow, hreads.trans (by simp [settlesCounted, hrun]), rfl⟩
  · rw [reacquireTimeout_eq hmode hlost hlate hunload, takeReload_none hleft, Option.elim_none]
  · obtain ⟨hreloads, hdue, hclimb, hcount⟩ := reloadDown_shown (b := s.blk) (a := a) n
    dsimp only
    rw [reacquireTimeout_eq hmode hlost hlate hunload, takeReload_left hleft, Option.elim_some]
    exact ⟨hreloads, hdue, hclimb, hcount, rfl⟩

end Sys2Proof.Machine

namespace Sys2Proof.Machine

/-! ## AEa's loops, the preamp link and preamp faults (R244 to R246, R252 to R263) -/

section Heads

variable (b : Block) (a : Act)

@[simp] theorem onAst_vget (g : Assist → Assist) : vget (b.onAst a g).ast a = g (vget b.ast a) := vget_vupd_same _ _ _

@[simp] theorem bit_clearBit_same (m n : Nat) : bit (clearBit m n) n = false := by
  unfold bit clearBit
  split
  · next hset =>
    have hge : 2 ^ n ≤ m := Nat.ge_two_pow_of_testBit hset
    have htop : (2 ^ n + (m - 2 ^ n)).testBit n = true := by rwa [Nat.add_sub_cancel' hge]
    rw [Nat.testBit_two_pow_add_eq, Bool.not_eq_true'] at htop
    rwa [Nat.one_shiftLeft]
  · next hclear => exact Bool.eq_false_of_not_eq_true hclear

/-! ### What the loops hold while a write is cut -/

/-- What AEa's loops have learned and read: the trims, the preamp's temperature, and the metrics that no step has taken. -/
def Assist.loopState (v : Assist) : NMap Int × Int × List (Fin 6 × Nat × Int) := (v.trims, v.temp, v.metrics)

theorem onAst_loopState {g : Assist → Assist} (h : ∀ v, (g v).loopState = v.loopState) :
    (vget (b.onAst a g).ast a).loopState = (vget b.ast a).loopState := by
  rw [onAst_vget, h]

variable {b a} in
theorem ite_loopState {p : Prop} [Decidable p] {c d : Block} (hc : (vget c.ast a).loopState = (vget b.ast a).loopState)
    (hd : (vget d.ast a).loopState = (vget b.ast a).loopState) :
    (vget (if p then c else d).ast a).loopState = (vget b.ast a).loopState := by
  split
  · exact hc
  · exact hd

theorem countDrive_loopState (v : Assist) (h i old new : Nat) : (countDrive v h i old new).loopState = v.loopState := by
  unfold countDrive
  dsimp only
  split <;> rfl

theorem writeGatesFall_loopState : (vget (writeGatesFall b a).ast a).loopState = (vget b.ast a).loopState := by
  unfold writeGatesFall
  dsimp only
  split
  · rfl
  · exact onAst_loopState (b.fresh 65536).2 a (fun v => countDrive_loopState _ _ _ _ _)

theorem rowRemove_ast (o : RowOwner) (k m j sector : Nat) : (rowRemove b o k m j sector).ast = b.ast := by
  unfold rowRemove
  dsimp only
  split <;> rfl

/-- A cut sector taken out of its row leaves AEa as it is. -/
theorem removeCut_ast (index : Nat) (job : Option TsJob) : (removeCut b a index job).ast = b.ast := by
  unfold removeCut
  split
  · rfl
  · split
    · split
      · split
        · split
          · rfl
          · exact rowRemove_ast b _ _ _ _ _
        · rfl
      · rfl
    · rfl

theorem flagRewrite_ast (index buf cause : Nat) (job : Option TsJob) : (flagRewrite b a index buf cause job).ast = b.ast := by
  unfold flagRewrite
  split <;> rfl

theorem cutFrame_loopState : (vget (cutFrame b a).ast a).loopState = (vget b.ast a).loopState := by
  have hheld : (vget (b.onAst a (fun v => { v with held := false })).ast a).loopState = (vget b.ast a).loopState :=
    onAst_loopState b a (fun _ => rfl)
  unfold cutFrame
  split
  · rfl
  · dsimp only
    split_ifs
    · exact hheld
    · rw [flagRewrite_ast, removeCut_ast]
      exact hheld
    · exact hheld

theorem cutWrite_loopState : (vget (cutWrite b a).ast a).loopState = (vget b.ast a).loopState := by
  unfold cutWrite
  split
  · exact (cutFrame_loopState _ a).trans (writeGatesFall_loopState _ a)
  · rfl

theorem channelFault_loopState : (vget (channelFault b a).ast a).loopState = (vget b.ast a).loopState := by
  unfold channelFault
  dsimp only
  refine (cutWrite_loopState _ a).trans ?_
  split <;> rfl

/-! ### Frames sent -/

theorem frameSent_loopState (n : Nat) : (vget (frameSent b a n).ast a).loopState = (vget b.ast a).loopState :=
  onAst_loopState b a (fun _ => rfl)

theorem pslFault_loopState : (vget (pslFault b a).ast a).loopState = (vget b.ast a).loopState :=
  (channelFault_loopState _ a).trans (onAst_loopState _ a (fun _ => rfl))

theorem pslCount_ast (o : Nat) : (pslCount b a o).ast = b.ast := by
  unfold pslCount
  split_ifs <;> rfl

theorem sendFrame_accepted (bits o2 : Nat) : sendFrame b a bits 0 o2 = (true, frameSent b a bits) := rfl

/-- A frame leaves the loops as they are, whether it is accepted, sent again or ends in a PSL fault. -/
theorem sendFrame_loopState (bits o1 o2 : Nat) :
    (vget (sendFrame b a bits o1 o2).2.ast a).loopState = (vget b.ast a).loopState := by
  unfold sendFrame
  dsimp only
  split_ifs
  · exact frameSent_loopState b a bits
  · rw [pslCount_ast, frameSent_loopState]
  · rw [pslFault_loopState, pslCount_ast, pslCount_ast, frameSent_loopState]

theorem sendFast_loopState (h assist heater : Nat) (k1 k2 : Fin 4) :
    (vget (sendFast b a h assist heater k1 k2).ast a).loopState = (vget b.ast a).loopState := by
  unfold sendFast
  dsimp only
  split_ifs
  · exact sendFrame_loopState _ a _ _ _
  · exact sendFrame_loopState _ a _ _ _

/-- An accepted WRITE frame changes the preamp's registers and the last frame sent, and nothing else of AEa. -/
theorem wireWrite_keeps {γ : Type} (part : Assist → γ) (hpre : ∀ v p, part { v with pre := p } = part v)
    (hlast : ∀ v n, part { v with lastFrame := n } = part v) (head addr data : Nat) :
    part (vget (wireWrite b a head addr data).ast a) = part (vget b.ast a) := by
  have htakes : ∀ c : Block, part (vget (preampTakes c a head addr data).ast a) = part (vget c.ast a) := by
    refine foldl_keeps (fun c => part (vget c.ast a)) (fun c h => ?_) _
    dsimp only
    split
    · rw [Block.put_ast, onAst_vget, hpre]
    · rw [onAst_vget, hpre]
  rw [wireWrite, htakes, frameSent, onAst_vget, hlast]

/-! ### The assist power loop and the heater loop (R252 to R256) -/

theorem trimSaturation_loopState (h : Fin 6) (z : Nat) (t e : Int) :
    (vget (trimSaturation b a h z t e).ast a).loopState = (vget b.ast a).loopState := by
  unfold trimSaturation
  refine ite_loopState ?_ (onAst_loopState b a (fun _ => rfl))
  dsimp only
  rw [sepia_ast]
  exact onAst_loopState b a (fun _ => rfl)

/-- A metric moves the trim of its head and zone one step, and nothing else that the loops hold. -/
theorem metricStep_loopState (h : Fin 6) (z : Nat) (m : Int) (k1 k2 : Fin 4) :
    (vget (metricStep a h z m k1 k2 b).ast a).loopState =
      (nset 0 (vget b.ast a).trims (64 * h.val + z)
        (trimStep b (nget 0 (vget b.ast a).trims (64 * h.val + z)) (verifyError b a h z m)),
        (vget b.ast a).temp, (vget b.ast a).metrics) := by
  unfold metricStep
  dsimp only
  split
  · rw [sendFast_loopState, trimSaturation_loopState, onAst_vget]
    rfl
  · rw [trimSaturation_loopState, onAst_vget]
    rfl

theorem assistLoopStep_cons {h : Fin 6} {z : Nat} {m : Int} {rest : List (Fin 6 × Nat × Int)} (k1 k2 : Fin 4)
    (hm : (vget b.ast a).metrics = (h, z, m) :: rest) : assistLoopStep a k1 k2 b =
      metricStep a h z m k1 k2 (b.onAst a (fun v => { v with metrics := rest })) := by
  unfold assistLoopStep
  rw [hm]

theorem assistLoopStep_nil (k1 k2 : Fin 4) (hm : (vget b.ast a).metrics = []) : assistLoopStep a k1 k2 b = b := by
  unfold assistLoopStep
  rw [hm]

/-- The oldest metric is taken, and moves its trim. -/
theorem assistLoopStep_takes {h : Fin 6} {z : Nat} {m : Int} {rest : List (Fin 6 × Nat × Int)} (k1 k2 : Fin 4)
    (hm : (vget b.ast a).metrics = (h, z, m) :: rest) :
    (vget (assistLoopStep a k1 k2 b).ast a).metrics = rest ∧
      nget 0 (vget (assistLoopStep a k1 k2 b).ast a).trims (64 * h.val + z) =
        trimStep b (nget 0 (vget b.ast a).trims (64 * h.val + z)) (verifyError b a h z m) := by
  have hloop := metricStep_loopState (b.onAst a (fun v => { v with metrics := rest })) a h z m k1 k2
  rw [← assistLoopStep_cons b a k1 k2 hm, onAst_vget] at hloop
  obtain ⟨htrims, -, hmetrics⟩ := by simpa only [Assist.loopState, Prod.mk.injEq] using hloop
  exact ⟨hmetrics, htrims ▸ nget_nset_same _ _ _ _⟩

theorem setHeater_loopState (h z : Nat) (write : Bool) (v : Int) :
    (vget (setHeater b a h z write v).ast a).loopState = (vget b.ast a).loopState := by
  unfold setHeater
  dsimp only
  split_ifs
  · exact onAst_loopState b a (fun _ => rfl)
  · exact onAst_loopState b a (fun _ => rfl)
  · exact onAst_loopState b a (fun _ => rfl)

/-- The block with the temperature that a heater step reads (R251). -/
def tempRead (x : Int) : Block := b.onAst a (fun v => { v with temp := x })

/-- A heater step reads the temperature first, and leaves what the loops then hold as it is. -/
theorem heaterLoopStep_loopState (l u : Nat) (x : Int) (k1 k2 : Fin 4) :
    (vget (heaterLoopStep a l u x k1 k2 b).ast a).loopState = (vget (tempRead b a x).ast a).loopState := by
  unfold heaterLoopStep Block.guard
  refine ite_loopState (ite_loopState rfl (ite_loopState ?_ ?_)) rfl
  · exact (sendFast_loopState _ a _ _ _ _ _).trans (setHeater_loopState _ a _ _ _ _)
  · exact setHeater_loopState _ a _ _ _ _

theorem heaterLoopStep_temp (l u : Nat) (x : Int) (k1 k2 : Fin 4) :
    (vget (heaterLoopStep a l u x k1 k2 b).ast a).temp = x := by
  have hloop := congrArg (fun p => p.2.1) (heaterLoopStep_loopState b a l u x k1 k2)
  rw [tempRead, onAst_vget] at hloop
  exact hloop

theorem heaterLoopStep_idle (l u : Nat) (x : Int) (k1 k2 : Fin 4) (hloop : b.get .AST_STATE_LOOP a.val ∉ [1, 3]) :
    heaterLoopStep a l u x k1 k2 b = tempRead b a x :=
  if_neg (fun h => hloop (of_decide_eq_true (Bool.and_eq_true_iff.mp h).1))

/-! ### Write ready and the retrim (R257, R258) -/

theorem writeReadyReport_reports (h : (vget b.ast a).preheat = true) : writeReadyReport a b =
    (b.onAst a (fun v => { v with preheat := false, wrReady := true })).put .AST_STATE_LOOP a.val 3 := by
  rw [writeReadyReport, h, Block.guard_true]

/-- A retrim whose first trim fails no sector lifts the suspension, and the head's verify count starts afresh. -/
theorem retrimDone_first (h : Fin 6) (z : Nat) (rest : List Nat) (hsusp : bit (vget b.ast a).suspended h.val = true) :
    bit (vget (retrimDone a h z (0 :: rest) b).ast a).suspended h.val = false ∧
      vget (vget (retrimDone a h z (0 :: rest) b).ast a).verify h = [] := by
  rw [retrimDone, hsusp, Block.guard_true]
  dsimp only [List.take_succ_cons, List.zip_cons_cons, List.find?]
  simp only [decide_true, onAst_vget, vget_vupd_same, and_true]
  split
  · simp
  · simp

/-! ### Touchdown and preamp faults (R260 to R263) -/

theorem wireFast_ast (h assist heater : Nat) : vget (wireFast b a h assist heater).ast a =
    { vget b.ast a with lastFrame := frame40 (fastFrameBits h assist heater) } := by
  simp [wireFast, frameSent]

theorem touchdownReapply_ends (h : Fin 6) (hwait : bit (vget b.ast a).touchWait h.val = true) :
    bit (vget (touchdownReapply a h b).ast a).touchWait h.val = false ∧ (vget (touchdownReapply a h b).srv a).settleRun = 0 ∧
      (vget (touchdownReapply a h b).srv a).writeSettled = false := by
  rw [touchdownReapply, hwait, Block.guard_true]
  simp [wireFast_ast]

theorem preampFaultRetry_ends (h : Fin 6) (hwait : bit (vget b.ast a).faultWait h.val = true) :
    bit (vget (preampFaultRetry a h b).ast a).faultWait h.val = false := by
  have hsent : bit (vget (wireWrite (b.onAst a (fun v => { v with faultWait := clearBit v.faultWait h.val })) a h.val
      (preampAddr 3) 0).ast a).faultWait h.val = false := by
    rw [wireWrite_keeps _ a Assist.faultWait (fun _ _ => rfl) (fun _ _ => rfl), onAst_vget]
    exact bit_clearBit_same _ _
  rw [preampFaultRetry, hwait, Block.guard_true]
  dsimp only
  split
  · exact hsent
  · exact hsent

theorem execPreampFault_latches {h : Fin 6} {st : Fin 256} (r : Fin 4) (s : State) (hst : st.val ≠ 0) :
    execPreampFault a h st r s = .next { s with blk := preampFault a h st.val r s.blk } := by
  rw [execPreampFault, State.onBlock, decide_eq_true hst, Block.guard_true]

theorem supplyFault_shown : (vget (supplyFault a b).ast a).supplyBad = true ∧ (supplyFault a b).get .AST_FAULT_SUPPLY a.val = 1 ∧
    (supplyFault a b).get .AST_FAULT_CAUSE a.val = 0 := by
  unfold supplyFault
  simp [Block.bump, show Field.width .AST_FAULT_SUPPLY = 1 by decide]

/-! ### Frames of the preamp link (R244 to R246) -/

/-- A WRITE frame accepted for one head with the writer off. -/
theorem pslWriteFrame_accepted {head : Nat} (addr data : Nat) (k2 : Fin 4) (hwg : (vget b.ts a).wg = false) (hhead : head ≤ 5) :
    pslWriteFrame a head addr data 2 k2 b =
      preampTakes (frameSent b a (frame40 (writeFrameBits head addr data))) a head addr data := by
  rw [pslWriteFrame, hwg, decide_eq_true (Or.inl hhead)]
  rfl

/-- A frame for one head sets that head's register, and the head's heater setting where it takes it to the safe state. -/
theorem preampTakes_one {head : Nat} (addr data : Nat) (hhead : head ≤ 5) :
    (vget (preampTakes b a head addr data).ast a).lastFrame = (vget b.ast a).lastFrame ∧
      nget 0 (vget (preampTakes b a head addr data).ast a).pre (head * 256 + addr % 256) = data % 65536 ∧
      regsKept [.AST_HCLR_HTR] b (preampTakes b a head addr data) := by
  have hindex : 6 * a.val + head < 256 := by omega
  rw [preampTakes, addressed, if_neg (by omega : head ≠ 15), List.foldl_cons, List.foldl_nil]
  dsimp only
  split
  · simp [hindex]
  · simp

/-- A READ frame whose response has a correct CRC answers its data and status. -/
theorem pslReadFrame_accepted {head : Nat} (addr : Nat) (r1 r2 : Word) (hwg : (vget b.ts a).wg = false) (hhead : head ≤ 5)
    (hrsp : rspOk r1 = true) :
    (pslReadFrame a head addr r1 r2 b).sys.reply = .words [r1.toNat / 65536, r1.toNat / 256 % 256] ∧
      (vget (pslReadFrame a head addr r1 r2 b).ast a).lastFrame = frame24 (readFrameBits head addr) ∧
      (pslReadFrame a head addr r1 r2 b).regs = b.regs := by
  rw [pslReadFrame, hwg, decide_eq_true hhead]
  simp only [hrsp, if_true, sendFrame_accepted, Bool.not_false, Bool.and_self, Block.guard_true]
  split
  · simp [Block.answer, frameSent]
  · simp [Block.answer, frameSent]

/-! ### Re-initialisation after a PSL fault (R246) -/

/-- Settings are rewritten above the safe-state register, and so no register field changes. -/
theorem rewriteSettings_regs : (rewriteSettings b a).regs = b.regs := by
  refine foldl_regs (fun c h => ?_) _ b
  simp only [sendWriteCurrent, sendBiases, wireWrite_regs _ _ _ _ _ (preampAddr_mod_ne_zero _)]

/-- The PSL fault that AEa has to resolve, with the re-initialisations that failed in a row. -/
def Assist.linkFault (v : Assist) : Bool × Nat := (v.pslFault, v.reinitFails)

theorem rewriteSettings_linkFault : (vget (rewriteSettings b a).ast a).linkFault = (vget b.ast a).linkFault := by
  have hwire : ∀ (c : Block) (head addr data : Nat),
      (vget (wireWrite c a head addr data).ast a).linkFault = (vget c.ast a).linkFault := fun c =>
    wireWrite_keeps c a Assist.linkFault (fun _ _ => rfl) (fun _ _ => rfl)
  refine foldl_keeps (fun c => (vget c.ast a).linkFault) (fun c h => ?_) _ b
  simp only [sendWriteCurrent, sendBiases, hwire]

theorem pslReinit_ok (hfault : (vget b.ast a).pslFault = true) : (vget (pslReinit a true b).ast a).linkFault = (false, 0) ∧
    (pslReinit a true b).regs = b.regs := by
  rw [pslReinit, hfault, Block.guard_true, if_pos rfl, rewriteSettings_linkFault, rewriteSettings_regs, onAst_vget]
  exact ⟨rfl, rfl⟩

theorem pslReinit_failed (hfault : (vget b.ast a).pslFault = true) (hfails : (vget b.ast a).reinitFails < 2) :
    (vget (pslReinit a false b).ast a).linkFault = (true, (vget b.ast a).reinitFails + 1) := by
  rw [pslReinit, hfault, Block.guard_true]
  dsimp only
  rw [if_neg Bool.false_ne_true, if_neg (by omega), onAst_vget]
  exact congrArg (fun f => (f, (vget b.ast a).reinitFails + 1)) hfault

end Heads

/-- Settles O15: each loop's step by what it leaves of the loops' state, each fault and frame by what its guard lets through. -/
theorem headsComplete : Obligations.HeadsComplete := by
  refine ⟨fun s a h z m rest k1 k2 hm => ⟨_, rfl, ?_⟩, fun s a k1 k2 hm => onBlock_eq (assistLoopStep_nil s.blk a k1 k2 hm),
    fun s a l u x k1 k2 => ⟨_, rfl, heaterLoopStep_temp s.blk a l u x k1 k2, rfl⟩,
    fun s a l u x k1 k2 hloop => onBlock_eq (heaterLoopStep_idle s.blk a l u x k1 k2 hloop),
    fun s a hpre => ⟨_, rfl, ?_⟩, fun s a h z rest hsusp => ⟨_, rfl, retrimDone_first s.blk a h z rest hsusp⟩,
    fun s a h => rfl, fun s a h hwait => ⟨_, rfl, touchdownReapply_ends s.blk a h hwait⟩,
    fun s a h st r hst => execPreampFault_latches a r s hst,
    fun s a h hwait => ⟨_, rfl, preampFaultRetry_ends s.blk a h hwait⟩, fun s a => ⟨_, rfl, supplyFault_shown s.blk a⟩,
    fun s a => rfl, fun s a head addr data k2 hwg hhead => ⟨_, rfl, ?_⟩,
    fun s a head addr r1 r2 hwg hhead hrsp => ⟨_, rfl, ?_⟩,
    fun s a head assist heater k1 k2 hhead hmay => onBlock_eq (by rw [decide_eq_true hhead, hmay]; rfl),
    fun s a hfault => ⟨_, rfl, ?_⟩, fun s a hfault hfails => ⟨_, rfl, ?_⟩⟩
  · obtain ⟨hmetrics, htrim⟩ := assistLoopStep_takes s.blk a k1 k2 hm
    exact ⟨hmetrics, htrim, rfl⟩
  · have hkept := writeReadyReport_regsKept a s.blk
    dsimp only
    rw [writeReadyReport_reports s.blk a hpre] at hkept ⊢
    exact ⟨by simp, by simp, Block.get_put_same _ _ _ _, hkept, rfl⟩
  · obtain ⟨hlast, hpre, hkept⟩ := preampTakes_one
      (frameSent s.blk a (frame40 (writeFrameBits head addr data))) a addr data hhead
    dsimp only
    rw [pslWriteFrame_accepted s.blk a addr data k2 hwg hhead]
    exact ⟨hlast.trans (by simp [frameSent]), hpre, hkept, rfl⟩
  · obtain ⟨hreply, hlast, hregs⟩ := pslReadFrame_accepted s.blk a addr r1 r2 hwg hhead hrsp
    exact ⟨hreply, hlast, hregs, rfl⟩
  · obtain ⟨hlink, hregs⟩ := pslReinit_ok s.blk a hfault
    exact ⟨congrArg Prod.fst hlink, congrArg Prod.snd hlink, hregs⟩
  · have hlink := pslReinit_failed s.blk a hfault hfails
    exact ⟨congrArg Prod.snd hlink, congrArg Prod.fst hlink⟩

end Sys2Proof.Machine

namespace Sys2Proof.Machine

/-! ## The channels: sector reads, their recovery and sector writes (R283 to R311, R325) -/

section Channels

variable {b : Block} {a : Act}

@[simp] theorem onCh_vget (g : Channel → Channel) : vget (b.onCh a g).ch a = g (vget b.ch a) := vget_vupd_same _ _ _

@[simp] theorem onTs_vget (g : Ts → Ts) : vget (b.onTs a g).ts a = g (vget b.ts a) := vget_vupd_same _ _ _

/-! ### The retune (R283, R284, R287) -/

/-- A reader's adaptation is in register fields: the image in force stays as it is. -/
@[simp] theorem putAdapt_image (t : Bool) (vs : List Nat) : (putAdapt b a t vs).image = b.image := by
  refine (foldl_keeps Block.image ?_ _ _).trans (foldl_keeps Block.image ?_ _ _)
  · exact fun _ _ => rfl
  · exact fun _ _ => rfl

@[simp] theorem initialAdapt_image (z : Nat) : (initialAdapt b z).2.image = b.image := rfl

/-- Once a retune has put the adaptation of the head and zone, the saved one or the initial one, it takes the zone's
equaliser settings and reports the channel ready. -/
theorem channelReady_adapted (hmode : b.get .CH_STATE_MODE a.val = 4) : ∃ c : Block, c.image = b.image ∧
    channelReady a b = ((c.onCh a (fun k => { k with
      boost := c.cfgN .CHN_CTLE_BOOST 0 (b.get .CH_STATE_ZONE a.val)
      fc := c.cfgN .CHN_CTLE_FC 0 (b.get .CH_STATE_ZONE a.val) })).onTs a
        (fun t => { t with chReady := true })).put .CH_STATE_MODE a.val 0 := by
  rw [channelReady, decide_eq_true hmode, Block.guard_true]
  refine ⟨_, ?_, rfl⟩
  split
  · simp
  · simp

/-- A retune ends with the channel idle and ready, under the equaliser settings of its zone. -/
theorem channelReady_retuned (hmode : b.get .CH_STATE_MODE a.val = 4) :
    (channelReady a b).get .CH_STATE_MODE a.val = 0 ∧ (vget (channelReady a b).ts a).chReady = true ∧
      (vget (channelReady a b).ch a).boost = b.cfgN .CHN_CTLE_BOOST 0 (b.get .CH_STATE_ZONE a.val) ∧
      (vget (channelReady a b).ch a).fc = b.cfgN .CHN_CTLE_FC 0 (b.get .CH_STATE_ZONE a.val) := by
  obtain ⟨c, himage, hready⟩ := channelReady_adapted hmode
  rw [hready]
  simp [Block.cfgN, himage]

/-! ### A sector's read (R286, R294, R295) -/

/-- A read frame's sector starts its read on the fly, at rung 0 of the ladder. -/
theorem sectorReadStart_reads {f : TsFrame} (x : MarkScan) (hframe : (vget b.ts a).frame = some f) (hread : f.write = false) :
    ∃ r, sectorReadStart a x b = readSector b a r x false ∧ r.index = f.index ∧ r.rung = 0 ∧ r.phase = .onTheFly := by
  rw [sectorReadStart, hframe]
  dsimp only
  rw [hread, Bool.not_false, Block.guard_true]
  exact ⟨_, rfl, rfl, rfl, rfl⟩

/-! ### What a decode decides (R291, R293) -/

section Decode

variable {r : SectorRead} {unsat info : Nat}

theorem decodeAccepted_good (hsat : unsat = 0) (hcrc : crcMatches r.gen (6 * a.val + r.head.val) r.track r.index info = true) :
    decodeAccepted b a r unsat info = (true, b) := by
  simp [decodeAccepted, hsat, hcrc]

theorem decodeAccepted_unsatisfied (info : Nat) (hunsat : unsat ≠ 0) : decodeAccepted b a r unsat info = (false, b) := by
  simp [decodeAccepted, hunsat]

/-- Every check satisfied by a wrong information part is a miscorrection, which is counted. -/
theorem decodeAccepted_miscorrected (hsat : unsat = 0)
    (hcrc : crcMatches r.gen (6 * a.val + r.head.val) r.track r.index info = false) :
    decodeAccepted b a r unsat info = (false, b.bump .CH_EVT_MISCOR a.val) := by
  simp [decodeAccepted, hsat, hcrc]

/-! ### The ladder's decodes and re-reads (R292, R298, R299) -/

/-- A sector decoded on the fly is accepted, or enters the ladder. -/
theorem onTheFlyDone_decided {ok : Bool} {c : Block} (hat : sectorAt b a r.index = some r) (hphase : r.phase = .onTheFly)
    (hkept : r.dropped = false) (hdecode : decodeAccepted b a r unsat info = (ok, c)) :
    onTheFlyDone a r.index unsat info b = if ok then acceptSector c a r (r.found.getD 0) false
      else firstFailure c a { r with decoded := [(r.found.getD 0, unsat)], found := none } false := by
  rw [onTheFlyDone, hat]
  dsimp only
  rw [decide_eq_true hphase, Block.guard_true, hdecode, hkept]
  rfl

/-- A sector decoded from its replay slot is accepted, or goes on to the next candidate or rung. -/
theorem replayDone_decided {ok : Bool} {c : Block} {n : Nat} {p : Int} (hat : sectorAt b a r.index = some r)
    (hphase : r.phase = .replay n p) (hkept : r.dropped = false) (hdecode : decodeAccepted b a r unsat info = (ok, c)) :
    replayDone a r.index unsat info b = if ok then acceptSector c a r p false
      else rungThree c a { r with decoded := r.decoded ++ [(p, unsat)] } := by
  rw [replayDone, hat]
  dsimp only
  rw [hphase, hdecode, hkept]
  rfl

/-- A revolution of rungs 5 and 6 reads the sector afresh. -/
theorem sectorReread_reads (x : MarkScan) (hat : sectorAt b a r.index = some r) (hphase : r.phase = .reread)
    (hkept : r.dropped = false) (hrung : r.rung ≠ 7) :
    sectorReread a r.index x b = readSector b a { r with rereads := r.rereads + 1, revs := r.revs + 1 } x true := by
  rw [sectorReread, hat]
  dsimp only
  rw [decide_eq_true hphase, Block.guard_true, hkept, if_neg Bool.false_ne_true, if_neg hrung]

end Decode

/-! ### Sector writes (R303, R428) -/

section Write

variable {f : TsFrame}

/-- A write frame's sector enters the parity accumulators, and goes out where the frame carries a job. -/
theorem sectorWrite_encoded (hframe : (vget b.ts a).frame = some f) (hwrite : f.write = true) (hsound : f.silent = false) :
    sectorWrite a b = f.job.elim (parityAdd (b.put .CH_STATE_MODE a.val 2) a f)
      (fun j => sendSector (parityAdd (b.put .CH_STATE_MODE a.val 2) a f) a j f.index) := by
  rw [sectorWrite, hframe]
  dsimp only
  rw [hwrite, Block.guard_true, hsound, if_neg Bool.false_ne_true]
  cases f.job with
  | none => rfl
  | some j => rfl

theorem sectorWrite_poisoned (hframe : (vget b.ts a).frame = some f) (hwrite : f.write = true) (hsilent : f.silent = true) :
    sectorWrite a b = poisonedSector (b.put .CH_STATE_MODE a.val 2) a f := by
  rw [sectorWrite, hframe]
  dsimp only
  rw [hwrite, Block.guard_true, hsilent, if_pos rfl]

end Write

/-! ### A replay slot kept for test (R325) -/

/-- A control core's write under factory unlock sets HOLD and SLOT from the word. -/
theorem smpCtlWrite_core (h : anyUnlocked b = true) (val : Word) :
    (smpCtlWrite .core a val b).get .CH_SMP_CTL_HOLD a.val = val.toNat / 2 ^ 31 ∧
      (smpCtlWrite .core a val b).get .CH_SMP_CTL_SLOT a.val = val.toNat / 2 ^ 28 % 8 := by
  have htop : val.toNat / 2 ^ 31 < 2 := Nat.div_lt_of_lt_mul val.isLt
  rw [smpCtlWrite, unlockedWrite_core _ h]
  simp [Block.putBool, show Field.width .CH_SMP_CTL_HOLD = 1 by decide, show Field.width .CH_SMP_CTL_SLOT = 3 by decide]
  split <;> omega

end Channels

/-- Settles O16: each decode by what it decides, each read by the frame or the sector that it reads. -/
theorem readsComplete : Obligations.ReadsComplete := by
  refine ⟨fun s a hmode => ⟨_, rfl, channelReady_retuned hmode⟩, fun s a f x hframe hread => ?_,
    fun s a => ⟨_, rfl, by simp, by simp, by simp⟩,
    fun s a r unsat info hat hphase hkept => ⟨fun hsat hcrc => ?_, fun hunsat => ?_, fun hsat hcrc => ?_⟩,
    fun s a r n unsat info p hat hphase hkept => ⟨fun hsat hcrc => ?_, fun hunsat => ?_⟩,
    fun s d unsat info q hq => ⟨_, rfl, rfl, rfl⟩,
    fun s a r x hat hphase hkept hrung => onBlock_eq (sectorReread_reads x hat hphase hkept hrung)⟩
  · obtain ⟨r, hreads, hr⟩ := sectorReadStart_reads x hframe hread
    exact ⟨_, r, rfl, hreads, hr⟩
  · exact onBlock_eq (onTheFlyDone_decided hat hphase hkept (decodeAccepted_good hsat hcrc))
  · exact onBlock_eq (onTheFlyDone_decided hat hphase hkept (decodeAccepted_unsatisfied info hunsat))
  · subst hsat
    exact onBlock_eq (onTheFlyDone_decided hat hphase hkept (decodeAccepted_miscorrected rfl hcrc))
  · exact onBlock_eq (replayDone_decided hat hphase hkept (decodeAccepted_good hsat hcrc))
  · exact onBlock_eq (replayDone_decided hat hphase hkept (decodeAccepted_unsatisfied info hunsat))

/-- Settles O17: a sector's write by its frame, the write of CH_SMP_CTL by the unlock; a verify result and a recovery
are the model's functions. -/
theorem writesComplete : Obligations.WritesComplete := by
  refine ⟨fun s a f j hframe hwrite hsound hjob => ?_, fun s a f hframe hwrite hsound hjob => ?_,
    fun s a f hframe hwrite hsilent => onBlock_eq (sectorWrite_poisoned hframe hwrite hsilent),
    fun s a e index x power err d hfound => ⟨_, rfl, rfl, rfl⟩,
    fun s a val p hlock => ⟨_, rfl, smpCtlWrite_core (anyUnlocked_of_unlocked hlock) val⟩,
    fun s o consumer addr hidle => ⟨_, rfl, rfl, rfl⟩⟩
  · exact onBlock_eq (by rw [sectorWrite_encoded hframe hwrite hsound, hjob]; rfl)
  · exact onBlock_eq (by rw [sectorWrite_encoded hframe hwrite hsound, hjob]; rfl)

end Sys2Proof.Machine

namespace Sys2Proof.Machine

/-! ## TSa: steps, the bit timer, wedges, traps, stops and the control store (R334 to R351) -/

section Sequencer

variable {b : Block} {a : Act}

/-! ### The gates as TSa sees them (R340) -/

theorem lowerWg_vget : vget (lowerWg b a).ts a =
    { vget b.ts a with wg := false, wgFell := (vget b.ts a).wgFell || (vget b.ts a).wg } := by
  rw [lowerWg, writeGatesFall_ts, onTs_vget]

theorem lowerRg_vget : vget (lowerRg b a).ts a = { vget b.ts a with rg := false } := onTs_vget _

/-- A release of a held servo gate changes the servo gate's own conditions at most. -/
theorem releaseSg_vget : ∃ sg held wedge, vget (releaseSg b a).ts a =
    { vget b.ts a with sg := sg, sgHeld := held, wedgeDone := wedge } := by
  rw [releaseSg, onTs_vget]
  split
  · exact ⟨_, _, _, rfl⟩
  · exact ⟨_, _, _, rfl⟩

theorem rowRemove_ts (o : RowOwner) (k m j sector : Nat) : (rowRemove b o k m j sector).ts = b.ts := by
  unfold rowRemove
  dsimp only
  split <;> rfl

/-- A cut sector taken out of its row leaves the sequencers as they are. -/
theorem removeCut_ts (index : Nat) (job : Option TsJob) : (removeCut b a index job).ts = b.ts := by
  unfold removeCut
  split
  · rfl
  · split
    · split
      · split
        · split
          · rfl
          · exact rowRemove_ts _ _ _ _ _
        · rfl
      · rfl
    · rfl

theorem flagRewrite_wg (index buf cause : Nat) (job : Option TsJob) :
    (vget (flagRewrite b a index buf cause job).ts a).wg = (vget b.ts a).wg := by
  cases job with
  | none => rfl
  | some j =>
    rw [flagRewrite, onTs_vget]
    split_ifs <;> rfl

/-- A cut frame leaves write gate to the operation that lowers it. -/
theorem cutFrame_wg : (vget (cutFrame b a).ts a).wg = (vget b.ts a).wg := by
  unfold cutFrame
  split
  · rw [onTs_vget]
  · dsimp only
    split_ifs
    · rw [onTs_vget, Block.onAst_ts]
    · rw [flagRewrite_wg, removeCut_ts, onTs_vget, Block.onAst_ts]
    · rw [Block.onCh_ts, onTs_vget, Block.onAst_ts]

theorem channelRest_ts : (channelRest b a).ts = b.ts := by
  unfold channelRest
  split <;> rfl

/-! ### Steps and the bit timer (R334 to R337) -/

/-- A step of a running TSa passes bit time and reads the channel buffer, and then takes a job where TSa waits for one,
or executes a word. -/
theorem microwordStep_running (hrun : tsRunning b a = true) (dt : Nat) (buf : Fin 8) (lo hi : Nat) :
    ∃ c : Block, c.regs = b.regs ∧ (vget c.ts a).cs = (vget b.ts a).cs ∧
      microwordStep a dt buf lo hi b = if (vget b.ts a).await then dispatchJob c a else stepWord c a lo hi := by
  rw [microwordStep, hrun, Block.guard_true]
  dsimp only
  rw [onTs_vget]
  refine ⟨_, ?_, ?_, rfl⟩
  · rfl
  · rw [onTs_vget]

/-- TSa's bit timer at zero (R336): the bits have passed up to the expiry, and no set is armed. -/
def timerExpired (b : Block) (a : Act) (e : Nat) : Block :=
  b.onTs a (fun t => { t with bit := max t.bit e, lastExp := e, expAt := none, btDone := true, armed := none })

/-- An expiry brings the timer to zero and applies the set that was armed. -/
theorem bitTimerExpiry_expired {e : Nat} (hexp : (vget b.ts a).expAt = some e) :
    bitTimerExpiry a b = (vget b.ts a).armed.elim (timerExpired b a e) (applySet (timerExpired b a e) a) := by
  rw [bitTimerExpiry, hexp]
  cases (vget b.ts a).armed <;> rfl

/-! ### Frame end and wedges (R339, R341) -/

/-- A frame that is not paused ends, and its sector counts as transferred unless write gate was kept low across it. -/
theorem frameEnd_ended {f : TsFrame} (hframe : (vget b.ts a).frame = some f) (hpaused : f.paused = false) :
    (vget (frameEnd a b).ts a).frame = none ∧ (vget (frameEnd a b).ts a).frameDone = true ∧
      (f.silent = false → (vget (frameEnd a b).ts a).transferred = (vget b.ts a).transferred + 1) := by
  rw [frameEnd, hframe]
  dsimp only
  rw [hpaused, Bool.not_false, Block.guard_true, channelRest_ts]
  obtain ⟨sg, held, wedge, hreleased⟩ := releaseSg_vget (a := a)
  rw [hreleased]
  cases f.silent with
  | true => simp
  | false => cases f.write <;> simp [lowerWg_vget, lowerRg_vget]

/-- A servo gate still low at the preamble, with no other gate high, is raised late. -/
theorem servoPreambleDue_late (hrg : (vget b.ts a).rg = false) (hwg : (vget b.ts a).wg = false) (hsg : (vget b.ts a).sg = false) :
    servoPreambleDue a b =
      (b.onTs a (fun t => { t with sg := true, sgHeld := false, wedgeDone := false })).bump .TS_EVT_SGLATE a.val := by
  simp [servoPreambleDue, hrg, hwg, hsg]

/-- Read or write gate still high at the preamble: both fall, and the servo gate is raised. -/
theorem servoPreambleDue_gates (hhigh : (vget b.ts a).rg = true ∨ (vget b.ts a).wg = true) :
    (vget (servoPreambleDue a b).ts a).sg = true ∧ (vget (servoPreambleDue a b).ts a).rg = false ∧
      (vget (servoPreambleDue a b).ts a).wg = false := by
  have heither : ((vget b.ts a).rg || (vget b.ts a).wg) = true := Bool.or_eq_true_iff.mpr hhigh
  rw [servoPreambleDue]
  dsimp only
  rw [heither, if_pos rfl]
  simp [lowerRg_vget, cutFrame_wg, lowerWg_vget]

/-! ### Traps and stops (R342 to R346) -/

theorem Block.get_withSys (x : Sys) (f : Field) (i : Nat) : Block.get { b with sys := x } f i = b.get f i := rfl

/-- A trap taken saves the micro-address and whether TSa waited, and enters the vector at 16 times its number. -/
theorem trapEntry_entered {n : Nat} (hrun : tsRunning b a = true) (hout : b.get .TS_STATE_TRAP a.val = 0)
    (hnext : nextTrap b a = some n) (hn : n ≤ 3) :
    (trapEntry a b).get .TS_STATE_TRAP a.val = n + 1 ∧ (trapEntry a b).get .TS_STATE_UPC a.val = 16 * n ∧
      (trapEntry a b).get .TS_TSAVE_PC a.val = b.get .TS_STATE_UPC a.val % 2 ^ Field.width .TS_TSAVE_PC ∧
      (trapEntry a b).get .TS_STATE_STATE a.val = 4 ∧ (vget (trapEntry a b).ts a).savedAwait = (vget b.ts a).await := by
  have hshown : (n + 1) % 8 = n + 1 := by omega
  have hfits : 16 * n % 4096 = 16 * n := by omega
  have htrap : Field.width .TS_STATE_TRAP = 3 := by decide
  have hvector : Field.width .TS_STATE_UPC = 12 := by decide
  have hstate : Field.width .TS_STATE_STATE = 4 := by decide
  rw [trapEntry, hrun, decide_eq_true hout, Bool.and_true, Block.guard_true, hnext]
  dsimp only
  by_cases hstop : n = 3
  · subst hstop
    simp [htrap, hvector, hstate, Block.get_withSys]
  · simp [hstop, htrap, hvector, hstate, hshown, hfits, Block.get_withSys]

/-- A stop asked of a running TSa shows in STOPREQ. -/
theorem stopRequest_running (hrun : tsRunning b a = true) : (stopRequest b a).get .TS_STATE_STOPREQ a.val = 1 := by
  have hone : 1 % 2 ^ Field.width .TS_STATE_STOPREQ = 1 := by decide
  simp [stopRequest, hrun, trapRequest, hone]

/-- A hard stop cancels the armed set and forces the STOP trap. -/
theorem hardStop_forces (hasked : b.get .TS_STATE_STOPREQ a.val = 1) :
    (vget (hardStop a b).ts a).armed = none ∧ (vget (hardStop a b).ts a).stopForced = true := by
  rw [hardStop, decide_eq_true hasked, Block.guard_true]
  simp [trapRequest]

/-! ### The control store (R351) -/

theorem controlStoreWrite_stopped (hstate : b.get .TS_STATE_STATE a.val ∈ [0, 5, 6]) (word : Fin 4096) (data : BitVec 128) :
    csWord (controlStoreWrite a word data b) a word.val = data.toNat := by
  rw [controlStoreWrite, if_pos hstate, csWord, onTs_vget, nget_nset_same]

theorem controlStoreWrite_running (hstate : b.get .TS_STATE_STATE a.val ∉ [0, 5, 6]) (word : Fin 4096) (data : BitVec 128) :
    controlStoreWrite a word data b = b.coreFault := if_neg hstate

end Sequencer

/-- Settles O18: what a step does by whether TSa waits for a job, an expiry by the armed set, a preamble by the gates
still high, and a write of the control store by TSa's state; a trap is entered at its vector. -/
theorem sequencerCompletes : Obligations.SequencerCompletes := by
  refine ⟨fun s a dt buf lo hi hrun => ?_, fun s a e hexp harmed => ?_, fun s a e x hexp harmed => ?_,
    fun s a f hframe hpaused => ⟨_, rfl, frameEnd_ended hframe hpaused⟩, fun s a hrg hwg hsg => ?_,
    fun s a hhigh => ⟨_, rfl, servoPreambleDue_gates hhigh⟩,
    fun s a hloaded => onBlock_eq (by rw [hloaded]; rfl),
    fun s a n hrun hout hnext hn => ⟨_, rfl, trapEntry_entered hrun hout hnext hn⟩,
    fun s a hrun => ⟨_, rfl, stopRequest_running hrun⟩, fun s a hasked => ⟨_, rfl, hardStop_forces hasked⟩,
    fun s a hstate => onBlock_eq (by rw [decide_eq_true hstate]; rfl),
    fun s a word data hstate => ⟨_, rfl, controlStoreWrite_stopped hstate word data, controlStoreWrite_regs a word data s.blk⟩,
    fun s a word data hstate => ⟨_, onBlock_eq (controlStoreWrite_running hstate word data), rfl, rfl, rfl⟩⟩
  · obtain ⟨c, hregs, hcs, hstep⟩ := microwordStep_running hrun dt buf lo hi
    exact ⟨_, c, rfl, hregs, hcs, hstep⟩
  · refine ⟨_, onBlock_eq (bitTimerExpiry_expired hexp), ?_⟩
    simp [harmed, timerExpired]
  · refine ⟨_, timerExpired s.blk a e, onBlock_eq (bitTimerExpiry_expired hexp), by rw [harmed]; rfl, ?_⟩
    simp [timerExpired]
  · refine ⟨_, onBlock_eq (servoPreambleDue_late hrg hwg hsg), ?_⟩
    simp [Block.get_bump_max]

end Sys2Proof.Machine

namespace Sys2Proof.Machine

/-! ## What the end and the start of commands leave as it is

A command that ends lets others go on, and what follows reaches into the controllers and ports, the commands in execution, the translation
layer, the NAND, the sequencers' and channels' work and the registers. Nothing else of the block changes but what the health data counts:
completions their errors, warnings their bits, and commands that end the host's commands. The frames of the FCS and of the engines do not
show the health data; this one does, with everything else that stays. -/

/-- The parts of a block that commands which start, wait or are withdrawn leave alone; every other part, and of the health data the
warning and the number of errors, is shown as at reset. -/
def apart (b : Block) : Block :=
  { Block.reset with
    image := b.image, fcs := b.fcs, fuses := b.fuses, boot := b.boot, spn := b.spn, srv := b.srv, ast := b.ast
    deep := b.deep, nim := b.nim, thm := b.thm, och := b.och, mm := b.mm
    hea := { b.hea with warning := 0, errorEntries := 0 } }

theorem hostWrites_of_apart {b c : Block} (h : apart c = apart b) : c.hea.hostWrites = b.hea.hostWrites := by
  have k := congrArg (fun x => x.hea.hostWrites) h
  exact k

section Apart

variable (b : Block)

/-! ### The updates -/

@[simp] theorem put_apart (f : Field) (i v : Nat) : apart (b.put f i v) = apart b := rfl
@[simp] theorem putSat_apart (f : Field) (i v : Nat) : apart (b.putSat f i v) = apart b := rfl
@[simp] theorem bump_apart (f : Field) (i n : Nat) : apart (b.bump f i n) = apart b := rfl
@[simp] theorem onNv_apart (p : Port) (g : Ctrl → Ctrl) : apart (b.onNv p g) = apart b := rfl
@[simp] theorem onPx_apart (p : Port) (g : PciPort → PciPort) : apart (b.onPx p g) = apart b := rfl
@[simp] theorem onXl_apart (g : Xlate → Xlate) : apart (b.onXl g) = apart b := rfl
@[simp] theorem onNs_apart (g : Nand → Nand) : apart (b.onNs g) = apart b := rfl
@[simp] theorem onNvm_apart (g : Nvm → Nvm) : apart (b.onNvm g) = apart b := rfl
@[simp] theorem onTs_apart (a : Act) (g : Ts → Ts) : apart (b.onTs a g) = apart b := rfl
@[simp] theorem onCh_apart (a : Act) (g : Channel → Channel) : apart (b.onCh a g) = apart b := rfl
@[simp] theorem errorEntries_apart (n : Health → Nat) : apart (b.onHea (fun h => { h with errorEntries := n h })) = apart b := rfl
@[simp] theorem answer_apart (r : Reply) : apart (b.answer r) = apart b := rfl
@[simp] theorem fresh_apart (n : Nat) : apart (b.fresh n).2 = apart b := rfl

@[simp] theorem touchLink_apart (p : Port) : apart (touchLink b p) = apart b := by
  unfold touchLink
  dsimp only
  split <;> rfl

/-! ### Completions and events -/

@[simp] theorem sendMessage_apart (p : Port) (v : Nat) : apart (sendMessage b p v) = apart b := by
  unfold sendMessage
  split_ifs <;> simp

@[simp] theorem postEntry_apart (p : Port) (q : CompQueue) (e : Cqe) : apart (postEntry b p q e) = apart b := by
  unfold postEntry
  dsimp only
  split <;> simp

@[simp] theorem pmeIfDue_apart (p : Port) : apart (pmeIfDue b p) = apart b := by
  unfold pmeIfDue
  split <;> rfl

@[simp] theorem tryPost_apart (p : Port) (h : Nat × Cqe) : apart (tryPost b p h) = apart b := by
  unfold tryPost
  dsimp only
  split
  · rfl
  · split <;> simp

@[simp] theorem complete_apart (p : Port) (sq cid : Nat) (st : Status) (dw0 dw1 : Nat) :
    apart (complete b p sq cid st dw0 dw1) = apart b := by
  unfold complete
  split_ifs <;> simp

@[simp] theorem asyncEvent_apart (p : Port) (type info page : Nat) : apart (asyncEvent b p type info page) = apart b := by
  unfold asyncEvent
  dsimp only
  split
  · rfl
  · split <;> simp

@[simp] theorem jobEvent_apart (p : Port) : apart (jobEvent b p) = apart b := by
  unfold jobEvent
  dsimp only
  split <;> simp

@[simp] theorem setWarning_apart (n : Nat) (v : Bool) : apart (setWarning b n v) = apart b := by
  unfold setWarning
  dsimp only
  split
  · exact foldl_keeps apart (fun b p => by split <;> simp) _ _
  · rfl

@[simp] theorem refreshWarnings_apart : apart (refreshWarnings b) = apart b := by simp [refreshWarnings]

@[simp] theorem evalSpace_apart : apart (evalSpace b) = apart b := by
  unfold evalSpace
  dsimp only
  split <;> simp

/-! ### Dirty blocks, the NAND and the journal -/

@[simp] theorem dirtyDrop_apart (key : Nat) : apart (dirtyDrop b key) = apart b := rfl

@[simp] theorem journalEntry_apart : apart (journalEntry b) = apart b := by
  unfold journalEntry
  split <;> rfl

@[simp] theorem dropSlot_apart (key : Nat) : apart (dropSlot b key) = apart b := by
  unfold dropSlot
  dsimp only
  split <;> rfl

/-! ### Requests, rows and bands -/

@[simp] theorem putZone_apart (z : Zone) : apart (putZone b z) = apart b := rfl

@[simp] theorem admitBeyond_apart (a : Act) : apart (admitBeyond b a) = apart b := rfl

@[simp] theorem releaseBlock_apart (o : RowOwner) (key : Nat) : apart (releaseBlock b o key) = apart b := by
  unfold releaseBlock
  dsimp only
  split
  · simp
  · split_ifs <;> simp

@[simp] theorem putLog_apart (o : RowOwner) (l : RowLog) : apart (putLog b o l) = apart b := by
  unfold putLog
  split
  · split <;> rfl
  · split <;> rfl
  · rfl

@[simp] theorem enqueueReq_apart (r : MediaReq) : apart (enqueueReq b r) = apart b := by
  unfold enqueueReq
  split <;> rfl

@[simp] theorem newReq_apart (f : ReqFor) (surf track first count : Nat) (write urgent : Bool) :
    apart (newReq b f surf track first count write urgent) = apart b := by
  simp [newReq]

@[simp] theorem rowAdd_apart (o : RowOwner) (k m j sector symbols : Nat) : apart (rowAdd b o k m j sector symbols) = apart b := by
  unfold rowAdd
  dsimp only
  split <;> rfl

@[simp] theorem makeVirtual_apart (o : RowOwner) (k s m : Nat) : apart (makeVirtual b o k s m) = apart b := by
  unfold makeVirtual passTrack
  dsimp only
  split
  · split <;> simp
  · rfl

@[simp] theorem askParity_apart (o : RowOwner) (l : RowLog) (k : Nat) : apart (askParity b o l k) = apart b := by
  refine foldl_keeps apart (fun b r => ?_) _ b
  dsimp only
  split
  · rfl
  · split_ifs <;> simp

@[simp] theorem rowAdvance_apart (o : RowOwner) (k : Nat) : apart (rowAdvance b o k) = apart b := by
  unfold rowAdvance
  split
  · rfl
  · split
    · dsimp only
      split
      · simp
      · split <;> simp
    · rfl

@[simp] theorem emitTrack_apart (o : RowOwner) (l : RowLog) (off count : Nat) : apart (emitTrack b o l off count) = apart b := by
  unfold emitTrack
  extract_lets k j first surf b1 b2
  have h1 : apart b1 = apart b := putLog_apart b o _
  have h2 : apart b2 = apart b := by
    refine (foldl_keeps apart (fun b i => ?_) _ b1).trans h1
    dsimp only
    split
    · split <;> simp
    · simp
  split
  · split
    · rw [rowAdvance_apart, makeVirtual_apart, h2]
    · exact h2
  · rw [newReq_apart, h1]

@[simp] theorem feedTracks_apart (n : Nat) (o : RowOwner) : apart (feedTracks n b o) = apart b := by
  induction n generalizing b with
  | zero => rfl
  | succ n ih =>
    unfold feedTracks
    split
    · rfl
    · dsimp only
      split
      · rw [ih, emitTrack_apart]
      · rfl

@[simp] theorem feedLog_apart (o : RowOwner) : apart (feedLog b o) = apart b := by
  unfold feedLog
  split <;> simp

@[simp] theorem fillRow_apart (o : RowOwner) : apart (fillRow b o) = apart b := by
  unfold fillRow
  split <;> simp

@[simp] theorem dropOwner_apart (o : RowOwner) : apart (dropOwner b o) = apart b := by
  unfold dropOwner
  dsimp only [put_apart, onXl_apart]
  split
  · refine foldl_keeps apart (fun b off => ?_) _ b
    split
    · split <;> simp
    · rfl
  · rfl

@[simp] theorem freeMcRows_apart : apart (freeMcRows b) = apart b := foldl_keeps apart (fun b r => by simp) _ b

@[simp] theorem renewBand_apart (g s : Nat) : apart (renewBand b g s) = apart b := by simp [renewBand, putBand]

@[simp] theorem eraseRange_apart (nsid lba n : Nat) : apart (eraseRange b nsid lba n) = apart b := rfl
@[simp] theorem freeExtensions_apart : apart (freeExtensions b) = apart b := rfl

/-! ### Zones and namespaces -/

@[simp] theorem zoneToEmpty_apart (z : Zone) : apart (zoneToEmpty b z) = apart b := by
  unfold zoneToEmpty
  extract_lets b1 b2 b3 free b4
  have h4 : apart b4 = apart b := by
    rw [freeExtensions_apart, putZone_apart, eraseRange_apart, foldl_keeps apart (fun b s => renewBand_apart b _ s),
      dropOwner_apart]
  split
  · exact (putZone_apart _ _).trans h4
  · exact h4

@[simp] theorem countRejected_apart (st : Status) : apart (countRejected b st) = apart b := by
  unfold countRejected
  split_ifs <;> rfl

@[simp] theorem zoneAction_apart (z : Zone) (act : Nat) : apart (zoneAction b z act).1 = apart b := by
  unfold zoneAction
  split_ifs
  · unfold zoneClose
    split_ifs <;> rfl
  · unfold zoneFinish
    split_ifs <;> simp
  · unfold zoneOpen
    split_ifs
    · rfl
    · split <;> rfl
    · rfl
  · unfold zoneReset
    split_ifs <;> simp
  · unfold zoneOffline
    split_ifs
    · rfl
    · dsimp only
      split <;> simp
    · rfl

theorem actOnZones_apart (c : Cmd) (act : Nat) : apart (actOnZones b c act).1 = apart b := by
  refine List.foldlRecOn (motive := fun r : Block × Status => apart r.1 = apart b) _ _ rfl (fun r hr k _ => ?_)
  split
  · exact (zoneAction_apart r.1 _ act).trans hr
  · exact hr

@[simp] theorem acceptWrite_apart (n : Namespace) (slba nlb : Nat) (append : Bool) :
    apart (acceptWrite b n slba nlb append) = apart b := by
  unfold acceptWrite
  split
  · split <;> rfl
  · rfl

@[simp] theorem resetExpected_apart (nsid k : Nat) : apart (resetExpected b nsid k) = apart b := by
  unfold resetExpected
  split
  · dsimp only
    split <;> rfl
  · rfl

@[simp] theorem freeGroup_apart (g : Group) : apart (freeGroup b g) = apart b :=
  (foldl_keeps apart (fun b s => by simp) _ _).trans (dropOwner_apart b _)

@[simp] theorem wipeNamespace_apart (nsid : Nat) : apart (wipeNamespace b nsid) = apart b := by
  unfold wipeNamespace
  dsimp only
  rw [freeMcRows_apart, onXl_apart, foldl_keeps apart (fun b c => ?_), foldl_keeps apart (fun b g => by simp),
    foldl_keeps apart (fun b z => by simp)]
  split <;> simp

@[simp] theorem rekey_apart (nsid : Nat) : apart (rekey b nsid) = apart b := rfl

@[simp] theorem shrinkPool_apart : apart (shrinkPool b) = apart b := by
  refine foldl_keeps apart (fun b g => ?_) _ b
  dsimp only
  split_ifs <;> rfl

@[simp] theorem putJob_apart (j : Job) : apart (putJob b j) = apart b := rfl

@[simp] theorem logSelfTest_apart (j : Job) (result : Nat) : apart (logSelfTest b j result) = apart b := by
  unfold logSelfTest
  split <;> rfl

@[simp] theorem closeJob_apart (j : Job) (result : Nat) : apart (closeJob b j result) = apart b := by simp [closeJob]

@[simp] theorem deleteNamespace_apart (nsid : Nat) : apart (deleteNamespace b nsid) = apart b := by
  unfold deleteNamespace
  dsimp only
  rw [foldl_keeps apart (fun b j => ?_)]
  · simp
  · rw [closeJob_apart]
    split <;> rfl

@[simp] theorem formatNamespace_apart (meta8 : Bool) (dps : Nat) (crypto : Bool) (nsid : Nat) :
    apart (formatNamespace b meta8 dps crypto nsid) = apart b := by
  unfold formatNamespace
  dsimp only
  split <;> simp

/-! ### Commands that end -/

@[simp] theorem putCmd_apart (c : Cmd) : apart (putCmd b c) = apart b := rfl

@[simp] theorem dropCmd_apart (c : Cmd) : apart (dropCmd b c) = apart b := by
  unfold dropCmd refreshLtr
  dsimp only
  split <;> rfl

@[simp] theorem waitEffect_apart (w : AdminWait) : apart (waitEffect b w) = apart b := by
  unfold waitEffect
  split
  · rfl
  · exact foldl_keeps apart (fun b n => by simp) _ b
  · exact foldl_keeps apart (fun b n => by simp) _ b
  · exact foldl_keeps apart (fun b n => by simp) _ b

@[simp] theorem settleAdmin_apart (w : AdminWait) : apart (settleAdmin b w) = apart b := by
  unfold settleAdmin
  split <;> simp

@[simp] theorem settleBehind_apart (c : Cmd) : apart (settleBehind b c) = apart b := by
  unfold settleBehind
  split
  · rfl
  · split
    · simp
    · split <;> simp

@[simp] theorem settleAction_apart (c : Cmd) : apart (settleAction b c) = apart b := by
  unfold settleAction
  split
  · split
    · exact (complete_apart _ _ _ _ _ _ _).trans ((actOnZones_apart _ c _).trans (dropCmd_apart b c))
    · rfl
  · simp

@[simp] theorem settleWaits_apart : apart (settleWaits b) = apart b :=
  (foldl_keeps apart (fun b w => by simp) _ _).trans (foldl_keeps apart (fun b c => by simp) _ b)

/-! ### Reconstructions and blocks deallocated -/

@[simp] theorem readSources_apart (x : Recon) (urgent : Bool) : apart (readSources b x urgent) = apart b := by
  unfold readSources
  split
  · rfl
  · exact foldl_keeps apart (fun b s => by simp [askSource]) _ _

@[simp] theorem dropCached_apart (key : Nat) : apart (dropCached b key) = apart b := by
  unfold dropCached
  split
  · rfl
  · dsimp only
    split_ifs <;> simp

@[simp] theorem releaseExtent_apart (key : Nat) : apart (releaseExtent b key) = apart b := by
  unfold releaseExtent
  dsimp only
  split
  · rfl
  · split
    · rfl
    · exact foldl_keeps apart (fun b off => by split <;> simp) _ b

@[simp] theorem deallocate_apart (n : Namespace) (slba nlb : Nat) : apart (deallocate b n slba nlb) = apart b := by
  unfold deallocate
  dsimp only
  rw [onXl_apart, foldl_keeps apart (fun b i => by simp), eraseRange_apart, foldl_keeps apart (fun b k => by simp)]

/-! ### Reservations -/

@[simp] theorem putNs_apart (n : Namespace) : apart (putNs b n) = apart b := rfl

@[simp] theorem resNotify_apart (actor nsid type : Nat) (hosts : List Nat) :
    apart (resNotify b actor nsid type hosts) = apart b := by
  refine foldl_keeps apart (fun b p => ?_) _ b
  dsimp only
  split <;> simp

@[simp] theorem resRegister_apart (host : Nat) (n : Namespace) (action : Nat) (ignore : Bool) (cur new change : Nat) :
    apart (resRegister b host n action ignore cur new change).1 = apart b := by
  unfold resRegister
  extract_lets done m freed b1 shared
  split
  · rfl
  split
  · split
    · split <;> rfl
    · split <;> rfl
  split
  · split
    · dsimp only
      split <;> simp [b1]
    · rfl
  split
  · split <;> rfl
  · rfl

@[simp] theorem resAcquire_apart (host : Nat) (n : Namespace) (action : Nat) (ignore : Bool) (cur prKey kind : Nat) :
    apart (resAcquire b host n action ignore cur prKey kind).1 = apart b := by
  unfold resAcquire
  split
  · rfl
  split
  · rfl
  split
  · rfl
  split
  · split
    · rfl
    · split <;> rfl
  · dsimp only
    split
    · rfl
    · split <;> simp

@[simp] theorem resRelease_apart (host : Nat) (n : Namespace) (action : Nat) (ignore : Bool) (cur kind : Nat) :
    apart (resRelease b host n action ignore cur kind).1 = apart b := by
  unfold resRelease
  dsimp only
  split
  · rfl
  split
  · rfl
  split
  · split
    · rfl
    · split
      · rfl
      split
      · rfl
      · split <;> simp
  split
  · simp
  · rfl

/-! ### Commands withdrawn, and reads of the host's memory -/

@[simp] theorem trapRequest_apart (a : Act) (n : Nat) : apart (trapRequest b a n) = apart b := rfl

@[simp] theorem withdrawFor_apart (mine : ReqFor → Bool) : apart (withdrawFor b mine) = apart b := by
  unfold withdrawFor
  extract_lets ids gone tags b1
  refine (foldl_keeps apart (fun b a => ?_) _ b1).trans (onXl_apart ..)
  dsimp only
  split_ifs <;> simp

@[simp] theorem withdrawCmd_apart (c : Cmd) : apart (withdrawCmd b c) = apart b := withdrawFor_apart b _

theorem issueRead_apart {p : Port} {f : ReadFor} {b' : Block} (h : issueRead b p f = some b') : apart b' = apart b := by
  obtain ⟨t, -, rfl⟩ := Option.map_eq_some_iff.mp h
  simp

@[simp] theorem pumpCmd_apart (n : Nat) (c : Cmd) : apart (pumpCmd n b c) = apart b := by
  induction n generalizing b with
  | zero => rfl
  | succ n ih =>
    unfold pumpCmd
    split
    next h => rw [ih, issueRead_apart b h]
    · rfl

@[simp] theorem pumpReads_apart (p : Port) : apart (pumpReads b p) = apart b :=
  foldl_keeps apart (fun b c => by split <;> simp) _ b

end Apart

/-! ## Host writes counted (R625)

A command that ends is counted once, and no count is ever taken back: an operation that ends commands leaves at least the host writes
that it finds. -/

/-- The host writes that a block has counted stand in another. -/
def WritesStand (b c : Block) : Prop := b.hea.hostWrites ≤ c.hea.hostWrites

section WritesStand

theorem WritesStand.refl (b : Block) : WritesStand b b := Nat.le_refl _

theorem WritesStand.trans {b c d : Block} (h : WritesStand b c) (k : WritesStand c d) : WritesStand b d := Nat.le_trans h k

theorem writesStand_of_apart {b c : Block} (h : apart c = apart b) : WritesStand b c := Nat.le_of_eq (hostWrites_of_apart h).symm

theorem writesStand_foldl {α : Type} {f : Block → α → Block} (h : ∀ b x, WritesStand b (f b x)) :
    ∀ (l : List α) (b : Block), WritesStand b (l.foldl f b)
  | [], b => WritesStand.refl b
  | x :: l, b => (h b x).trans (writesStand_foldl h l (f b x))

variable (b : Block)

/-! ### Commands that end -/

theorem countHost_hostWrites (c : Cmd) (done : Bool) :
    (countHost b c done).hea.hostWrites = b.hea.hostWrites + (if writesBlocks c.kind then 1 else 0) := by
  unfold countHost
  cases hk : c.kind <;> simp [writesBlocks, Block.onHea]

theorem finishCmd_hostWrites (c : Cmd) (st : Status) (dw0 dw1 : Nat) :
    (finishCmd b c st dw0 dw1).hea.hostWrites = b.hea.hostWrites + (if writesBlocks c.kind then 1 else 0) := by
  unfold finishCmd
  extract_lets st' b1 b2 b3
  have h1 : b1.hea.hostWrites = b.hea.hostWrites + (if writesBlocks c.kind then 1 else 0) := by
    rw [countHost_hostWrites, hostWrites_of_apart (dropCmd_apart b c)]
  have h2 : b2.hea.hostWrites = b1.hea.hostWrites := by
    unfold b2
    split <;> rfl
  have h3 : b3.hea.hostWrites = b2.hea.hostWrites := by
    unfold b3
    split <;> rfl
  rw [hostWrites_of_apart ((settleWaits_apart _).trans (complete_apart b3 ..)), h3, h2, h1]

theorem finishCmd_stand (c : Cmd) (st : Status) (dw0 dw1 : Nat) : WritesStand b (finishCmd b c st dw0 dw1) := by
  rw [WritesStand, finishCmd_hostWrites]
  exact Nat.le_add_right _ _

/-- A command that ends after operations that leave the count alone leaves it standing. -/
theorem finishCmd_stand_of_apart {b c : Block} (h : apart c = apart b) (d : Cmd) (st : Status) :
    WritesStand b (finishCmd c d st) := (writesStand_of_apart h).trans (finishCmd_stand c d st 0 0)

theorem failBehind_stand (c : Cmd) (test : Cmd → Bool) : WritesStand b (failBehind b c test) := by
  unfold failBehind
  split
  · exact WritesStand.refl b
  · split
    · refine (writesStand_foldl (fun b d => ?_) _ b).trans (writesStand_of_apart (resetExpected_apart _ _ _))
      dsimp only
      split
      · exact writesStand_of_apart (by simp)
      · refine finishCmd_stand_of_apart ?_ d _
        split
        · rw [foldl_keeps apart (fun b k => dirtyDrop_apart b k), countRejected_apart]
        · exact countRejected_apart b _
    · exact WritesStand.refl b

theorem failWrite_stand (c : Cmd) (st : Status) : WritesStand b (failWrite b c st) :=
  (finishCmd_stand b c st 0 0).trans (failBehind_stand _ c _)

/-- A write that fails before its data is in is counted. -/
theorem failWrite_counts {c : Cmd} (hk : writesBlocks c.kind = true) (st : Status) :
    b.hea.hostWrites < (failWrite b c st).hea.hostWrites := by
  have hfinish := finishCmd_hostWrites b c st 0 0
  rw [if_pos hk] at hfinish
  have hlater := failBehind_stand (finishCmd b c st) c (fun _ => true)
  unfold WritesStand at hlater
  unfold failWrite failLater
  omega

/-- A write whose data is poisoned is counted, whatever namespace it finds. -/
theorem receiveWrite_poisoned_counts {c : Cmd} (hk : writesBlocks c.kind = true) (data : List Nat) (pi : PiCheck) :
    b.hea.hostWrites < (receiveWrite b c data true pi).hea.hostWrites := by
  unfold receiveWrite
  split
  · exact failWrite_counts b hk _
  · exact failWrite_counts b hk _

/-! ### Reads -/

theorem cmdPart_stand (p : Port) (sq cid : Nat) (st : Status) : WritesStand b (cmdPart b p sq cid st) := by
  unfold cmdPart
  split
  · exact WritesStand.refl b
  next c hfound =>
    extract_lets c' b1
    have h1 : apart b1 = apart b := putCmd_apart b c'
    split_ifs
    · exact writesStand_of_apart h1
    · exact writesStand_of_apart ((putCmd_apart b1 _).trans h1)
    · exact finishCmd_stand_of_apart h1 c' _

theorem reconFails_stand (x : Recon) : WritesStand b (reconFails b x) := by
  unfold reconFails
  dsimp only
  split
  · exact cmdPart_stand (b.onXl _) _ _ _ _
  · exact WritesStand.refl b
  · exact WritesStand.refl b

theorem startRecon_stand (f : ReqFor) (o : RowOwner) (k surf sector : Nat) (urgent : Bool) :
    WritesStand b (startRecon b f o k surf sector urgent) := by
  unfold startRecon
  split
  · exact WritesStand.refl b
  · dsimp only
    split
    · exact reconFails_stand (b.onXl _) _
    · exact writesStand_of_apart (by simp)

theorem askRun_stand (c : Cmd) (r : Spot × Nat) : WritesStand b (askRun b c r) := by
  unfold askRun
  dsimp only
  split
  · exact writesStand_foldl (fun b i => startRecon_stand b _ _ _ _ _ _) _ b
  · exact writesStand_of_apart (by simp)

theorem startReads_stand (n : Namespace) (c : Cmd) : WritesStand b (startReads b n c) := by
  unfold startReads
  extract_lets lbas runs lost need st c' b1
  have h1 : WritesStand b b1 := writesStand_of_apart (putCmd_apart b c')
  split_ifs
  · exact h1.trans (writesStand_foldl (fun b r => askRun_stand b c' r) runs b1)
  · exact h1.trans (writesStand_of_apart (putCmd_apart b1 _))
  · exact h1.trans (finishCmd_stand b1 c' st 0 0)

/-! ### Commands that are ended and started -/

theorem abortOne_stand (c : Cmd) (st : Status) : WritesStand b (abortOne b c st) := by
  have hwithdrawn := writesStand_of_apart (withdrawCmd_apart b c)
  unfold abortOne
  dsimp only
  split
  · exact hwithdrawn.trans (failWrite_stand _ c st)
  · exact hwithdrawn.trans (finishCmd_stand _ c st 0 0)

theorem startAcquire_stand (c : Cmd) (n : Namespace) : WritesStand b (startAcquire b c n) := by
  unfold startAcquire
  extract_lets arg r b1 hit b2
  have h1 : WritesStand b b1 := writesStand_of_apart (resAcquire_apart b ..)
  have h2 : WritesStand b1 b2 := by
    refine writesStand_foldl (fun b d => ?_) hit b1
    split
    · exact abortOne_stand b _ _
    · exact WritesStand.refl b
  exact (h1.trans h2).trans (finishCmd_stand b2 c _ 0 0)

theorem startInstant_stand (c : Cmd) (n : Namespace) (op : Nat) : WritesStand b (startInstant b c n op) := by
  unfold startInstant
  dsimp only
  split_ifs
  · exact finishCmd_stand b c _ 0 0
  · exact finishCmd_stand b c _ 0 0
  · exact finishCmd_stand_of_apart (foldl_keeps apart (fun b r => deallocate_apart b n _ _) c.src b) c _
  · exact finishCmd_stand_of_apart (resRegister_apart b ..) c _
  · exact finishCmd_stand_of_apart (answer_apart b _) c _
  · exact startAcquire_stand b c n
  · exact finishCmd_stand_of_apart (resRelease_apart b ..) c _
  · exact finishCmd_stand b c _ 0 0
  · exact finishCmd_stand_of_apart (answer_apart b _) c _

theorem startCmd_stand (c : Cmd) : WritesStand b (startCmd b c) := by
  unfold startCmd
  split
  · split
    · exact WritesStand.refl b
    · exact finishCmd_stand b c _ 0 0
  · split
    · exact WritesStand.refl b
    · split
      · exact finishCmd_stand b c _ 0 0
      · exact startReads_stand b _ c
    · split
      · exact finishCmd_stand b c _ 0 0
      · exact startReads_stand b _ c
    · split
      · exact finishCmd_stand b c _ 0 0
      · exact writesStand_of_apart (by simp)
    · exact startInstant_stand b c _ _
    · split
      · exact finishCmd_stand b c _ 0 0
      · split_ifs
        · exact failWrite_stand b c _
        · exact startReads_stand b _ c
        · exact finishCmd_stand_of_apart (deallocate_apart b ..) c _
        · exact WritesStand.refl b
        · exact writesStand_of_apart (by simp)

theorem releaseFenced_stand : WritesStand b (releaseFenced b) := by
  refine writesStand_foldl (fun b c => ?_) _ b
  split
  · split
    · exact startCmd_stand b _
    · exact WritesStand.refl b
  · exact WritesStand.refl b

theorem abortCmd_stand (c : Cmd) (st : Status) : WritesStand b (abortCmd b c st) := by
  unfold abortCmd
  dsimp only
  split
  · exact (abortOne_stand b c st).trans (releaseFenced_stand _)
  · exact abortOne_stand b c st

/-! ### Queue recoveries (R565 to R567) -/

theorem qrecBegin_stand (p : Port) (r : QueueRec) : WritesStand b (qrecBegin b p r).2 := by
  unfold qrecBegin
  extract_lets mine full others b1 listed left b2 b3
  have h1 : WritesStand b b1 := by
    refine writesStand_foldl (fun b c => ?_) others b
    split
    · exact abortCmd_stand b _ _
    · exact WritesStand.refl b
  have h3 : apart b3 = apart b1 := foldl_keeps apart (fun b x => complete_apart b ..) listed b2
  exact h1.trans (writesStand_of_apart h3)

@[simp] theorem qrecEnd_apart (p : Port) (r : QueueRec) : apart (qrecEnd b p r) = apart b := by
  unfold qrecEnd
  split
  · simp
  · simp

theorem qrecPump_stand (n : Nat) (p : Port) : WritesStand b (qrecPump n b p) := by
  induction n generalizing b with
  | zero => exact WritesStand.refl b
  | succ n ih =>
    unfold qrecPump
    split
    · exact WritesStand.refl b
    next r rest hrec =>
      extract_lets x
      have hbegun : WritesStand b x.2 := by
        unfold x
        split
        · exact WritesStand.refl b
        · exact qrecBegin_stand b p r
      split
      · exact (hbegun.trans (writesStand_of_apart (by simp))).trans (ih _)
      · exact hbegun

theorem qrecAll_stand : WritesStand b (qrecAll b) := writesStand_foldl (fun b p => qrecPump_stand b _ p) _ b

end WritesStand

/-! ## Write data that lies in the Controller Memory Buffer (R551) -/

/-- A write of eight blocks to a zone, eight blocks from its start, with its data at the start of the Controller Memory Buffer. -/
def bufferedCmd : Cmd := ⟨0, 1, 5, 0, .write, 1, 8, 8, [], some 0, false, [], false, .receiving, none, 0, .success, 0, 0⟩

/-- A module in RUN with that write in execution and its zone's write pointer at the zone's start. No byte of the buffer is poisoned. -/
def bufferedWrite : State :=
  { Tests.st132 with blk := (Tests.st132.blk.onXl (fun x => { x with
      namespaces := [⟨1, true, 0, 2 * zoneSize, false, 0, true, 1, 0, [], none, 0, false⟩]
      zones := [⟨1, 0, ⟨0, none, [0, 6, 12, 18], 1, 0, 0, 0, 0, []⟩, .implicit, 16, zoneSize, false⟩] })).onNvm (fun n =>
      { n with cmds := [bufferedCmd] }) }

/-- The block once that write's data has been received from the buffer, whatever the command brings. -/
def bufferedReceived : Block :=
  let r := bufferData bufferedWrite.mem bufferedWrite.blk 0 1 5 [] true
  writeDataReceived 0 1 5 r.1 r.2 .ok bufferedWrite.blk

/-- The buffer's data is sound, so that the write waits for the blocks before it and has not ended. -/
theorem bufferedReceived_hostWrites : bufferedReceived.hea.hostWrites = 0 := by decide +kernel

/-- Refutes O19: its first clause has every write take the data and the poison that the command brings, but a write whose data lies in the
Controller Memory Buffer takes both from there (R551). In `bufferedWrite` the command is said to bring poison, which would end the write
and count it, and the buffer holds none. -/
theorem not_translationAndCleaningComplete : ¬ Obligations.TranslationAndCleaningComplete := by
  rintro ⟨hreceived, -⟩
  obtain ⟨t, b, hexec, hblk, -, -⟩ :=
    hreceived bufferedWrite 0 1 5 [] true .ok bufferedCmd (by decide +kernel) (by decide +kernel)
  have hcounts : b.hea.hostWrites < t.blk.hea.hostWrites := by
    rw [hblk]
    exact Nat.lt_of_lt_of_le (receiveWrite_poisoned_counts b rfl _ _) (qrecAll_stand _)
  have hwaits : t.blk.hea.hostWrites = 0 := by
    rw [← Host.Outcome.next.inj hexec]
    exact bufferedReceived_hostWrites
  omega

end Sys2Proof.Machine

namespace Sys2Proof.Machine

/-! ## I/O commands taken from their queue (R72, R73, R83, R113, R549, R563, R569) -/

section IoTaken

variable {b : Block} {p : Port} {sq cid nsid : Nat} {n : Namespace}

/-- An I/O command that is taken acts on the block after it has been taken, with its stamp and its namespace. -/
theorem ioCommand_taken (h : IoTaken b p sq cid nsid n) (f : Block → Nat → Namespace → Block) :
    ioCommand b p sq cid nsid f = f (ioBlock b p sq) (ioStamp b p sq) n := by
  obtain ⟨hsq, hlive, hstop, htake, hfree, hrec, hns, hcal, hwait⟩ := h
  unfold ioBlock at hfree hrec hns hcal hwait
  simp [ioCommand, ioBlock, ioStamp, hsq, hlive, hstop, htake, hfree, hrec, hns, hcal, hwait]

theorem mediaReady_served (h : b.pwr.spinupFailed = false) (f : Block → Block) : mediaReady b p sq cid f = f b := by
  simp [mediaReady, h]

theorem orElse_passed {bad : Bool} (h : bad = false) (st : Status) (f : Block → Block) :
    orElse b p sq cid bad st f = f b := by
  simp [orElse, h]

/-- A write that nothing puts off and that passes its check is accepted and enters execution (R383, R404). -/
theorem acceptIo_checked {c : Cmd} {append : Bool} (hnow : n.zoned = true → checkedLater b b.nvm.cmds c = false)
    (hcheck : writeCheck b n c.slba c.nlb append = .success) :
    acceptIo b n c append = enter (acceptWrite b n c.slba c.nlb append) c := by
  have hfalse : (n.zoned && checkedLater b b.nvm.cmds c) = false := by
    cases hzoned : n.zoned
    · rfl
    · exact hnow hzoned
  simp [acceptIo, hfalse, hcheck]

/-- A write behind a zone action enters execution to be checked later (R586). -/
theorem acceptIo_behind {c : Cmd} (append : Bool) (hzoned : n.zoned = true) (hlater : checkedLater b b.nvm.cmds c = true) :
    acceptIo b n c append = enter b { c with phase := .behind } := by
  simp [acceptIo, hzoned, hlater]

/-- A media command that is taken acts where the media can be served. -/
theorem ioMedia_taken (h : IoTaken b p sq cid nsid n) (hmedia : (ioBlock b p sq).pwr.spinupFailed = false)
    (f : Nat → Namespace → Block → Block) :
    ioCommand b p sq cid nsid (fun b t n => mediaReady b p sq cid (f t n)) = f (ioStamp b p sq) n (ioBlock b p sq) :=
  (ioCommand_taken h _).trans (mediaReady_served hmedia _)

/-- A read or a verify that passes its check enters execution, with what its protection information comes to (R573). -/
theorem readCmd_checked (h : IoTaken b p sq cid nsid n) (hmedia : (ioBlock b p sq).pwr.spinupFailed = false) (k : CmdKind)
    {slba nlb : Nat} (pi : PiCheck) (hcheck : readCheck (ioBlock b p sq) n slba nlb = .success) :
    readCmd k p sq cid nsid slba nlb pi b = enter (ioBlock b p sq)
      { newCmd (ioBlock b p sq) p sq cid (ioStamp b p sq) k nsid slba nlb with
        bad := if n.dps % 8 ≠ 0 ∧ pi ≠ .ok then some (piStatus pi) else none } := by
  refine (ioMedia_taken h hmedia _).trans ?_
  dsimp only
  rw [hcheck]

/-- A length within its bounds is no invalid field. -/
theorem lengthRefused_false {nlb most : Nat} (hone : 1 ≤ nlb) (hmost : nlb ≤ most) : decide (nlb = 0 ∨ most < nlb) = false :=
  decide_eq_false (by omega)

/-- No range of a list reaches past the end of a namespace. -/
theorem rangesRefused_false {ranges : List (Nat × Nat)} {size : Nat} (h : ∀ r ∈ ranges, r.1 + r.2 ≤ size) :
    ranges.any (fun r => decide (size < r.1 + r.2)) = false := by
  simpa using h

end IoTaken

/-- Settles O35: each command that is taken passes its checks one by one, and enters execution as its last step says. -/
theorem ioCommandsComplete : Obligations.IoCommandsComplete := by
  refine ⟨fun s p sq cid nsid n h => onBlock_eq
      (f := fun b => ioCommand b p sq cid nsid (fun b _ _ => complete b p sq cid .success)) (ioCommand_taken h _),
    fun s p sq cid nsid n slba nlb cmb h hmedia hone hmost hfits hnow hcheck => onBlock_eq ?_,
    fun s p sq cid nsid n slba nlb cmb h hmedia hone hmost hfits hzoned hlater => onBlock_eq ?_,
    fun s p sq cid nsid n slba nlb pi h hmedia hcheck => onBlock_eq (readCmd_checked h hmedia .read pi hcheck),
    fun s p sq cid nsid n slba nlb pi h hmedia hcheck => onBlock_eq (readCmd_checked h hmedia .verify pi hcheck),
    fun s p sq cid nsid n slba nlb h hmedia hone hmost hnow hcheck => onBlock_eq ?_,
    fun s p sq cid nsid n slba ranges src h hmedia hsrc hne hmost hcount hinside hnow hcheck => onBlock_eq ?_,
    fun s p sq cid nsid n ranges h hne hmost hinside => onBlock_eq ?_,
    fun s p sq cid nsid n slba nlb cmb remap h hmedia hzoned hfirst hone hmost hfits hnow hcheck => onBlock_eq ?_⟩
  · refine (ioMedia_taken h hmedia _).trans ((orElse_passed ?_ _ _).trans (acceptIo_checked hnow hcheck))
    rw [lengthRefused_false hone hmost, hfits]
    rfl
  · refine (ioMedia_taken h hmedia _).trans ((orElse_passed ?_ _ _).trans (acceptIo_behind false hzoned hlater))
    rw [lengthRefused_false hone hmost, hfits]
    rfl
  · exact (ioMedia_taken h hmedia _).trans
      ((orElse_passed (lengthRefused_false hone hmost) _ _).trans (acceptIo_checked hnow hcheck))
  · unfold copyCmd
    dsimp only
    rw [← hsrc]
    clear hsrc
    refine (ioMedia_taken h hmedia _).trans ((orElse_passed (decide_eq_false ?_) _ _).trans
      ((orElse_passed (rangesRefused_false hinside) _ _).trans (acceptIo_checked hnow hcheck)))
    have hlength := List.length_pos_iff.mpr hne
    omega
  · refine (ioCommand_taken h _).trans ((orElse_passed ?_ _ _).trans (orElse_passed ?_ _ _))
    · simp [hne, hmost]
    · simpa using fun r hr => hinside r hr
  · refine (ioMedia_taken h hmedia _).trans ((orElse_passed (by rw [hzoned]; rfl) _ _).trans
      ((orElse_passed ?_ _ _).trans (acceptIo_checked hnow hcheck)))
    rw [decide_eq_false (by omega), hfits]
    rfl

end Sys2Proof.Machine

namespace Sys2Proof.Machine

/-! ## Reconstruction, zone notices and rebuilds (R436, R437, R449)

A zone notice goes to one controller after the other, and between them an event may complete a request. What that leaves alone is the
translation layer, which says where a namespace is attached, and every controller's Changed Zone List. -/

/-- The translation layer and the Changed Zone Lists of the controllers. -/
def zoneReports (b : Block) : Xlate × (Port → List (Nat × Nat)) := (b.xl, fun p => (vget b.nv p).changedZones)

section ZoneReports

variable (b : Block) (p : Port)

@[simp] theorem onPx_zoneReports (g : PciPort → PciPort) : zoneReports (b.onPx p g) = zoneReports b := rfl
@[simp] theorem onHea_zoneReports (g : Health → Health) : zoneReports (b.onHea g) = zoneReports b := rfl
@[simp] theorem bump_zoneReports (f : Field) (i n : Nat) : zoneReports (b.bump f i n) = zoneReports b := rfl

@[simp] theorem onNv_zoneReports (g : Ctrl → Ctrl) (hg : ∀ c, (g c).changedZones = c.changedZones) :
    zoneReports (b.onNv p g) = zoneReports b := by
  refine Prod.ext rfl (funext fun q => ?_)
  by_cases hq : q = p
  · subst hq
    simp [zoneReports, Block.onNv, hg]
  · simp [zoneReports, Block.onNv, vget_vupd_other _ _ hq]

@[simp] theorem touchLink_zoneReports : zoneReports (touchLink b p) = zoneReports b := by
  unfold touchLink
  dsimp only
  split <;> rfl

@[simp] theorem sendMessage_zoneReports (v : Nat) : zoneReports (sendMessage b p v) = zoneReports b := by
  unfold sendMessage
  split_ifs <;> simp

@[simp] theorem postEntry_zoneReports (q : CompQueue) (e : Cqe) : zoneReports (postEntry b p q e) = zoneReports b := by
  unfold postEntry
  dsimp only
  split <;> simp

@[simp] theorem pmeIfDue_zoneReports : zoneReports (pmeIfDue b p) = zoneReports b := by
  unfold pmeIfDue
  split <;> simp

@[simp] theorem tryPost_zoneReports (h : Nat × Cqe) : zoneReports (tryPost b p h) = zoneReports b := by
  unfold tryPost
  dsimp only
  split
  · rfl
  · split <;> simp

@[simp] theorem complete_zoneReports (sq cid : Nat) (st : Status) (dw0 dw1 : Nat) :
    zoneReports (complete b p sq cid st dw0 dw1) = zoneReports b := by
  unfold complete
  split_ifs <;> simp

@[simp] theorem asyncEvent_zoneReports (type info page : Nat) : zoneReports (asyncEvent b p type info page) = zoneReports b := by
  unfold asyncEvent
  dsimp only
  split
  · rfl
  · split <;> simp

@[simp] theorem zoneNotice_zoneReports : zoneReports (zoneNotice b p) = zoneReports b := by
  unfold zoneNotice notice
  split <;> simp

end ZoneReports

/-! ### The notice of changed zones (R436, R584) -/

/-- The zones that a notice tells of: those that have changed, and those whose recommendation differs from what was told last. -/
def noticeZones (b : Block) : List (Nat × Nat) :=
  b.xl.changed ++ ((recommendChanges b).map (fun e => e.1)).filter (fun z => !decide (z ∈ b.xl.changed))

/-- Of some zones, those whose namespace is attached to a controller. -/
def attachedZones (b : Block) (zs : List (Nat × Nat)) (p : Port) : List (Nat × Nat) :=
  zs.filter (fun z => (nsAttached b p z.1).isSome)

/-- The notice to one controller: the attached zones enter its Changed Zone List. -/
def noticeTo (zs : List (Nat × Nat)) (b : Block) (p : Port) : Block :=
  if (attachedZones b zs p).isEmpty then b
  else zoneNotice (b.onNv p (fun c => { c with
    changedZones := c.changedZones ++ (attachedZones b zs p).filter (fun z => !decide (z ∈ c.changedZones)) })) p

/-- The block of a notice with its zones taken as told. -/
def noticeTold (b : Block) : Block :=
  b.onXl (fun x => { x with
    changed := [], told := (recommendChanges b).foldl (fun m e => nset 0 m (e.1.1 * 2 ^ 32 + e.1.2) e.2) x.told })

section Notice

variable {b : Block} {zs : List (Nat × Nat)}

theorem zoneChangedNotice_eq (h : noticeZones b ≠ []) :
    zoneChangedNotice b = (List.finRange 2).foldl (noticeTo (noticeZones b)) (noticeTold b) := by
  have hsome : (!(noticeZones b).isEmpty) = true := by simpa using h
  unfold zoneChangedNotice
  exact if_pos hsome

theorem noticeTo_xl (b : Block) (p : Port) : (noticeTo zs b p).xl = b.xl := by
  unfold noticeTo
  split
  · rfl
  · exact congrArg Prod.fst (zoneNotice_zoneReports _ p)

/-- The Changed Zone List of every controller after the notice to one. -/
theorem noticeTo_changedZones (b : Block) (p q : Port) :
    (vget (noticeTo zs b p).nv q).changedZones = (vget b.nv q).changedZones ++
      if q = p then (attachedZones b zs p).filter (fun z => !decide (z ∈ (vget b.nv q).changedZones)) else [] := by
  unfold noticeTo
  split
  next hnone => simp [List.isEmpty_iff.mp hnone]
  · refine (congrFun (congrArg Prod.snd (zoneNotice_zoneReports _ p)) q).trans ?_
    by_cases hq : q = p
    · subst hq
      simp [zoneReports, Block.onNv]
    · simp [zoneReports, Block.onNv, vget_vupd_other _ _ hq, hq]

theorem nsAttached_of_xl {b c : Block} (h : c.xl = b.xl) (p : Port) (nsid : Nat) : nsAttached c p nsid = nsAttached b p nsid := by
  unfold nsAttached nsFind
  rw [h]

theorem mem_noticeTo {z : Nat × Nat} {q : Port} (p : Port) (h : z ∈ (vget b.nv q).changedZones) :
    z ∈ (vget (noticeTo zs b p).nv q).changedZones := by
  rw [noticeTo_changedZones]
  exact List.mem_append_left _ h

theorem mem_noticeTo_same {z : Nat × Nat} {p : Port} (hz : z ∈ zs) (hatt : (nsAttached b p z.1).isSome = true) :
    z ∈ (vget (noticeTo zs b p).nv p).changedZones := by
  by_cases hold : z ∈ (vget b.nv p).changedZones
  · exact mem_noticeTo p hold
  · rw [noticeTo_changedZones, if_pos rfl]
    exact List.mem_append_right _ (by simp [attachedZones, hz, hatt, hold])

theorem mem_foldl_noticeTo {z : Nat × Nat} {p : Port} (ps : List Port) (h : z ∈ (vget b.nv p).changedZones) :
    z ∈ (vget (ps.foldl (noticeTo zs) b).nv p).changedZones :=
  List.foldlRecOn (motive := fun c : Block => z ∈ (vget c.nv p).changedZones) ps _ h (fun _ hc q _ => mem_noticeTo q hc)

/-- Each controller that is told lists the zones attached to it. -/
theorem foldl_noticeTo_lists {z : Nat × Nat} {p : Port} (hz : z ∈ zs) {ps : List Port} (hp : p ∈ ps)
    (hatt : (nsAttached b p z.1).isSome = true) : z ∈ (vget (ps.foldl (noticeTo zs) b).nv p).changedZones := by
  induction ps generalizing b with
  | nil => exact absurd hp List.not_mem_nil
  | cons q ps ih =>
    by_cases hq : p = q
    · subst hq
      exact mem_foldl_noticeTo ps (mem_noticeTo_same hz hatt)
    · refine ih ((List.mem_cons.mp hp).resolve_left hq) ?_
      rw [nsAttached_of_xl (noticeTo_xl b q)]
      exact hatt

theorem zoneChangedNotice_changed (h : noticeZones b ≠ []) : (zoneChangedNotice b).xl.changed = [] := by
  rw [zoneChangedNotice_eq h, foldl_keeps Block.xl (fun b p => noticeTo_xl b p)]
  rfl

theorem zoneChangedNotice_lists (h : noticeZones b ≠ []) {p : Port} {z : Nat × Nat} (hz : z ∈ noticeZones b)
    (hatt : (nsAttached b p z.1).isSome = true) : z ∈ (vget (zoneChangedNotice b).nv p).changedZones := by
  rw [zoneChangedNotice_eq h]
  exact foldl_noticeTo_lists hz (List.mem_finRange p) hatt

end Notice

/-! ### A solve with its sources read (R437, R438) -/

/-- What a solve that gives a sector comes to, by what the check track says: without one it stands unverified, and a failed check has the
sources read once more. -/
def solveEnd (b : Block) (l : RowLog) (x : Recon) (v : Nat) : Option Bool → Block
  | none => reconDone (b.bump .BP_RECON_UNVER 0) l x v
  | some true => reconDone b l x v
  | some false =>
    if x.repeated then
      reconFails ((b.bump .BP_RECON_FAIL 0).sepia 0x0903 (srcCC 0) (rowName b x).1 (rowName b x).2) x
    else readSources (putRecon b { x with repeated := true }) { x with repeated := true } false

section Solve

variable {b : Block} {id : Nat} {read : List (Nat × Nat)} {x : Recon} {l : RowLog}

theorem reconstructionSolve_solved {j : Nat} {sol : List (Nat × Nat)} {ok : Option Bool} (hfind : reconFind b id = some x)
    (hlog : ownerLog b x.owner = some l) (hread : x.sourcesLeft = 0) (hdata : dataTrackOf l x.row x.surf = some j)
    (hsol : solveRow b l x read = some (sol, ok)) :
    reconstructionSolve id read b = solveEnd b l x (((sol.find? (fun d => d.1 = j)).map (fun d => d.2)).getD 0) ok := by
  simp only [reconstructionSolve, hfind, hlog, decide_eq_true hread, Block.guard_true, hsol, hdata]
  match ok with
  | none => rfl
  | some true => rfl
  | some false => cases hrep : x.repeated <;> simp [solveEnd, hrep]

theorem reconstructionSolve_unsolved (hfind : reconFind b id = some x) (hlog : ownerLog b x.owner = some l)
    (hread : x.sourcesLeft = 0) (hsol : solveRow b l x read = none) : reconstructionSolve id read b = reconFails b x := by
  simp only [reconstructionSolve, hfind, hlog, decide_eq_true hread, Block.guard_true, hsol]

end Solve

/-! ### A zone of a Surface Retire rebuilt (R447 to R449) -/

section Rebuild

variable {b : Block} {z : Zone} {j : Job}

theorem zoneRebuildCommit_noSet (hjob : b.nvm.jobs.find? (fun j => j.type = 2 ∧ j.state = 2) = some j)
    (hzone : lowestZone (rebuildZones b) = some z) (hsets : wideSets b z.log.t = []) :
    zoneRebuildCommit z.nsid z.k b = endJob b j 5 := by
  simp only [zoneRebuildCommit, hjob, hzone, and_self, decide_true, Block.guard_true, hsets]

/-- A zone whose rows all lie on its base band set needs no extension. -/
theorem zoneRebuildCommit_base {base : Nat} {more : List Nat}
    (hjob : b.nvm.jobs.find? (fun j => j.type = 2 ∧ j.state = 2) = some j)
    (hzone : lowestZone (rebuildZones b) = some z) (hsets : wideSets b z.log.t = base :: more)
    (hrows : rebuiltRows z (retireSurfs b (retireMask b)).length ≤ b.cfgN .FMT_BAND_TRK) :
    zoneRebuildCommit z.nsid z.k b =
      countJob (bindRebuilt b z base (retireSurfs b (retireMask b)).length none) 2 1 (retireSurfs b (retireMask b)).length := by
  simp only [zoneRebuildCommit, hjob, hzone, and_self, decide_true, Block.guard_true, hsets, Nat.sub_eq_zero_of_le hrows, if_true]

end Rebuild

/-- Settles O20: a solve by what its check track says, the notice by the lists that it leaves, a rebuild by the room for it. -/
theorem parityCompletes : Obligations.ParityCompletes := by
  refine ⟨fun s id j read x l sol ok hfind hlog hread hdata hsol => ?_,
    fun s id read x l hfind hlog hread hsol => onBlock_eq (reconstructionSolve_unsolved hfind hlog hread hsol),
    fun s zs hzs hne => ?_,
    fun s z j hjob hzone hsets => onBlock_eq (zoneRebuildCommit_noSet hjob hzone hsets),
    fun s z j base more hjob hzone hsets hrows => onBlock_eq (zoneRebuildCommit_base hjob hzone hsets hrows)⟩
  · refine ⟨_, _, onBlock_eq (reconstructionSolve_solved hfind hlog hread hdata hsol), rfl, ?_, ?_, ?_, ?_⟩
    · rintro rfl
      rfl
    · rintro rfl
      rfl
    · rintro rfl hfirst
      simp [solveEnd, hfirst]
    · rintro rfl hrepeated
      simp [solveEnd, hrepeated]
  · subst hzs
    exact ⟨_, rfl, zoneChangedNotice_changed hne, fun p z hz hatt => zoneChangedNotice_lists hne hz hatt⟩

end Sys2Proof.Machine

namespace Sys2Proof.Machine

/-! ## The SRAM code: its checks, its encoder and what it detects (R681 to R683) -/

theorem foldl_xor_start (l : List Bool) (a b : Bool) : l.foldl xor (xor a b) = xor a (l.foldl xor b) := by
  induction l generalizing b with
  | nil => rfl
  | cons c l ih => rw [List.foldl_cons, List.foldl_cons, Bool.xor_assoc, ih]

/-- A check's sum may take its parity bits first or last. -/
theorem foldl_xor_parity_last (f : Nat → Bool) (l : List Nat) (x y z : Bool) :
    l.foldl (fun s c => xor s (f c)) (xor x (xor y z)) = (l.map f ++ [x, y, z]).foldl xor false := by
  have hstart := foldl_xor_start (l.map f) (xor x (xor y z)) false
  rw [Bool.xor_false, List.foldl_map] at hstart
  rw [hstart, List.foldl_append]
  generalize (l.map f).foldl xor false = s
  simp [Bool.xor_comm, Bool.xor_left_comm]

theorem sramSyndrome_row (w : Nat) (r : Fin 8) : (sramSyndrome w).getD r.val false = rowCheck w r.val := by
  have hr : r.val < ((List.range 8).map (rowCheck w)).length := by simp
  rw [sramSyndrome, List.getD_append _ _ _ _ hr]
  simp [List.getD_eq_getElem?_getD]

theorem sramSyndrome_col (w : Nat) (c : Fin 8) : (sramSyndrome w).getD (8 + c.val) false = colCheck w c.val := by
  rw [sramSyndrome, List.getD_append_right _ _ _ _ (by simp)]
  simp [List.getD_eq_getElem?_getD]

/-! ### The encoder: one value of the parity bits makes every check 0 (R681) -/

/-- A word as it is stored: the data below the 16 parity bits. -/
def sramWord (d : BitVec 64) (q : BitVec 16) : Nat := d.toNat + 2 ^ 64 * q.toNat

theorem sramWord_testBit (d : BitVec 64) (q : BitVec 16) (i : Nat) :
    (sramWord d q).testBit i = if i < 64 then d.getLsbD i else q.getLsbD (i - 64) := by
  rw [sramWord, Nat.add_comm, Nat.testBit_two_pow_mul_add _ d.isLt]
  rfl

theorem sramWord_testBit_p (d : BitVec 64) (q : BitVec 16) (k : Nat) : (sramWord d q).testBit (64 + k) = q.getLsbD k := by
  simp [sramWord_testBit]

theorem sramWord_testBit_q (d : BitVec 64) (q : BitVec 16) (k : Nat) : (sramWord d q).testBit (72 + k) = q.getLsbD (8 + k) := by
  rw [← sramWord_testBit_p d, ← Nat.add_assoc]

/-- Two stored words of the same data differ in their parity bits alone. -/
theorem sramWord_xor (d : BitVec 64) (p q : BitVec 16) : sramWord d p ^^^ sramWord d q = sramWord 0 (p ^^^ q) := by
  refine Nat.eq_of_testBit_eq (fun i => ?_)
  rw [Nat.testBit_xor, sramWord_testBit, sramWord_testBit, sramWord_testBit]
  split <;> simp

theorem foldl_xor_data_zero (q : BitVec 16) (l : List Nat) (f : Nat → Nat) (hf : ∀ i ∈ l, f i < 64) (x : Bool) :
    l.foldl (fun s i => xor s ((sramWord 0 q).testBit (f i))) x = x := by
  refine List.foldlRecOn (motive := fun s => s = x) _ _ rfl (fun s hs i hi => ?_)
  simp [sramWord_testBit, hf i hi, hs]

theorem rowCheck_parity (q : BitVec 16) (r : Fin 8) : rowCheck (sramWord 0 q) r.val =
    xor (q.getLsbD r.val) (xor (q.getLsbD (8 + (r + 6).val)) (q.getLsbD (8 + (r + 5).val))) := by
  rw [rowCheck, foldl_xor_data_zero q _ (fun c => 8 * r.val + c) (fun c hc => by have := List.mem_range.mp hc; omega)]
  rw [sramWord_testBit_p, sramWord_testBit_q, sramWord_testBit_q]
  rfl

theorem colCheck_parity (q : BitVec 16) (c : Fin 8) : colCheck (sramWord 0 q) c.val =
    xor (q.getLsbD (8 + c.val)) (xor (q.getLsbD c.val) (q.getLsbD (c + 7).val)) := by
  rw [colCheck, foldl_xor_data_zero q _ (fun r => 8 * r + c.val) (fun r hr => by have := List.mem_range.mp hr; omega)]
  rw [sramWord_testBit_q, sramWord_testBit_p, sramWord_testBit_p]
  rfl

/-- Parity bits that meet every check beside data of 0 are 0: a column's check gives its Q by two of the P, and the rows' checks then
tie each P to those two and four rows away. -/
theorem parity_zero {P Q : Fin 8 → Bool} (hrow : ∀ r, xor (P r) (xor (Q (r + 6)) (Q (r + 5))) = false)
    (hcol : ∀ c, xor (Q c) (xor (P c) (P (c + 7))) = false) : (∀ r, P r = false) ∧ ∀ c, Q c = false := by
  have hQ : ∀ c, Q c = xor (P c) (P (c + 7)) := fun c => by simpa using hcol c
  have hP : ∀ r, xor (P r) (xor (P (r + 6)) (P (r + 4))) = false := by
    intro r
    have h6 : r + 6 + 7 = r + 5 := by rw [add_assoc]; rfl
    have h5 : r + 5 + 7 = r + 4 := by rw [add_assoc]; rfl
    have h := hrow r
    rw [hQ, hQ, h6, h5] at h
    revert h
    cases P r <;> cases P (r + 6) <;> cases P (r + 5) <;> cases P (r + 4) <;> decide
  have hzero : ∀ r, P r = false := by
    intro r
    have back : ∀ i j k : Fin 8, i + j = k → r + i + j = r + k := fun i j k e => by rw [add_assoc, e]
    have h0 := hP r
    have h2 := hP (r + 2)
    have h4 := hP (r + 4)
    have h6 := hP (r + 6)
    rw [back 2 6 0 rfl, back 2 4 6 rfl, add_zero] at h2
    rw [back 4 6 2 rfl, back 4 4 0 rfl, add_zero] at h4
    rw [back 6 6 4 rfl, back 6 4 2 rfl] at h6
    revert h0 h2 h4 h6
    cases P r <;> cases P (r + 2) <;> cases P (r + 4) <;> cases P (r + 6) <;> decide
  exact ⟨hzero, fun c => by rw [hQ, hzero, hzero]; rfl⟩

theorem parity_eq_zero {q : BitVec 16} (h : sramSyndrome (sramWord 0 q) = List.replicate 16 false) : q = 0 := by
  have hcheck : ∀ k, (sramSyndrome (sramWord 0 q)).getD k false = false := fun k => by
    rw [h, List.getD_eq_getElem?_getD, List.getElem?_getD_replicate_default_eq]
  obtain ⟨hP, hQ⟩ := parity_zero (P := fun r => q.getLsbD r.val) (Q := fun c => q.getLsbD (8 + c.val))
    (fun r => by rw [← rowCheck_parity, ← sramSyndrome_row, hcheck])
    (fun c => by rw [← colCheck_parity, ← sramSyndrome_col, hcheck])
  refine BitVec.eq_of_getLsbD_eq (fun i hi => ?_)
  change q.getLsbD i = (0#16).getLsbD i
  rw [BitVec.getLsbD_zero]
  by_cases hr : i < 8
  · exact hP ⟨i, hr⟩
  · have := hQ ⟨i - 8, by omega⟩
    rwa [Nat.add_sub_cancel' (Nat.le_of_not_lt hr)] at this

theorem zipWith_xor_self (l : List Bool) : l.zipWith xor l = List.replicate l.length false := by
  induction l with
  | nil => rfl
  | cons x l ih => simp [List.replicate_succ]

/-- Stored words of the same data with the same checks are the same word. -/
theorem sramSyndrome_sramWord_inj (d : BitVec 64) {p q : BitVec 16}
    (h : sramSyndrome (sramWord d p) = sramSyndrome (sramWord d q)) : p = q := by
  have hzero : sramSyndrome (sramWord 0 (p ^^^ q)) = List.replicate 16 false := by
    rw [← sramWord_xor, sramSyndrome_xor, h, zipWith_xor_self, sramSyndrome_length]
  exact BitVec.xor_eq_zero_iff.mp (parity_eq_zero hzero)

/-- The checks of a stored word, as the parity bits set them. -/
def paritySyndrome (d : BitVec 64) (q : BitVec 16) : List.Vector Bool 16 := ⟨sramSyndrome (sramWord d q), rfl⟩

/-- There are as many values of the checks as of the parity bits, so that each is reached. -/
theorem paritySyndrome_surjective (d : BitVec 64) : Function.Surjective (paritySyndrome d) := by
  have hinj : Function.Injective (paritySyndrome d) := fun p q h => sramSyndrome_sramWord_inj d (congrArg Subtype.val h)
  have hcard : Nat.card (List.Vector Bool 16) = Nat.card (BitVec 16) := by
    rw [Nat.card_eq_fintype_card, card_vector, Fintype.card_bool, Nat.card_congr BitVec.equivFin.toEquiv, Nat.card_fin]
  exact (hinj.bijective_of_nat_card_le hcard.le).surjective

/-- The encoder of the SRAM code (R681). -/
theorem exists_unique_parity (d : BitVec 64) : ∃ q : BitVec 16, sramSyndrome (d.toNat + 2 ^ 64 * q.toNat) = List.replicate 16 false ∧
    ∀ q' : BitVec 16, sramSyndrome (d.toNat + 2 ^ 64 * q'.toNat) = List.replicate 16 false → q' = q := by
  obtain ⟨q, hq⟩ := paritySyndrome_surjective d ⟨List.replicate 16 false, rfl⟩
  have hzero : sramSyndrome (sramWord d q) = List.replicate 16 false := congrArg Subtype.val hq
  exact ⟨q, hzero, fun q' h => sramSyndrome_sramWord_inj d (h.trans hzero.symm)⟩

/-- Settles O48: the checks as sums of the bits that they cover, the encoder, and the syndromes of single bits by evaluation. -/
theorem sramEncoding : Obligations.SramEncoding := by
  refine ⟨?_, ?_, exists_unique_parity, ?_, ?_, ?_⟩
  · intro w r
    rw [sramSyndrome_row, rowCheck, foldl_xor_parity_last]
  · intro w c
    rw [sramSyndrome_col, colCheck, foldl_xor_parity_last]
  · decide +kernel
  · decide +kernel
  · decide +kernel

/-! ### Words with all checks 0 (R682, R683) -/

theorem zipWith_xor_false (l : List Bool) : (List.replicate l.length false).zipWith xor l = l := by
  induction l with
  | nil => rfl
  | cons x l ih => rw [List.length_cons, List.replicate_succ, List.zipWith_cons_cons, ih, Bool.false_xor]

theorem sramSyndrome_xor_of_zero {w : Nat} (h : sramSyndrome w = List.replicate 16 false) (e : Nat) :
    sramSyndrome (w ^^^ e) = sramSyndrome e := by
  rw [sramSyndrome_xor, h, ← sramSyndrome_length e, zipWith_xor_false]

/-- Settles O49: a word whose checks are 0 has the syndrome of its bad bits alone. -/
theorem sramCode : Obligations.SramCode := by
  refine ⟨?_, ?_⟩
  · intro w i h
    rw [sramSyndrome_xor_of_zero h, sramDecode_single]
  · intro w i j h hij
    rw [Nat.xor_assoc, sramSyndrome_xor_of_zero h, sramDecode_pair hij]

theorem sramDecode_ones : sramDecode (List.replicate 16 true) = .poisoned := by
  decide +kernel

theorem sramSyndrome_parity_inverted : sramSyndrome (65535 * 2 ^ 64) = List.replicate 16 true := by
  decide +kernel

/-- Settles O50: the inverted parity alone has every check at 1; a single error is corrected and a double one is uncorrectable, and
neither reads as poisoned. -/
theorem sramPoison : Obligations.SramPoison := by
  obtain ⟨hsingle, hpair⟩ := sramCode
  refine ⟨?_, ?_, ?_⟩
  · intro w h
    rw [sramSyndrome_xor_of_zero h, sramSyndrome_parity_inverted]
    exact ⟨rfl, sramDecode_ones⟩
  · intro w i h hones
    have hread := hsingle w i h
    rw [hones, sramDecode_ones] at hread
    cases hread
  · intro w i j h hij hones
    have hread := hpair w i j h hij
    rw [hones, sramDecode_ones] at hread
    cases hread

end Sys2Proof.Machine

namespace Sys2Proof.Machine

/-! ## The block as a whole -/

/-- Settles O51: `step_front` for the queue written out. -/
theorem stepRunsFront : Obligations.StepRunsFront := fun _ _ _ => step_front rfl

/-- Every command answers a next state and leaves the queue as it is. -/
theorem exec_next (c : Instr) (s : State) : ∃ t, exec c s = .next t ∧ t.pending = s.pending := by
  cases c <;> exact ⟨_, rfl, rfl⟩

theorem exec_goes (c : Instr) (s : State) :
    ∃ t, exec c s = .next t ∧ t.pending = s.pending ∧ (storesMemory c = false → t.mem = s.mem) := by
  cases h : storesMemory c with
  | false =>
    obtain ⟨t, ht, hp, hm⟩ := exec_of_storesMemory_false h s
    exact ⟨t, ht, hp, fun _ => hm⟩
  | true =>
    obtain ⟨t, ht, hp⟩ := exec_next c s
    exact ⟨t, ht, hp, nofun⟩

theorem step_goes (s : State) : Goes s := by
  unfold Goes
  cases hp : s.pending with
  | nil => exact ⟨_, step_idle hp⟩
  | cons c cs =>
    obtain ⟨t, ht, -⟩ := exec_next c { s with pending := cs }
    exact ⟨t, (step_front hp).trans ht⟩

/-- Settles O53: the commands that leave memory alone by `exec_of_storesMemory_false`, and each step by its queue. -/
theorem commandsGo : Obligations.CommandsGo := ⟨exec_goes, step_goes⟩

end Sys2Proof.Machine

namespace Sys2Proof.Machine

/-! ## The NAND store (R462, R466, R470, R473 to R482, R694) -/

section NandStore

variable {b : Block}

/-! ### Programs (R462, R472, R694) -/

theorem nandPageProgram_erased {role : Fin 7} {blk page : Nat} (hmay : mayProgram b blk (poolOf role) = true)
    (herased : knownErased (nandBlock b blk) page = true) (fails : Fin 16) (scan : Nat) :
    nandPageProgram role blk page fails scan none b = (aimed b blk page).foldl (programOne (poolOf role) fails.val)
      (putNand b blk { nandBlock b blk with ptr := page }) := by
  simp [nandPageProgram, hmay, herased]

theorem nandPageProgram_poisoned {role : Fin 7} {blk : Nat} (hmay : mayProgram b blk (poolOf role) = true) (page scan poison : Nat)
    (fails : Fin 16) :
    nandPageProgram role blk page fails scan (some poison) b = poisonSeen b .MEM_POISON_NAND 5 5 poison := by
  simp [nandPageProgram, hmay]

/-! ### Reads (R478 to R480) -/

/-- The block after a read of a die that its first try answers: the threshold offset that it took, and an erase suspended. -/
def readDirect (b : Block) (blk : Nat) (die : Fin 2) : Block :=
  b.onNs (fun s => { s with
    rdOffset := vupd s.rdOffset die (fun _ => readOffset b (nandBlock b blk) die.val)
    erases := vupd s.erases die (fun e => e.map (fun e => { e with suspended := true })) })

theorem nandPageRead_direct {blk slot errors : Nat} (more : List (Nat × Nat)) {die : Fin 2} (hdie : die.val = blkDie blk)
    (hidle : vget b.ns.erases die = none) (hgood : blkGood b blk = true) (hslot : slot < 8192)
    (herrors : errors < b.cfgN .NND_REFRESH_BE) :
    nandPageRead blk slot ((0, errors) :: more) b = readDirect b blk die := by
  have hmod : blkDie blk % 2 = die.val := hdie ▸ Nat.mod_eq_of_lt die.isLt
  have hfirst : (((0, errors) :: more).take (1 + b.cfgN .NND_RT_RETRY)).findIdx? (fun t => t.1 = 0) = some 0 := by
    rw [Nat.add_comm, List.take_succ_cons]
    rfl
  have hkept : ¬ (readDirect b blk die).cfgN .NND_REFRESH_BE ≤ errors := Nat.not_le.mpr herrors
  unfold nandPageRead
  simp only [hidle, hgood, hslot, decide_true, Bool.not_false, Bool.and_true, Block.guard_true, hfirst, Option.getD_some,
    ne_eq, not_true_eq_false, if_true, if_false, false_or, hmod]
  exact if_neg hkept

/-! ### Erases (R476, R482) -/

/-- The blocks of a die that an erase aimed at one block of each plane takes. -/
def eraseTakes (b : Block) (die : Fin 2) (i0 i1 i2 i3 : Nat) : List Nat :=
  (([i0, i1, i2, i3].zipIdx.filter (fun e => decide (e.1 < 348))).map (fun e => 1392 * die.val + 348 * e.2 + e.1)).filter (erasable b)

theorem nandErase_issued {die : Fin 2} (hidle : vget b.ns.erases die = none) {i0 i1 i2 i3 : Nat}
    (hsome : eraseTakes b die i0 i1 i2 i3 ≠ []) : nandErase die (.issue i0 i1 i2 i3) b =
      b.onNs (fun s => { s with erases := vupd s.erases die (fun _ => some ⟨eraseTakes b die i0 i1 i2 i3, false⟩) }) := by
  unfold nandErase
  rw [hidle]
  exact if_neg (fun h => hsome (List.isEmpty_iff.mp h))

theorem nandErase_ended {die : Fin 2} {e : NErase} (he : vget b.ns.erases die = some e) : nandErase die (.ended 0) b =
    e.blocks.foldl erasedBlock (b.onNs (fun s => { s with erases := vupd s.erases die (fun _ => none) })) := by
  have hpassed : ∀ n, bit 0 n = false := Nat.zero_testBit
  unfold nandErase
  simp [he, hpassed]

/-! ### Copies (R473 to R477, R479) -/

theorem gcStart_emptying {die : Fin 2} (hmay : mayCopy b die = true) {n : Nat} {ns : List Nat}
    (hscan : dieBlocks b die (fun x => x.scan) = n :: ns) : gcStart die b = copyBlocks b die .emptying [n] := by
  simp [gcStart, hmay, hscan]

theorem blockRefresh_due {die : Fin 2} (hmay : mayCopy b die = true) {n : Nat} {ns : List Nat}
    (hdue : dieBlocks b die (refreshDue b) = n :: ns) : blockRefresh die b = copyBlocks b die .refresh [n] := by
  simp [blockRefresh, hmay, hdue]

theorem wearLevelMove_cold {die : Fin 2} (hmay : mayCopy b die = true)
    (hspread : b.cfgN .NND_WL_SPREAD < (ecRange b).1 - (ecRange b).2) {n m : Nat}
    (hcold : leastBlk (fun n => (nandBlock b n).ec) (dieBlocks b die (fun x =>
      decide (x.wrote + 24 ≤ b.now / 3600000000) && x.slots.any (fun e => e.2.valid))) = some n)
    (hfree : leastBlk (fun m => 100000 - (nandBlock b m).ec) ((List.range 2784).filter (blkFree b)) = some m) :
    wearLevelMove die b = beginCopy (takeBlocks b (nandBlock b n).pool [m]) die .wear [n] [m] := by
  simp [wearLevelMove, hmay, hspread, hcold, hfree]

theorem gcCopyCommit_wear {die : Fin 2} {c : NCopy} (hc : dieCopy b die = some c) (hkind : c.kind = .wear) {errors : Nat}
    (herrors : errors < b.cfgN .NND_REFRESH_BE) : gcCopyCommit die errors b =
      (journalEntry (copySpent (c.moved.foldl moveEntry (b.onNs (fun x => { x with
        copies := x.copies.filter (fun d => d ≠ c) }))) c)).bump .NS_EVT_WLMOVE 0 := by
  simp [gcCopyCommit, hc, hkind, herrors]

/-- The block once a copy's target is known to have failed: the failure counted. -/
def targetFailed (b : Block) (programFailed : Bool) : Block :=
  if programFailed then (b.bump .NS_EVT_GCRETIRE 0).bump .NS_DEFECT_PROGFAIL 0 else b.bump .NS_EVT_GCRETIRE 0

theorem targetFailed_ns (b : Block) (pf : Bool) : (targetFailed b pf).ns = b.ns := by cases pf <;> rfl

theorem targetFailed_regsKept (b : Block) (pf : Bool) : regsKept [.NS_EVT_GCRETIRE, .NS_DEFECT_PROGFAIL] b (targetFailed b pf) := by
  cases pf <;> simp [targetFailed]

theorem targetFailed_count (b : Block) (pf : Bool) : (targetFailed b pf).get .NS_EVT_GCRETIRE 0 =
    min (b.get .NS_EVT_GCRETIRE 0 + 1) (Field.max .NS_EVT_GCRETIRE) := by
  cases pf
  · exact Block.get_bump b _ _ _
  · exact (Block.get_put_ne _ 0 0 _ (by decide) (by decide) (by decide)).trans (Block.get_bump b _ _ _)

theorem gcTargetFail_found {die : Fin 2} {plane : Fin 4} {c : NCopy} {x : Nat} (hc : dieCopy b die = some c)
    (hx : c.target.find? (fun n => decide (blkPlane n = plane.val)) = some x) (pf : Bool) : gcTargetFail die plane pf b =
      match leastBlk (fun n => (nandBlock (targetFailed b pf) n).ec) (planeFree (targetFailed b pf) (blkDie x) (blkPlane x)) with
      | some r => retireBlock (replaceTarget (targetFailed b pf) c x r) x
      | none => retireBlock (abandonCopy (targetFailed b pf) c) x := by
  unfold gcTargetFail
  rw [hc]
  dsimp only
  rw [hx]
  rfl

/-! ### The journal's checkpoints (R470) -/

theorem checkpointWrite_due (h : 64 * b.cfgN .NND_CKPT_MIB ≤ b.ns.jrnlPages ∨
    (b.mode = .run ∧ b.ns.ckptAt + 3600000000 ≤ b.now)) : checkpointWrite b = checkpoint b := by
  have hdue : (decide (64 * b.cfgN .NND_CKPT_MIB ≤ b.ns.jrnlPages) ||
      (decide (b.mode = .run) && decide (b.ns.ckptAt + 3600000000 ≤ b.now))) = true := by simpa using h
  rw [checkpointWrite, hdue, Block.guard_true]

end NandStore

/-- Settles O21: each command by its equation where its conditions hold. -/
theorem nandCompletes : Obligations.NandCompletes := by
  refine ⟨?_, ?_, ?_, ?_, ?_, ?_, ?_, ?_, ?_, ?_, ?_, ?_⟩
  · intro s role blk page scan fails hmay herased
    exact onBlock_eq (f := fun b => qrecAll (nandPageProgram role blk page fails scan none b))
      (congrArg qrecAll (nandPageProgram_erased hmay herased fails scan))
  · intro s role blk page scan poison fails hmay
    exact onBlock_eq (f := fun b => qrecAll (nandPageProgram role blk page fails scan (some poison) b))
      (congrArg qrecAll (nandPageProgram_poisoned hmay page scan poison fails))
  · intro s blk slot errors more die hdie hidle hgood hslot herrors
    exact ⟨_, onBlock_eq (nandPageRead_direct more hdie hidle hgood hslot herrors), rfl, rfl, vget_vupd_same _ _ _⟩
  · rintro s die i0 i1 i2 i3 ns hidle rfl hsome
    exact ⟨_, onBlock_eq (nandErase_issued hidle hsome), vget_vupd_same _ _ _, rfl⟩
  · intro s die e he
    exact ⟨_, _, onBlock_eq (nandErase_ended he), vget_vupd_same _ _ _, rfl⟩
  · intro s die n ns hmay hscan
    exact onBlock_eq (gcStart_emptying hmay hscan)
  · intro s die errors c hc hkind herrors
    exact ⟨_, onBlock_eq (gcCopyCommit_wear hc hkind herrors), rfl⟩
  · intro s die plane c x pf hc hx
    refine ⟨_, targetFailed s.blk pf, onBlock_eq (gcTargetFail_found hc hx pf), targetFailed_count _ _,
      targetFailed_regsKept _ _, targetFailed_ns _ _, ?_, ?_⟩
    · intro y hy
      dsimp only
      rw [hy]
    · intro hy
      dsimp only
      rw [hy]
  · intro s die n m hmay hspread hcold hfree
    exact onBlock_eq (wearLevelMove_cold hmay hspread hcold hfree)
  · intro s die n ns hmay hdue
    exact onBlock_eq (blockRefresh_due hmay hdue)
  · intro s h
    exact onBlock_eq (checkpointWrite_due h)
  · intro s h
    have hrun : reserveReplenish s.blk = replenish s.blk := by simp [reserveReplenish, h]
    exact ⟨_, rfl, hrun, reserveReplenish_regs _⟩

end Sys2Proof.Machine

namespace Sys2Proof.Machine

/-! ## What a port sends when it resumes (R514, R519)

The completions that were held and the reads that may be sent write the link's state, the tags and `followFields` alone. -/

/-- The register fields that a port's own traffic writes. -/
def trafficFields : List Field := .PX_TAGS_PEAK :: followFields

section Traffic

variable (b : Block) (p : Port)

theorem releaseHeld_regsKept : regsKept followFields b (releaseHeld b p) := by
  refine regsKept.trans (b := b.onNv p (fun c => { c with held := [] })) (by simp) ?_
  exact regsKept_foldl (fun b h => by simp) _ _

theorem issueRead_regsKept {b c : Block} {p : Port} {f : ReadFor} (h : issueRead b p f = some c) : regsKept trafficFields b c := by
  obtain ⟨t, -, rfl⟩ := Option.map_eq_some_iff.mp h
  refine (regsKept_putSat _ _ _ (by decide) (port_val_lt_256 p)).mpr ?_
  rw [regsKept_onPx]
  exact (touchLink_regsKept b p).mono (by decide)

theorem pumpCmd_regsKept (n : Nat) (b : Block) (c : Cmd) : regsKept trafficFields b (pumpCmd n b c) := by
  induction n generalizing b with
  | zero => exact regsKept_refl _ _
  | succ n ih =>
    unfold pumpCmd
    split
    · next d h => exact (issueRead_regsKept h).trans (ih d)
    · exact regsKept_refl _ _

theorem pumpReads_regsKept : regsKept trafficFields b (pumpReads b p) :=
  regsKept_foldl (fun b c => regsKept_ite b (pumpCmd_regsKept _ b c) (regsKept_refl _ b)) _ b

theorem resumePort_regsKept : regsKept trafficFields b (resumePort b p) :=
  ((releaseHeld_regsKept b p).mono (by decide)).trans (pumpReads_regsKept _ p)

end Traffic

/-! ## A link trained while its function is in D3hot (R497, R518) -/

/-- A port whose link may come up, with its function in D3hot. -/
def trainedInD3hot : State := { Tests.st153 with blk := Tests.st153.blk.put .PX_LINK_DSTATE 0 3 }

theorem trainedInD3hot_dstate : (linkUpL0 0 4 1 true true trainedInD3hot.blk).get .PX_LINK_DSTATE 0 = 3 := by decide +kernel

/-- Refutes O22: its first clause has every link that comes up find its function in D0, but training leaves the power state alone, and a
function in D3hot is still there when the port resumes. -/
theorem not_linkCompletes : ¬ Obligations.LinkCompletes := by
  rintro ⟨hup, -⟩
  obtain ⟨t, b, hexec, hblk, -, -, -, hd0, -⟩ := hup trainedInD3hot 0 4 1 true true (by decide +kernel) (by decide +kernel)
    (by decide +kernel) (by decide +kernel) (by decide +kernel) (by decide +kernel) (by decide) (by decide)
  have hkept : t.blk.get .PX_LINK_DSTATE 0 = 0 := by
    rw [hblk]
    exact (resumePort_regsKept b 0 _ 0 (by decide) (by decide)).trans hd0
  have hd3 : t.blk.get .PX_LINK_DSTATE 0 = 3 := by
    rw [← Host.Outcome.next.inj hexec]
    exact trainedInD3hot_dstate
  omega

end Sys2Proof.Machine

namespace Sys2Proof.Machine

/-! ## PCIe errors and the ends of reads (R509 to R513, R516, R517, R527) -/

section Aer

variable (b : Block) (p : Port)

@[simp] theorem bit_setBit_same (m n : Nat) : bit (setBit m n) n = true := by
  simp [bit, setBit, Nat.testBit_shiftLeft]

@[simp] theorem touchLink_nv : (touchLink b p).nv = b.nv := by
  unfold touchLink
  dsimp only
  split <;> rfl

theorem touchLink_out : (vget (touchLink b p).px p).out = (vget b.px p).out := touchLink_vget_px b p p PciPort.out (fun _ _ => rfl)

theorem touchLink_aerSeverity : aerSeverity (vget (touchLink b p).px p) = aerSeverity (vget b.px p) :=
  touchLink_vget_px b p p aerSeverity (fun _ _ => rfl)

/-! ### What an error leaves in AER (R516) -/

theorem aerUncorrectable_unc (n hdr : Nat) : bit (vget (aerUncorrectable b p n hdr).px p).aerUnc n = true := by
  simp [aerUncorrectable, Block.onPx, errDetected, aerStatus]

theorem aerCorrectable_cor (n : Nat) : (vget (aerCorrectable b p n).px p).aerCor = setBit (vget b.px p).aerCor n := by
  simp [aerCorrectable, Block.onPx, errDetected]

theorem aerAdvisory_unc (n hdr : Nat) : bit (vget (aerAdvisory b p n hdr).px p).aerUnc n = true := by
  unfold aerAdvisory
  split
  · exact aerUncorrectable_unc b p n hdr
  · simp [Block.onPx, errDetected, aerStatus]

theorem aerAdvisory_cor {n : Nat} (hdr : Nat) (h : bit (aerSeverity (vget b.px p)) n = false) :
    bit (vget (aerAdvisory b p n hdr).px p).aerCor 13 = true := by
  simp [aerAdvisory, h, Block.onPx, errDetected]

/-- An advisory error is logged at its port alone, in AER and Device Status. -/
theorem aerAdvisory_rest (n hdr : Nat) : (aerAdvisory b p n hdr).regs = b.regs ∧ (aerAdvisory b p n hdr).nv = b.nv ∧
    (aerAdvisory b p n hdr).nvm = b.nvm ∧
    (vget (aerAdvisory b p n hdr).px p).quarantine = (vget b.px p).quarantine := by
  unfold aerAdvisory
  split <;> simp [aerUncorrectable, Block.onPx, errDetected, aerStatus]

/-! ### A request refused (R527) -/

theorem refuseWindow_count (hdr : Nat) : (refuseWindow (touchLink b p) p hdr).get .PX_RXERR_UR p.val =
    min (b.get .PX_RXERR_UR p.val + 1) (Field.max .PX_RXERR_UR) := by
  obtain ⟨hregs, -⟩ := aerAdvisory_rest (touchLink b p) p 20 hdr
  have hget : (aerAdvisory (touchLink b p) p 20 hdr).get .PX_RXERR_UR p.val = b.get .PX_RXERR_UR p.val := by
    rw [Block.get, hregs]
    exact touchLink_get b p (by decide) (port_val_lt_256 p)
  rw [refuseWindow, Block.get_bump, hget]

theorem execMemoryRequestRefused_logged (s : State) (p : Port) (read : Bool) (hdr : Nat) :
    ∃ t, exec (.memoryRequestRefused p read hdr) s = .next t ∧ bit (vget t.blk.px p).aerUnc 20 = true ∧
      (bit (aerSeverity (vget s.blk.px p)) 20 = false → bit (vget t.blk.px p).aerCor 13 = true) ∧
      t.blk.sys.reply = (if read then .unsupportedRequest else .none) ∧
      t.blk.get .PX_RXERR_UR p.val = min (s.blk.get .PX_RXERR_UR p.val + 1) (Field.max .PX_RXERR_UR) ∧
      regsKept [.PX_RXERR_UR, .PX_LINK_STATE] s.blk t.blk ∧ t.mem = s.mem ∧ t.blk.nv = s.blk.nv ∧ t.blk.nvm = s.blk.nvm := by
  obtain ⟨-, hnv, hnvm, -⟩ := aerAdvisory_rest (touchLink s.blk p) p 20 hdr
  refine ⟨_, rfl, aerAdvisory_unc _ p 20 hdr, fun h => ?_, rfl, refuseWindow_count s.blk p hdr, by simp, rfl, ?_, ?_⟩
  · exact aerAdvisory_cor _ p hdr ((congrArg (bit · 20) (touchLink_aerSeverity s.blk p)).trans h)
  · exact hnv.trans (touchLink_nv _ _)
  · exact hnvm.trans (touchLink_nvm _ _)

end Aer

/-! ### The ends of reads (R509 to R513) -/

/-- The block once a read's time has passed: its tag in quarantine, logged and counted. -/
def timedOut (b : Block) (p : Port) (tag hdr : Nat) (o : OutRead) : Block :=
  (aerAdvisory ((endTag b p tag).onPx p (fun x => { x with quarantine := x.quarantine ++ [(tag, b.now + 2000 * o.tms)] })) p 14
    hdr).bump .PX_CTO_COUNT p.val

section Reads

variable {b : Block} {p : Port} {tag : Nat} {o : OutRead} (h : (vget b.px p).out.find? (fun o => o.tag = tag) = some o)

include h

theorem completionReceived_ok (hdr : Nat) : completionReceived p tag 0 false hdr b =
    pumpReads (readDone (endTag (touchLink b p) p tag) p o.for_) p := by
  rw [← touchLink_out] at h
  simp [completionReceived, h]

theorem completionReceived_failed {status : Fin 3} (hs : status ≠ 0) (poison : Bool) (hdr : Nat) :
    completionReceived p tag status poison hdr b =
      pumpReads (readFailed ((endTag (touchLink b p) p tag).bump .PX_RXERR_CPLERR p.val) p o.for_) p := by
  rw [← touchLink_out] at h
  simp [completionReceived, h, hs]

theorem completionTimeout_due (hdr : Nat) (ht : o.at_ + 1000 * o.tms ≤ b.now) :
    completionTimeout p tag hdr b = pumpReads (readFailed (timedOut b p tag hdr o) p o.for_) p := by
  simp only [completionTimeout, h, ht, decide_true, Block.guard_true]
  rfl

end Reads

theorem timedOut_quarantine (b : Block) (p : Port) (tag hdr : Nat) (o : OutRead) : (vget (timedOut b p tag hdr o).px p).quarantine =
    (vget b.px p).quarantine ++ [(tag, b.now + 2000 * o.tms)] := by
  obtain ⟨-, -, -, hq⟩ := aerAdvisory_rest
    ((endTag b p tag).onPx p (fun x => { x with quarantine := x.quarantine ++ [(tag, b.now + 2000 * o.tms)] })) p 14 hdr
  rw [timedOut, Block.bump_px, hq]
  simp [endTag, Block.onPx]

theorem timedOut_count (b : Block) (p : Port) (tag hdr : Nat) (o : OutRead) : (timedOut b p tag hdr o).get .PX_CTO_COUNT p.val =
    min (b.get .PX_CTO_COUNT p.val + 1) (Field.max .PX_CTO_COUNT) := by
  obtain ⟨hregs, -⟩ := aerAdvisory_rest
    ((endTag b p tag).onPx p (fun x => { x with quarantine := x.quarantine ++ [(tag, b.now + 2000 * o.tms)] })) p 14 hdr
  rw [timedOut, Block.get_bump, Block.get, hregs]
  rfl

/-- The block once a tag's quarantine has ended. -/
def tagFreed (b : Block) (p : Port) (tag : Nat) : Block :=
  endTag (b.onPx p (fun x => { x with
    quarantine := x.quarantine.filter (fun q => q.1 ≠ tag), discard := x.discard.filter (· ≠ tag) })) p tag

theorem tagFreed_quarantine (b : Block) (p : Port) (tag : Nat) :
    (vget (tagFreed b p tag).px p).quarantine = (vget b.px p).quarantine.filter (fun q => q.1 ≠ tag) := by
  simp [tagFreed, endTag, Block.onPx]

theorem tagQuarantineEnd_due {b : Block} {p : Port} {tag at_ : Nat} (h : (tag, at_) ∈ (vget b.px p).quarantine)
    (ht : at_ ≤ b.now) : tagQuarantineEnd p tag b = pumpReads (tagFreed b p tag) p := by
  have hdue : (vget b.px p).quarantine.any (fun q => decide (q.1 = tag ∧ q.2 ≤ b.now)) = true :=
    List.any_eq_true.mpr ⟨_, h, by simp [ht]⟩
  rw [tagQuarantineEnd, hdue, Block.guard_true]
  rfl

/-- Settles O24: the errors by what AER and their counts show, the ends of reads by their equations. -/
theorem transactionsComplete : Obligations.TransactionsComplete := by
  refine ⟨execMemoryRequestRefused_logged, ?_, ?_, ?_, ?_, ?_, ?_, ?_⟩
  · intro s p kind hdr
    exact ⟨_, rfl, aerUncorrectable_unc _ _ _ _, Block.get_bump _ _ _ _, by simp, rfl⟩
  · intro s p kind
    exact ⟨_, rfl, rfl, rfl, aerCorrectable_cor _ _ _⟩
  · intro s p rollover
    exact ⟨_, rfl, rfl, rfl, aerCorrectable_cor _ _ _⟩
  · intro s p tag hdr o h
    exact onBlock_eq (completionReceived_ok h hdr)
  · intro s p tag hdr status poison o h hs
    exact onBlock_eq (completionReceived_failed h hs poison hdr)
  · intro s p tag hdr o h ht
    exact ⟨_, timedOut s.blk p tag hdr o, onBlock_eq (completionTimeout_due h hdr ht), rfl, timedOut_quarantine _ _ _ _ _,
      aerAdvisory_unc _ _ _ _, timedOut_count _ _ _ _ _⟩
  · intro s p tag at_ h ht
    exact ⟨_, tagFreed s.blk p tag, onBlock_eq (tagQuarantineEnd_due h ht), rfl, tagFreed_quarantine _ _ _, rfl⟩

end Sys2Proof.Machine

namespace Sys2Proof.Machine

/-! ## Doorbells, fetches and coalescing (R512, R528, R529, R546, R552, R558) -/

/-- The first element that a test finds, changed so that the test still finds it. -/
theorem find_updFirst {α : Type} {t : α → Bool} {f : α → α} (hf : ∀ x, t x = true → t (f x) = true) (l : List α) :
    (updFirst t f l).find? t = (l.find? t).map f := by
  induction l with
  | nil => rfl
  | cons x l ih =>
    cases hx : t x with
    | true => simp [updFirst, hx, hf x hx]
    | false => simp [updFirst, hx, ih]

section Queues

variable {b : Block} {p : Port}

theorem sqFind_onSq {sq : Nat} {q : SubQueue} (h : sqFind (vget b.nv p) sq = some q) {f : SubQueue → SubQueue}
    (hf : ∀ x, (f x).qid = x.qid) : sqFind (vget (b.onSq p sq f).nv p) sq = some (f q) := by
  unfold sqFind at h ⊢
  rw [Block.onSq, Block.onNv, vget_vupd_same, find_updFirst (fun x hx => by simpa [hf] using hx), h]
  rfl

/-- A completion queue changed. -/
def onCq (b : Block) (p : Port) (cq : Nat) (f : CompQueue → CompQueue) : Block :=
  b.onNv p (fun c => { c with cqs := updFirst (fun x => x.qid = cq) f c.cqs })

theorem cqFind_onCq {cq : Nat} {q : CompQueue} (h : cqFind (vget b.nv p) cq = some q) {f : CompQueue → CompQueue}
    (hf : ∀ x, (f x).qid = x.qid) : cqFind (vget (onCq b p cq f).nv p) cq = some (f q) := by
  unfold cqFind at h ⊢
  rw [onCq, Block.onNv, vget_vupd_same, find_updFirst (fun x hx => by simpa [hf] using hx), h]
  rfl

/-! ### Fetches (R512, R529, R552) -/

theorem sqFetchRetry_due {sq : Nat} {q : SubQueue} (h : sqFind (vget b.nv p) sq = some q)
    (hdue : 0 < q.readFails ∧ q.readFails < 3 ∧ q.failAt + 1000 ≤ b.now)
    (hready : sqReady b p { q with readFails := 0 } = true) (hhalt : fetchHalted b p = false) :
    sqFetchRetry p sq b = sendFetch b p q (min q.failN (min (sqWaiting q) (q.size - q.head))) := by
  simp [sqFetchRetry, h, hdue, hready, hhalt]

/-- The block once arbitration has chosen a queue: its tokens spent, and the credits that the choice leaves. -/
def queueChosen (b : Block) (p : Port) (q : SubQueue) (cs : NMap Nat) : Block :=
  let c := b.onSq p q.qid (fun x => { x with
    tokens := sqTokens b q - 1000 * fetchSize b p q, tokenAt := b.now, throttled := false })
  c.onNv p (fun n => { n with credits := cs, lastServed := nset 0 n.lastServed (sqClass c p q) q.qid })

theorem queueChosen_credits (b : Block) (p : Port) (q : SubQueue) (cs : NMap Nat) :
    (vget (queueChosen b p q cs).nv p).credits = cs := by
  simp [queueChosen, Block.onNv]

theorem sqEntryFetch_chosen (hrdy : b.get .NV_CTL_RDY p.val = 1) (hhalt : fetchHalted b p = false) {q : SubQueue} {cs : NMap Nat}
    (h : arbitrate (markThrottled b p) p ((vget (markThrottled b p).nv p).sqs.filter (fun q =>
      sqReady (markThrottled b p) p q && decide (0 < fetchSize (markThrottled b p) p q) &&
        (q.cmb || (freeTag (markThrottled b p) p).isSome))) = some (q, cs)) :
    sqEntryFetch p b = sendFetch (queueChosen (markThrottled b p) p q cs) p q (fetchSize (markThrottled b p) p q) := by
  simp only [sqEntryFetch, hrdy, hhalt, decide_true, Bool.not_false, Bool.and_true, Block.guard_true, h]
  rfl

/-! ### Doorbells (R528, R558) -/

/-- A queue with n entries submitted up to a tail, which carry a stamp. -/
def submitted (value n stamp : Nat) (x : SubQueue) : SubQueue :=
  { x with tail := value, waiting := if n = 0 then x.waiting else x.waiting ++ [(stamp, n)] }

/-- The block after an accepted tail doorbell. -/
def tailMoved (b : Block) (p : Port) (sq value : Nat) (q : SubQueue) : Block :=
  let c := b.bump64 .NV_DBSEQ_LO_SEQ .NV_DBSEQ_HI_SEQ 0
  c.onSq p sq (submitted value ((value + q.size - q.tail) % q.size) (doorbellSeq c))

theorem sqTailDoorbell_accepted (hd : b.get .PX_LINK_DSTATE p.val ≠ 3) {sq value : Nat} {q : SubQueue}
    (h : sqFind (vget b.nv p) sq = some q) (hv : tailValid q value = true) :
    sqTailDoorbell p sq value b = tailMoved (touchLink b p) p sq value q := by
  rw [sqTailDoorbell, hostWrite_taken _ hd, touchLink_nv, h]
  dsimp only
  rw [hv]
  rfl

theorem bump64_rest (b : Block) (lo hi : Field) (i : Nat) : (b.bump64 lo hi i).nv = b.nv ∧ (b.bump64 lo hi i).nvm = b.nvm := by
  unfold Block.bump64
  dsimp only
  split <;> exact ⟨rfl, rfl⟩

theorem regsKept_bump64 {fs : List Field} (a b : Block) {lo hi : Field} {i : Nat} (hlo : lo ∈ fs) (hhi : hi ∈ fs) (hi256 : i < 256) :
    regsKept fs a (b.bump64 lo hi i) ↔ regsKept fs a b := by
  unfold Block.bump64
  dsimp only
  split <;> simp [hlo, hhi, hi256]

theorem doorbellSeq_tailMoved (b : Block) (p : Port) (sq value : Nat) (q : SubQueue) :
    doorbellSeq (tailMoved b p sq value q) = doorbellSeq (b.bump64 .NV_DBSEQ_LO_SEQ .NV_DBSEQ_HI_SEQ 0) := by
  simp only [doorbellSeq, tailMoved, Block.onSq, Block.get_onNv]

/-- The queue after an accepted tail doorbell, with the sequence that the doorbell has taken. -/
theorem tailMoved_find {sq : Nat} {q : SubQueue} (h : sqFind (vget b.nv p) sq = some q) (value : Nat) :
    sqFind (vget (tailMoved b p sq value q).nv p) sq =
      some (submitted value ((value + q.size - q.tail) % q.size) (doorbellSeq (tailMoved b p sq value q)) q) := by
  obtain ⟨hnv, -⟩ := bump64_rest b .NV_DBSEQ_LO_SEQ .NV_DBSEQ_HI_SEQ 0
  rw [doorbellSeq_tailMoved]
  refine sqFind_onSq ?_ (fun _ => rfl)
  rw [hnv]
  exact h

theorem tailMoved_frame (b : Block) (p : Port) (sq value : Nat) (q : SubQueue) :
    regsKept [.NV_DBSEQ_LO_SEQ, .NV_DBSEQ_HI_SEQ] b (tailMoved b p sq value q) ∧ (tailMoved b p sq value q).nvm = b.nvm := by
  obtain ⟨-, hnvm⟩ := bump64_rest b .NV_DBSEQ_LO_SEQ .NV_DBSEQ_HI_SEQ 0
  refine ⟨?_, hnvm⟩
  rw [tailMoved, Block.onSq, regsKept_onNv, regsKept_bump64 _ _ (by decide) (by decide) (by decide)]
  exact regsKept_refl _ b

/-- The doorbell of a queue that does not exist is counted; a controller that is not ready reports no event. -/
theorem noSuchQueue_notReady (hr : b.get .NV_CTL_RDY p.val ≠ 1) :
    noSuchQueue (touchLink b p) p = (touchLink b p).bump .PX_DB_NOQ p.val := by
  have hr' : ((touchLink b p).bump .PX_DB_NOQ p.val).get .NV_CTL_RDY p.val ≠ 1 := by
    rwa [Block.bump, Block.get_put_ne _ _ _ _ (port_val_lt_256 p) (port_val_lt_256 p) (by decide),
      touchLink_get b p (by decide) (port_val_lt_256 p)]
  exact if_neg hr'

theorem noQueue_counted (b : Block) (p : Port) : ((touchLink b p).bump .PX_DB_NOQ p.val).nv = b.nv ∧
    regsKept [.PX_DB_NOQ, .PX_LINK_STATE] b ((touchLink b p).bump .PX_DB_NOQ p.val) ∧
    ((touchLink b p).bump .PX_DB_NOQ p.val).get .PX_DB_NOQ p.val =
      min (b.get .PX_DB_NOQ p.val + 1) (Field.max .PX_DB_NOQ) := by
  refine ⟨touchLink_nv b p, by simp, ?_⟩
  rw [Block.get_bump, touchLink_get b p (by decide) (port_val_lt_256 p)]

theorem sqTailDoorbell_noQueue (hd : b.get .PX_LINK_DSTATE p.val ≠ 3) {sq : Nat} (h : sqFind (vget b.nv p) sq = none)
    (hr : b.get .NV_CTL_RDY p.val ≠ 1) (value : Nat) :
    sqTailDoorbell p sq value b = (touchLink b p).bump .PX_DB_NOQ p.val := by
  rw [sqTailDoorbell, hostWrite_taken _ hd, touchLink_nv, h]
  exact noSuchQueue_notReady hr

theorem cqHeadDoorbell_noQueue (hd : b.get .PX_LINK_DSTATE p.val ≠ 3) {cq : Nat} (h : cqFind (vget b.nv p) cq = none)
    (hr : b.get .NV_CTL_RDY p.val ≠ 1) (value : Nat) :
    cqHeadDoorbell p cq value b = (touchLink b p).bump .PX_DB_NOQ p.val := by
  rw [cqHeadDoorbell, hostWrite_taken _ hd, touchLink_nv, h]
  exact noSuchQueue_notReady hr

/-- The block once the host has consumed n entries of a completion queue. -/
def headMoved (b : Block) (p : Port) (cq value n : Nat) : Block :=
  onCq b p cq (fun x => { x with
    entries := x.entries.drop n, head := value, aggregated := min x.aggregated (x.entries.length - n) })

theorem cqHeadDoorbell_accepted (hd : b.get .PX_LINK_DSTATE p.val ≠ 3) {cq value : Nat} {q : CompQueue}
    (h : cqFind (vget b.nv p) cq = some q) (hv : value < q.size) (hn : (value + q.size - q.head) % q.size ≤ q.entries.length) :
    cqHeadDoorbell p cq value b =
      releaseHeld (settleIntx (headMoved (touchLink b p) p cq value ((value + q.size - q.head) % q.size)) p) p := by
  rw [cqHeadDoorbell, hostWrite_taken _ hd, touchLink_nv, h]
  exact if_neg (by omega)

/-! ### The coalescing timer (R546) -/

theorem interruptCoalescingTime_due {cq : Nat} {q : CompQueue} (h : cqFind (vget b.nv p) cq = some q) (ha : 0 < q.aggregated)
    (hr : hostReachable b p = true) : interruptCoalescingTime p cq b =
      (if q.irq then sendMessage (onCq b p cq (fun x => { x with aggregated := 0 })) p q.vector
        else onCq b p cq (fun x => { x with aggregated := 0 })) := by
  simp [interruptCoalescingTime, h, ha, hr, onCq]

end Queues

/-- Settles O25: each doorbell and fetch by its equation, with the queue found again after its change. -/
theorem queuesComplete : Obligations.QueuesComplete := by
  refine ⟨?_, ?_, ?_, ?_, ?_, ?_, ?_⟩
  · intro s p sq q h h0 h3 ht hready hhalt
    exact onBlock_eq (sqFetchRetry_due h ⟨h0, h3, ht⟩ hready hhalt)
  · intro s p q cs hrdy hhalt h
    exact ⟨_, _, onBlock_eq (sqEntryFetch_chosen hrdy hhalt h), rfl, queueChosen_credits _ _ _ _, rfl⟩
  · intro s p sq value q hd h hv
    obtain ⟨hregs, hnvm⟩ := tailMoved_frame (touchLink s.blk p) p sq value q
    have hfind : sqFind (vget (touchLink s.blk p).nv p) sq = some q := by
      rw [touchLink_nv]
      exact h
    exact ⟨{ s with blk := tailMoved (touchLink s.blk p) p sq value q }, _, onBlock_eq (sqTailDoorbell_accepted hd h hv),
      tailMoved_find hfind value, rfl, rfl, rfl, ((touchLink_regsKept _ _).mono (by decide)).trans (hregs.mono (by decide)),
      hnvm.trans (touchLink_nvm _ _), rfl⟩
  · intro s p cq value q hd h hv hn
    have hfind : cqFind (vget (touchLink s.blk p).nv p) cq = some q := by
      rw [touchLink_nv]
      exact h
    exact ⟨_, headMoved (touchLink s.blk p) p cq value ((value + q.size - q.head) % q.size), _,
      onBlock_eq (cqHeadDoorbell_accepted hd h hv hn), rfl,
      cqFind_onCq hfind (fun _ => rfl), rfl, rfl, rfl⟩
  · intro s p cq q h ha hr
    exact ⟨_, _, onBlock_eq (interruptCoalescingTime_due h ha hr), rfl, cqFind_onCq h (fun _ => rfl), rfl⟩
  · intro s p sq value hd h hr
    exact ⟨_, onBlock_eq (sqTailDoorbell_noQueue hd h hr value), noQueue_counted _ _⟩
  · intro s p cq value hd h hr
    exact ⟨_, onBlock_eq (cqHeadDoorbell_noQueue hd h hr value), noQueue_counted _ _⟩

end Sys2Proof.Machine

namespace Sys2Proof.Machine

/-! ## Queues made and taken away (R545, R546, R566, R571) -/

/-- A change that neither makes nor takes away what another test looks for leaves what that test finds. -/
theorem find_updFirst_other {α : Type} {t u : α → Bool} {f : α → α} (hf : ∀ x, t x = true → u x = false ∧ u (f x) = false)
    (l : List α) : (updFirst t f l).find? u = l.find? u := by
  induction l with
  | nil => rfl
  | cons x l ih =>
    cases hx : t x with
    | true =>
      obtain ⟨hu, huf⟩ := hf x hx
      simp [updFirst, hx, hu, huf]
    | false => simp [updFirst, hx, List.find?_cons, ih]

theorem sqFind_onSq_other (b : Block) (p : Port) {sq i : Nat} (hi : i ≠ sq) {f : SubQueue → SubQueue} (hf : ∀ x, (f x).qid = x.qid) :
    sqFind (vget (b.onSq p sq f).nv p) i = sqFind (vget b.nv p) i := by
  unfold sqFind
  rw [Block.onSq, Block.onNv, vget_vupd_same]
  refine find_updFirst_other (fun x hx => ?_) _
  have hx' : x.qid = sq := by simpa using hx
  simp [hf, hx', hi.symm]

section AdminQueues

variable {b : Block} {p : Port}

/-- Taking an admin command from its queue leaves the I/O queues alone. -/
theorem adminBlock_sqFind (b : Block) (p : Port) {qid : Nat} (h : qid ≠ 0) :
    sqFind (vget (adminBlock b p).nv p) qid = sqFind (vget b.nv p) qid := by
  unfold adminBlock adminStamp
  split
  · split
    · rfl
    · unfold takeStamp
      split
      · split
        · exact sqFind_onSq_other b p h (fun _ => rfl)
        · rfl
      · rfl
  · rfl

@[simp] theorem adminBlock_cqs (b : Block) (p : Port) : (vget (adminBlock b p).nv p).cqs = (vget b.nv p).cqs := by
  obtain ⟨sqs, h⟩ := adminBlock_ctrl b p
  rw [h]

theorem adminBlock_grantedQueues (b : Block) (p : Port) : grantedQueues (adminBlock b p) p = grantedQueues b p :=
  congrArg (Option.getD · (0, 0)) (adminBlock_granted b p)

theorem adminBlock_cqFind (b : Block) (p : Port) (qid : Nat) :
    cqFind (vget (adminBlock b p).nv p) qid = cqFind (vget b.nv p) qid :=
  congrArg (List.find? (fun x : CompQueue => decide (x.qid = qid))) (adminBlock_cqs b p)

theorem adminBlock_newSq (b : Block) (p : Port) (qid size cqid prio : Nat) (cmb : Bool) :
    newSq (adminBlock b p) qid size cqid prio cmb = newSq b qid size cqid prio cmb := by
  rw [← congrArg (fun c => newSq c qid size cqid prio cmb) (adminBlock_nvOnly b p)]
  rfl

theorem deleteSq_found (h : AdminTaken b p) (cid : Nat) {qid : Nat} (h0 : qid ≠ 0) (unfetched : List Nat) {q : SubQueue}
    (hq : sqFind (vget (adminBlock b p).nv p) qid = some q) : deleteSq p cid qid unfetched b =
      qrecAll ((adminBlock b p).onNv p (fun c => { c with
        qrec := c.qrec ++ [⟨cid, 2 ^ qid, 2 ^ 64, b.now, unfetched.map (fun c => (qid, c)), false, false, [], 0, some qid⟩] })) := by
  have hnow : (adminBlock b p).now = b.now := congrArg Sys.devTime (adminBlock_sys b p)
  rw [deleteSq, adminCommand_taken cid h]
  dsimp only
  rw [hq, hnow]
  exact if_neg (by simp [h0])

theorem deleteCq_free (h : AdminTaken b p) (cid : Nat) {qid : Nat} (h0 : qid ≠ 0) {q : CompQueue}
    (hq : cqFind (vget (adminBlock b p).nv p) qid = some q) (hfree : (vget (adminBlock b p).nv p).sqs.any (fun q => q.cq = qid) = false) :
    deleteCq p cid qid b =
      complete ((adminBlock b p).onNv p (fun c => { c with cqs := c.cqs.filter (fun q => q.qid ≠ qid) })) p 0 cid .success := by
  rw [deleteCq, adminCommand_taken cid h]
  simp [hq, h0, hfree]

theorem createSq_ok (h : AdminTaken b p) (cid : Nat) {qid size cqid : Nat} (prio : Fin 4) (h0 : 0 < qid)
    (hgrant : qid ≤ (grantedQueues b p).1) (hnew : sqFind (vget b.nv p) qid = none) (hmin : 2 ≤ size) (hmax : size ≤ 4096)
    (hc0 : cqid ≠ 0) {q : CompQueue} (hq : cqFind (vget b.nv p) cqid = some q) : createSq p cid qid size cqid prio true false b =
      complete ((adminBlock b p).onNv p (fun c => { c with sqs := c.sqs ++ [newSq b qid size cqid prio.val false] })) p 0 cid
        .success := by
  have hid : ¬ (qid = 0 ∨ (grantedQueues b p).1 < qid ∨ (none : Option SubQueue).isSome = true) := by simp; omega
  rw [createSq, adminCommand_taken cid h]
  simp only [adminBlock_grantedQueues, adminBlock_sqFind b p h0.ne', adminBlock_cqFind, adminBlock_newSq, hnew, hq, if_neg hid]
  simp [queueSizeOk, hmin, hmax, hc0]

theorem createCq_ok (h : AdminTaken b p) (cid : Nat) {qid size vector : Nat} (ien : Bool) (h0 : 0 < qid)
    (hgrant : qid ≤ (grantedQueues b p).2) (hnew : cqFind (vget b.nv p) qid = none) (hmin : 2 ≤ size) (hmax : size ≤ 4096)
    (hvector : vector ≤ 129) : createCq p cid qid size vector ien true b =
      complete ((adminBlock b p).onNv p (fun c => { c with cqs := c.cqs ++ [⟨qid, size, vector, ien, [], 0, 0, 0⟩] })) p 0 cid
        .success := by
  have hid : ¬ (qid = 0 ∨ (grantedQueues b p).2 < qid ∨ (none : Option CompQueue).isSome = true) := by simp; omega
  rw [createCq, adminCommand_taken cid h]
  simp only [adminBlock_grantedQueues, adminBlock_cqFind, hnew, if_neg hid]
  simp [queueSizeOk, hmin, hmax, Nat.not_lt.mpr hvector]

/-- A queue of a new identifier put last is found. -/
theorem sqFind_append {c : Ctrl} {q : SubQueue} (h : sqFind c q.qid = none) : sqFind { c with sqs := c.sqs ++ [q] } q.qid = some q := by
  unfold sqFind at h ⊢
  simp [List.find?_append, h]

theorem cqFind_append {c : Ctrl} {q : CompQueue} (h : cqFind c q.qid = none) : cqFind { c with cqs := c.cqs ++ [q] } q.qid = some q := by
  unfold cqFind at h ⊢
  simp [List.find?_append, h]

theorem cqFind_filter (c : Ctrl) (qid : Nat) : cqFind { c with cqs := c.cqs.filter (fun q => q.qid ≠ qid) } qid = none := by
  simp [cqFind]

end AdminQueues

/-- Settles O27: each command by its equation, with the queue found in the list that it leaves. -/
theorem queueAdminCompletes : Obligations.QueueAdminCompletes := by
  refine ⟨?_, ?_, ?_, ?_⟩
  · intro s p cid qid unfetched q h h0 hq
    exact onBlock_eq (deleteSq_found h cid h0 unfetched hq)
  · intro s p cid qid q h h0 hq hfree
    refine ⟨_, _, onBlock_eq (deleteCq_free h cid h0 hq hfree), rfl, ?_, adminBlock_regs _ _⟩
    rw [Block.onNv, vget_vupd_same]
    exact cqFind_filter _ _
  · intro s p cid qid size cqid prio q h h0 hgrant hnew hmin hmax hc0 hq
    refine ⟨_, _, onBlock_eq (createSq_ok h cid prio h0 hgrant hnew hmin hmax hc0 hq), rfl, adminBlock_regs _ _, ?_⟩
    rw [Block.onNv, vget_vupd_same]
    exact sqFind_append (q := newSq s.blk qid size cqid prio.val false) ((adminBlock_sqFind _ p h0.ne').trans hnew)
  · intro s p cid qid size vector ien h h0 hgrant hnew hmin hmax hvector
    refine ⟨_, _, onBlock_eq (createCq_ok h cid ien h0 hgrant hnew hmin hmax hvector), rfl, adminBlock_regs _ _, ?_⟩
    rw [Block.onNv, vget_vupd_same]
    exact cqFind_append (q := ⟨qid, size, vector, ien, [], 0, 0, 0⟩) ((adminBlock_cqFind _ p qid).trans hnew)

end Sys2Proof.Machine

namespace Sys2Proof.Machine

/-! ## Log pages, Identify, Abort, features read, events and queue recovery (R564 to R567, R571, R572, R602) -/

section ControllerCommands

variable {b : Block} {p : Port}

@[simp] theorem adminBlock_aers (b : Block) (p : Port) : (vget (adminBlock b p).nv p).aers = (vget b.nv p).aers := by
  obtain ⟨sqs, h⟩ := adminBlock_ctrl b p
  rw [h]

@[simp] theorem adminBlock_events (b : Block) (p : Port) : (vget (adminBlock b p).nv p).events = (vget b.nv p).events := by
  obtain ⟨sqs, h⟩ := adminBlock_ctrl b p
  rw [h]

theorem getLogPage_served (h : AdminTaken b p) (cid nsid : Nat) {lid off : Nat} (hlid : lid ∈ standardPages ∨ lid ∈ vendorPages)
    (hoff : off % 4 = 0) (len : Nat) (rae : Bool) : getLogPage p cid nsid lid off len rae b =
      complete (if rae then answerPage (adminBlock b p) p lid nsid off len
        else pageRead (answerPage (adminBlock b p) p lid nsid off len) p lid nsid) p 0 cid .success := by
  have ⟨_, _, _, hrec⟩ := h
  have hknown : ¬ (lid ∉ standardPages ∧ lid ∉ vendorPages) := by tauto
  rw [getLogPage, adminStamped_taken cid h]
  simp [if_neg hknown, hrec, hoff]

theorem identify_served (h : AdminTaken b p) (cid : Nat) {cns nsid csi cntid : Nat}
    (hdata : (identifyData (adminBlock b p) p cns nsid csi cntid).1 = .success) : identify p cid cns nsid csi cntid b =
      complete ((adminBlock b p).answer (.data (identifyData (adminBlock b p) p cns nsid csi cntid).2)) p 0 cid .success := by
  rw [identify, adminStamped_taken cid h]
  exact if_pos hdata

theorem abortCommand_found (h : AdminTaken b p) (cid : Nat) {sq target : Nat} (hsq : sq ≠ 0) {c : Cmd}
    (hc : cmdFind (adminBlock b p) p sq target = some c) (hpart : fullyReceived c = false) (hcid : c.cid < noCompletion) :
    abortCommand p cid sq target b = abortEnded (abortCmd (adminBlock b p) c .abortRequested) p cid := by
  rw [abortCommand, adminCommand_taken cid h]
  simp [hsq, hc, hpart, Nat.not_le.mpr hcid]

theorem abortCommand_gone (h : AdminTaken b p) (cid : Nat) {sq target : Nat} (hsq : sq ≠ 0)
    (hc : cmdFind (adminBlock b p) p sq target = none) : abortCommand p cid sq target b =
      complete ((adminBlock b p).bump .NV_ABORT_COUNT p.val) p 0 cid .success 1 := by
  rw [abortCommand, adminCommand_taken cid h]
  simp [hsq, hc, abortNot]

theorem getFeatures_current (h : AdminTaken b p) (cid : Nat) {fid : Nat} (sel : Nat) (hknown : supportedFeature fid = true)
    (hfid : fid ≠ 0x04) (hns : namespaceFeature fid = false) : getFeatures p cid fid sel 0 b =
      complete ((adminBlock b p).answer (featureData (adminBlock b p) p fid)) p 0 cid .success
        (featureDword (adminBlock b p) p fid sel) := by
  rw [getFeatures, adminCommand_taken cid h]
  simp [hknown, hfid, hns]

theorem asyncRequest_held (h : AdminTaken b p) (cid : Nat) (hroom : (vget b.nv p).aers.length < 8) (hev : (vget b.nv p).events = []) :
    asyncRequest p cid b = (adminBlock b p).onNv p (fun c => { c with aers := c.aers ++ [cid], events := [] }) := by
  rw [asyncRequest, adminCommand_taken cid h]
  simp [Nat.not_le.mpr hroom, hev]

theorem asyncRequest_full (h : AdminTaken b p) (cid : Nat) (hfull : 8 ≤ (vget b.nv p).aers.length) :
    asyncRequest p cid b = complete (adminBlock b p) p 0 cid .asyncLimit := by
  rw [asyncRequest, adminCommand_taken cid h]
  simp [hfull]

theorem queueRecovery_taken (h : AdminTaken b p) (cid : Nat) {mask : Nat} (hmask : maskOk (adminBlock b p) p mask = true)
    (unfetched : List (Nat × Nat)) : queueRecovery p cid mask unfetched b =
      qrecAll ((adminBlock b p).onNv p (fun c => { c with
        qrec := c.qrec ++ [⟨cid, mask % 2 ^ 128, (adminStamp b p).1, b.now, unfetched, false, false, [], 0, none⟩] })) := by
  have hnow : (adminBlock b p).now = b.now := congrArg Sys.devTime (adminBlock_sys b p)
  rw [queueRecovery, adminStamped_taken cid h]
  dsimp only
  rw [hmask, hnow]
  rfl

theorem queueRecovery_refused (h : AdminTaken b p) (cid : Nat) {mask : Nat} (hmask : maskOk (adminBlock b p) p mask = false)
    (unfetched : List (Nat × Nat)) : queueRecovery p cid mask unfetched b = complete (adminBlock b p) p 0 cid .invalidField := by
  rw [queueRecovery, adminStamped_taken cid h]
  dsimp only
  rw [hmask]
  rfl

/-- A mask of 0, with bit 0, or naming a queue that does not exist is no valid one (R565). -/
theorem maskOk_eq_false {mask : Nat} (h : mask % 2 ^ 128 = 0 ∨ mask.testBit 0 = true ∨
    ∃ q ∈ List.range 128, mask.testBit q = true ∧ sqFind (vget b.nv p) q = none) : maskOk b p mask = false := by
  refine Bool.eq_false_iff.mpr (fun hok => ?_)
  unfold maskOk at hok
  obtain ⟨hhead, hqueues⟩ := (Bool.and_eq_true _ _).mp hok
  obtain ⟨hzero, hadmin⟩ := (Bool.and_eq_true _ _).mp hhead
  rcases h with h | h | ⟨q, hq, hbit, hnone⟩
  · exact of_decide_eq_true hzero h
  · simp [bit, h] at hadmin
  · have := List.all_eq_true.mp hqueues q hq
    simp [bit, hbit, hnone] at this

/-- Queues that are missing before an admin command is taken are missing after it; the admin queue's bit is invalid by itself. -/
theorem maskOk_adminBlock_eq_false {mask : Nat} (h : mask % 2 ^ 128 = 0 ∨ mask.testBit 0 = true ∨
    ∃ q ∈ List.range 128, mask.testBit q = true ∧ sqFind (vget b.nv p) q = none) : maskOk (adminBlock b p) p mask = false := by
  refine maskOk_eq_false ?_
  rcases h with h | h | ⟨q, hq, hbit, hnone⟩
  · exact .inl h
  · exact .inr (.inl h)
  · by_cases h0 : q = 0
    · exact .inr (.inl (h0 ▸ hbit))
    · exact .inr (.inr ⟨q, hq, hbit, (adminBlock_sqFind b p h0).trans hnone⟩)

end ControllerCommands

/-- Settles O28: each command by its equation, and an invalid mask by `maskOk_eq_false`. -/
theorem controllerCommandsComplete : Obligations.ControllerCommandsComplete := by
  refine ⟨?_, ?_, ?_, ?_, ?_, ?_, ?_, ?_, ?_⟩
  · intro s p cid nsid lid off len rae h hlid hoff
    exact onBlock_eq (getLogPage_served h cid nsid hlid hoff len rae)
  · intro s p cid cns nsid csi cntid h hdata
    exact onBlock_eq (identify_served h cid hdata)
  · intro s p cid sq target c h hsq hc hpart hcid
    exact onBlock_eq (abortCommand_found h cid hsq hc hpart hcid)
  · intro s p cid sq target h hsq hc
    exact onBlock_eq (abortCommand_gone h cid hsq hc)
  · intro s p cid fid sel h hknown hfid hns
    exact onBlock_eq (getFeatures_current h cid sel hknown hfid hns)
  · intro s p cid h hroom hev
    refine ⟨_, onBlock_eq (asyncRequest_held h cid hroom hev), ?_, adminBlock_regs _ _, adminBlock_nvm _ _, rfl⟩
    simp [Block.onNv]
  · intro s p cid h hfull
    exact onBlock_eq (asyncRequest_full h cid hfull)
  · intro s p cid mask unfetched h hmask
    exact onBlock_eq (queueRecovery_taken h cid hmask unfetched)
  · intro s p cid mask unfetched h hmask
    exact onBlock_eq (queueRecovery_refused h cid (maskOk_adminBlock_eq_false hmask) unfetched)

end Sys2Proof.Machine

namespace Sys2Proof.Machine

/-! ## Reservations, zone management and the Ordering Fence (R385 to R387, R443, R557 to R563, R570, R585, R588) -/

section ZoneManagement

variable {b : Block} {p : Port} {sq cid nsid : Nat} {n : Namespace}

/-- A zone action on all zones, or on one that begins at its address, enters execution (R585). -/
theorem zoneSend_checked (h : IoTaken b p sq cid nsid n) (act : Nat) (hzoned : n.zoned = true) {slba : Nat} {all : Bool}
    (hzone : all = true ∨ slba < n.size ∧ slba % zoneSize = 0) : zoneSend act p sq cid nsid slba all b =
      enter (ioBlock b p sq) (newCmd (ioBlock b p sq) p sq cid (ioStamp b p sq) (.zone act) nsid slba (if all then 0 else 1)) := by
  have hrange : (!all && decide (n.size ≤ slba)) = false := by
    rcases hzone with hall | ⟨hin, -⟩
    · simp [hall]
    · simp [hin]
  have hstart : (!all && decide (slba % zoneSize ≠ 0)) = false := by
    rcases hzone with hall | ⟨-, hat⟩
    · simp [hall]
    · simp [hat]
  rw [zoneSend, ioCommand_taken h, orElse_passed (by simp [hzoned]), orElse_passed hrange, orElse_passed hstart]

theorem reportZones_checked (h : IoTaken b p sq cid nsid n) (hzoned : n.zoned = true) {slba option : Nat} (hin : slba < n.size)
    (hoption : option ≤ 7) (part : Bool) (room : Nat) : reportZones p sq cid nsid slba option part room b =
      instantIo (ioBlock b p sq) p sq cid nsid 5 [slba, option, if part then 1 else 0, room] (ioStamp b p sq) := by
  rw [reportZones, ioCommand_taken h, orElse_passed (by simp [hzoned]), orElse_passed (by simp [hin]),
    orElse_passed (by simp [hoption])]

end ZoneManagement

/-- An I/O command whose meaning is one function of what it is taken with. -/
theorem onBlock_ioCommand {s : State} {p : Port} {sq cid nsid : Nat} {n : Namespace} (h : IoTaken s.blk p sq cid nsid n)
    (f : Block → Nat → Namespace → Block) :
    s.onBlock (fun b => ioCommand b p sq cid nsid f) = .next { s with blk := f (ioBlock s.blk p sq) (ioStamp s.blk p sq) n } :=
  onBlock_eq (f := fun b => ioCommand b p sq cid nsid f) (ioCommand_taken h f)

/-- Settles O36: each command that is taken does what it is made of, the zone actions through `zoneSend`. -/
theorem reservationsAndZonesComplete : Obligations.ReservationsAndZonesComplete := by
  refine ⟨?_, ?_, ?_, ?_, ?_, ?_, ?_, ?_, ?_, ?_, ?_, ?_, ?_⟩
  · intro s p sq cid nsid n action ignore cur new change h
    exact onBlock_ioCommand h _
  · intro s p sq cid nsid n h
    exact onBlock_ioCommand h _
  · intro s p sq cid nsid n preempt ignore cur prKey kind h
    exact onBlock_ioCommand h _
  · intro s p sq cid nsid n ignore cur prKey kind h
    exact onBlock_ioCommand h _
  · intro s p sq cid nsid n action ignore cur kind h
    exact onBlock_ioCommand h _
  · intro s p sq cid nsid n slba all h hzoned hzone
    exact onBlock_eq (zoneSend_checked h 1 hzoned hzone)
  · intro s p sq cid nsid n slba all h hzoned hzone
    exact onBlock_eq (zoneSend_checked h 2 hzoned hzone)
  · intro s p sq cid nsid n slba all h hzoned hzone
    exact onBlock_eq (zoneSend_checked h 3 hzoned hzone)
  · intro s p sq cid nsid n slba all h hzoned hzone
    exact onBlock_eq (zoneSend_checked h 4 hzoned hzone)
  · intro s p sq cid nsid n slba all h hzoned hzone
    exact onBlock_eq (zoneSend_checked h 5 hzoned hzone)
  · intro s p sq cid nsid n h
    exact onBlock_ioCommand h _
  · intro s p sq cid nsid n h
    exact onBlock_ioCommand h _
  · intro s p sq cid nsid n slba option room part h hzoned hin hoption
    exact onBlock_eq (reportZones_checked h hzoned hin hoption part room)

/-! ### The Ordering Fence (R557 to R563) -/

/-- A fence is taken: its identifier is free, and fewer than 64 fences are in execution. -/
abbrev FenceTaken (b : Block) (p : Port) (sq cid : Nat) : Prop :=
  sq ≠ 0 ∧ queueLive b p sq = true ∧ linkEnginesStopped b = false ∧ mayTake b p sq = true ∧
    (b.nvm.cmds.filter (fun c => c.kind = .fence)).length < 64 ∧ cmdFind (ioBlock b p sq) p sq cid = none ∧
    (ioBlock b p sq).boot.recovery = false

/-- A fence counting the commands that it waits for. -/
def countedFence (b : Block) (p : Port) (sq cid nsid stamp : Nat) : Cmd :=
  { newCmd b p sq cid stamp .fence nsid 0 0 with
    waited := (b.nvm.cmds.filter (fun c => fenceConcerns b (newCmd b p sq cid stamp .fence nsid 0 0) c.nsid &&
      decide (c.stamp ≤ stamp))).length }

section Fence

variable {b : Block} {p : Port} {sq cid : Nat}

theorem orderingFence_taken (h : FenceTaken b p sq cid) (nsid reserved : Nat) : orderingFence p sq cid nsid reserved b =
    orElse (ioBlock b p sq) p sq cid (decide (reserved ≠ 0)) .invalidField (fun c =>
      orElse c p sq cid (decide (nsid ≠ 0xFFFFFFFF) && (nsAttached c p nsid).isNone) .invalidNamespace (fun d =>
        enter d (countedFence d p sq cid nsid (ioStamp b p sq)))) := by
  obtain ⟨hsq, hlive, hstop, htake, hroom, hfree, hrec⟩ := h
  have hguard : (decide (sq ≠ 0) && queueLive b p sq && !linkEnginesStopped b && mayTake b p sq &&
      decide ((b.nvm.cmds.filter (fun c => c.kind = .fence)).length < 64)) = true := by
    simp [hsq, hlive, hstop, htake, hroom]
  rw [orderingFence, hguard, Block.guard_true]
  exact (orElse_passed (by rw [← ioBlock, hfree]; rfl) _ _).trans (orElse_passed hrec _ _)

theorem orderingFence_entered (h : FenceTaken b p sq cid) {nsid : Nat}
    (hns : nsid = 0xFFFFFFFF ∨ (nsAttached (ioBlock b p sq) p nsid).isSome = true) : orderingFence p sq cid nsid 0 b =
      enter (ioBlock b p sq) (countedFence (ioBlock b p sq) p sq cid nsid (ioStamp b p sq)) := by
  have hknown : (decide (nsid ≠ 0xFFFFFFFF) && (nsAttached (ioBlock b p sq) p nsid).isNone) = false := by
    rcases hns with hall | hatt
    · simp [hall]
    · rw [Option.isNone_eq_false_iff.mpr hatt, Bool.and_false]
  rw [orderingFence_taken h, orElse_passed (by simp), orElse_passed hknown]

theorem orderingFence_reserved (h : FenceTaken b p sq cid) (nsid : Nat) {reserved : Nat} (hr : reserved ≠ 0) :
    orderingFence p sq cid nsid reserved b = complete (ioBlock b p sq) p sq cid .invalidField := by
  rw [orderingFence_taken h]
  exact if_pos (decide_eq_true hr)

theorem fenceComplete_ready {f : Cmd} (hf : cmdFind b p sq cid = some f) (hkind : f.kind = .fence) (hphase : f.phase = .waiting)
    (hready : fenceReady b f = true) : fenceComplete p sq cid b =
      releaseFenced (finishCmd (b.bump .NV_FENCE_DONE p.val) f .success (min f.waited 0xFFFFFFFF)) := by
  simp [fenceComplete, hf, hkind, hphase, hready]

/-- A command of the fence's namespace that has a lower stamp keeps the fence waiting. -/
theorem fenceReady_eq_false {f c : Cmd} (hc : c ∈ b.nvm.cmds) (hne : sameCmd c f = false) (hstamp : c.stamp < f.stamp)
    (hns : c.nsid = f.nsid) : fenceReady b f = false := by
  have hany : b.nvm.cmds.any (fun c => !sameCmd c f && fenceConcerns b f c.nsid && isBefore b c f) = true :=
    List.any_eq_true.mpr ⟨c, hc, by simp [hne, fenceConcerns, isBefore, hstamp, hns]⟩
  rw [fenceReady, hany]
  rfl

theorem fenceComplete_waits {f c : Cmd} (hf : cmdFind b p sq cid = some f) (hc : c ∈ b.nvm.cmds) (hne : sameCmd c f = false)
    (hstamp : c.stamp < f.stamp) (hns : c.nsid = f.nsid) : fenceComplete p sq cid b = b := by
  simp [fenceComplete, hf, fenceReady_eq_false hc hne hstamp hns]

end Fence

/-- Settles O37: a fence that is taken by `orderingFence_taken`, its completion by what is before it. -/
theorem fencesComplete : Obligations.FencesComplete := by
  refine ⟨?_, ?_, ?_, ?_⟩
  · intro s p sq cid nsid hsq hlive hstop htake hroom hfree hrec hns
    exact onBlock_eq (orderingFence_entered ⟨hsq, hlive, hstop, htake, hroom, hfree, hrec⟩ hns)
  · intro s p sq cid nsid reserved hsq hlive hstop htake hroom hfree hrec hr
    exact onBlock_eq (orderingFence_reserved ⟨hsq, hlive, hstop, htake, hroom, hfree, hrec⟩ nsid hr)
  · intro s p sq cid f hf hkind hphase hready
    exact onBlock_eq (fenceComplete_ready hf hkind hphase hready)
  · intro s p sq cid f c hf hc hne hstamp hns
    exact onBlock_eq (fenceComplete_waits hf hc hne hstamp hns)

end Sys2Proof.Machine

namespace Sys2Proof.Machine

/-! ## The slot that a job takes (R598) -/

theorem earliestEnded_mem : ∀ {l : List Job} {j : Job}, earliestEnded l = some j → j ∈ l
  | [], _, h => nomatch h
  | i :: l, j, h => by
    unfold earliestEnded at h
    split at h
    · next k hk =>
      split at h
      · obtain rfl := Option.some.inj h
        exact List.mem_cons_of_mem i (earliestEnded_mem hk)
      · exact Option.some.inj h ▸ List.mem_cons_self
    · exact Option.some.inj h ▸ List.mem_cons_self

/-- The slot taken is the first that never held a job, or that of a job that has ended, with the next generation. -/
theorem takeSlot_cases {b : Block} {slot gen : Nat} (h : takeSlot b = some (slot, gen)) :
    (slot < 64 ∧ slotJob b slot = none ∧ gen = 1) ∨
      ∃ j ∈ b.nvm.jobs, j.state = 4 ∧ j.slot = slot ∧ gen = j.gen % 65535 + 1 := by
  unfold takeSlot at h
  dsimp only at h
  split at h
  · next n hn =>
    have hfree := List.find?_some hn
    have hin := List.mem_of_find?_eq_some hn
    obtain ⟨rfl, rfl⟩ := Prod.mk.inj (Option.some.inj h)
    exact .inl ⟨List.mem_range.mp hin, by simpa using hfree, rfl⟩
  · refine .inr ?_
    split at h
    · next j hj =>
      obtain ⟨rfl, rfl⟩ := Prod.mk.inj (Option.some.inj h)
      obtain ⟨hin, hstate⟩ := List.mem_filter.mp (List.mem_of_mem_filter (earliestEnded_mem hj))
      exact ⟨j, hin, of_decide_eq_true hstate, rfl, rfl⟩
    · obtain ⟨j, hj, he⟩ := Option.map_eq_some_iff.mp h
      obtain ⟨rfl, rfl⟩ := Prod.mk.inj he
      obtain ⟨hin, hstate⟩ := List.mem_filter.mp (earliestEnded_mem hj)
      exact ⟨j, hin, of_decide_eq_true hstate, rfl, rfl⟩

/-- The job that Start Job puts into its slot. -/
def queuedJob (b : Block) (p : Port) (type nsid : Nat) (params : List Nat) (slot gen : Nat) : Job :=
  { slot := slot, gen := gen, type := type, state := 1, result := 0, ctrl := p, start := b.now, stop := 0, nsid := nsid
    params := params, progress := 0, countA := 0, countB := 0, retrieved := false }

theorem queueJob_jobs (b : Block) (p : Port) (type nsid : Nat) (params : List Nat) (slot gen : Nat) :
    (queueJob b p type nsid params slot gen).nvm.jobs =
      b.nvm.jobs.filter (fun x => x.slot ≠ slot) ++ [queuedJob b p type nsid params slot gen] := rfl

@[simp] theorem queuedJob_slot (b : Block) (p : Port) (type nsid : Nat) (params : List Nat) (slot gen : Nat) :
    (queuedJob b p type nsid params slot gen).slot = slot := rfl

/-- A job queued is the last one of its slot. -/
theorem slotJob_queueJob_same (b : Block) (p : Port) (type nsid : Nat) (params : List Nat) (slot gen : Nat) :
    slotJob (queueJob b p type nsid params slot gen) slot = some (queuedJob b p type nsid params slot gen) := by
  have hgone : (b.nvm.jobs.filter (fun x => x.slot ≠ slot)).find? (fun j => j.slot = slot) = none := by simp
  rw [slotJob, queueJob_jobs, List.find?_append, hgone]
  simp

/-- A job queued leaves the other slots alone. -/
theorem slotJob_queueJob_other (b : Block) (p : Port) (type nsid : Nat) (params : List Nat) {slot k : Nat} (gen : Nat) (h : k ≠ slot) :
    slotJob (queueJob b p type nsid params slot gen) k = slotJob b k := by
  have hkept : (b.nvm.jobs.filter (fun x => x.slot ≠ slot)).find? (fun j => j.slot = k) = b.nvm.jobs.find? (fun j => j.slot = k) := by
    rw [List.find?_filter]
    congr 1
    funext j
    by_cases hj : j.slot = k <;> simp [hj, h]
  rw [slotJob, slotJob, queueJob_jobs, List.find?_append, hkept]
  simp [h.symm]

/-- Settles O33: the slot by `takeSlot_cases`, and what a queued job leaves of the slots. -/
theorem jobSlots : Obligations.JobSlots := by
  intro b p type nsid params slot gen hslots h
  have hjob : ∃ j, slotJob (queueJob b p type nsid params slot gen) slot = some j ∧ j.state = 1 ∧ j.gen = gen ∧ j.type = type ∧
      j.ctrl = p := ⟨_, slotJob_queueJob_same b p type nsid params slot gen, rfl, rfl, rfl, rfl⟩
  have hother := fun k (hk : k ≠ slot) => slotJob_queueJob_other b p type nsid params gen hk
  rcases takeSlot_cases h with ⟨hlt, hnone, rfl⟩ | ⟨j, hin, hended, rfl, rfl⟩
  · exact ⟨hlt, le_refl 1, by decide, .inl ⟨hnone, rfl⟩, hjob, hother⟩
  · have hgen : j.gen % 65535 < 65535 := Nat.mod_lt _ (by decide)
    exact ⟨hslots j hin, by omega, by omega, .inr ⟨j, hin, rfl, hended⟩, hjob, hother⟩

end Sys2Proof.Machine

namespace Sys2Proof.Machine

/-! ## The limits of DRAM, NAND and preamp sensors (R624) -/

/-- The limits that are reached, one bit for each sensor of the DRAM, of the NAND and of the preamps, with the image that sets them. -/
def limitMarks (b : Block) : Nat × Nat × Nat × Image := (b.thm.dramHot, b.thm.nandHot, b.thm.preampHot, b.image)

theorem limitOn_of_marks {b c : Block} (h : limitMarks b = limitMarks c) (n : Nat) : limitOn b n = limitOn c n := by
  obtain ⟨hd, hn, hp, -⟩ := by simpa [limitMarks] using h
  simp [limitOn, hd, hn, hp]

theorem image_of_marks {b c : Block} (h : limitMarks b = limitMarks c) : b.image = c.image := by
  obtain ⟨-, -, -, hi⟩ := by simpa [limitMarks] using h
  exact hi

section Limits

variable (b : Block)

theorem countHeat_marks : limitMarks (countHeat b) = limitMarks b := by
  unfold countHeat
  dsimp only
  split <;> rfl

theorem showReading_marks (n : Nat) (reading : Int) : limitMarks (showReading b n reading) = limitMarks b := by
  unfold showReading
  dsimp only
  split
  · rfl
  · split_ifs <;> rfl

@[simp] theorem refreshTemperature_apart : apart (refreshTemperature b) = apart b := setWarning_apart b 1 _

theorem limitMarks_of_apart {b c : Block} (h : apart b = apart c) : limitMarks b = limitMarks c := by
  have k := congrArg limitMarks h
  exact k

theorem refreshTemperature_marks : limitMarks (refreshTemperature b) = limitMarks b :=
  limitMarks_of_apart (refreshTemperature_apart b)

theorem bit_setBit (m n k : Nat) : bit (setBit m n) k = (bit m k || decide (n = k)) := by
  rw [bit, setBit, Nat.one_shiftLeft, Nat.testBit_or, Nat.testBit_two_pow, bit]

/-- A limit that is reached sets its sensor's mark, and no other's. -/
theorem limitOn_putLimit {n m : Nat} (hn : 18 ≤ n) (hm : 18 ≤ m) :
    limitOn (putLimit b n true) m = (limitOn b m || decide (n = m)) := by
  have hthm : ∀ c : Block, (refreshThrottle c).thm = c.thm := fun _ => rfl
  have hgroup : ∀ k, k ≤ n → k ≤ m → decide (n - k = m - k) = decide (n = m) := fun k hkn hkm =>
    decide_eq_decide.mpr (by omega)
  unfold limitOn putLimit
  dsimp only
  rw [hthm]
  by_cases hn20 : n < 20
  · by_cases hm20 : m < 20
    · simp [hn20, hm20, putBit, bit_setBit, hgroup 18 hn hm]
    · simp [hn20, hm20, show n ≠ m by omega]
  · by_cases hn22 : n < 22
    · by_cases hm22 : m < 22
      · by_cases hm20 : m < 20
        · simp [hn20, hn22, hm20, show n ≠ m by omega]
        · simp [hn20, hn22, hm20, hm22, putBit, bit_setBit, hgroup 20 (by omega) (by omega)]
      · simp [hn20, hn22, hm22, show n ≠ m by omega]
    · by_cases hm22 : m < 22
      · simp [hn20, hn22, hm22, show n ≠ m by omega]
      · simp [hn20, hn22, hm22, show ¬ m < 20 by omega, putBit, bit_setBit, hgroup 22 (by omega) (by omega)]

theorem checkLimit_reached (n : Nat) (reading : Int) (h : sensorLimit b n ≤ reading) :
    checkLimit b n reading = putLimit { b with thm := { b.thm with limitBelow := nset 0 b.thm.limitBelow n 0 } } n true :=
  if_pos h

theorem limitOn_checkLimit {n m : Nat} {reading : Int} (hn : 18 ≤ n) (hm : 18 ≤ m) (h : sensorLimit b n ≤ reading) :
    limitOn (checkLimit b n reading) m = (limitOn b m || decide (n = m)) := by
  rw [checkLimit_reached b n reading h, limitOn_putLimit _ hn hm]
  rfl

theorem sensorRead_limit {n : Fin 26} (reading : Int) (stopped : Bool) (hn : 18 ≤ n.val)
    (hpresent : n.val < 22 ∨ bit ((countHeat b).cfgN .PLT_ACTUATORS) (n.val - 22) = true) :
    sensorRead n reading stopped false b =
      refreshTemperature (checkLimit (showReading (countHeat b) n.val reading) n.val reading) := by
  simp [sensorRead, Nat.not_lt.mpr hn, hpresent]

end Limits

/-- Settles O39: the reading counts and shows nothing of the limits, and at the limit its own mark alone is set. -/
theorem sensorLimits : Obligations.SensorLimits := by
  intro s n reading hn htrip hpresent hlimit
  have hmarks : limitMarks (showReading (countHeat s.blk) n.val reading) = limitMarks s.blk :=
    (showReading_marks _ _ _).trans (countHeat_marks _)
  have himage := image_of_marks hmarks
  have hlim : sensorLimit (showReading (countHeat s.blk) n.val reading) n.val = sensorLimit s.blk n.val := by
    simp only [sensorLimit, Block.cfg, himage]
  have hread := sensorRead_limit s.blk reading false hn (by simpa [Block.cfgN, image_of_marks (countHeat_marks s.blk)] using hpresent)
  have hon : ∀ m : Fin 26, 18 ≤ m.val →
      limitOn (sensorRead n reading false false s.blk) m.val = (limitOn s.blk m.val || decide (n.val = m.val)) := by
    intro m hm
    rw [hread, limitOn_of_marks (refreshTemperature_marks _), limitOn_checkLimit _ hn hm (hlim ▸ hlimit), limitOn_of_marks hmarks m.val]
  refine ⟨_, onBlock_eq rfl, ?_, fun m hm hne => ?_⟩
  · simp [hon n hn]
  · have : n.val ≠ m.val := fun h => hne (Fin.ext h.symm)
    simp [hon m hm, this]

/-! ## Stages, tokens and corrections (R616 to R618, R643) -/

section Tokens

variable (rates used : List Nat) (share : Nat)

/-- What the refill of one microsecond leaves of an initiator's tokens (R618). -/
def refilled (b : Block) (i : Nat) : Nat :=
  min (nget 0 b.thm.tokens i - used.getD i 0 + rates.getD i 0 * share / 100) (2 * (rates.getD i 0 * share / 100))

/-- One initiator's tokens refilled. -/
def refillOne (b : Block) (i : Nat) : Block :=
  { b with thm := { b.thm with tokens := nset 0 b.thm.tokens i (refilled rates used share b i) } }

theorem tokenRefill_eq (b : Block) : tokenRefill rates used b =
    (List.range 15).foldl (refillOne rates used (b.get .THM_STAGE_TOKEN 0)) b := rfl

/-- The refill of the first k initiators leaves each of them its share, and the others theirs. -/
theorem nget_refillOne_foldl (b : Block) (k i : Nat) :
    nget 0 ((List.range k).foldl (refillOne rates used share) b).thm.tokens i =
      if i < k then refilled rates used share b i else nget 0 b.thm.tokens i := by
  induction k with
  | zero => rfl
  | succ k ih =>
    rw [List.range_succ, List.foldl_append]
    have hstep : ∀ c : Block, ([k].foldl (refillOne rates used share) c).thm.tokens =
      nset 0 c.thm.tokens k (refilled rates used share c k) := fun _ => rfl
    rw [hstep]
    by_cases hik : i = k
    · subst hik
      rw [nget_nset_same, if_pos (Nat.lt_succ_self i), refilled, ih, if_neg (Nat.lt_irrefl i), refilled]
    · rw [nget_nset_other 0 0 _ _ hik, ih]
      have hlt : i < k + 1 ↔ i < k := by omega
      simp only [hlt]

end Tokens

/-- The bits of a value that 16 bits hold read as that value. -/
theorem bitsSigned_signedBits {v : Int} (hlow : -2 ^ 15 ≤ v) (hhigh : v < 2 ^ 15) :
    bitsSigned 16 (signedBits 16 v % 2 ^ 16) = v := by
  unfold bitsSigned signedBits
  dsimp only
  have hclamp : max (-((2 : Int) ^ (16 - 1))) (min ((2 : Int) ^ (16 - 1) - 1) v) = v := by omega
  simp only [hclamp]
  split_ifs <;> omega

theorem bitsSigned_range {w : Nat} (h : w < 2 ^ 16) : -2 ^ 15 ≤ bitsSigned 16 w ∧ bitsSigned 16 w < 2 ^ 15 := by
  unfold bitsSigned
  split_ifs <;> omega

/-- A value's bits read as the value cut to what 16 bits hold. -/
theorem bitsSigned_signedBits_clamp (v : Int) :
    bitsSigned 16 (signedBits 16 v % 2 ^ 16) = max (-2 ^ 15) (min (2 ^ 15 - 1) v) := by
  have hsame : signedBits 16 v = signedBits 16 (max (-2 ^ 15) (min (2 ^ 15 - 1) v)) := by
    unfold signedBits
    dsimp only
    congr 2
    omega
  rw [hsame, bitsSigned_signedBits (by omega) (by omega)]

section Resonator

variable {b : Block}

theorem resonatorStep_uncalibrated (h : calHasItem b 4 = false) : resonatorStep b = b.put .THM_RES_NOCOMP 0 1 := by
  simp [resonatorStep, h]

/-- The correction that the curve calls for, at most 0.05 ppm from the present one (R616). -/
def correctionStep (b : Block) : Int :=
  max (bitsSigned 16 (b.get .THM_RES_CORR 0) - 5)
    (min (bitsSigned 16 (b.get .THM_RES_CORR 0) + 5) (-(resonatorDev ((List.range 4).map (fun i => b.cal 4 0 i))
      (bitsSigned 16 (b.get .THM_SENS_n_NOW 0))) / 10 ^ 10))

theorem resonatorStep_calibrated (h : calHasItem b 4 = true) (hvalid : b.get .THM_SENS_n_NOW 0 ≠ 0x8000) :
    resonatorStep b = (b.put .THM_RES_NOCOMP 0 0).putInt .THM_RES_CORR 0 (correctionStep b) := by
  have hnow : (b.put .THM_RES_NOCOMP 0 0).get .THM_SENS_n_NOW 0 = b.get .THM_SENS_n_NOW 0 :=
    b.get_put_ne 0 0 0 (by decide) (by decide) (by decide)
  have hcorr : (b.put .THM_RES_NOCOMP 0 0).get .THM_RES_CORR 0 = b.get .THM_RES_CORR 0 :=
    b.get_put_ne 0 0 0 (by decide) (by decide) (by decide)
  have hcal : ∀ i, (b.put .THM_RES_NOCOMP 0 0).cal 4 0 i = b.cal 4 0 i := fun _ => rfl
  simp only [resonatorStep, h, hnow, hcorr, hcal, if_neg hvalid, Bool.not_true, Bool.false_eq_true, if_false, correctionStep]

end Resonator

/-- Settles O38: each clause is the command with its guard met; the correction is cut to 5 steps about a value that 16 bits hold. -/
theorem thermalCompletes : Obligations.ThermalCompletes := by
  refine ⟨fun s n reading stopped hn _ => ?_, fun s n reading stopped hn _ hpresent => ?_,
    fun s since hsince hstage hdue htrip hlower => ?_,
    fun s a since hstop hdue hloaded hidle => ?_, fun s n hn hon hbelow hdue => ?_, fun s rates used => ?_,
    fun s hcal hvalid hcorr => ?_, fun s hcal => ?_, fun s hcal => ?_⟩
  · exact onBlock_eq (by simp [sensorRead, hn])
  · exact onBlock_eq (sensorRead_limit _ _ _ hn hpresent)
  · exact onBlock_eq (f := stageExit) (by simp only [stageExit, hsince]; simp [hstage, hdue, htrip, hlower])
  · exact onBlock_eq (f := stopRetract a) (by simp [stopRetract, hstop, hdue, hloaded, hidle])
  · exact onBlock_eq (f := limitCleared n) (by simp [limitCleared, hn, hon, hbelow, hdue])
  · refine ⟨_, onBlock_eq rfl, tokenRefill_regs _ _ _, fun i hi => ?_⟩
    dsimp only
    rw [tokenRefill_eq, nget_refillOne_foldl, if_pos hi, refilled]
  · have hstep := resonatorStep_calibrated hcal hvalid
    obtain ⟨hlow, hhigh⟩ := bitsSigned_range hcorr
    have hread : ((s.blk.put .THM_RES_NOCOMP 0 0).putInt .THM_RES_CORR 0 (correctionStep s.blk)).get .THM_RES_CORR 0 =
      signedBits 16 (correctionStep s.blk) % 2 ^ 16 := Block.get_put_same _ _ _ _
    refine ⟨_, onBlock_eq hstep, ?_, (by simp), rfl, ?_, ?_⟩
    · rw [Block.putInt, Block.get_put_ne _ _ _ _ (by decide) (by decide) (by decide), Block.get_put_same, Nat.zero_mod]
    all_goals
      dsimp only
      rw [hread, bitsSigned_signedBits_clamp, correctionStep]
      omega
  · refine ⟨_, onBlock_eq (resonatorStep_uncalibrated hcal), ?_, (by simp)⟩
    exact Block.get_put_same _ _ _ _
  · exact ⟨_, onBlock_eq rfl, referenceStep_regs _, by simp [referenceStep, hcal, Block.fresh]⟩

end Sys2Proof.Machine

namespace Sys2Proof.Machine

/-! ## The hour and the daily sample (R628, R629) -/

/-- What Ochre keeps of its hours and days, beside its baselines, measurements and notices. -/
def ochTrail (b : Block) : Nat × List Nat × List Nat × Nat × Nat × List (List Nat) :=
  (b.och.hours, b.och.dramHours, b.och.sramHours, b.och.dramLast, b.och.sramLast, b.och.daily)

section OchreHour

variable (b : Block)

theorem ochMeasure_trail (m : Nat × Nat) : ochTrail (ochMeasure b m) = ochTrail b := by
  unfold ochMeasure
  dsimp only
  split_ifs <;> rfl

theorem ochBaselines_trail : ochTrail (ochBaselines b) = ochTrail b := by
  refine foldl_keeps ochTrail (fun c n => ?_) _ b
  dsimp only
  split <;> rfl

theorem ochShow_trail (n : Nat) : ochTrail (ochShow b n) = ochTrail b := rfl

theorem ochWorst_trail : ochTrail (ochWorst b) = ochTrail b := by
  unfold ochWorst
  dsimp only
  split <;> rfl

theorem asyncEvent_trail (p : Port) (type info page : Nat) : ochTrail (asyncEvent b p type info page) = ochTrail b := by
  have k := congrArg ochTrail (asyncEvent_apart b p type info page)
  exact k

theorem ochNotice_trail (n : Nat) : ochTrail (ochNotice b n) = ochTrail b := by
  refine foldl_keeps ochTrail (fun c p => ?_) _ b
  dsimp only
  split_ifs
  · exact asyncEvent_trail _ _ _ _ _
  all_goals rfl

/-- The hour's update leaves the hour counted and its counts entered; what follows shows the indicators and raises their notices. -/
theorem ochreHourly_trail (meas : List (Nat × Nat)) (h : b.boot.journalUp = true) :
    ochTrail (ochreHourly meas b) = (b.och.hours + 1, (b.och.dramLast :: b.och.dramHours).take 168,
      (b.och.sramLast :: b.och.sramHours).take 168, 0, 0, b.och.daily) := by
  rw [ochreHourly, h, Block.guard_true]
  dsimp only
  rw [foldl_keeps ochTrail ochNotice_trail, ochWorst_trail, foldl_keeps ochTrail ochShow_trail, ochBaselines_trail,
    foldl_keeps ochTrail ochMeasure_trail]
  rfl

end OchreHour

/-- Settles O40: the hour's counts enter their lists before anything is shown, and the daily sample is a put of their number. -/
theorem ochreCompletes : Obligations.OchreCompletes := by
  refine ⟨fun s meas hup => ?_, fun s hup hday => ?_⟩
  · have h := ochreHourly_trail s.blk meas hup
    simp only [ochTrail, Prod.mk.injEq] at h
    obtain ⟨hhours, hdram, hsram, hdramLast, hsramLast, hdaily⟩ := h
    exact ⟨_, onBlock_eq rfl, hhours, hdram, hsram, hdramLast, hsramLast, hdaily, rfl⟩
  · have hwidth : Field.width .OCH_STATE_SAMPLES = 8 := by decide
    refine ⟨_, onBlock_eq (f := ochreDaily) (by rw [ochreDaily, hup, decide_eq_true hday, Bool.and_self, Block.guard_true]),
      rfl, ?_, rfl, by simp⟩
    dsimp only
    rw [Block.get_put_same, hwidth, List.length_take, List.length_cons]
    omega

end Sys2Proof.Machine

namespace Sys2Proof.Machine

/-! ## The management endpoint (R520, R632 to R635) -/

section Endpoint

variable {b : Block} {f : Block → Block}

theorem miServe_served (hpower : miPowered b = true) (hrun : miHalted b = false) : miServe b f = f b := by
  simp [miServe, hpower, hrun]

theorem miUp_served (hpower : miPowered b = true) (hrun : miHalted b = false) (hup : miDown b = false) : miUp b f = f b := by
  simp [miUp, miServe_served hpower hrun, hup]

/-- A controller list of the one or two controllers holds each of them. -/
theorem ctrlList_length (two : Bool) : (ctrlList (if two then 3 else 1) 1).length = if two then 2 else 1 := by
  cases two <;> decide

theorem length_flatMap_const {α β : Type} (g : α → List β) (k : Nat) (h : ∀ a, (g a).length = k) (l : List α) :
    (l.flatMap g).length = k * l.length := by
  induction l with
  | nil => rfl
  | cons a l ih => rw [List.flatMap_cons, List.length_append, ih, h, List.length_cons, Nat.mul_succ, Nat.add_comm]

theorem miValue_set_same (v : Nat) (id : Nat) (c : Health → NMap Nat) :
    miValue (b.onHea (fun h => { h with miConfig := ninsert (nerase (c h) id) id v })) id = v := by
  unfold miValue Block.onHea
  dsimp only
  rw [find_ninsert_same _ _ _ (nerase_keys _ _)]

theorem miValue_set_other (v : Nat) {id i : Nat} (hne : i ≠ id) :
    miValue (b.onHea (fun h => { h with miConfig := ninsert (nerase h.miConfig id) id v })) i = miValue b i := by
  unfold miValue Block.onHea
  dsimp only
  rw [find_ninsert_other _ _ hne, find_nerase_other _ hne]

end Endpoint

/-! ### WAKE# -/

/-- WAKE# of one port asserted and counted (R520). -/
def wakePort (b : Block) (p : Port) : Block := (b.onPx p (fun x => { x with wake := true })).bump .PX_PM_WAKE p.val

/-- The ports that a wake asserts WAKE# of. -/
def wakers (b : Block) : List Port := (List.finRange 2).filter (fun p => (vget b.px p).present && (vget b.px p).pmeEn)

section Wake

variable (b : Block)

theorem wakePort_zero_wake : (vget (wakePort b 0).px 0).wake = true := by
  simp [wakePort, Block.onPx]

theorem wakePort_zero_count : (wakePort b 0).get .PX_PM_WAKE 0 = min (b.get .PX_PM_WAKE 0 + 1) (Field.max .PX_PM_WAKE) :=
  Block.get_bump _ _ _ _

theorem wakePort_one_zero : (vget (wakePort b 1).px 0).wake = (vget b.px 0).wake := by
  simp [wakePort, Block.onPx, vget_vupd_other]

theorem wakePort_one_count : (wakePort b 1).get .PX_PM_WAKE 0 = b.get .PX_PM_WAKE 0 :=
  Block.get_put_other _ _ (by decide) (by decide) (.inr (by decide))

variable {b}

theorem wakers_zero (hpresent : (vget b.px 0).present = true) (hpme : (vget b.px 0).pmeEn = true) :
    wakers b = [0] ∨ wakers b = [0, 1] := by
  have hports : List.finRange 2 = [0, 1] := rfl
  unfold wakers
  rw [hports]
  cases hone : (vget b.px 1).present && (vget b.px 1).pmeEn
  · exact .inl (by simp [hpresent, hpme, hone])
  · exact .inr (by simp [hpresent, hpme, hone])

theorem wakers_nonempty (hpresent : (vget b.px 0).present = true) (hpme : (vget b.px 0).pmeEn = true) :
    (wakers b).isEmpty = false := by
  rcases wakers_zero hpresent hpme with h | h <;> rw [h] <;> rfl

theorem wakers_wake (hpresent : (vget b.px 0).present = true) (hpme : (vget b.px 0).pmeEn = true) :
    (vget ((wakers b).foldl wakePort b).px 0).wake = true := by
  rcases wakers_zero hpresent hpme with h | h
  · rw [h]
    exact wakePort_zero_wake b
  · rw [h]
    exact (wakePort_one_zero _).trans (wakePort_zero_wake b)

theorem wakers_count (hpresent : (vget b.px 0).present = true) (hpme : (vget b.px 0).pmeEn = true) :
    ((wakers b).foldl wakePort b).get .PX_PM_WAKE 0 = min (b.get .PX_PM_WAKE 0 + 1) (Field.max .PX_PM_WAKE) := by
  rcases wakers_zero hpresent hpme with h | h
  · rw [h]
    exact wakePort_zero_count b
  · rw [h]
    exact (wakePort_one_count _).trans (wakePort_zero_count b)

/-- A wake request in D3cold, with WAKE# enabled, asserts WAKE# of its ports. -/
theorem miWake_asserts (hcold : inD3cold b = true) (hrun : miHalted b = false) (hcfg : b.cfgN .HST_WAKE_EN = 1)
    (hsome : (wakers b).isEmpty = false) : miWake b = ((wakers b).foldl wakePort b).answer (.code 0) := by
  have hpower : miPowered b = true := by
    simp only [inD3cold, Bool.and_eq_true] at hcold
    simp [miPowered, hcold.2]
  refine (miServe_served hpower hrun).trans ?_
  have hgoes : (inD3cold b && decide (b.cfgN .HST_WAKE_EN = 1) && !(wakers b).isEmpty) = true := by
    rw [hcold, decide_eq_true hcfg, hsome]
    rfl
  exact if_pos hgoes

end Wake

/-- Settles O41: each clause is the request of a served endpoint; a configuration value is found in its list after it is set. -/
theorem managementCompletes : Obligations.ManagementCompletes := by
  refine ⟨fun s type idx hpower hrun hup htype => ?_, fun s hpower hrun => ?_, fun s hpower hrun => ?_,
    fun s id hpower hrun hup hlow hhigh => ?_, fun s id v hpower hrun hup hlow hhigh => ?_,
    fun s hoff h12 haux hcfg hpresent hpme => ?_, fun s hpower hrun hup => ?_, fun s p nsid x off len hpower hrun hdown hx => ?_,
    fun s p nsid x off len hpower hrun hup hok => ?_, fun s hpower => ?_, fun s hpower hrun => ?_⟩
  · subst htype
    refine onBlock_eq ((miUp_served hpower hrun hup).trans ?_)
    dsimp only
    rw [if_pos rfl]
    split <;> rfl
  · exact onBlock_eq (miServe_served hpower hrun)
  · refine ⟨_, _, onBlock_eq (miServe_served hpower hrun), rfl, ?_⟩
    rw [length_flatMap_const _ 7 (fun _ => rfl), ctrlList_length]
  · have hstd : miStandard id = true := by simp [miStandard, hlow, hhigh]
    exact onBlock_eq ((miUp_served hpower hrun hup).trans (if_pos hstd))
  · have hstd : miStandard id = true := by simp [miStandard, hlow, hhigh]
    exact ⟨_, onBlock_eq ((miUp_served hpower hrun hup).trans (if_pos hstd)), miValue_set_same v id _, rfl, rfl,
      fun i hne => miValue_set_other v hne⟩
  · have hrun : miHalted s.blk = false := by simp [miHalted, hoff]
    have hcold : inD3cold s.blk = true := by simp [inD3cold, hoff, h12, haux]
    exact ⟨_, onBlock_eq (miWake_asserts hcold hrun hcfg (wakers_nonempty hpresent hpme)),
      wakers_wake hpresent hpme, rfl, wakers_count hpresent hpme⟩
  · exact onBlock_eq (miUp_served hpower hrun hup)
  · subst hx
    exact onBlock_eq ((miServe_served hpower hrun).trans (by simp [hdown]))
  · exact onBlock_eq ((miServe_served hpower hrun).trans (by simp [hup, hok]))
  · exact onBlock_eq (f := miBasic) (by simp [miBasic, hpower])
  · exact ⟨_, onBlock_eq (b := takeSnapshot s.blk) (by rw [hpower, hrun]; rfl), rfl, rfl, rfl, rfl⟩

end Sys2Proof.Machine

namespace Sys2Proof.Machine

/-! ## A Nimbus run whose head has no register (R267, R661) -/

/-- A target past the heads, whose threshold would stand where the number of passes of its kind stands. -/
def farHead : Nat := Field.key .NIM_RES_k_PASS 5 - Field.key .AST_HLAS_ITH 0

/-- A threshold measurement in progress on that head; no operand of the command that starts a run is bounded by the heads. -/
def measuringFarHead : State :=
  { State.reset with blk := { Block.reset with nim := { Block.reset.nim with run := some ⟨5, farHead, false⟩ } } }

/-- Storing a threshold of 5 there and counting the pass leaves 6 passes, where none stood before. -/
theorem measuringFarHead_passes :
    measuringFarHead.blk.get .NIM_RES_k_PASS 5 = 0 ∧ (nimbusRunEnd true 5 measuringFarHead.blk).get .NIM_RES_k_PASS 5 = 6 := by
  decide +kernel

/-- Refutes O42: its clause on a pass allows any head, and a measured threshold of a head past the last is stored over the number of passes
itself before that is counted. -/
theorem not_recorderAndTestsComplete : ¬ Obligations.RecorderAndTestsComplete := by
  rintro ⟨-, -, -, -, -, -, -, -, hpass, -⟩
  obtain ⟨t, hexec, -, -, hcount⟩ := hpass measuringFarHead ⟨5, farHead, false⟩ 5 rfl (fun h => absurd h (by decide))
  obtain ⟨hbefore, hafter⟩ := measuringFarHead_passes
  rw [← Host.Outcome.next.inj hexec] at hcount
  have hone : (nimbusRunEnd true 5 measuringFarHead.blk).get .NIM_RES_k_PASS 5 =
      min (measuringFarHead.blk.get .NIM_RES_k_PASS 5 + 1) (Field.max .NIM_RES_k_PASS) := hcount
  omega

end Sys2Proof.Machine

namespace Sys2Proof.Machine

/-! ## The number that a record takes (R649, R656) -/

section SepiaNumber

variable (b : Block) (r : SepRec)

theorem sepEnterHalf_bootMade {b' : Block} (h : sepEnterHalf b r = some b') : b'.sep.bootMade = b.sep.bootMade := by
  have happend : ∀ x, (sepAppend b x r).sep.bootMade = b.sep.bootMade := fun x => by
    unfold sepAppend
    split <;> rfl
  unfold sepEnterHalf at h
  rcases either_some h with rfl | rfl <;> exact happend _

theorem sepEnterCritical_bootMade : (sepEnterCritical b r).sep.bootMade = b.sep.bootMade := by
  unfold sepEnterCritical
  dsimp only
  split
  · rfl
  · split
    · rw [Block.bump_sep]
      split <;> rfl
    · rw [Block.bump_sep]
      split <;> rfl
    · rfl
    · split <;> rfl

theorem sepBuffer_bootMade : (sepBuffer b r).sep.bootMade = b.sep.bootMade := by
  unfold sepBuffer
  split
  · rfl
  · dsimp only
    generalize hc : (if b.cfgN .REC_FLUSH_SEV ≤ r.severity then
      { b with sep := { b.sep with flushDue := true } } else b) = c
    have hmade : c.sep.bootMade = b.sep.bootMade := by
      rw [← hc]
      split <;> rfl
    rw [← hmade]
    cases h : sepEnterHalf c r with
    | some b' => exact sepEnterHalf_bootMade c r h
    | none => exact sepEnterCritical_bootMade c r

/-- A critical event is recorded at once: its bucket gives no token, and it is never suppressed. -/
theorem sepiaCont_critical (code src pa pb : Nat) (h : sepSeverity b code = 3) :
    ∃ k supp, b.sepiaCont code src pa pb [] = sepMake (sepPutBucket b k) code src 0 supp pa pb false [] := by
  refine ⟨{ sepRefill b (sepBucket b code) with supp := 0, last := b.now }, (sepRefill b (sepBucket b code)).supp, ?_⟩
  simp [Block.sepiaCont, h]

/-- Before the NAND is readable a record is counted, and its numbering waits. -/
theorem sepNumber_down (h : b.sep.up = false) :
    (sepNumber b r).2 = { b with sep := { b.sep with bootMade := b.sep.bootMade + 1 } } := by
  simp [sepNumber, h]

theorem sepNumber_up (h : b.sep.up = true) : (sepNumber b r).2 = (sepTakeSeq b).2.2 := by
  simp [sepNumber, h]

theorem sepTakeSeq_next : (sepTakeSeq b).2.2.get .SEP_SEQ_NEXT 0 = (b.get .SEP_SEQ_NEXT 0 + 1) % 2 ^ 32 := by
  have hwidth : Field.width .SEP_SEQ_NEXT = 32 := by decide
  unfold sepTakeSeq
  dsimp only
  rw [Block.get_put_ne _ _ _ _ (by decide) (by decide) (by decide), Block.get_put_same, hwidth]

theorem sepTakeSeq_era : (sepTakeSeq b).2.2.get .SEP_STATE_ERA 0 =
    (b.get .SEP_STATE_ERA 0 + (if b.get .SEP_SEQ_NEXT 0 = 2 ^ 32 - 1 then 1 else 0)) % 2 ^ 8 := by
  have hwidth : Field.width .SEP_STATE_ERA = 8 := by decide
  unfold sepTakeSeq
  dsimp only
  rw [Block.get_put_same, hwidth]
  have hlast : 2 ^ 32 - 1 = 0xFFFFFFFF := rfl
  rw [hlast]
  split_ifs <;> rfl

theorem sepTakeSeq_other {f : Field} (hq : f ≠ .SEP_SEQ_NEXT) (he : f ≠ .SEP_STATE_ERA) :
    (sepTakeSeq b).2.2.get f 0 = b.get f 0 := by
  unfold sepTakeSeq
  dsimp only
  rw [Block.get_put_ne _ _ _ _ (by decide) (by decide) he, Block.get_put_ne _ _ _ _ (by decide) (by decide) hq]

end SepiaNumber

/-- Settles O43: a critical event makes a record at once; the buffer that the record enters takes no number and suppresses nothing. -/
theorem sepiaSequence : Obligations.SepiaSequence := by
  intro s code e pa pb hsev
  obtain ⟨k, supp, hmake⟩ := sepiaCont_critical s.blk code (engineCode e) pa.toNat pb.toNat hsev
  obtain ⟨r, hr⟩ : ∃ r, sepMake (sepPutBucket s.blk k) code (engineCode e) 0 supp pa.toNat pb.toNat false [] =
    sepBuffer (sepNumber (sepPutBucket s.blk k) r).2 (sepNumber (sepPutBucket s.blk k) r).1 := ⟨_, rfl⟩
  have hget : ∀ (f : Field) (i : Nat), (sepPutBucket s.blk k).get f i = s.blk.get f i := fun _ _ => rfl
  refine ⟨_, onBlock_eq (f := fun b => b.sepiaCont code (engineCode e) pa.toNat pb.toNat []) (hmake.trans hr), ?_,
    fun hup => ⟨?_, ?_⟩, fun hdown => ⟨?_, ?_⟩⟩
  all_goals dsimp only
  · rw [sepBuffer_regsKept _ _ .SEP_SUPP_COUNT 0 (by decide) (by decide)]
    cases hup : (sepPutBucket s.blk k).sep.up
    · rw [sepNumber_down _ _ hup]
      rfl
    · rw [sepNumber_up _ _ hup, sepTakeSeq_other _ (by decide) (by decide), hget]
  · rw [sepBuffer_regsKept _ _ .SEP_SEQ_NEXT 0 (by decide) (by decide), sepNumber_up (sepPutBucket s.blk k) r hup, sepTakeSeq_next, hget]
  · rw [sepBuffer_regsKept _ _ .SEP_STATE_ERA 0 (by decide) (by decide), sepNumber_up (sepPutBucket s.blk k) r hup,
      sepTakeSeq_era, hget, hget]
  · rw [sepBuffer_regsKept _ _ .SEP_SEQ_NEXT 0 (by decide) (by decide), sepNumber_down (sepPutBucket s.blk k) r hdown]
    rfl
  · rw [sepBuffer_bootMade, sepNumber_down (sepPutBucket s.blk k) r hdown]
    rfl

end Sys2Proof.Machine

namespace Sys2Proof.Machine

/-! ## Which writes reach a channel (R40, R696) -/

section ChannelWrites

variable (b : Block) {p : Port} {n : Fin 32} (f : Block → Block)

theorem dxWrite_core : dxWrite b .core n f = f b := rfl

theorem dxWrite_unlocked (hchannel : 28 ≤ n.val) (hunlocked : unlocked b p = true) : dxWrite b (.port p) n f = f b :=
  if_pos ⟨hchannel, hunlocked⟩

theorem dxWrite_locked (h : n.val < 28 ∨ unlocked b p = false) : dxWrite b (.port p) n f = discardWrite b p := by
  refine if_neg (fun ⟨hchannel, hunlocked⟩ => ?_)
  rcases h with h | h
  · omega
  · simp [h] at hunlocked

@[simp] theorem discardWrite_mm (q : Port) : (discardWrite b q).mm = b.mm := by
  unfold discardWrite
  dsimp only
  split <;> rfl

end ChannelWrites

/-! ## What keeps a channel from starting (R697, R712) -/

section StartError

variable (b : Block)

/-- A byte outside the map is past what is left of the region of every address below it. -/
theorem regionLeft_le_of_outside (x i : Nat) (h : regionOf b (x + i) = none) : regionLeft b x ≤ i := by
  unfold regionLeft
  cases hx : regionOf b x with
  | none => exact Nat.zero_le i
  | some ro =>
    unfold regionOf at h hx
    split_ifs at h hx <;> obtain rfl := Option.some.inj hx <;> dsimp only <;> omega

variable (n : Nat)

theorem startError_of_count (h : dxCount b n = 0) : startError b n = 5 := if_pos h

theorem startError_of_range (h : regionLeft b (dxSrc b n) < dxCount b n ∨ regionLeft b (dxDst b n) < dxCount b n) :
    startError b n ≠ 0 := by
  unfold startError
  dsimp only
  rw [if_pos h]
  split <;> decide

theorem startError_of_strict (halign : b.get .DX_MODE_ALIGN 0 = 1)
    (h : ¬ (strictOk (dxSrc b n) = true ∧ strictOk (dxDst b n) = true ∧ dxCount b n % 32 = 0)) : startError b n ≠ 0 := by
  unfold startError
  dsimp only
  split_ifs with hzero hrange hstrict
  · decide
  · decide
  · decide
  · exact absurd ⟨halign, h⟩ hstrict

theorem strictOk_of_odd {x : Nat} (hinside : x < 0x010000000000) (hodd : x % 32 ≠ 0) : strictOk x = false := by
  simp [strictOk, hodd]
  omega

theorem startError_le : startError b n ≤ 5 := by
  unfold startError
  dsimp only
  split_ifs <;> decide

end StartError

/-! ## The drain bit -/

section Drain

variable (b : Block) (n : Nat)

@[simp] theorem dxDrains_setDrain (v : Bool) : dxDrains (setDrain b n v) n = v := by
  unfold dxDrains setDrain putBit
  cases v
  · exact bit_clearBit_same _ _
  · exact bit_setBit_same _ _

@[simp] theorem get_setDrain (v : Bool) (f : Field) (i : Nat) : (setDrain b n v).get f i = b.get f i := rfl

theorem dxDrains_of_caches {b c : Block} (h : CachesOnly b c) : dxDrains c n = dxDrains b n := by
  obtain ⟨-, -, -, -, -, -, -, -, hdraining, -⟩ := h.rest
  rw [dxDrains, hdraining, dxDrains]

end Drain

/-! ## A channel that starts (R697) -/

section Start

variable (b : Block) (n : Fin 32)

/-- A channel whose checks have passed, before its first read. -/
def startedChannel : Block :=
  setDrain (((b.put .DX_CTL_n_GO n.val 1).put .DX_STAT_n_BUSY n.val 1).put .DX_STAT_n_ERR n.val 0) n.val
    (decide (b.get .DX_CTL_n_PAUSE n.val = 1))

/-- What a start leaves differs from the started channel in the caches alone. -/
theorem dmaGo_started (hidle : b.get .DX_STAT_n_BUSY n.val ≠ 1) (hok : startError b n.val = 0) :
    CachesOnly (startedChannel b n) (dmaGo .core n b) := by
  have hn : n.val < 256 := by omega
  have hpause : (((b.put .DX_CTL_n_GO n.val 1).put .DX_STAT_n_BUSY n.val 1).put .DX_STAT_n_ERR n.val 0).get .DX_CTL_n_PAUSE n.val =
      b.get .DX_CTL_n_PAUSE n.val := by
    simp [Block.get_put_ne _ _ _ _ hn hn]
  have hgo : dmaGo .core n b = if dxDrains (startedChannel b n) n.val then startedChannel b n
      else lineAccess (startedChannel b n) ⟨dxSrc (startedChannel b n) n.val / 64, false, none, false⟩ := by
    simp only [dmaGo, dxWrite_core, dxBusy, decide_eq_false hidle, Bool.not_false, Block.guard_true, hok, hpause, startedChannel]
    rfl
  rw [hgo]
  split
  · exact CachesOnly.refl _
  · exact lineAccess_only _ _

theorem dmaGo_refused (hidle : b.get .DX_STAT_n_BUSY n.val ≠ 1) (hbad : startError b n.val ≠ 0) :
    dmaGo .core n b = (b.put .DX_CTL_n_GO n.val 0).put .DX_STAT_n_ERR n.val (startError b n.val) := by
  simp only [dmaGo, dxWrite_core, dxBusy, decide_eq_false hidle, Bool.not_false, Block.guard_true, if_pos hbad]

theorem startedChannel_regsKept : regsKept [.DX_CTL_n_GO, .DX_STAT_n_BUSY, .DX_STAT_n_ERR] b (startedChannel b n) := by
  simp [startedChannel]

end Start

section PauseAndStop

variable (b : Block) (n : Fin 32)

theorem dmaPause_running (hbusy : b.get .DX_STAT_n_BUSY n.val = 1) (hpaused : b.get .DX_STAT_n_PAUSED n.val = 0) :
    dmaPause .core n b = setDrain (b.put .DX_CTL_n_PAUSE n.val 1) n.val true := by
  have hn : n.val < 256 := by omega
  simp [dmaPause, dxWrite_core, dxBusy, Block.get_put_ne _ _ _ _ hn hn, hbusy, hpaused]

theorem dmaStop_running (hbusy : b.get .DX_STAT_n_BUSY n.val = 1) :
    dmaStop .core n b = setDrain (b.put .DX_CTL_n_STOP n.val 1) n.val true := by
  simp [dmaStop, dxWrite_core, dxBusy, hbusy]

end PauseAndStop

/-- Settles O44: a core's write acts on its channel, and a host's acts or is discarded before anything of the channel is read. -/
theorem dmaControlCompletes : Obligations.DmaControlCompletes := by
  have hn : ∀ n : Fin 32, n.val < 256 := fun n => by omega
  refine ⟨fun s n hidle hok => ?_, fun s n hidle hbad => ?_, fun s n hbusy hpaused => ?_, fun s n => ?_, fun s n hbusy => ?_,
    fun s n done poison => ?_, fun b n hzero => ?_, fun b n i hi hout => ?_, fun b n i hi hout => ?_, fun b n halign hin hodd => ?_,
    fun b n halign hin hodd => ?_, fun b n halign hodd => ?_,
    fun s p n done poison hlocked => ?_, fun s p n done poison hchannel hopen => ?_⟩
  · have hcaches := dmaGo_started s.blk n hidle hok
    have hget : ∀ f, f ∉ cacheFields → (dmaGo .core n s.blk).get f n.val = (startedChannel s.blk n).get f n.val := fun f hf =>
      hcaches.regsKept f n.val (hn n) hf
    refine ⟨_, onBlock_eq rfl, (hget _ (by decide)).trans ?_, (hget _ (by decide)).trans ?_, (hget _ (by decide)).trans ?_,
      (dxDrains_of_caches n.val hcaches).trans ?_, ?_, rfl⟩
    · simp [startedChannel, Block.get_put_ne _ _ _ _ (hn n) (hn n)]
      decide
    · simp [startedChannel, Block.get_put_ne _ _ _ _ (hn n) (hn n)]
      decide
    · simp [startedChannel]
    · simp [startedChannel]
    · exact ((startedChannel_regsKept s.blk n).mono (by decide)).trans (hcaches.regsKept.mono (by decide))
  · have hfits : startError s.blk n.val < 2 ^ Field.width .DX_STAT_n_ERR := by
      have hwidth : Field.width .DX_STAT_n_ERR = 4 := by decide
      have hle := startError_le s.blk n.val
      rw [hwidth]
      omega
    refine ⟨_, onBlock_eq (dmaGo_refused s.blk n hidle hbad), ?_, ?_, by simp, rfl⟩
    · simp [Block.get_put_ne _ _ _ _ (hn n) (hn n)]
    · exact (Block.get_put_same _ _ _ _).trans (Nat.mod_eq_of_lt hfits)
  · have hpause := dmaPause_running s.blk n hbusy hpaused
    refine ⟨_, onBlock_eq hpause, (get_setDrain _ _ _ _ _).trans ?_, dxDrains_setDrain _ _ _, by simp, rfl⟩
    rw [Block.get_put_same]
    decide
  · refine ⟨_, onBlock_eq (f := dmaResume .core n) rfl, ?_, ?_, by simp [dmaResume, dxWrite_core], rfl⟩
    · simp [dmaResume, dxWrite_core, Block.get_put_ne _ _ _ _ (hn n) (hn n)]
    · simp [dmaResume, dxWrite_core]
  · have hstop := dmaStop_running s.blk n hbusy
    refine ⟨_, onBlock_eq hstop, (get_setDrain _ _ _ _ _).trans ?_, dxDrains_setDrain _ _ _, by simp, rfl⟩
    rw [Block.get_put_same]
    decide
  · refine ⟨_, onBlock_eq (f := dxStatClear .core n done poison) rfl, ?_, ?_, ?_, rfl⟩
    all_goals cases done <;> cases poison <;> simp [dxStatClear, dxWrite_core, Block.get_put_ne _ _ _ _ (hn n) (hn n)]
  · rw [startError_of_count b n.val hzero]
    decide
  · exact startError_of_range b n.val (.inl (Nat.lt_of_le_of_lt (regionLeft_le_of_outside b _ i hout) hi))
  · exact startError_of_range b n.val (.inr (Nat.lt_of_le_of_lt (regionLeft_le_of_outside b _ i hout) hi))
  · exact startError_of_strict b n.val halign (by simp [strictOk_of_odd hin hodd])
  · exact startError_of_strict b n.val halign (by simp [strictOk_of_odd hin hodd])
  · exact startError_of_strict b n.val halign (by simp [hodd])
  · have hdrop := fun f => dxWrite_locked s.blk (p := p) (n := n) f hlocked
    exact ⟨_, onBlock_eq (hdrop _), onBlock_eq (hdrop _), onBlock_eq (hdrop _), onBlock_eq (hdrop _), onBlock_eq (hdrop _),
      discardWrite_count _ _, by simp, discardWrite_mm _ _, rfl⟩
  · have hsame := fun f => dxWrite_unlocked s.blk f hchannel hopen
    exact ⟨onBlock_eq (hsame _), onBlock_eq (hsame _), onBlock_eq (hsame _), onBlock_eq (hsame _), onBlock_eq (hsame _)⟩

end Sys2Proof.Machine

namespace Sys2Proof.Machine

/-! ## What a move leaves of its channel (R696) -/

/-- The register fields that a move of bytes to a memory writes: the addresses, the count, POISON, and what its accesses count. -/
def moveFields : List Field :=
  cacheFields ++ [.DX_STAT_n_POISON, .DX_SRC_LO_ADDR, .DX_SRC_HI_ADDR, .DX_DST_LO_ADDR, .DX_DST_HI_ADDR, .DX_COUNT_COUNT]

section Moves

variable (n : Fin 32) (k : Nat) (fromHost : List Byte) (r : NMap Byte × Block) {o : Nat}
  (hdst : regionOf r.2 (dxDst r.2 n.val) = some (.carve, o))

theorem foldl_stored_regs (dst : Nat) : ∀ (l : List (Byte × Nat)) (q : NMap Byte × Block),
    (l.foldl (fun (q : NMap Byte × Block) (d : Byte × Nat) => storeByte q (dst + d.2) d.1) q).2.regs = q.2.regs
  | [], _ => rfl
  | _ :: l, q => (foldl_stored_regs dst l _).trans (storeByte_regs q _ _)

include hdst

/-- A move to the carve-out ends with its count lowered and its two ranges accessed, after a block that keeps every other register. -/
theorem moveBytes_carve : ∃ b, regsKept moveFields r.2 b ∧ (moveBytes n.val k fromHost r).2 =
    rangeAccess (rangeAccess (b.put .DX_COUNT_COUNT n.val (dxCount r.2 n.val - k)) (dxSrc r.2 n.val) k false none)
      (dxDst r.2 n.val) k true none := by
  have hn : n.val < 256 := by omega
  unfold moveBytes
  simp only [hdst]
  refine ⟨_, ?_, rfl⟩
  simp only [regsKept_put _ _ _ (show Field.DX_SRC_LO_ADDR ∈ moveFields by decide) hn,
    regsKept_put _ _ _ (show Field.DX_SRC_HI_ADDR ∈ moveFields by decide) hn,
    regsKept_put _ _ _ (show Field.DX_DST_LO_ADDR ∈ moveFields by decide) hn,
    regsKept_put _ _ _ (show Field.DX_DST_HI_ADDR ∈ moveFields by decide) hn]
  refine regsKept_ite _ ((regsKept_put _ _ _ (show Field.DX_STAT_n_POISON ∈ moveFields by decide) hn).mpr ?_) ?_
  all_goals
    rw [regsKept_storeMarks]
    exact regsKept_of_regs (foldl_stored_regs _ _ _)

theorem moveBytes_carve_regsKept : regsKept moveFields r.2 (moveBytes n.val k fromHost r).2 := by
  have hn : n.val < 256 := by omega
  obtain ⟨b, hb, hmove⟩ := moveBytes_carve n k fromHost r hdst
  rw [hmove]
  refine regsKept.trans (regsKept.trans ?_ ((rangeAccess_only _ _ _ _ _).regsKept.mono (by decide)))
    ((rangeAccess_only _ _ _ _ _).regsKept.mono (by decide))
  exact (regsKept_put _ _ _ (by decide) hn).mpr hb

theorem moveBytes_carve_count :
    dxCount (moveBytes n.val k fromHost r).2 n.val = (dxCount r.2 n.val - k) % 2 ^ Field.width .DX_COUNT_COUNT := by
  have hn : n.val < 256 := by omega
  obtain ⟨b, -, hmove⟩ := moveBytes_carve n k fromHost r hdst
  rw [hmove, dxCount, (rangeAccess_only _ _ _ _ _).regsKept _ _ hn (by decide), (rangeAccess_only _ _ _ _ _).regsKept _ _ hn (by decide),
    Block.get_put_same]

end Moves

/-- A channel that ends keeps its DONE. -/
theorem endChannel_get_done (b : Block) (n : Fin 32) (err : Nat) :
    (endChannel b n.val err).get .DX_STAT_n_DONE n.val = b.get .DX_STAT_n_DONE n.val := by
  have hn : n.val < 256 := by omega
  unfold endChannel
  dsimp only
  split
  all_goals simp [Block.get_put_ne _ _ _ _ hn hn]

/-! ## A copy across the end of an overlong carve-out (R679, R697) -/

/-- A copy of 8 bytes inside DRAM, in a state whose carve-out register holds more ways than there are: the carve-out then ends in DRAM, 4
bytes after the first byte of the source. -/
def copyAcrossCarve : State :=
  { State.reset with blk := { Block.reset with regs :=
      [(Field.key .MEM_L2_CARVE 0, 32737), (Field.key .DX_SRC_LO_ADDR 0, 0x7FFFC), (Field.key .DX_SRC_HI_ADDR 0, 4),
        (Field.key .DX_DST_HI_ADDR 0, 4), (Field.key .DX_COUNT_COUNT 0, 8), (Field.key .DX_STAT_n_BUSY 0, 1)] } }

theorem copyAcrossCarve_dst : regionOf copyAcrossCarve.blk (dxDst copyAcrossCarve.blk 0) = some (.carve, 0x3FF000000) := by
  decide +kernel

/-- Only the bytes up to the end of the carve-out are moved, and the channel ends with ERR 2. -/
theorem copyAcrossCarve_ends : (dmaDone 0 none [] (copyAcrossCarve.mem, copyAcrossCarve.blk)).2 =
    endChannel (moveBytes 0 4 [] (copyAcrossCarve.mem, copyAcrossCarve.blk)).2 0 2 := by
  have hruns : (dxBusy copyAcrossCarve.blk 0 && !dxDrains copyAcrossCarve.blk 0 &&
      decide (copyAcrossCarve.blk.get .DX_STAT_n_PAUSED 0 = 0)) = true := by decide +kernel
  have hroom : min (dxCount copyAcrossCarve.blk 0) (dxRoom copyAcrossCarve.blk 0) = 4 := by decide +kernel
  have hleft : dxCount (moveBytes 0 4 [] (copyAcrossCarve.mem, copyAcrossCarve.blk)).2 0 ≠ 0 := by
    have h := moveBytes_carve_count 0 4 [] (copyAcrossCarve.mem, copyAcrossCarve.blk) copyAcrossCarve_dst
    have hcount : (dxCount copyAcrossCarve.blk 0 - 4) % 2 ^ Field.width .DX_COUNT_COUNT = 4 := by decide +kernel
    exact ne_of_eq_of_ne (h.trans hcount) (by decide)
  have hzero : (0 : Fin 32).val = 0 := rfl
  unfold dmaDone
  simp only [hzero, hruns, hroom, if_true, if_neg hleft]

/-- Refutes O45: nothing bounds the ways of the carve-out by those of a slice, and a range that crosses the end of a carve-out reaching into
DRAM leaves its region there, so the channel ends with an error after 4 bytes. -/
theorem not_dmaMoves : ¬ Obligations.DmaMoves := by
  rintro ⟨hcopy, -⟩
  obtain ⟨t, hexec, hdone, -⟩ := hcopy copyAcrossCarve 0 [] (by decide +kernel) (by decide +kernel) (by decide +kernel)
    (by decide +kernel) (by decide +kernel) (by decide +kernel) (by decide +kernel) (by decide +kernel)
  have hblk : t.blk = endChannel (moveBytes 0 4 [] (copyAcrossCarve.mem, copyAcrossCarve.blk)).2 0 2 := by
    rw [← Host.Outcome.next.inj hexec]
    exact copyAcrossCarve_ends
  have hclear : t.blk.get .DX_STAT_n_DONE 0 = 0 := by
    have hmoved : (moveBytes 0 4 [] (copyAcrossCarve.mem, copyAcrossCarve.blk)).2.get .DX_STAT_n_DONE 0 =
        copyAcrossCarve.blk.get .DX_STAT_n_DONE 0 :=
      moveBytes_carve_regsKept 0 4 [] (copyAcrossCarve.mem, copyAcrossCarve.blk) copyAcrossCarve_dst _ 0 (by decide) (by decide)
    have hnotDone : copyAcrossCarve.blk.get .DX_STAT_n_DONE 0 = 0 := by decide +kernel
    rw [hblk]
    exact (endChannel_get_done _ 0 2).trans (hmoved.trans hnotDone)
  exact absurd (hdone.symm.trans hclear) (by decide)

end Sys2Proof.Machine

namespace Sys2Proof.Machine

/-! ## The bounds of one slice (R675, R676) -/

/-- The registers of a list that requests below the real-time class hold. -/
def belowRealTime (l : List MissReg) : List MissReg := l.filter (fun m => !m.realTime)

/-- What `CachesBounded` says of one slice. -/
def SliceBounded (s : L2Slice) : Prop :=
  s.miss.length ≤ 16 ∧ (belowRealTime s.miss).length ≤ 15 ∧ (∀ m ∈ s.miss, m.requests ≤ 8) ∧ s.evict.length ≤ 8

theorem CachesBounded.slice {b : Block} (h : CachesBounded b) (i : Fin 4) : SliceBounded (sliceAt b i) := h i

/-- A slice that holds no more registers than a bounded one is bounded with its eviction buffer. -/
theorem SliceBounded.of_sublist {s s' : L2Slice} (h : SliceBounded s) (hmiss : s'.miss.Sublist s.miss) (hevict : s'.evict.length ≤ 8) :
    SliceBounded s' := by
  obtain ⟨hlength, hlow, hrequests, -⟩ := h
  exact ⟨hmiss.length_le.trans hlength, (hmiss.filter _).length_le.trans hlow, fun m hm => hrequests m (hmiss.subset hm), hevict⟩

theorem SliceBounded.evict_le {s : L2Slice} (h : SliceBounded s) : s.evict.length ≤ 8 := h.2.2.2

/-- A slice with the lists of a bounded one is bounded, whatever its lines are. -/
theorem SliceBounded.of_eq {s s' : L2Slice} (h : SliceBounded s) (hmiss : s'.miss = s.miss) (hevict : s'.evict = s.evict) :
    SliceBounded s' := h.of_sublist (hmiss ▸ List.Sublist.refl _) (hevict ▸ h.evict_le)

section Slices

variable {b c : Block} {i j : Fin 4} {f : L2Slice → L2Slice}

@[simp] theorem sliceAt_onSlice_same : sliceAt (onSlice b i f) i = f (sliceAt b i) := vget_vupd_same _ _ _

theorem sliceAt_onSlice_other (h : j ≠ i) : sliceAt (onSlice b i f) j = sliceAt b j := vget_vupd_other _ _ h

theorem CachesBounded.onSlice (hb : CachesBounded b) (hf : SliceBounded (f (sliceAt b i))) : CachesBounded (onSlice b i f) := by
  intro j
  by_cases h : j = i
  · subst h
    rw [sliceAt_onSlice_same]
    exact hf
  · rw [sliceAt_onSlice_other h]
    exact hb j

/-- A block with the slices of another is bounded as that is. -/
theorem CachesBounded.of_l2 (hb : CachesBounded b) (h : c.mm.caches.l2 = b.mm.caches.l2) : CachesBounded c := by
  intro j
  have hslice : sliceAt c j = sliceAt b j := by rw [sliceAt, h, sliceAt]
  rw [hslice]
  exact hb j

theorem CachesBounded.bump (hb : CachesBounded b) (f : Field) : CachesBounded (b.bump f 0) := hb.of_l2 rfl

/-- A fold of steps that keep the bounds keeps them. -/
theorem cachesBounded_foldl {α : Type} {g : Block → α → Block} (hg : ∀ b x, CachesBounded b → CachesBounded (g b x)) :
    ∀ (l : List α) (b : Block), CachesBounded b → CachesBounded (l.foldl g b)
  | [], _, hb => hb
  | x :: l, b, hb => cachesBounded_foldl hg l (g b x) (hg b x hb)

end Slices

/-! ## What leaves the slices of L2 alone -/

section FirstLevel

variable (b : Block)

theorem dropL1_l2 (but : Option (Fin 12)) (p : Nat → Bool) : (dropL1 b but p).mm.caches.l2 = b.mm.caches.l2 :=
  foldl_keeps (fun b => b.mm.caches.l2) (fun b _ => by split <;> rfl) _ b

theorem l1Fill_l2 (c : Fin 12) (fetch : Bool) (line : Nat) : (l1Fill b c fetch line).mm.caches.l2 = b.mm.caches.l2 := by
  unfold l1Fill
  split <;> rfl

theorem l1Fills_l2 (l : List (Fin 12 × Bool)) (line : Nat) :
    (l.foldl (fun b c => l1Fill b c.1 c.2 line) b).mm.caches.l2 = b.mm.caches.l2 :=
  foldl_keeps (fun b : Block => b.mm.caches.l2) (fun b (c : Fin 12 × Bool) => l1Fill_l2 b c.1 c.2 line) _ b

theorem sliceAt_l1Fills (l : List (Fin 12 × Bool)) (line : Nat) (j : Fin 4) :
    sliceAt (l.foldl (fun b c => l1Fill b c.1 c.2 line) b) j = sliceAt b j := by
  rw [sliceAt, l1Fills_l2, sliceAt]

end FirstLevel

/-! ## Lines that enter L2, and answers from DRAM -/

theorem length_takeLast_le {α : Type} (n : Nat) (l : List α) : (takeLast n l).length ≤ n := by
  rw [takeLast, List.length_drop]
  omega

section Answers

variable {b : Block} {i : Fin 4}

theorem evictLine_bounded (line : Nat) (hb : CachesBounded b) : CachesBounded (evictLine b i line) := by
  refine hb.onSlice ((hb.slice i).of_sublist (List.Sublist.refl _) ?_)
  rw [List.length_append, List.length_singleton]
  have h := length_takeLast_le 7 (sliceAt b i).evict
  omega

/-- A line that enters L2 takes no miss register, and puts at most one line into the eviction buffer. -/
theorem l2Fill_bounded (line : Nat) (dirty : Bool) (hb : CachesBounded b) :
    CachesBounded (l2Fill b i line dirty) ∧ (sliceAt (l2Fill b i line dirty) i).miss = (sliceAt b i).miss := by
  have hdrop : ∀ (n : Nat) (p : Nat → Bool), CachesBounded (dropL1 (b.fresh n).2 none p) ∧
      sliceAt (dropL1 (b.fresh n).2 none p) i = sliceAt b i := fun n p =>
    ⟨hb.of_l2 (dropL1_l2 _ _ _), by rw [sliceAt, dropL1_l2]; rfl⟩
  have hlines : ∀ (c : Block) (g : List L2Line → List L2Line), CachesBounded c → (sliceAt c i).miss = (sliceAt b i).miss →
      CachesBounded (onSlice c i (fun s => { s with lines := g s.lines })) ∧
        (sliceAt (onSlice c i (fun s => { s with lines := g s.lines })) i).miss = (sliceAt b i).miss := fun c g hc hmiss =>
    ⟨hc.onSlice ((hc.slice i).of_eq rfl rfl), by rw [sliceAt_onSlice_same]; exact hmiss⟩
  unfold l2Fill
  dsimp only
  split
  · next w _ => exact hlines b (fun ls => ⟨line, w, dirty⟩ :: ls) hb rfl
  · refine hlines _ (fun ls => ⟨line, (b.fresh (16 - carveWays b)).1, dirty⟩ :: ls.filter (fun x =>
      !decide (l2Set x.line = l2Set line ∧ x.way = (b.fresh (16 - carveWays b)).1))) ?_ ?_
    · split
      · split
        · exact evictLine_bounded _ (hdrop _ _).1
        · exact (hdrop _ _).1
      · exact hb.of_l2 rfl
    · split
      · split
        · rw [evictLine, sliceAt_onSlice_same, (hdrop _ _).2]
        · rw [(hdrop _ _).2]
      · rfl

/-- An answered register is free. -/
theorem missAnswered_bounded (m : MissReg) (hb : CachesBounded b) :
    CachesBounded (missAnswered b i m) ∧
      (sliceAt (missAnswered b i m) i).miss = (sliceAt b i).miss.filter (fun x => decide (x ≠ m)) := by
  have hfreed : CachesBounded (onSlice b i (fun s => { s with miss := s.miss.filter (fun x => decide (x ≠ m)) })) :=
    hb.onSlice ((hb.slice i).of_sublist List.filter_sublist (hb.slice i).evict_le)
  obtain ⟨hfilled, hmiss⟩ := l2Fill_bounded (i := i) m.line m.dirty hfreed
  refine ⟨hfilled.of_l2 (l1Fills_l2 _ _ _), ?_⟩
  unfold missAnswered
  dsimp only
  rw [sliceAt_l1Fills, hmiss, sliceAt_onSlice_same]

theorem missAnswered_foldl (l : List MissReg) (hb : CachesBounded b) :
    CachesBounded (l.foldl (fun b m => missAnswered b i m) b) ∧
      (sliceAt (l.foldl (fun b m => missAnswered b i m) b) i).miss = (sliceAt b i).miss.filter (fun x => decide (x ∉ l)) := by
  induction l generalizing b with
  | nil => exact ⟨hb, by simp⟩
  | cons m l ih =>
    obtain ⟨hanswered, hmiss⟩ := missAnswered_bounded (i := i) m hb
    obtain ⟨hrest, hleft⟩ := ih hanswered
    refine ⟨hrest, hleft.trans ?_⟩
    rw [hmiss, List.filter_filter]
    refine List.filter_congr (fun x _ => ?_)
    simp [Bool.and_comm]

theorem missesAnswered_bounded (n : Nat) (hb : CachesBounded b) : CachesBounded (missesAnswered b i n) :=
  (missAnswered_foldl _ hb).1

/-- The registers left after the oldest n have been answered are among the later ones. -/
theorem missesAnswered_miss (n : Nat) (hb : CachesBounded b) :
    (sliceAt (missesAnswered b i n) i).miss.Sublist ((sliceAt b i).miss.drop n) := by
  have hleft := (missAnswered_foldl (i := i) ((sliceAt b i).miss.take n) hb).2
  have hnone : ((sliceAt b i).miss.take n).filter (fun x => decide (x ∉ (sliceAt b i).miss.take n)) = [] :=
    List.filter_eq_nil_iff.mpr (fun x hx => by simp [hx])
  have hsplit : (sliceAt b i).miss.filter (fun x => decide (x ∉ (sliceAt b i).miss.take n)) =
      ((sliceAt b i).miss.drop n).filter (fun x => decide (x ∉ (sliceAt b i).miss.take n)) := by
    conv_lhs => rw [← List.take_append_drop n (sliceAt b i).miss, List.filter_append]
    rw [List.take_append_drop, hnone, List.nil_append]
  rw [missesAnswered, hleft, hsplit]
  exact List.filter_sublist

theorem allAnswered_bounded (hb : CachesBounded b) : CachesBounded (allAnswered b) :=
  cachesBounded_foldl (fun _ _ hc => missesAnswered_bounded _ hc) _ b hb

end Answers

/-! ## Requests -/

section Requests

variable {b : Block} {i : Fin 4} (q : MemReq)

theorem l2Hit_bounded (hb : CachesBounded b) : CachesBounded (l2Hit b i q) := by
  unfold l2Hit
  dsimp only
  refine CachesBounded.of_l2 ?_ (l1Fills_l2 _ _ _)
  split
  · exact hb.onSlice ((hb.slice i).of_eq rfl rfl)
  · exact hb

/-- A register that is free for a request takes it within the bounds. -/
theorem takeMiss_bounded (hb : CachesBounded b) (hfree : (sliceAt b i).miss.length ≤ 15)
    (hclass : q.realTime = true ∨ (belowRealTime (sliceAt b i).miss).length ≤ 14) : CachesBounded (takeMiss b i q) := by
  obtain ⟨-, hlow, hrequests, hevict⟩ := hb.slice i
  refine CachesBounded.of_l2 (hb.onSlice (i := i) (f := fun s =>
    { s with miss := s.miss ++ [⟨q.line, 1, q.realTime, q.dirties b, q.fill⟩] }) ⟨?_, ?_, ?_, hevict⟩) rfl
  · simp only [List.length_append, List.length_singleton]
    omega
  · rw [belowRealTime, List.filter_append, List.length_append]
    rcases hclass with hreal | hbelow
    · simpa [hreal, belowRealTime] using hlow
    · have hone := List.length_filter_le (fun m : MissReg => !m.realTime) [⟨q.line, 1, q.realTime, q.dirties b, q.fill⟩]
      rw [List.length_singleton] at hone
      unfold belowRealTime at hbelow
      omega
  · intro m hm
    rcases List.mem_append.mp hm with hold | hnew
    · exact hrequests m hold
    · rw [List.mem_singleton.mp hnew]
      exact Nat.le_add_left 1 7

/-- Past its first element that satisfies a test, a list holds one such element less. -/
theorem length_filter_drop_findIdx {α : Type} (p : α → Bool) (l : List α) :
    ((l.drop (l.findIdx p + 1)).filter p).length ≤ (l.filter p).length - 1 := by
  induction l with
  | nil => simp
  | cons x l ih =>
    by_cases hx : p x = true
    · simp [List.findIdx_cons, hx]
    · simpa [List.findIdx_cons, hx] using ih

/-- Answering the register that a request waits for leaves one free for it. -/
theorem missWait_frees (hb : CachesBounded b) :
    (sliceAt (missesAnswered b i (missWait (sliceAt b i) q.realTime)) i).miss.length ≤ 15 ∧
      (q.realTime = true ∨ (belowRealTime (sliceAt (missesAnswered b i (missWait (sliceAt b i) q.realTime)) i).miss).length ≤ 14) := by
  obtain ⟨hlength, hlow, -, -⟩ := hb.slice i
  have hleft := missesAnswered_miss (i := i) (missWait (sliceAt b i) q.realTime) hb
  have hwait : 1 ≤ missWait (sliceAt b i) q.realTime := by
    unfold missWait
    split
    · exact Nat.le_refl 1
    · exact Nat.le_add_left 1 _
  have hdrop := hleft.length_le
  rw [List.length_drop] at hdrop
  refine ⟨by omega, ?_⟩
  cases hreal : q.realTime with
  | true => exact .inl rfl
  | false =>
    rw [hreal] at hleft
    have hbelow := (hleft.filter (fun m => !m.realTime)).length_le
    have hfirst := length_filter_drop_findIdx (fun m : MissReg => !m.realTime) (sliceAt b i).miss
    have hwaits : missWait (sliceAt b i) false = (sliceAt b i).miss.findIdx (fun m => !m.realTime) + 1 := rfl
    rw [hwaits] at hbelow
    unfold belowRealTime at hlow ⊢
    rw [hwaits]
    exact .inr (by omega)

section UpdFirst

variable {α : Type} {t : α → Bool} {g : α → α}

theorem length_filter_updFirst {p : α → Bool} (hp : ∀ x, p (g x) = p x) (l : List α) :
    ((updFirst t g l).filter p).length = (l.filter p).length := by
  induction l with
  | nil => rfl
  | cons x l ih =>
    by_cases hx : t x = true
    · simp [updFirst, hx, List.filter_cons, hp, apply_ite List.length]
    · simp [updFirst, hx, List.filter_cons, ih, apply_ite List.length]

theorem length_updFirst (l : List α) : (updFirst t g l).length = l.length := by
  simpa using length_filter_updFirst (t := t) (g := g) (p := fun _ => true) (fun _ => rfl) l

/-- An element of the list is one of the old ones, or the first that satisfied the test, changed. -/
theorem mem_updFirst {y : α} {l : List α} (h : y ∈ updFirst t g l) : y ∈ l ∨ ∃ x, l.find? t = some x ∧ y = g x := by
  induction l with
  | nil => exact .inl h
  | cons x l ih =>
    by_cases hx : t x = true
    · rw [updFirst, if_pos hx] at h
      rcases List.mem_cons.mp h with rfl | hl
      · exact .inr ⟨x, by simp [hx], rfl⟩
      · exact .inl (List.mem_cons_of_mem x hl)
    · rw [updFirst, if_neg hx] at h
      rcases List.mem_cons.mp h with rfl | hl
      · exact .inl List.mem_cons_self
      · rcases ih hl with hold | ⟨z, hz, hy⟩
        · exact .inl (List.mem_cons_of_mem x hold)
        · exact .inr ⟨z, by simp [hx, hz], hy⟩

end UpdFirst

/-- A request joined to a register. -/
def joinMiss (b : Block) (x : MissReg) : MissReg :=
  { x with requests := x.requests + 1, dirty := x.dirty || q.dirties b, fills := x.fills ++ q.fill }

/-- A request joins the register of its line where fewer than eight have. -/
theorem joinMiss_bounded {m : MissReg} (hb : CachesBounded b)
    (hm : (sliceAt b i).miss.find? (fun m => decide (m.line = q.line)) = some m) (hroom : m.requests < 8) :
    CachesBounded (onSlice b i (fun s => { s with miss := updFirst (fun x => decide (x.line = q.line)) (joinMiss q b) s.miss })) := by
  obtain ⟨hlength, hlow, hrequests, hevict⟩ := hb.slice i
  refine hb.onSlice ⟨(length_updFirst _).trans_le hlength,
    (length_filter_updFirst (p := fun m => !m.realTime) (g := joinMiss q b) (fun _ => rfl) _).trans_le hlow, fun y hy => ?_, hevict⟩
  rcases mem_updFirst hy with hold | ⟨x, hx, rfl⟩
  · exact hrequests y hold
  · obtain rfl := Option.some.inj (hm.symm.trans hx)
    exact hroom

theorem l2Miss_bounded (hb : CachesBounded b) : CachesBounded (l2Miss b i q) := by
  unfold l2Miss
  split
  · next m hm =>
    split
    · next hroom => exact (joinMiss_bounded q hb hm hroom).of_l2 rfl
    · exact l2Hit_bounded q (missAnswered_bounded m (hb.bump _)).1
  · split
    · next hroom =>
      obtain ⟨hfree, hclass⟩ := of_decide_eq_true hroom
      exact takeMiss_bounded q hb (Nat.le_of_lt_succ hfree) (hclass.imp_right Nat.le_of_lt_succ)
    · obtain ⟨hfree, hclass⟩ := missWait_frees (i := i) q (hb.bump .MEM_MISS_FULL)
      exact takeMiss_bounded q (missesAnswered_bounded _ (hb.bump _)) hfree hclass

/-- Lines accepted, and lines started, leave no more in the buffer. -/
theorem length_started_le {α : Type} (g : α → α) (accepted started : Nat) (l : List α) :
    (((l.drop accepted).take started).map g ++ (l.drop accepted).drop started).length ≤ l.length := by
  rw [List.length_append, List.length_map, ← List.length_append, List.take_append_drop, List.length_drop]
  exact Nat.sub_le _ _

theorem dramProgress_bounded (hb : CachesBounded b) : CachesBounded (dramProgress b i) := by
  unfold dramProgress
  dsimp only
  split
  · exact hb
  · refine missesAnswered_bounded _ (CachesBounded.onSlice (hb.of_l2 rfl) ((hb.slice i).of_sublist (List.Sublist.refl _) ?_))
    exact (length_started_le _ _ _ _).trans (hb.slice i).evict_le

theorem l2Request_bounded (hb : CachesBounded b) : CachesBounded (l2Request b q) := by
  unfold l2Request
  dsimp only
  have hc := dramProgress_bounded (i := sliceOf q.line) hb
  generalize dramProgress b (sliceOf q.line) = c at hc
  split
  · exact l2Hit_bounded q hc
  · split
    · have hback := hc.onSlice (i := sliceOf q.line) (f := fun s =>
        { s with evict := s.evict.filter (fun y => !decide (y.line = q.line)) })
        ((hc.slice _).of_sublist (List.Sublist.refl _) ((List.length_filter_le _ _).trans (hc.slice _).evict_le))
      split
      · exact l2Miss_bounded q (hback.bump .MEM_EVB_WAITED)
      · exact l2Hit_bounded q (l2Fill_bounded q.line true (hback.bump .MEM_EVB_RECLAIM)).1
    · exact l2Miss_bounded q hc

theorem lineAccess_bounded (hb : CachesBounded b) : CachesBounded (lineAccess b q) := by
  unfold lineAccess
  split
  · exact hb
  · split
    · exact hb
    · refine l2Request_bounded q ?_
      split
      · exact hb.of_l2 (dropL1_l2 _ _ _)
      · exact hb

end Requests

theorem rangeAccess_bounded {b : Block} (x len : Nat) (store : Bool) (core : Option (Fin 12 × Bool)) (hb : CachesBounded b) :
    CachesBounded (rangeAccess b x len store core) := by
  unfold rangeAccess
  split
  · exact hb
  · exact allAnswered_bounded (cachesBounded_foldl (fun _ _ hc => lineAccess_bounded _ hc) _ b hb)

theorem dmaGo_bounded {b : Block} (w : Agent) (n : Fin 32) (hb : CachesBounded b) : CachesBounded (dmaGo w n b) := by
  have hcore : CachesBounded (dmaGo .core n b) := by
    unfold dmaGo
    rw [dxWrite_core]
    unfold Block.guard
    dsimp only
    split
    · split
      · exact hb.of_l2 rfl
      · split
        · exact hb.of_l2 rfl
        · exact lineAccess_bounded _ (hb.of_l2 rfl)
    · exact hb
  cases w with
  | core => exact hcore
  | port p =>
    by_cases h : n.val < 28 ∨ unlocked b p = false
    · have hdrop : dmaGo (.port p) n b = discardWrite b p := dxWrite_locked b _ h
      rw [hdrop]
      exact hb.of_l2 (by rw [discardWrite_mm])
    · obtain ⟨hchannel, hunlocked⟩ := not_or.mp h
      have hsame : dmaGo (.port p) n b = dmaGo .core n b :=
        dxWrite_unlocked b _ (Nat.not_lt.mp hchannel) (Bool.not_eq_false _ ▸ hunlocked)
      rw [hsame]
      exact hcore

/-- Settles O47: a line access takes a register only where one is free, and joins only where fewer than eight have; what DRAM does between
requests frees registers and places. -/
theorem cacheBounds : Obligations.CacheBounds :=
  ⟨fun _ q hb => lineAccess_bounded q hb, fun _ x len store core hb => rangeAccess_bounded x len store core hb,
    fun _ w n hb => ⟨_, onBlock_eq rfl, dmaGo_bounded w n hb⟩⟩

end Sys2Proof.Machine

namespace Sys2Proof.Machine

/-! ## A power-down and a warm return while a write is cut (R116, R126, R277)

Both ask for PARK and so for an unload, and each obligation takes every state, one among them whose register table holds a head number
so great that the drive current latched at the fall of write gate lands on a register that the obligation speaks of. The latched
current is a free value. -/

/-- The head number at which the latch of actuator 3's drive current lies on a register. -/
def latchOn (f : Field) : Nat := Field.key f 0 - Field.key .AST_HLAS_IDRV 18

/-- A block as after reset, but in another mode, and with actuator 3 on its track with write gate up: the latch of its drive current
lies on a register. -/
def strayWrite (m : Mode) (f : Field) : Block :=
  { Block.reset with
    regs := [(Field.key .SRV_STATE_MODE 3, 4), (Field.key .AST_STATE_HEAD 3, latchOn f), (Field.key .PWR_MODE_MODE 0, m.code)]
    ts := vupd Block.reset.ts 3 (fun t => { t with wg := true })
    ast := vupd Block.reset.ast 3 (fun v => { v with agAt := some 0 }) }

/-- A brake asked for waits for an actuator that still unloads, and so changes no register beyond what the unload does. -/
theorem askBrake_regs_of_unloading {b : Block} {m : NMap Nat}
    (h : (unloadAll b).regs = nset 0 m (Field.key .SRV_STATE_MODE 3) SrvMode.unloading.code) :
    (askBrake b).regs = (unloadAll b).regs := by
  have hmode : (unloadAll b).get .SRV_STATE_MODE 3 = SrvMode.unloading.code := by
    unfold Block.get
    rw [h]
    exact nget_nset_same _ _ _ _
  have hloaded : (List.finRange 4).any (loaded (unloadAll b)) = true := by
    refine List.any_eq_true.mpr ⟨3, List.mem_finRange _, ?_⟩
    unfold loaded Block.srvMode
    rw [show (3 : Act).val = 3 from rfl, hmode]
    decide
  unfold askBrake
  dsimp only
  rw [if_pos hloaded]

theorem onReset_blk {s t : State} {f : Block → Block} (h : s.onReset f = .next t) : f s.blk = t.blk :=
  congrArg State.blk (Host.Outcome.next.inj h)

/-- What a power-down under PWDIS keeps before its mode turns (R126). -/
def pwdisSaved (b : Block) : Block :=
  let b := flushDirty ((List.finRange 2).foldl linkDown { b with pwr := { b.pwr with pwdisDown := true } })
  let b := { b with pwr := { b.pwr with pending := mergeRows b.pwr.pending (openRows b) } }
  let b := b.put .PWR_PENDING_ROWS 0 b.pwr.pending.length
  { b with pwr := { b.pwr with savedTime := b.now } }

/-- The way to PARK up to its brake (R102). -/
def parkSet (b : Block) (cause : Nat) : Block :=
  let b := flushDirty b
  setTarget { b with pwr := { b.pwr with provisional := openRows b } } .park cause

theorem parkTransition_eq (b : Block) (cause : Nat) : parkTransition b cause = askBrake (parkSet b cause) := rfl

/-- The pin high. -/
def pwdisHigh (b : Block) : Block := { b with pwr := { b.pwr with pwdis := true } }

theorem pwdisAssert_eq (b : Block) : pwdisAssert b = (pwdisHigh b).guard
    (b.pwr.powered && decide (b.mode ≠ Mode.holdup) && !b.pwr.pwdisDown && !(decide (b.mode = Mode.boot) && !b.boot.active))
    (fun c => if (pwdisSaved c).mode = Mode.boot then pwdisSaved c
      else if (pwdisSaved c).mode = Mode.park then powerDownIfDue (pwdisSaved c)
      else parkTransition (pwdisSaved c) 4) := by
  unfold pwdisAssert pwdisSaved pwdisHigh
  rfl

/-- A module in SPINUP in which the latch lies on the target of the mode. -/
def pwdisWrites : State := { State.reset with blk := strayWrite .spinup .PWR_MODE_TARGET }

/-- Its block when PWDIS is asserted and the brake for PARK is to be asked for. -/
def pwdisParks : Block :=
  { pwdisWrites.blk with
    regs := [(Field.key .SRV_STATE_MODE 3, 4), (Field.key .AST_STATE_HEAD 3, latchOn .PWR_MODE_TARGET), (Field.key .PX_LINK_STATE 1, 11),
      (Field.key .PWR_MODE_MODE 0, 1), (Field.key .PWR_MODE_TARGET 0, 4), (Field.key .PWR_MODE_CAUSE 0, 4)]
    pwr := { pwdisWrites.blk.pwr with pwdis := true, pwdisDown := true } }

theorem parkSet_pwdisWrites : parkSet (pwdisSaved (pwdisHigh pwdisWrites.blk)) 4 = pwdisParks := by decide +kernel

/-- The unload cuts the write, and the current latched replaces the target. -/
theorem unloadAll_pwdisParks : (unloadAll pwdisParks).regs =
    nset 0 (nset 0 pwdisParks.regs (Field.key .PWR_MODE_TARGET 0) (Config.freeValue 0 % 65536 % 65536))
      (Field.key .SRV_STATE_MODE 3) SrvMode.unloading.code := rfl

theorem pwdisAssert_pwdisWrites : pwdisAssert pwdisWrites.blk = askBrake pwdisParks := by
  rw [pwdisAssert_eq, ← parkSet_pwdisWrites, ← parkTransition_eq]
  refine (if_pos ?_).trans ((if_neg ?_).trans (if_neg ?_)) <;> decide +kernel

/-- The current latched replaces the target of the mode. -/
theorem pwdisAssert_pwdisWrites_target :
    (pwdisAssert pwdisWrites.blk).get .PWR_MODE_TARGET 0 = Config.freeValue 0 % 65536 := by
  unfold Block.get
  rw [pwdisAssert_pwdisWrites, askBrake_regs_of_unloading unloadAll_pwdisParks, unloadAll_pwdisParks,
    nget_nset_other _ _ _ _ (by decide)]
  exact (nget_nset_same _ _ _ _).trans (Nat.mod_mod _ _)

/-- Where the first free value does not read as PARK, an assertion of PWDIS in `pwdisWrites` leaves a target other than PARK, and O7
fails: what it says of a spinning module rests on a value about which nothing can be proved. -/
theorem not_powerDownCompletes_of_freeValue (hfree : Config.freeValue 0 % 65536 ≠ Mode.park.code) :
    ¬ Obligations.PowerDownCompletes := by
  rintro ⟨-, -, hspinning, -⟩
  obtain ⟨t, ht, -, -, htarget, -⟩ := hspinning pwdisWrites rfl (by decide) rfl
  rw [← onReset_blk (f := pwdisAssert) ht, pwdisAssert_pwdisWrites_target] at htarget
  exact hfree htarget

theorem refreshThrottle_fcs (b : Block) : (refreshThrottle b).fcs = b.fcs := rfl

theorem refreshThrottle_kept (b : Block) :
    regsKept [.THM_STAGE_TOKEN, .THM_STAGE_CAP, .THM_STAGE_NANDDIV, .THM_STAGE_DRAMDIV] b (refreshThrottle b) := by
  simp [refreshThrottle]

/-- A HOLDUP whose flush has ended. -/
def flushEnded : Holdup := ⟨.run, 0, true, 0, 0, 0, true, false⟩

/-- A module in HOLDUP, in recovery mode and with 12 V back, in which the latch lies on the flag of a warm return. -/
def heldWrites : State :=
  { State.reset with blk := { strayWrite .holdup .PWR_HOLDUP_WARM with
      boot := { Block.reset.boot with recovery := true }
      pwr := { Block.reset.pwr with v12Held := true, holdup := some flushEnded } } }

/-- The outcome of a HOLDUP kept, and both ports reset, for a warm return (R117, R139). -/
def warmReset (energy : Nat) (h : Holdup) (b : Block) : Block :=
  let r := (false, true, min (holdupMs b h) 0x3FF, min h.flushed 0x3FF, min energy 0x3FF)
  let b := putHoldup b r
  let b := { b with
    pwr := { b.pwr with
    holdup := none, sealedHoldup := some r, shortFlush := none, backupFailed := false
    retention := { b.pwr.retention with holdup := some r } } }
  let b := channelsBack { b with pwr := { b.pwr with wrSupplyOff := false } }
  (List.finRange 2).foldl (fun b p => engineShown (portReset b p) (.le p) true) (refreshWarnings b)

theorem holdupEnd_warm {b : Block} {h : Holdup} (energy : Nat) (hh : b.pwr.holdup = some h) (hdone : h.flushDone = true)
    (h12 : b.pwr.v12Held = true) (hpin : b.pwr.pwdis = false) :
    holdupEnd energy b =
      if stageStops (startArmed (refreshThrottle (enterSpinup (warmReset energy h b) 6))) then
        floatSpinup (startArmed (refreshThrottle (enterSpinup (warmReset energy h b) 6)))
      else startArmed (refreshThrottle (enterSpinup (warmReset energy h b) 6)) := by
  unfold holdupEnd Block.guard warmReset
  simp only [hh, hdone, h12, hpin, Bool.not_false, Bool.and_self, if_true]

/-- SPINUP entered, before the mode that is pursued is chosen (R160). -/
def spinupSet (b : Block) (cause : Nat) : Block :=
  let b := { b with spn := { b.spn with
    goal := .run, fails := 0, spinupAt := b.now, lossRestart := false, brakeWait := false, zcSeen := false
    catchTries := 0, trips := [], inAttempt := false, lostWait := false, lost := false, zeroSteps := 0, holdSpeed := none
    angleKnown := false, clampDue := true } }
  enterMode (((clearLock b).put .SPN_STATE_STATE 0 SpnMode.float.code).put .SPN_SPINUP_TRIES 0 0) .spinup cause

theorem enterSpinup_park {b : Block} {cause : Nat} (h : wantedMode (spinupSet b cause) = .park) :
    enterSpinup b cause = parkTransition (spinupSet b cause) cause := by
  unfold enterSpinup
  unfold spinupSet at h ⊢
  dsimp only at h ⊢
  rw [h]

/-- Its block when HOLDUP has ended and the brake for PARK is to be asked for. -/
def heldParks : Block :=
  { heldWrites.blk with
    regs := [(Field.key .SRV_STATE_MODE 3, 4), (Field.key .SPN_STATE_STATE 0, 5),
      (Field.key .AST_STATE_HEAD 3, latchOn .PWR_HOLDUP_WARM), (Field.key .PX_LINK_STATE 1, 11), (Field.key .PWR_MODE_MODE 0, 1),
      (Field.key .PWR_MODE_TARGET 0, 4), (Field.key .PWR_MODE_CAUSE 0, 6), (Field.key .PWR_HOLDUP_WARM 0, 1)]
    pwr := { heldWrites.blk.pwr with
      holdup := none, sealedHoldup := some (false, true, 0, 0, 0)
      retention := { heldWrites.blk.pwr.retention with holdup := some (false, true, 0, 0, 0) } }
    spn := { heldWrites.blk.spn with goal := .run, clampDue := true }
    mm := { heldWrites.blk.mm with cmbEpoch := vupd (vupd heldWrites.blk.mm.cmbEpoch 0 (· + 1)) 1 (· + 1) } }

theorem parkSet_heldWrites : parkSet (spinupSet (warmReset 0 flushEnded heldWrites.blk) 6) 6 = heldParks := by decide +kernel

/-- The unload cuts the write, and the current latched replaces the flag. -/
theorem unloadAll_heldParks : (unloadAll heldParks).regs =
    nset 0 (nset 0 heldParks.regs (Field.key .PWR_HOLDUP_WARM 0) (Config.freeValue 0 % 65536 % 65536))
      (Field.key .SRV_STATE_MODE 3) SrvMode.unloading.code := rfl

theorem enterSpinup_heldWrites : enterSpinup (warmReset 0 flushEnded heldWrites.blk) 6 = askBrake heldParks := by
  rw [enterSpinup_park (by decide +kernel), parkTransition_eq, parkSet_heldWrites]

theorem heldParks_regs : (askBrake heldParks).regs =
    nset 0 (nset 0 heldParks.regs (Field.key .PWR_HOLDUP_WARM 0) (Config.freeValue 0 % 65536 % 65536))
      (Field.key .SRV_STATE_MODE 3) SrvMode.unloading.code :=
  (askBrake_regs_of_unloading unloadAll_heldParks).trans unloadAll_heldParks

/-- No thermal stage is in force in `heldWrites`, and no activation armed: the step ends with the throttle. -/
theorem holdupEnd_heldWrites : holdupEnd 0 heldWrites.blk = refreshThrottle (askBrake heldParks) := by
  have harmed : (refreshThrottle (askBrake heldParks)).fcs.armed = none := by
    rw [refreshThrottle_fcs, ← enterSpinup_heldWrites, enterSpinup_armed]
    decide +kernel
  have hstage : (refreshThrottle (askBrake heldParks)).get .THM_STAGE_STAGE 0 = 0 := by
    rw [refreshThrottle_kept _ _ _ (by decide) (by decide)]
    unfold Block.get
    rw [heldParks_regs, nget_nset_other _ _ _ _ (by decide), nget_nset_other _ _ _ _ (by decide)]
    decide
  rw [holdupEnd_warm (h := flushEnded) 0 rfl rfl rfl rfl, enterSpinup_heldWrites, startArmed_unarmed harmed]
  refine if_neg ?_
  rw [stageStops, hstage]
  decide

/-- The current latched replaces the flag of a warm return. -/
theorem holdupEnd_heldWrites_warm : (holdupEnd 0 heldWrites.blk).get .PWR_HOLDUP_WARM 0 = Config.freeValue 0 % 65536 := by
  rw [holdupEnd_heldWrites, refreshThrottle_kept _ _ _ (by decide) (by decide)]
  unfold Block.get
  rw [heldParks_regs, nget_nset_other _ _ _ _ (by decide)]
  exact (nget_nset_same _ _ _ _).trans (Nat.mod_mod _ _)

/-- Where the first free value does not read as 1, the warm return of `heldWrites` leaves `PWR_HOLDUP.WARM` at another value, and O6
fails: what it says of that return rests on a value about which nothing can be proved. -/
theorem not_holdupCompletes_of_freeValue (hfree : Config.freeValue 0 % 65536 ≠ 1) : ¬ Obligations.HoldupCompletes := by
  rintro ⟨-, -, -, -, -, -, -, hreturn, -⟩
  obtain ⟨t, ht, -, -, -, hwarm⟩ := hreturn heldWrites flushEnded 0 rfl rfl rfl (by decide +kernel)
  rw [← onReset_blk (f := holdupEnd 0) ht, holdupEnd_heldWrites_warm] at hwarm
  exact hfree hwarm

end Sys2Proof.Machine
